-- ==== Sys2Proof/Word.lean ====
section
/-! DEFINITION. The words that cross a station link: the byte of a DATA symbol, and the two- and
four-byte fields of the messages (R157: a field of more than one byte is sent most significant
byte first; the splitting and joining of bytes is in Machine/Ops.lean). Everything else of the
spec is an integer quantity or a named value and is not a bit vector. -/

namespace Sys2Proof

/-- One byte, the payload of a DATA symbol (R146). -/
abbrev Byte := BitVec 8

/-- A two-byte message field (demand, notice mask, lamp channel set). -/
abbrev Word16 := BitVec 16

/-- A four-byte message field (tag, configuration value, band). -/
abbrev Word32 := BitVec 32

end Sys2Proof
end

