-- ==== Sys2Proof/Syntax.lean ====
section
/-! DEFINITION. The names the spec gives the parts of the body (axes, senses, zones, links, lamp
channels, coils, motors), the records indexed by them, the values a command carries, and `Instr`:
one constructor for each row of spec/opcode_table.json, with its operands. -/

namespace Sys2Proof

/-! ## Names -/

/-- A station link and its port, SL0 to SL5. SL0 is the supervisor link. -/
inductive Link where
  | sl0 | sl1 | sl2 | sl3 | sl4 | sl5
  deriving DecidableEq, Repr

/-- The six axes (00_scope, "Axes and resources"). -/
inductive Axis where
  | lift | tilt | fold | shut | ndor | odor
  deriving DecidableEq, Repr

/-- A sense by its code (R160): `sense0` is RAISE, UP, STOW or OPEN, `sense1` is LOWER, DOWN,
DEPLOY or CLOSE, according to the axis. -/
inductive Sense where
  | sense0 | sense1
  deriving DecidableEq, Repr

/-- LIFT RAISE. -/
abbrev Sense.raise : Sense := .sense0
/-- LIFT LOWER. -/
abbrev Sense.lower : Sense := .sense1
/-- TILT UP. -/
abbrev Sense.up : Sense := .sense0
/-- TILT DOWN. -/
abbrev Sense.down : Sense := .sense1
/-- FOLD STOW. -/
abbrev Sense.stow : Sense := .sense0
/-- FOLD DEPLOY. -/
abbrev Sense.deploy : Sense := .sense1
/-- OPEN of SHUT, NDOR or ODOR. -/
abbrev Sense.opening : Sense := .sense0
/-- CLOSE of SHUT, NDOR or ODOR. -/
abbrev Sense.closing : Sense := .sense1

/-- The four resources. HYD is shared by the three platform axes. -/
inductive Resource where
  | hyd | shut | ndor | odor
  deriving DecidableEq, Repr

/-- The four beacon zones. -/
inductive Zone where
  | rear | near | off | roof
  deriving DecidableEq, Repr

/-- The twelve lamp channels, numbered 1 to 12. -/
inductive Lamp where
  | ch1 | ch2 | ch3 | ch4 | ch5 | ch6 | ch7 | ch8 | ch9 | ch10 | ch11 | ch12
  deriving DecidableEq, Repr

/-- The four coil channels. -/
inductive Coil where
  | c1 | c2 | c3 | c4
  deriving DecidableEq, Repr

/-- The three motor axes, each with its bridge: SHUT (M1), NDOR (M2), ODOR (M3). -/
inductive Motor where
  | shut | ndor | odor
  deriving DecidableEq, Repr

/-- The two side doors, the motor axes with a latch and a solenoid (S2, S3). -/
inductive Door where
  | ndor | odor
  deriving DecidableEq, Repr

/-- Run kind (R1): HOLD (hold-to-run) or LATCH. -/
inductive RunKind where
  | hold | latch
  deriving DecidableEq, Repr

/-! ## Records indexed by a name

Each has `get` and `set`; every reader and writer goes through them. -/

/-- One value for each axis. -/
structure PerAxis (α : Type) where
  lift : α
  tilt : α
  fold : α
  shut : α
  ndor : α
  odor : α
  deriving DecidableEq, Repr

/-- One value for each station link. -/
structure PerLink (α : Type) where
  sl0 : α
  sl1 : α
  sl2 : α
  sl3 : α
  sl4 : α
  sl5 : α
  deriving DecidableEq, Repr

/-- One value for each resource. -/
structure PerResource (α : Type) where
  hyd : α
  shut : α
  ndor : α
  odor : α
  deriving DecidableEq, Repr

/-- One value for each zone. -/
structure PerZone (α : Type) where
  rear : α
  near : α
  off : α
  roof : α
  deriving DecidableEq, Repr

/-- One value for each lamp channel. -/
structure PerLamp (α : Type) where
  ch1 : α
  ch2 : α
  ch3 : α
  ch4 : α
  ch5 : α
  ch6 : α
  ch7 : α
  ch8 : α
  ch9 : α
  ch10 : α
  ch11 : α
  ch12 : α
  deriving DecidableEq, Repr

/-- One value for each coil channel. -/
structure PerCoil (α : Type) where
  c1 : α
  c2 : α
  c3 : α
  c4 : α
  deriving DecidableEq, Repr

/-- One value for each motor axis. -/
structure PerMotor (α : Type) where
  shut : α
  ndor : α
  odor : α
  deriving DecidableEq, Repr

/-- One value for each side door. -/
structure PerDoor (α : Type) where
  ndor : α
  odor : α
  deriving DecidableEq, Repr

/-- One value for each sense of an axis. -/
structure PerSense (α : Type) where
  sense0 : α
  sense1 : α
  deriving DecidableEq, Repr

def PerAxis.get {α : Type} (p : PerAxis α) : Axis → α
  | .lift => p.lift | .tilt => p.tilt | .fold => p.fold
  | .shut => p.shut | .ndor => p.ndor | .odor => p.odor

def PerAxis.set {α : Type} (p : PerAxis α) (a : Axis) (v : α) : PerAxis α :=
  match a with
  | .lift => { p with lift := v } | .tilt => { p with tilt := v } | .fold => { p with fold := v }
  | .shut => { p with shut := v } | .ndor => { p with ndor := v } | .odor => { p with odor := v }

def PerAxis.all {α : Type} (v : α) : PerAxis α := ⟨v, v, v, v, v, v⟩

def PerAxis.mk' {α : Type} (f : Axis → α) : PerAxis α :=
  ⟨f .lift, f .tilt, f .fold, f .shut, f .ndor, f .odor⟩

def PerLink.get {α : Type} (p : PerLink α) : Link → α
  | .sl0 => p.sl0 | .sl1 => p.sl1 | .sl2 => p.sl2
  | .sl3 => p.sl3 | .sl4 => p.sl4 | .sl5 => p.sl5

def PerLink.set {α : Type} (p : PerLink α) (l : Link) (v : α) : PerLink α :=
  match l with
  | .sl0 => { p with sl0 := v } | .sl1 => { p with sl1 := v } | .sl2 => { p with sl2 := v }
  | .sl3 => { p with sl3 := v } | .sl4 => { p with sl4 := v } | .sl5 => { p with sl5 := v }

def PerLink.all {α : Type} (v : α) : PerLink α := ⟨v, v, v, v, v, v⟩

def PerResource.get {α : Type} (p : PerResource α) : Resource → α
  | .hyd => p.hyd | .shut => p.shut | .ndor => p.ndor | .odor => p.odor

def PerResource.set {α : Type} (p : PerResource α) (r : Resource) (v : α) : PerResource α :=
  match r with
  | .hyd => { p with hyd := v } | .shut => { p with shut := v }
  | .ndor => { p with ndor := v } | .odor => { p with odor := v }

def PerResource.all {α : Type} (v : α) : PerResource α := ⟨v, v, v, v⟩

def PerZone.get {α : Type} (p : PerZone α) : Zone → α
  | .rear => p.rear | .near => p.near | .off => p.off | .roof => p.roof

def PerZone.set {α : Type} (p : PerZone α) (z : Zone) (v : α) : PerZone α :=
  match z with
  | .rear => { p with rear := v } | .near => { p with near := v }
  | .off => { p with off := v } | .roof => { p with roof := v }

def PerZone.all {α : Type} (v : α) : PerZone α := ⟨v, v, v, v⟩

def PerZone.mk' {α : Type} (f : Zone → α) : PerZone α := ⟨f .rear, f .near, f .off, f .roof⟩

def PerLamp.get {α : Type} (p : PerLamp α) : Lamp → α
  | .ch1 => p.ch1 | .ch2 => p.ch2 | .ch3 => p.ch3 | .ch4 => p.ch4
  | .ch5 => p.ch5 | .ch6 => p.ch6 | .ch7 => p.ch7 | .ch8 => p.ch8
  | .ch9 => p.ch9 | .ch10 => p.ch10 | .ch11 => p.ch11 | .ch12 => p.ch12

def PerLamp.set {α : Type} (p : PerLamp α) (c : Lamp) (v : α) : PerLamp α :=
  match c with
  | .ch1 => { p with ch1 := v } | .ch2 => { p with ch2 := v } | .ch3 => { p with ch3 := v }
  | .ch4 => { p with ch4 := v } | .ch5 => { p with ch5 := v } | .ch6 => { p with ch6 := v }
  | .ch7 => { p with ch7 := v } | .ch8 => { p with ch8 := v } | .ch9 => { p with ch9 := v }
  | .ch10 => { p with ch10 := v } | .ch11 => { p with ch11 := v } | .ch12 => { p with ch12 := v }

def PerLamp.mk' {α : Type} (f : Lamp → α) : PerLamp α :=
  ⟨f .ch1, f .ch2, f .ch3, f .ch4, f .ch5, f .ch6, f .ch7, f .ch8, f .ch9, f .ch10, f .ch11,
    f .ch12⟩

def PerLamp.all {α : Type} (v : α) : PerLamp α := .mk' fun _ => v

def PerCoil.get {α : Type} (p : PerCoil α) : Coil → α
  | .c1 => p.c1 | .c2 => p.c2 | .c3 => p.c3 | .c4 => p.c4

def PerCoil.set {α : Type} (p : PerCoil α) (c : Coil) (v : α) : PerCoil α :=
  match c with
  | .c1 => { p with c1 := v } | .c2 => { p with c2 := v }
  | .c3 => { p with c3 := v } | .c4 => { p with c4 := v }

def PerCoil.all {α : Type} (v : α) : PerCoil α := ⟨v, v, v, v⟩

def PerMotor.get {α : Type} (p : PerMotor α) : Motor → α
  | .shut => p.shut | .ndor => p.ndor | .odor => p.odor

def PerMotor.set {α : Type} (p : PerMotor α) (m : Motor) (v : α) : PerMotor α :=
  match m with
  | .shut => { p with shut := v } | .ndor => { p with ndor := v } | .odor => { p with odor := v }

def PerMotor.all {α : Type} (v : α) : PerMotor α := ⟨v, v, v⟩

def PerDoor.get {α : Type} (p : PerDoor α) : Door → α
  | .ndor => p.ndor | .odor => p.odor

def PerDoor.set {α : Type} (p : PerDoor α) (d : Door) (v : α) : PerDoor α :=
  match d with
  | .ndor => { p with ndor := v } | .odor => { p with odor := v }

def PerDoor.all {α : Type} (v : α) : PerDoor α := ⟨v, v⟩

def PerSense.get {α : Type} (p : PerSense α) : Sense → α
  | .sense0 => p.sense0 | .sense1 => p.sense1

def PerSense.set {α : Type} (p : PerSense α) (n : Sense) (v : α) : PerSense α :=
  match n with
  | .sense0 => { p with sense0 := v } | .sense1 => { p with sense1 := v }

/-- The axes in the order of the axis table. -/
def Axis.list : List Axis := [.lift, .tilt, .fold, .shut, .ndor, .odor]

/-- The links in number order. -/
def Link.list : List Link := [.sl0, .sl1, .sl2, .sl3, .sl4, .sl5]

/-- The operator links, 1 to 5. -/
def Link.operators : List Link := [.sl1, .sl2, .sl3, .sl4, .sl5]

/-- The zones in their order (R160). -/
def Zone.list : List Zone := [.rear, .near, .off, .roof]

/-- The lamp channels in channel-number order. -/
def Lamp.list : List Lamp :=
  [.ch1, .ch2, .ch3, .ch4, .ch5, .ch6, .ch7, .ch8, .ch9, .ch10, .ch11, .ch12]

/-- The coil channels in order. -/
def Coil.list : List Coil := [.c1, .c2, .c3, .c4]

/-- The motor axes in axis order. -/
def Motor.list : List Motor := [.shut, .ndor, .odor]

/-! ## What a command carries -/

/-- The axis-sensor inputs of one sample (R52 step 1): counts and FOLD switch levels. -/
structure AxisInputs where
  lift : Nat
  tilt : Nat
  stowed : Bool
  deployed : Bool
  deriving DecidableEq, Repr

/-- The currents measured at one control period: coils in mA (R108), pump in A (R105), motor
bridges in A (R124). -/
structure PeriodCurrents where
  coil : PerCoil Nat
  pump : Nat
  motor : PerMotor Nat
  deriving DecidableEq, Repr

/-- The straps as read (R171): a code 0..15, or `none` where the input is left open. -/
structure Straps where
  variant : Option Nat
  stations : Option Nat
  deriving DecidableEq, Repr

/-- The three switches of a side door (R115). `latched` is the LATCH switch, ENGAGED when true. -/
structure DoorSwitches where
  opened : Bool
  closed : Bool
  latched : Bool
  deriving DecidableEq, Repr

/-- The shutter's limit switches and safety edge (R122, R123). -/
structure ShutterSwitches where
  opened : Bool
  closed : Bool
  contact : Bool
  deriving DecidableEq, Repr

/-- The part's input lines and sensors as they stand outside the part. -/
structure Inputs where
  pbrk : Bool
  estop : Bool
  straps : Straps
  doors : PerDoor DoorSwitches
  shutter : ShutterSwitches
  axes : AxisInputs
  pressure : Nat
  deriving DecidableEq, Repr

/-- A symbol that consumes credit (R146): DATA, EOM or DROP. -/
inductive MsgSymbol where
  | data (b : Byte)
  | eom
  | drop
  deriving DecidableEq, Repr

/-- Which switch of a door changed. -/
inductive DoorSwitch where
  | opened | closed | latched
  deriving DecidableEq, Repr

/-- Which limit switch of the shutter changed. -/
inductive ShutterSwitch where
  | opened | closed
  deriving DecidableEq, Repr

/-- Which block takes an IGN off first; R76 allows either order. -/
inductive IgnOrder where
  | permitFirst | modeFirst
  deriving DecidableEq, Repr

/-! ## The commands -/

/-- One constructor for each row of spec/opcode_table.json, in the table's order. A message of
R162 or R164 carries the link it arrives on and the raw bytes of its fields; the other commands
are the part's events and carry what the event brings from outside. -/
inductive Instr where
  | rqgrant (link : Link) (axis sense runKind : Byte) (demand : Word16)
  | keep (link : Link) (handle axis sense : Byte) (demand : Word16)
  | ltgrant (link : Link) (handle axis sense : Byte) (demand : Word16)
  | rsgrant (link : Link) (handle axis sense : Byte) (demand : Word16)
  | stopz (link : Link) (zones : Byte)
  | clrstop (link : Link) (id : Byte)
  | lockt (link : Link) (tag : Word32) (axes : Byte)
  | ulockt (link : Link) (id : Byte) (tag : Word32)
  | ackflt (link : Link) (axis : Byte)
  | qgrants (link : Link) (first : Byte)
  | qholds (link : Link) (first : Byte)
  | qaxes (link : Link) (axis : Byte)
  | cfgrd (link : Link) (item : Byte)
  | cfgwr (link : Link) (item : Byte) (value : Word32)
  | cfgband (link : Link) (bands : List Word32)
  | cfgsave (link : Link)
  | saveCompletion
  | rstlvl1 (link : Link)
  | rstlvl2 (link : Link)
  | rstlink (link : Link) (target : Byte)
  | freelock (link : Link) (id : Byte)
  | notrd (link : Link)
  | notmsk (link : Link) (mask : Word16)
  | lampra (link : Link) (channels : Word16)
  | fltrd (link : Link)
  | malformedFrame (link : Link) (bytes : List Byte)
  | creditReceived (link : Link)
  | fillReceived (link : Link)
  | dropReceived (link : Link) (bytes : List Byte)
  | checkError (link : Link)
  | overrun (link : Link) (symbol : MsgSymbol)
  | silenceExpiry (link : Link)
  | heldLowExpiry (link : Link)
  | idleTimerExpiry (link : Link)
  | messageTransmitted (link : Link)
  | closeQueueEmpty (link : Link)
  | closePendingExpiry (link : Link)
  | deadmanExpiry (handle : Nat)
  | pauseWindowExpiry (handle : Nat)
  | startDelayExpiry
  | controlPeriod (currents : PeriodCurrents)
  | ditherFlip
  | pumpOvercurrent
  | foldTravelLimit
  | axisSample (inputs : AxisInputs)
  | stall
  | pressureSample (count : Nat)
  | pulseArrival (period : Nat)
  | pulseTimerExpiry
  | pbrkChange (applied : Bool)
  | ignOn (straps : Straps)
  | ignOff (order : IgnOrder)
  | estopAssertion
  | estopRelease
  | doorSwitchChange (door : Door) (switch : DoorSwitch) (active : Bool)
  | shutterSwitchChange (switch : ShutterSwitch) (active : Bool)
  | safetyEdgeChange (contact : Bool)
  | latchPulseExpiry (door : Door)
  | engageExpiry (door : Door)
  | obstructionOvertime (motor : Motor)
  | panelTravelLimit (motor : Motor)
  | beaconTick (currents : PerLamp Nat)
  | lampShort (lamp : Lamp)
  | lampTestMeasurement (currents : PerLamp Nat)
  | lampTestEnd
  | supplySample (supply : Nat) (temperature : Int)
  | supplylowTrip
  | supplyhighTrip
  | returnCountExpiry
  | wakeTimerExpiry
  | checkTimerExpiry
  | retryTimerExpiry
  | closedownTimerExpiry
  | retryEntryAgeing
  | powerOnReset (ign : Bool) (inputs : Inputs)
  deriving DecidableEq, Repr

end Sys2Proof
end

