-- ==== Sys2Proof/Decode.lean ====
section
/-! DEFINITION. The command a word of the opcode table spells. The part has no instruction words: no
row of spec/opcode_table.json carries bits. The bits that cross a station link are decoded by the
ports (Machine/Ports.lean, symbols) and the message handler (Machine/Operands.lean, frames). -/

namespace Sys2Proof

/-- No row of the table gives bits, so no word spells a command. -/
def decodeTableWord (_nbits _w : Nat) : Option Instr := none

end Sys2Proof
end

