-- ==== Sys2Proof/Config.lean ====
section
/-! DEFINITION. What is configured: the shape of the working configuration (R61, R62, R88, R112,
R127, R141, R145, R12, R159) and of the straps' meaning. The built-in default of every item and
the part's fixed times are in Machine/Defaults.lean. The spec leaves no instruction result open,
so no free value stands here; the orders it leaves open are operands of the commands. -/

namespace Sys2Proof

/-- Ramp profile (R99). -/
inductive RampProfile where
  | linear | eased
  deriving DecidableEq, Repr

/-- Zone policy (R86). -/
inductive ZonePolicy where
  | strict | tolerant
  deriving DecidableEq, Repr

/-- Link mode of a station profile (R159). -/
inductive LinkMode where
  | strict | tolerant
  deriving DecidableEq, Repr

/-- One band of the LIFT band table (R62): low bound in mm, limits in per mille. -/
structure Band where
  low : Nat
  raiseLimit : Nat
  lowerLimit : Nat
  tiltAllowed : Bool
  deriving DecidableEq, Repr

/-- One station profile (R159). -/
structure Profile where
  rank : Nat
  allowed : PerAxis (PerSense Bool)
  latched : Bool
  tagReader : Bool
  mode : LinkMode
  enabled : Bool
  deriving DecidableEq, Repr

/-- The calibration items (R61). Lengths in mm, angles in 0.1 degree. -/
structure Calibration where
  ground : Nat
  bed : Nat
  bedHeight : Nat
  endMargin : Nat
  levelReading : Nat
  gain : Nat
  levelTolerance : Nat
  upLimit : Int
  downLimit : Int
  deriving DecidableEq, Repr

/-- The permit items (R88). -/
structure PermitItems where
  pulsesPerKm : Nat
  stationary : Nat
  overload : Nat
  derate : Nat
  policyRear : ZonePolicy
  policyNear : ZonePolicy
  policyOff : ZonePolicy
  deriving DecidableEq, Repr

/-- The drive items (R112). -/
structure DriveItems where
  rampUp : PerAxis Nat
  rampDown : PerAxis Nat
  profile : PerAxis RampProfile
  hysteresis : Nat
  tiltSpeed : Nat
  runFold : Nat
  runShut : Nat
  runNdor : Nat
  runOdor : Nat
  imin : PerCoil Nat
  imax : PerCoil Nat
  ditherAmplitude : Nat
  ditherHalfPeriod : Nat
  pumpLimit : Nat
  deriving DecidableEq, Repr

/-- The lamp items (R141). A channel's zone `none` is NONE. -/
structure LampItems where
  zone : PerLamp (Option Zone)
  openThreshold : Nat
  closedownTime : Nat
  deriving DecidableEq, Repr

/-- The working configuration (R165): every item and the band table. Link rates are in
0.1 kbit/s; the deadman period and the pause window are in ms. -/
structure WorkingConfig where
  calibration : Calibration
  permit : PermitItems
  drive : DriveItems
  obstruction : PerMotor Nat
  lamp : LampItems
  rate : PerLink Nat
  deadman : Nat
  pauseWindow : Nat
  profile : PerLink Profile
  bands : List Band
  deriving DecidableEq, Repr

end Sys2Proof
end

