-- ==== Sys2Proof/Machine/Defaults.lean ====
section
/-! DEFINITION. The part's fixed numbers and the built-in defaults of the working configuration. -/

namespace Sys2Proof.Machine

/-! ## Fixed capacities, times and thresholds -/

/-- R2: the grant table holds at most 12 records. -/
def maxGrants : Nat := 12
/-- R35: at most 23 hold records have a station as source. -/
def maxStationHolds : Nat := 23
/-- R101: pump start delay, ms. -/
def startDelayMs : Nat := 150
/-- R91, R131: the control period and the beacon tick, ms. -/
def periodMs : Nat := 10
/-- R105: pump over-time at which overcurrent is reported, ms. -/
def pumpOverMs : Nat := 300
/-- R108: coil short margin above Imax, mA. -/
def coilShortMargin : Nat := 500
/-- R110: FOLD travel limit, ms. -/
def foldTravelMs : Nat := 10000
/-- R117: latch pulse, ms. -/
def latchPulseMs : Nat := 400
/-- R119: engage time, ms. -/
def engageMs : Nat := 1000
/-- R109: latch-engage duty, per mille. -/
def latchDuty : Nat := 200
/-- R124: obstruction over-time, ms. -/
def obstructionMs : Nat := 200
/-- R125: travel limit of a motor axis, ms. -/
def travelLimitMs : Motor → Nat
  | .shut => 15000
  | .ndor | .odor => 8000
/-- R65: LIFT output at which the stall watch runs, per mille. -/
def stallOutput : Nat := 200
/-- R65: movement that restarts the stall window, mm. -/
def stallMove : Nat := 5
/-- R65: stall time, ms. -/
def stallMs : Nat := 2000
/-- R54: sensor margin of LIFT, counts. -/
def liftMargin : Nat := 200
/-- R56: raw TILT angle above which the condition stands, 0.1 degree. -/
def tiltRawMax : Int := 200
/-- R56: clamp of the TILT angle, 0.1 degree. -/
def tiltClamp : Int := 150
/-- R79: greatest speed value, 0.1 km/h. -/
def maxSpeed : Nat := 2500
/-- R79: the dividend of the speed computation. -/
def speedDividend : Nat := 36000000000
/-- R78: pulse timer, ms. -/
def pulseTimerMs : Nat := 1000
/-- R87: speed value that sets the deployed-while-moving condition, 0.1 km/h. -/
def deployMoveSpeed : Nat := 50
/-- R84, R85: hysteresis of the pressure states, bar. -/
def pressureHysteresis : Nat := 10
/-- R166: duration of a configuration save, ms. -/
def saveMs : Nat := 40
/-- R171: WAKE timer, ms. -/
def wakeMs : Nat := 50
/-- R172: CHECK timer, ms. -/
def checkMs : Nat := 300
/-- R174: RETRY timer, ms. -/
def retryMs : Nat := 2000
/-- R174: age at which a retry history entry leaves, ms. -/
def retryAgeMs : Nat := 60000
/-- R173: low count trip, ms. -/
def lowTripMs : Nat := 500
/-- R173: high count trip, ms. -/
def highTripMs : Nat := 100
/-- R173: return count, ms. -/
def returnMs : Nat := 500
/-- R142: the lamp test measures at this time, ms. -/
def lampMeasureMs : Nat := 50
/-- R142: the lamp test ends at this time, ms. -/
def lampTestMs : Nat := 200
/-- R145: receive buffer places and greatest credit. -/
def bufferPlaces : Nat := 32
/-- R151: symbols promised by one CREDIT. -/
def creditUnit : Nat := 8
/-- R153: data bytes a frame keeps. -/
def frameBytes : Nat := 40
/-- R149: silence that is a link error, ms. -/
def silenceMs : Nat := 4
/-- R150: held-low time, ms. -/
def heldLowMs : Nat := 10
/-- R152: idle time after which FILL is sent, ms. -/
def idleMs : Nat := 1
/-- R155: time of a commanded close, ms. -/
def closeMs : Nat := 4
/-- R177: greatest further-fault count. -/
def maxFurther : Nat := 255

/-! ## Built-in defaults -/

/-- R61. -/
def defaultCalibration : Calibration :=
  { ground := 300, bed := 3700, bedHeight := 1200, endMargin := 10, levelReading := 2048,
    gain := 40, levelTolerance := 10, upLimit := 80, downLimit := -120 }

/-- R88. -/
def defaultPermit : PermitItems :=
  { pulsesPerKm := 6000, stationary := 30, overload := 180, derate := 120,
    policyRear := .strict, policyNear := .strict, policyOff := .strict }

/-- R112. -/
def defaultDrive : DriveItems :=
  { rampUp := ⟨400, 300, 500, 600, 500, 500⟩
    rampDown := ⟨300, 300, 300, 400, 300, 300⟩
    profile := .all .linear
    hysteresis := 10, tiltSpeed := 500
    runFold := 800, runShut := 1000, runNdor := 700, runOdor := 700
    imin := .all 300, imax := .all 1300
    ditherAmplitude := 40, ditherHalfPeriod := 10, pumpLimit := 300 }

/-- R141. -/
def defaultLamp : LampItems :=
  { zone := ⟨some .rear, some .rear, some .rear, some .rear, some .near, some .near,
      some .off, some .off, some .roof, some .roof, none, none⟩
    openThreshold := 150, closedownTime := 30 }

/-- R62: the default band table. -/
def defaultBands : List Band :=
  [⟨0, 600, 300, true⟩, ⟨150, 1000, 1000, false⟩, ⟨1050, 400, 600, false⟩]

/-- Both senses of an axis allowed, or neither. -/
def bothSenses (b : Bool) : PerSense Bool := ⟨b, b⟩

/-- R159: the default profile of each link. -/
def defaultProfiles : PerLink Profile :=
  let y := bothSenses true
  let n := bothSenses false
  { sl0 := ⟨1, ⟨n, n, n, y, y, y⟩, true, false, .strict, true⟩
    sl1 := ⟨3, ⟨y, y, y, y, n, n⟩, false, true, .strict, true⟩
    sl2 := ⟨2, ⟨n, n, n, y, y, n⟩, false, false, .strict, true⟩
    sl3 := ⟨2, ⟨n, n, n, n, n, y⟩, false, false, .strict, true⟩
    sl4 := ⟨2, ⟨y, y, y, n, n, n⟩, false, false, .tolerant, true⟩
    sl5 := ⟨0, ⟨n, n, n, n, n, n⟩, false, false, .strict, false⟩ }

/-- The built-in defaults of every item and of the band table (R171). -/
def defaultConfig : WorkingConfig :=
  { calibration := defaultCalibration
    permit := defaultPermit
    drive := defaultDrive
    obstruction := .all 8
    lamp := defaultLamp
    rate := .all 1250
    deadman := 200
    pauseWindow := 500
    profile := defaultProfiles
    bands := defaultBands }

end Sys2Proof.Machine
end

