-- ==== Sys2Proof/Machine/State.lean ====
section
/-! DEFINITION. The state of the part: one record for each of its blocks, the inputs as they stand,
and the queue of waiting commands; the two closed types of stops; and the state after power-on
reset. Plain data throughout. -/

namespace Sys2Proof.Machine

/-! ## Grant engine (Chapter 1) -/

/-- R1: the state of a live grant. -/
inductive GrantState where
  | waiting | driving | easing | paused
  deriving DecidableEq, Repr

/-- R1: why a grant ends. `atEnd` is END. -/
inductive Reason where
  | released | deadman | held | stopped | permit | preempted | atEnd | fault | mode | linkLost
  | obstructed | reset
  deriving DecidableEq, Repr

/-- R1: one grant record. Its order field is its position in the table, counted from 1. -/
structure Grant where
  handle : Nat
  station : Link
  axis : Axis
  sense : Sense
  kind : RunKind
  demand : Nat
  state : GrantState
  reason : Option Reason
  deadman : Option Nat
  pause : Option Nat
  deriving DecidableEq, Repr

/-- R4: one resource slot. FREE when `holder` is `none`. -/
structure Slot where
  holder : Option Nat
  waiting : Option Nat
  deriving DecidableEq, Repr

/-- R2, R3, R4: the grant table in creation order, the last handle allocated, the slots. -/
structure GrantEngine where
  table : List Grant
  lastHandle : Nat
  slots : PerResource Slot
  deriving DecidableEq, Repr

/-! ## Hold table (Chapter 2) -/

/-- R33: the source of a hold. -/
inductive HoldSource where
  | station (l : Link)
  | line
  deriving DecidableEq, Repr

/-- R33: the kind of a hold with the field only that kind has. -/
inductive HoldKind where
  | lockout (tag : Nat)
  | stop (zones : PerZone Bool)
  deriving DecidableEq, Repr

/-- R33: one hold record. Its order field is its position in the table, counted from 1. -/
structure Hold where
  id : Nat
  kind : HoldKind
  source : HoldSource
  axes : PerAxis Bool
  deriving DecidableEq, Repr

/-- R35, R36, R46: the hold table in creation order, the last id allocated, and the line state
(ASSERTED when true). -/
structure HoldTable where
  table : List Hold
  lastId : Nat
  line : Bool
  deriving DecidableEq, Repr

/-! ## Axis status unit (Chapter 3) -/

/-- R51: a sensor or switch condition. -/
inductive Condition where
  | standing | gone
  deriving DecidableEq, Repr

/-- R51, R67: the fault codes, in the order of R161. -/
inductive FaultCode where
  | sensor | switch | stall | travel | coilshort | latchstuck | latchmiss
  deriving DecidableEq, Repr

/-- R114: the sequence states of a motor axis; `partway` is PARTIAL. UNLATCHING and LATCHING are
states of a door only. -/
inductive PanelState where
  | closed | unlatching | opening | opened | closing | latching | partway
  deriving DecidableEq, Repr

/-- R51, R65: the stall window. -/
structure StallWindow where
  reference : Nat
  elapsed : Nat
  deriving DecidableEq, Repr

/-- R51: the four kept conditions. -/
structure Conditions where
  lift : Condition
  tilt : Condition
  fold : Condition
  shut : Condition
  deriving DecidableEq, Repr

/-- R51: the axis status records of the six axes. `liftReading` to `shutSwitch` are what the last
sample took (R52 step 1); `liftOutput` is the LIFT drive output last reported by the drive
shaper (R91). Angles are in 0.1 degree. -/
structure AxisUnit where
  fitted : PerAxis Bool
  liftReading : Nat
  tiltReading : Nat
  stowed : Bool
  unfolded : Bool
  panelState : PerMotor PanelState
  shutSwitch : Condition
  position : Nat
  angle : Int
  ends : PerAxis (PerSense Bool)
  level : Bool
  deployed : PerAxis Bool
  condition : Conditions
  fault : PerAxis (Option FaultCode)
  band : Nat
  stall : Option StallWindow
  liftOutput : Nat
  deriving DecidableEq, Repr

/-! ## Permit monitor (Chapter 4) -/

/-- R77: the speed states. -/
inductive SpeedState where
  | unknown | stopped | starting | running
  deriving DecidableEq, Repr

/-- R72: a set of permit causes; in the permit map, the causes absent. -/
structure CauseSet where
  mode : Bool
  chassis : Bool
  interlock : Bool
  zone : Bool
  load : Bool
  deriving DecidableEq, Repr

/-- R72 to R89: the permit monitor. `pressure` is `none` while out of range (R83);
`pulseTimer` is the ms left of the one-second timer, `none` while it stands stopped. -/
structure PermitMonitor where
  ign : Bool
  pbrk : Bool
  speed : SpeedState
  speedValue : Nat
  lastPeriod : Option Nat
  pulseTimer : Option Nat
  pressure : Option Nat
  overload : Bool
  derate : Bool
  deployMove : Bool
  map : PerAxis (PerSense CauseSet)
  deriving DecidableEq, Repr

/-! ## Drive shaper (Chapter 5) -/

/-- R90: the grant that drives an axis. -/
structure DrivingGrant where
  handle : Nat
  station : Link
  sense : Sense
  deriving DecidableEq, Repr

/-- R107: the dither phase. -/
inductive DitherPhase where
  | plus | minus
  deriving DecidableEq, Repr

/-- R108: a coil watch. -/
inductive Watch where
  | armed | disarmed
  deriving DecidableEq, Repr

/-- R90: the output records and the shared pump and coil state. A start delay is kept for LIFT,
TILT and FOLD only. A diverter is NEUTRAL when `none`. `ditherTimer` is the ms left of the
half-period, `none` while stopped. `hysteresisInForce` and `halfPeriodInForce` are the items of R112 as the
last period took them: a written value takes effect from the next period. -/
structure DriveShaper where
  output : PerAxis Nat
  driving : PerAxis (Option DrivingGrant)
  startDelay : PerAxis (Option Nat)
  foldTravel : Option Nat
  coil : PerCoil Nat
  duty : PerMotor Nat
  direction : PerMotor (Option Sense)
  pumpClosed : Bool
  d1 : Option Sense
  d2 : Option Sense
  pumpOver : Nat
  ditherPhase : DitherPhase
  ditherTimer : Option Nat
  hysteresisInForce : Nat
  halfPeriodInForce : Nat
  coilWatch : PerCoil Watch
  deriving DecidableEq, Repr

/-! ## Panel sequencer (Chapter 6) -/

/-- R109: the gate of a motor axis. -/
inductive Gate where
  | pass | held | latch
  deriving DecidableEq, Repr

/-- R114: the sequence grant. -/
structure SeqGrant where
  handle : Nat
  station : Link
  sense : Sense
  kind : RunKind
  deriving DecidableEq, Repr

/-- R114: the fields every motor axis has. `endReported` is kept no while no sequence grant is
present. -/
structure PanelRecord where
  state : PanelState
  seq : Option SeqGrant
  gate : Gate
  travel : Option Nat
  obstruction : Nat
  openSwitch : Bool
  closedSwitch : Bool
  endReported : Bool
  deriving DecidableEq, Repr

/-- R114: the fields only a door has. `latched` is the LATCH switch, ENGAGED when true. -/
structure LatchRecord where
  solenoid : Bool
  pulse : Option Nat
  engage : Option Nat
  latched : Bool
  deriving DecidableEq, Repr

/-- R114: the panel records; `contact` is the safety edge, CONTACT when true. -/
structure PanelSequencer where
  axis : PerMotor PanelRecord
  latch : PerDoor LatchRecord
  contact : Bool
  condition : Condition
  deriving DecidableEq, Repr

/-! ## Beacon controller (Chapter 7) -/

/-- R129: the state of a lamp channel; `failedOpen` is OPEN. -/
inductive LampState where
  | ok | failedOpen | short | unassigned
  deriving DecidableEq, Repr

/-- R129: one channel record. Its zone field is the configuration item (R141). -/
structure LampRecord where
  state : LampState
  openCount : Option Nat
  position : Option Nat
  driven : Bool
  deriving DecidableEq, Repr

/-- R130: the patterns, lowest to highest. -/
inductive Pattern where
  | none | slow | fast | alert
  deriving DecidableEq, Repr

/-- R139: zone health. -/
inductive Health where
  | lit | degraded | dark
  deriving DecidableEq, Repr

/-- R130: one zone record. The working count n is the length of `workingSet`. -/
structure ZoneRecord where
  demand : Pattern
  counter : Nat
  firstPeriod : Bool
  workingSet : List Lamp
  health : Health
  deriving DecidableEq, Repr

/-- R142: a lamp test in progress. -/
structure LampTest where
  elapsed : Nat
  measured : Bool
  deriving DecidableEq, Repr

/-- R129, R130, R142: the channel and zone records, the shared timebase and the lamp test. -/
structure BeaconController where
  lamp : PerLamp LampRecord
  zone : PerZone ZoneRecord
  timebase : Bool
  test : Option LampTest
  deriving DecidableEq, Repr

/-! ## Station link ports (Chapter 8) -/

/-- R145: link states. -/
inductive LinkState where
  | disabled | opening | up | silenced
  deriving DecidableEq, Repr

/-- R161: status codes, in code order from 0. -/
inductive Status where
  | ok | busy | held | nopermit | noroom | nohandle | nohold | notowner | notallowed | notfitted
  | faulted | stillfaulty | mode | badmsg | badvalue | badlevel | notsuper | tagmismatch | winding
  | paused | notpaused | lineactive
  deriving DecidableEq, Repr

/-- R154: a message on an output queue; R157 gives its bytes. -/
inductive OutMsg where
  | rply (kind : Byte) (status : Status) (fields : List Byte)
  | gend (handle : Nat) (axis : Axis) (reason : Reason)
  deriving DecidableEq, Repr

/-- R153: the frame being assembled. -/
structure Frame where
  bytes : List Byte
  overlong : Bool
  deriving DecidableEq, Repr

/-- R155: the target of a commanded close. -/
inductive CloseTarget where
  | silenced | disabled
  deriving DecidableEq, Repr

/-- R155: a close pending, with the ms remaining. -/
structure ClosePending where
  target : CloseTarget
  remaining : Nat
  deriving DecidableEq, Repr

/-- A symbol the port sent (R146). -/
inductive SentSymbol where
  | credit | fill | eom
  | data (b : Byte)
  deriving DecidableEq, Repr

/-- R145: one port record. `position` is the number of symbols of the oldest queued message
already sent. `lastSent` is the model's own: the last symbol the port sent since it opened. -/
structure Port where
  state : LinkState
  rate : Nat
  buffer : List MsgSymbol
  creditGiven : Nat
  creditHeld : Nat
  frame : Option Frame
  inHand : Bool
  queue : List OutMsg
  position : Nat
  close : Option ClosePending
  silence : Option Nat
  heldLow : Option Nat
  idle : Option Nat
  lastSent : Option SentSymbol
  deriving DecidableEq, Repr

/-! ## Mode controller (Chapters 9 and 10) -/

/-- R169: operating modes, in the order of R177. -/
inductive Mode where
  | off | wake | check | run | defer | retry | barred | closedown
  deriving DecidableEq, Repr

/-- R169, R171, R173: the mode record, the supply and temperature counts with the last sample, and
what the straps enable. `history` holds the age in ms of each earlier RETRY entry, oldest first.
`loadWaits` marks a WAKE whose load waits for a save (R171). -/
structure ModeController where
  mode : Mode
  timer : Option Nat
  history : List Nat
  ign : Bool
  lowCount : Nat
  highCount : Nat
  returnCount : Nat
  supply : Nat
  temperature : Int
  strapLinks : PerLink Bool
  loadWaits : Bool
  deriving DecidableEq, Repr

/-- R167: the ten notice flags. -/
structure NoticeSet where
  gend : Bool
  hold : Bool
  lamp : Bool
  fault : Bool
  mode : Bool
  link : Bool
  cfgdef : Bool
  strap : Bool
  deploymove : Bool
  fltrec : Bool
  deriving DecidableEq, Repr

/-- R167: flags, mask, and the attention line (asserted when true). -/
structure Notices where
  flags : NoticeSet
  mask : NoticeSet
  attention : Bool
  deriving DecidableEq, Repr

/-- R177: the kinds of fault the fault record holds. -/
inductive FaultKind where
  | axisFault (code : FaultCode)
  | pumpoc | supplylow | supplyhigh | overtemp
  deriving DecidableEq, Repr

/-- R177: the fault record. -/
structure FaultRecord where
  kind : FaultKind
  axis : Option Axis
  coil : Option Coil
  position : Option Nat
  mode : Mode
  deriving DecidableEq, Repr

/-- R177: the fault record, empty when `none`, and the further-fault count. -/
structure FaultLog where
  record : Option FaultRecord
  further : Nat
  deriving DecidableEq, Repr

/-- R166: a save in progress, with the ms left and the copy it writes. -/
structure Save where
  remaining : Nat
  copy : WorkingConfig
  deriving DecidableEq, Repr

/-- R176: the reply of an RSTLVL 1 that waits for a save: still wanted by link 0, or to be
dropped because link 0 has left UP since. -/
inductive ReplyWait where
  | awaited | dropped
  deriving DecidableEq, Repr

/-- R165, R166, R171: the non-volatile store with the outcome of its check value, the save in
progress, and the RSTLVL 1 that waits for it. -/
structure ConfigStore where
  stored : WorkingConfig
  valid : Bool
  save : Option Save
  resetWaits : Option ReplyWait
  deriving DecidableEq, Repr

/-! ## The whole part -/

/-- The state of the part. `pending` is the queue of commands waiting, first in, first out;
`inputs` the input lines and sensors as they stand outside (the IGN line is
`mode.ign`, which follows it in every mode, R169). -/
structure State where
  pending : List Instr
  inputs : Inputs
  grant : GrantEngine
  hold : HoldTable
  axis : AxisUnit
  permit : PermitMonitor
  drive : DriveShaper
  panel : PanelSequencer
  beacon : BeaconController
  port : PerLink Port
  mode : ModeController
  notice : Notices
  faultLog : FaultLog
  config : WorkingConfig
  store : ConfigStore
  deriving DecidableEq, Repr

/-- The faults of the machine. The spec gives every command an effect in every state, so no
meaning answers with a fault and the type has no constructor (safe: nothing stops early). -/
inductive Fault where
  deriving DecidableEq, Repr

/-- The refusals of the machine. -/
inductive Refusal where
  /-- Raised by `exec` alone, for a row without a meaning yet. Safe: the machine stops. No arm
  answers it: every row has its meaning. -/
  | notModelled (mnemonic : String)
  deriving DecidableEq, Repr

/-! ## One named update for each field -/

def State.setPending (s : State) (v : List Instr) : State := { s with pending := v }
def State.setInputs (s : State) (v : Inputs) : State := { s with inputs := v }
def State.setGrant (s : State) (v : GrantEngine) : State := { s with grant := v }
def State.setHold (s : State) (v : HoldTable) : State := { s with hold := v }
def State.setAxis (s : State) (v : AxisUnit) : State := { s with axis := v }
def State.setPermit (s : State) (v : PermitMonitor) : State := { s with permit := v }
def State.setDrive (s : State) (v : DriveShaper) : State := { s with drive := v }
def State.setPanel (s : State) (v : PanelSequencer) : State := { s with panel := v }
def State.setBeacon (s : State) (v : BeaconController) : State := { s with beacon := v }
def State.setPort (s : State) (v : PerLink Port) : State := { s with port := v }
def State.setMode (s : State) (v : ModeController) : State := { s with mode := v }
def State.setNotice (s : State) (v : Notices) : State := { s with notice := v }
def State.setFaultLog (s : State) (v : FaultLog) : State := { s with faultLog := v }
def State.setConfig (s : State) (v : WorkingConfig) : State := { s with config := v }
def State.setStore (s : State) (v : ConfigStore) : State := { s with store := v }

/-! ## Power-on values, block by block -/

/-- No notice. -/
def NoticeSet.empty : NoticeSet :=
  ⟨false, false, false, false, false, false, false, false, false, false⟩

/-- No cause. -/
def CauseSet.empty : CauseSet := ⟨false, false, false, false, false⟩

/-- R31: empty table, handle 0, all slots FREE. -/
def GrantEngine.powerOn : GrantEngine :=
  { table := [], lastHandle := 0, slots := .all ⟨none, none⟩ }

/-- R50: no holds, id 0, line state RELEASED. -/
def HoldTable.powerOn : HoldTable := { table := [], lastId := 0, line := false }

/-- R71. -/
def AxisUnit.powerOn : AxisUnit :=
  { fitted := .all true
    liftReading := 0, tiltReading := 0, stowed := false, unfolded := false
    panelState := .all .closed, shutSwitch := .gone
    position := 0, angle := 0
    ends := .all (bothSenses false), level := false, deployed := .all false
    condition := ⟨.gone, .gone, .gone, .gone⟩
    fault := .all none, band := 1, stall := none, liftOutput := 0 }

/-- R89: the map that the power-on inputs give: MODE and CHASSIS absent everywhere, INTERLOCK
absent wherever the interlock matrix has an entry (R81), ZONE and LOAD present. -/
def powerOnMap : PerAxis (PerSense CauseSet) :=
  let plain : CauseSet := ⟨true, true, false, false, false⟩
  let locked : CauseSet := ⟨true, true, true, false, false⟩
  { lift := ⟨locked, locked⟩, tilt := ⟨locked, locked⟩, fold := ⟨locked, locked⟩
    shut := ⟨plain, plain⟩, ndor := ⟨plain, plain⟩, odor := ⟨locked, plain⟩ }

/-- R89. -/
def PermitMonitor.powerOn : PermitMonitor :=
  { ign := false, pbrk := false, speed := .unknown, speedValue := 0, lastPeriod := none
    pulseTimer := none, pressure := some 0, overload := false, derate := false
    deployMove := false, map := powerOnMap }

/-- R113. -/
def DriveShaper.powerOn : DriveShaper :=
  { output := .all 0, driving := .all none, startDelay := .all none, foldTravel := none
    coil := .all 0, duty := .all 0, direction := .all none, pumpClosed := false
    d1 := none, d2 := none, pumpOver := 0, ditherPhase := .plus, ditherTimer := none
    hysteresisInForce := 10, halfPeriodInForce := 10
    coilWatch := .all .armed }

/-- R128. -/
def PanelRecord.powerOn : PanelRecord :=
  { state := .closed, seq := none, gate := .pass, travel := none, obstruction := 0
    openSwitch := false, closedSwitch := false, endReported := false }

/-- R128. -/
def LatchRecord.powerOn : LatchRecord :=
  { solenoid := false, pulse := none, engage := none, latched := false }

/-- R128. -/
def PanelSequencer.powerOn : PanelSequencer :=
  { axis := .all .powerOn, latch := .all .powerOn, contact := false, condition := .gone }

/-- R144: an assigned channel at slot `k` of its zone's working set. -/
def LampRecord.powerOn (k : Nat) : LampRecord :=
  { state := .ok, openCount := some 0, position := some k, driven := false }

/-- R144: an unassigned channel. -/
def LampRecord.idle : LampRecord :=
  { state := .unassigned, openCount := none, position := none, driven := false }

/-- R144: a zone with its working set fixed from the default states. -/
def ZoneRecord.powerOn (set : List Lamp) : ZoneRecord :=
  { demand := .none, counter := 0, firstPeriod := true, workingSet := set, health := .lit }

/-- R144. -/
def BeaconController.powerOn : BeaconController :=
  { lamp :=
      ⟨.powerOn 0, .powerOn 1, .powerOn 2, .powerOn 3, .powerOn 0, .powerOn 1, .powerOn 0,
        .powerOn 1, .powerOn 0, .powerOn 1, .idle, .idle⟩
    zone :=
      ⟨.powerOn [.ch1, .ch2, .ch3, .ch4], .powerOn [.ch5, .ch6], .powerOn [.ch7, .ch8],
        .powerOn [.ch9, .ch10]⟩
    timebase := false, test := none }

/-- R158: a DISABLED port at a rate. -/
def Port.rest (rate : Nat) : Port :=
  { state := .disabled, rate := rate, buffer := [], creditGiven := 0, creditHeld := 0
    frame := none, inHand := false, queue := [], position := 0, close := none, silence := none
    heldLow := none, idle := none, lastSent := none }

/-- R178: OFF; STATIONS not read, so links 1 to 3 enabled until it is. -/
def ModeController.powerOn : ModeController :=
  { mode := .off, timer := none, history := [], ign := false
    lowCount := 0, highCount := 0, returnCount := 0, supply := 0, temperature := 0
    strapLinks := ⟨true, true, true, true, false, false⟩, loadWaits := false }

/-- R168. -/
def Notices.powerOn : Notices := { flags := .empty, mask := .empty, attention := false }

/-- R178. -/
def FaultLog.powerOn : FaultLog := { record := none, further := 0 }

/-- R166, R168: the store keeps its contents; a reset during a save leaves it partly written. -/
def ConfigStore.powerOn (c : ConfigStore) : ConfigStore :=
  { stored := c.stored, valid := c.valid && c.save.isNone, save := none, resetWaits := none }

/-- R170: every piece of state at the value its chapter gives for power-on reset, the mode OFF,
over a given store, inputs and queue. -/
def State.powerOn (store : ConfigStore) (inputs : Inputs) (pending : List Instr) : State :=
  { pending := pending
    inputs := inputs
    grant := .powerOn, hold := .powerOn, axis := .powerOn, permit := .powerOn
    drive := .powerOn, panel := .powerOn, beacon := .powerOn, port := .all (.rest 1250)
    mode := .powerOn, notice := .powerOn, faultLog := .powerOn
    config := defaultConfig, store := store.powerOn }

/-- The inputs of `State.reset`: every line low, every sensor at 0, both straps open
(DESIGN CHOICE, log 2). -/
def lowInputs : Inputs :=
  { pbrk := false, estop := false, straps := ⟨none, none⟩
    doors := .all ⟨false, false, false⟩, shutter := ⟨false, false, false⟩
    axes := ⟨0, 0, false, false⟩, pressure := 0 }

/-- The store of `State.reset`: a good copy of the built-in defaults (DESIGN CHOICE, log 4). -/
def ConfigStore.factory : ConfigStore :=
  { stored := defaultConfig, valid := true, save := none, resetWaits := none }

/-- R170: the part right after power-on reset with the IGN line off: at rest in OFF. -/
def State.reset : State := .powerOn .factory lowInputs []

end Sys2Proof.Machine
end

