-- ==== Sys2Proof/Machine/Ops.lean ====
section
/-! DEFINITION. The named operations the rest of the machine is made of: which resource, zone,
motor and coil an axis has; the codes and bytes of the link formats (R157, R160, R161); reading
and writing grants, slots and ports; the notices and the attention line (R167); the fault record
(R177); placing messages on a port's output queue (R154). -/

namespace Sys2Proof.Machine

/-! ## What belongs to what (00_scope, "Axes and resources"; R1, R72, R106) -/

/-- R1: the resource of an axis. -/
def resourceOf : Axis → Resource
  | .lift | .tilt | .fold => .hyd
  | .shut => .shut
  | .ndor => .ndor
  | .odor => .odor

/-- The beacon zone of an axis. -/
def zoneOf : Axis → Zone
  | .lift | .tilt | .fold | .shut => .rear
  | .ndor => .near
  | .odor => .off

/-- The motor axis of an axis, if it has a motor. -/
def motorOf : Axis → Option Motor
  | .shut => some .shut
  | .ndor => some .ndor
  | .odor => some .odor
  | .lift | .tilt | .fold => none

/-- A motor axis as an axis. -/
def axisOfMotor : Motor → Axis
  | .shut => .shut
  | .ndor => .ndor
  | .odor => .odor

/-- The door of a motor axis. -/
def doorOf : Motor → Option Door
  | .shut => none
  | .ndor => some .ndor
  | .odor => some .odor

/-- A door as a motor axis. -/
def motorOfDoor : Door → Motor
  | .ndor => .ndor
  | .odor => .odor

/-- R106, R108: the axis a coil channel serves. -/
def axisOfCoil : Coil → Axis
  | .c1 | .c2 => .lift
  | .c3 => .tilt
  | .c4 => .fold

/-- R106: the coil channel of a platform axis and sense. -/
def coilOf : Axis → Sense → Option Coil
  | .lift, .sense0 => some .c1
  | .lift, .sense1 => some .c2
  | .tilt, _ => some .c3
  | .fold, _ => some .c4
  | .shut, _ | .ndor, _ | .odor, _ => none

/-- The pump senses: every sense of LIFT, TILT and FOLD except LIFT LOWER (R101). -/
def pumpSense : Axis → Sense → Bool
  | .lift, .sense0 => true
  | .lift, .sense1 => false
  | .tilt, _ | .fold, _ => true
  | .shut, _ | .ndor, _ | .odor, _ => false

/-! ## Codes (R157, R160, R161, R163, R177) -/

def linkNum : Link → Nat
  | .sl0 => 0 | .sl1 => 1 | .sl2 => 2 | .sl3 => 3 | .sl4 => 4 | .sl5 => 5

def linkOfNat : Nat → Option Link
  | 0 => some .sl0 | 1 => some .sl1 | 2 => some .sl2 | 3 => some .sl3 | 4 => some .sl4
  | 5 => some .sl5 | _ => none

def axisCode : Axis → Nat
  | .lift => 0 | .tilt => 1 | .fold => 2 | .shut => 3 | .ndor => 4 | .odor => 5

def axisOfCode : Nat → Option Axis
  | 0 => some .lift | 1 => some .tilt | 2 => some .fold | 3 => some .shut | 4 => some .ndor
  | 5 => some .odor | _ => none

def senseCode : Sense → Nat
  | .sense0 => 0 | .sense1 => 1

def senseOfCode : Nat → Option Sense
  | 0 => some .sense0 | 1 => some .sense1 | _ => none

def kindCode : RunKind → Nat
  | .hold => 0 | .latch => 1

def kindOfCode : Nat → Option RunKind
  | 0 => some .hold | 1 => some .latch | _ => none

def reasonCode : Reason → Nat
  | .released => 0 | .deadman => 1 | .held => 2 | .stopped => 3 | .permit => 4 | .preempted => 5
  | .atEnd => 6 | .fault => 7 | .mode => 8 | .linkLost => 9 | .obstructed => 10 | .reset => 11

def grantStateCode : GrantState → Nat
  | .waiting => 0 | .driving => 1 | .easing => 2 | .paused => 3

/-- R161: the code RETIRED of a grant state in a reply. -/
def retiredCode : Nat := 4

def faultCodeNum : FaultCode → Nat
  | .sensor => 1 | .switch => 2 | .stall => 3 | .travel => 4 | .coilshort => 5 | .latchstuck => 6
  | .latchmiss => 7

/-- R161: 0 is none. -/
def faultOptNum : Option FaultCode → Nat
  | none => 0
  | some c => faultCodeNum c

def statusCode : Status → Nat
  | .ok => 0 | .busy => 1 | .held => 2 | .nopermit => 3 | .noroom => 4 | .nohandle => 5
  | .nohold => 6 | .notowner => 7 | .notallowed => 8 | .notfitted => 9 | .faulted => 10
  | .stillfaulty => 11 | .mode => 12 | .badmsg => 13 | .badvalue => 14 | .badlevel => 15
  | .notsuper => 16 | .tagmismatch => 17 | .winding => 18 | .paused => 19 | .notpaused => 20
  | .lineactive => 21

def lampStateCode : LampState → Nat
  | .ok => 0 | .failedOpen => 1 | .short => 2 | .unassigned => 3

def linkStateCode : LinkState → Nat
  | .disabled => 0 | .opening => 1 | .up => 2 | .silenced => 3

def modeCode : Mode → Nat
  | .off => 0 | .wake => 1 | .check => 2 | .run => 3 | .defer => 4 | .retry => 5 | .barred => 6
  | .closedown => 7

def healthCode : Health → Nat
  | .lit => 0 | .degraded => 1 | .dark => 2

def coilNum : Coil → Nat
  | .c1 => 1 | .c2 => 2 | .c3 => 3 | .c4 => 4

/-- R163: a panel state numbered in the order of its own row of R114, 0 from CLOSED: the doors'
row of seven, and SHUT's row of five (DEDUCED, log 22). -/
def panelCode : Motor → PanelState → Nat
  | .shut, .closed => 0 | .shut, .opening => 1 | .shut, .opened => 2 | .shut, .closing => 3
  | .shut, .partway => 4 | .shut, .unlatching => 4 | .shut, .latching => 4
  | _, .closed => 0 | _, .unlatching => 1 | _, .opening => 2 | _, .opened => 3
  | _, .closing => 4 | _, .latching => 5 | _, .partway => 6

/-- R177: the code of a fault record's kind. -/
def faultKindCode : FaultKind → Nat
  | .axisFault c => faultCodeNum c
  | .pumpoc => 8 | .supplylow => 9 | .supplyhigh => 10 | .overtemp => 11

/-! ## Bytes (R157: most significant byte first) -/

def byteOf (n : Nat) : Byte := BitVec.ofNat 8 n

/-- The two bytes of a 16-bit field. -/
def bytes16 (w : Word16) : List Byte := [w.extractLsb' 8 8, w.extractLsb' 0 8]

/-- The four bytes of a 32-bit field. -/
def bytes32 (w : Word32) : List Byte :=
  [w.extractLsb' 24 8, w.extractLsb' 16 8, w.extractLsb' 8 8, w.extractLsb' 0 8]

/-- A 16-bit field from its bytes. -/
def word16 (hi lo : Byte) : Word16 := hi ++ lo

/-- A 32-bit field from its bytes. -/
def word32 (a b c d : Byte) : Word32 := a ++ b ++ c ++ d

/-- A number as a two-byte field. -/
def nat16 (n : Nat) : List Byte := bytes16 (BitVec.ofNat 16 n)

/-- The bits of a set, the first member in bit 0. -/
def bitsOf : List Bool → Nat
  | [] => 0
  | b :: bs => b.toNat + 2 * bitsOf bs

/-- R160: an axis set, LIFT in bit 0. -/
def axisSetBits (p : PerAxis Bool) : Nat :=
  bitsOf [p.lift, p.tilt, p.fold, p.shut, p.ndor, p.odor]

/-- R160: a zone set, REAR in bit 0. -/
def zoneSetBits (p : PerZone Bool) : Nat := bitsOf [p.rear, p.near, p.off, p.roof]

/-- R160: a permit cause set, MODE in bit 0. -/
def causeBits (c : CauseSet) : Nat := bitsOf [c.mode, c.chassis, c.interlock, c.zone, c.load]

/-- R167: a notice set, GEND in bit 0. -/
def noticeBits (n : NoticeSet) : Nat :=
  bitsOf [n.gend, n.hold, n.lamp, n.fault, n.mode, n.link, n.cfgdef, n.strap, n.deploymove,
    n.fltrec]

/-- An axis set from its bits. -/
def axisSetOf (n : Nat) : PerAxis Bool :=
  ⟨n.testBit 0, n.testBit 1, n.testBit 2, n.testBit 3, n.testBit 4, n.testBit 5⟩

/-- A zone set from its bits. -/
def zoneSetOf (n : Nat) : PerZone Bool :=
  ⟨n.testBit 0, n.testBit 1, n.testBit 2, n.testBit 3⟩

/-- A notice set from its bits; bits 10 to 15 are ignored (R167). -/
def noticeSetOf (n : Nat) : NoticeSet :=
  ⟨n.testBit 0, n.testBit 1, n.testBit 2, n.testBit 3, n.testBit 4, n.testBit 5, n.testBit 6,
    n.testBit 7, n.testBit 8, n.testBit 9⟩

/-- A lamp channel set from its bits, channel 1 at bit 0. -/
def lampSetOf (n : Nat) : PerLamp Bool :=
  ⟨n.testBit 0, n.testBit 1, n.testBit 2, n.testBit 3, n.testBit 4, n.testBit 5, n.testBit 6,
    n.testBit 7, n.testBit 8, n.testBit 9, n.testBit 10, n.testBit 11⟩

/-- R157: the bytes of a queued message. -/
def outBytes : OutMsg → List Byte
  | .rply kind status fields => 128#8 :: kind :: byteOf (statusCode status) :: fields
  | .gend handle axis reason =>
    [129#8, byteOf handle, byteOf (axisCode axis), byteOf (reasonCode reason)]

/-! ## Grants and slots -/

/-- The live grant carrying a handle. -/
def findGrant (h : Nat) (s : State) : Option Grant :=
  s.grant.table.find? fun g => g.handle == h

/-- Put a changed record back in its place in the table. -/
def putGrant (g : Grant) (s : State) : State :=
  s.setGrant { s.grant with
    table := s.grant.table.map fun x => if x.handle = g.handle then g else x }

/-- R2: a record leaves the table, and the records after it close up. -/
def dropGrant (h : Nat) (s : State) : State :=
  s.setGrant { s.grant with table := s.grant.table.filter fun x => x.handle != h }

/-- The slot of a resource. -/
def slotOf (r : Resource) (s : State) : Slot := s.grant.slots.get r

/-- Set the slot of a resource. -/
def setSlot (r : Resource) (v : Slot) (s : State) : State :=
  s.setGrant { s.grant with slots := s.grant.slots.set r v }

/-- R92: the driving grant of an axis: the holder of its resource's slot, if that holder's axis is
this axis. A WAITING grant drives nothing. -/
def drivingGrant (a : Axis) (s : State) : Option Grant :=
  match (slotOf (resourceOf a) s).holder with
  | none => none
  | some h =>
    match findGrant h s with
    | none => none
    | some g => if g.axis = a ∧ g.state ≠ .waiting then some g else none

/-- R3, R36: the number after the last allocated, 255 followed by 1, passing over those live. -/
def allocate (live : List Nat) : Nat → Nat → Nat
  | 0, last => last
  | fuel + 1, last =>
    let n := if last ≥ 255 then 1 else last + 1
    if live.contains n then allocate live fuel n else n

/-! ## Notices (R167) -/

/-- At least one flag set whose enable is set. -/
def noticePending (n : Notices) : Bool :=
  (n.flags.gend && n.mask.gend) || (n.flags.hold && n.mask.hold) || (n.flags.lamp && n.mask.lamp) ||
  (n.flags.fault && n.mask.fault) || (n.flags.mode && n.mask.mode) ||
  (n.flags.link && n.mask.link) || (n.flags.cfgdef && n.mask.cfgdef) ||
  (n.flags.strap && n.mask.strap) || (n.flags.deploymove && n.mask.deploymove) ||
  (n.flags.fltrec && n.mask.fltrec)

/-- R167: judge the attention line; in OFF it is released. -/
def judgeAttention (s : State) : State :=
  s.setNotice { s.notice with attention := s.mode.mode != .off && noticePending s.notice }

/-- R167: the notice flags, each with the event that sets it. -/
inductive NoticeFlag where
  | gend | hold | lamp | fault | mode | link | cfgdef | strap | deploymove | fltrec
  deriving DecidableEq, Repr

/-- A notice set with one more flag. -/
def addFlag (f : NoticeFlag) (n : NoticeSet) : NoticeSet :=
  match f with
  | .gend => { n with gend := true }
  | .hold => { n with hold := true }
  | .lamp => { n with lamp := true }
  | .fault => { n with fault := true }
  | .mode => { n with mode := true }
  | .link => { n with link := true }
  | .cfgdef => { n with cfgdef := true }
  | .strap => { n with strap := true }
  | .deploymove => { n with deploymove := true }
  | .fltrec => { n with fltrec := true }

/-- R167: set a flag and judge the line. -/
def raise (f : NoticeFlag) (s : State) : State :=
  judgeAttention (s.setNotice { s.notice with flags := addFlag f s.notice.flags })

/-! ## The fault record (R177) -/

/-- R177: fill the empty record and report FLTREC, or raise the further-fault count, held at
255. -/
def enterFault (r : FaultRecord) (s : State) : State :=
  match s.faultLog.record with
  | none => raise .fltrec (s.setFaultLog { s.faultLog with record := some r })
  | some _ =>
    s.setFaultLog { s.faultLog with further := min maxFurther (s.faultLog.further + 1) }

/-! ## Ports -/

/-- The port of a link. -/
def portOf (l : Link) (s : State) : Port := s.port.get l

/-- Set the port of a link. -/
def putPort (l : Link) (p : Port) (s : State) : State := s.setPort (s.port.set l p)

/-- R154: place a message on a port's output queue; only while the port is UP. -/
def placeMessage (l : Link) (m : OutMsg) (s : State) : State :=
  let p := portOf l s
  if p.state = .up then putPort l { p with queue := p.queue ++ [m] } s else s

/-- R23: a GEND due for a retired grant: placed on its station's link if that link is UP, and the
GEND notice reported whether sent or dropped. None for RELEASED. -/
def gendDue (g : Grant) (r : Reason) (s : State) : State :=
  if r = .released then s
  else raise .gend (placeMessage g.station (.gend g.handle g.axis r) s)

/-- Apply a step to each element of a list in order. -/
def forEach {α : Type} (f : α → State → State) (l : List α) (s : State) : State :=
  l.foldl (fun s x => f x s) s

end Sys2Proof.Machine
end

