-- ==== Sys2Proof/Machine/Flags.lean ====
section
/-! DEFINITION. Every flag and judgement the part computes from its readings: conditions,
positions, ends, level, deployed and the band (Chapter 3); the road speed, the permit causes and
the deployed-while-moving condition (Chapter 4); the zone demands and zone health (Chapter 7);
the supply window and the closedown condition (Chapter 10). Each is a function of the state; none
changes it. -/

namespace Sys2Proof.Machine

/-! ## LIFT and TILT (R53 to R57) -/

/-- R54: the LIFT condition stands below ground less 200 or above bed plus 200. -/
def liftCondition (c : Calibration) (reading : Nat) : Condition :=
  if (reading : Int) < (c.ground : Int) - liftMargin ∨ reading > c.bed + liftMargin then .standing
  else .gone

/-- R53: (reading − ground) × H ÷ (bed − ground), truncated towards zero, clamped to 0..H. -/
def liftPosition (c : Calibration) (reading : Nat) : Nat :=
  let q := (((reading : Int) - c.ground) * c.bedHeight).tdiv ((c.bed : Int) - c.ground)
  min q.toNat c.bedHeight

/-- R56: (reading − level reading) × 10 ÷ gain, truncated towards zero. -/
def tiltRaw (c : Calibration) (reading : Nat) : Int :=
  (((reading : Int) - c.levelReading) * 10).tdiv c.gain

/-- R56: the TILT condition stands at a raw angle greater than 200 in magnitude. -/
def tiltCondition (c : Calibration) (reading : Nat) : Condition :=
  if tiltRaw c reading > tiltRawMax ∨ tiltRaw c reading < -tiltRawMax then .standing else .gone

/-- R56: the raw angle clamped to −150..+150. -/
def tiltAngle (c : Calibration) (reading : Nat) : Int :=
  max (-tiltClamp) (min tiltClamp (tiltRaw c reading))

/-- R57: level within the tolerance. -/
def tiltLevel (c : Calibration) (angle : Int) : Bool :=
  decide (-(c.levelTolerance : Int) ≤ angle ∧ angle ≤ c.levelTolerance)

/-- R55: the LIFT ends at a position. -/
def liftEnds (c : Calibration) (position : Nat) : PerSense Bool :=
  ⟨decide (c.bedHeight - c.endMargin ≤ position), decide (position ≤ c.endMargin)⟩

/-- R57: the TILT ends at an angle. -/
def tiltEnds (c : Calibration) (angle : Int) : PerSense Bool :=
  ⟨decide (c.upLimit ≤ angle), decide (angle ≤ c.downLimit)⟩

/-- R62: the number, from 1, of the last band whose low bound is at most the position. -/
def bandAt (bands : List Band) (position : Nat) : Nat :=
  max 1 (bands.takeWhile fun b => decide (b.low ≤ position)).length

/-- R62: the band with a number, from 1. -/
def bandOf (bands : List Band) (n : Nat) : Option Band := bands[n - 1]?

/-- R94, R81: the band in force. While the LIFT condition stands the band number is held (R54), and a
table written or loaded meanwhile may have no row of that number: there is then no band (DESIGN
CHOICE, log 44). -/
def bandInForce (s : State) : Option Band := bandOf s.config.bands s.axis.band

/-- R62: whether the band in force has tilt allowed. With no row for the band number held it has not
(DESIGN CHOICE, log 44). -/
def tiltAllowed (s : State) : Bool :=
  match bandInForce s with
  | some b => b.tiltAllowed
  | none => false

/-- R58: the FOLD condition stands with both switches active. -/
def foldCondition (stowed unfolded : Bool) : Condition :=
  if stowed && unfolded then .standing else .gone

/-- R58: the FOLD ends. -/
def foldEnds (stowed unfolded : Bool) : PerSense Bool :=
  ⟨stowed && !unfolded, unfolded && !stowed⟩

/-- R59: the ends of a motor axis from its mirrored state. -/
def panelEnds (p : PanelState) : PerSense Bool :=
  ⟨decide (p = .opened), decide (p = .closed)⟩

/-- The condition of an axis; a door has none (R51). -/
def conditionOf (c : Conditions) : Axis → Condition
  | .lift => c.lift
  | .tilt => c.tilt
  | .fold => c.fold
  | .shut => c.shut
  | .ndor | .odor => .gone

/-- R66: the fault a standing condition gives. -/
def conditionFault : Axis → FaultCode
  | .lift | .tilt => .sensor
  | .fold | .shut | .ndor | .odor => .switch

/-- The end flag of an axis in a sense, as the last sample left it. -/
def endFlag (a : Axis) (n : Sense) (s : State) : Bool := (s.axis.ends.get a).get n

/-- An axis is FAULTED while its fault code is present (R51). -/
def faulted (a : Axis) (s : State) : Bool := (s.axis.fault.get a).isSome

/-- At least one fitted axis deployed (R87, R175). -/
def anyDeployed (s : State) : Bool :=
  Axis.list.any fun a => s.axis.fitted.get a && s.axis.deployed.get a

/-! ## Holds -/

/-- R34: a live hold covers the axis. -/
def coveringHold (a : Axis) (s : State) : Option Hold := s.hold.table.find? fun h => h.axes.get a

/-- R34: the axes a zone set covers. -/
def axesOfZones (z : PerZone Bool) : PerAxis Bool :=
  .mk' fun a => z.get (zoneOf a) || z.roof

/-- A hold is a STOP. -/
def isStop (h : Hold) : Bool :=
  match h.kind with
  | .stop _ => true
  | .lockout _ => false

/-- A hold is a LOCKOUT. -/
def isLockout (h : Hold) : Bool := !isStop h

/-- A hold has a station as source (R35). -/
def fromStation (h : Hold) : Bool :=
  match h.source with
  | .station _ => true
  | .line => false

/-- R35: the number of live records with a station as source. -/
def stationHolds (s : State) : Nat := (s.hold.table.filter fromStation).length

/-- R46: a LINE stop is live. -/
def lineStopLive (s : State) : Bool := s.hold.table.any fun h => !fromStation h

/-! ## Permit causes (R72, R75, R80, R81, R84, R86) -/

/-- R79: the speed value of a period in µs. -/
def speedOf (k period : Nat) : Nat := min maxSpeed (speedDividend / (k * max 100 period))

/-- R80: the speed condition. -/
def stationary (s : State) : Bool :=
  match s.permit.speed with
  | .unknown => false
  | .stopped | .starting => true
  | .running => decide (s.permit.speedValue < s.config.permit.stationary)

/-- R72: the CLOSE entries of SHUT, NDOR and ODOR need the ignition alone. -/
def closeEntry : Axis → Sense → Bool
  | .shut, .sense1 | .ndor, .sense1 | .odor, .sense1 => true
  | _, _ => false

/-- R80: CHASSIS absent. -/
def chassisAbsent (a : Axis) (n : Sense) (s : State) : Bool :=
  !s.permit.ign || (!closeEntry a n && (!s.permit.pbrk || !stationary s))

/-- R81: INTERLOCK absent. -/
def interlockAbsent (a : Axis) (n : Sense) (s : State) : Bool :=
  match a, n with
  | .lift, _ => !endFlag .fold .deploy s
  | .tilt, _ => !endFlag .fold .deploy s || !tiltAllowed s
  | .fold, .sense0 => !endFlag .lift .raise s || !s.axis.level
  | .fold, .sense1 => !endFlag .lift .raise s
  | .odor, .sense0 => decide (s.permit.speed ≠ .stopped)
  | _, _ => false

/-- R86: the policy of a zone; ROOF has none. -/
def zonePolicy (z : Zone) (c : WorkingConfig) : Option ZonePolicy :=
  match z with
  | .rear => some c.permit.policyRear
  | .near => some c.permit.policyNear
  | .off => some c.permit.policyOff
  | .roof => none

/-- R86: ZONE absent: the axis's zone is STRICT and DARK. -/
def zoneAbsent (a : Axis) (s : State) : Bool :=
  decide (zonePolicy (zoneOf a) s.config = some .strict) &&
  decide ((s.beacon.zone.get (zoneOf a)).health = .dark)

/-- R84: LOAD absent. -/
def loadAbsent (a : Axis) (n : Sense) (s : State) : Bool :=
  decide (a = .lift ∧ n = .raise) && s.permit.overload

/-- R72: the set of causes absent for an axis and sense. -/
def absentCauses (a : Axis) (n : Sense) (s : State) : CauseSet :=
  { mode := decide (s.mode.mode ≠ .run)
    chassis := chassisAbsent a n s
    interlock := interlockAbsent a n s
    zone := zoneAbsent a s
    load := loadAbsent a n s }

/-- R72: the whole permit map. -/
def permitMap (s : State) : PerAxis (PerSense CauseSet) :=
  .mk' fun a => ⟨absentCauses a .sense0 s, absentCauses a .sense1 s⟩

/-- R74: a cause other than MODE in the new set that was not in the old. -/
def newlyAbsent (before after : CauseSet) : Bool :=
  (after.chassis && !before.chassis) || (after.interlock && !before.interlock) ||
  (after.zone && !before.zone) || (after.load && !before.load)

/-- R87: the deployed-while-moving condition as the event finds it. -/
def deployMoveNow (s : State) : Bool :=
  if s.permit.deployMove then !stationary s
  else decide (s.permit.speed = .running) && decide (deployMoveSpeed ≤ s.permit.speedValue) &&
    anyDeployed s

/-! ## Pressure (R83 to R85) -/

/-- R83: the pressure in bar, or `none` where the count is out of range. -/
def pressureOf (count : Nat) : Option Nat :=
  if count < 200 ∨ count > 3895 then none else some ((count - 200) * 400 / 3696)

/-- R84, R85: a pressure state judged against a level. -/
def pressureState (level : Nat) (old : Bool) : Option Nat → Bool
  | none => true
  | some p => if level ≤ p then true else if p + pressureHysteresis < level then false else old

/-! ## Zone demand and health (R132, R133, R139) -/

/-- The axes of a zone, in axis order. -/
def axesOf : Zone → List Axis
  | .rear => [.lift, .tilt, .fold, .shut]
  | .near => [.ndor]
  | .off => [.odor]
  | .roof => []

/-- R132: a live STOP covers the axis, or it is FAULTED, or it is deployed while moving. -/
def alertAxis (s : State) (a : Axis) : Bool :=
  (s.hold.table.any fun h => isStop h && h.axes.get a) || faulted a s ||
  (s.permit.deployMove && s.axis.deployed.get a)

/-- R132: a live grant is on the axis. -/
def grantOn (s : State) (a : Axis) : Bool := s.grant.table.any fun g => decide (g.axis = a)

/-- R132: the demand of REAR, NEAR or OFF. -/
def axisZoneDemand (z : Zone) (s : State) : Pattern :=
  if (axesOf z).any (alertAxis s) then .alert
  else if (axesOf z).any (grantOn s) then .fast
  else if (axesOf z).any (fun a => s.axis.deployed.get a) then .slow
  else .none

/-- R130: the order of the demands. -/
def patternRank : Pattern → Nat
  | .none => 0 | .slow => 1 | .fast => 2 | .alert => 3

/-- The higher of two demands. -/
def higher (p q : Pattern) : Pattern := if patternRank p < patternRank q then q else p

/-- R132, R133: the demand of a zone; ROOF takes the highest of the other three. -/
def zoneDemand (z : Zone) (s : State) : Pattern :=
  match z with
  | .roof => higher (axisZoneDemand .rear s) (higher (axisZoneDemand .near s) (axisZoneDemand .off s))
  | z => axisZoneDemand z s

/-- The channels assigned to a zone, in channel-number order. -/
def lampsOf (z : Zone) (s : State) : List Lamp :=
  Lamp.list.filter fun c => decide (s.config.lamp.zone.get c = some z)

/-- R136: a zone's OK channels in channel-number order. -/
def okLamps (z : Zone) (s : State) : List Lamp :=
  (lampsOf z s).filter fun c => decide ((s.beacon.lamp.get c).state = .ok)

/-- R139: the health of a zone. -/
def zoneHealth (z : Zone) (s : State) : Health :=
  if okLamps z s = [] then .dark
  else if okLamps z s = lampsOf z s then .lit
  else .degraded

/-! ## Modes -/

/-- R147: the modes in which ports may be enabled. -/
def linkMode : Mode → Bool
  | .off | .wake => false
  | .check | .run | .defer | .retry | .barred | .closedown => true

/-- R147: a port is enabled. -/
def portEnabled (l : Link) (s : State) : Bool :=
  linkMode s.mode.mode &&
  (decide (l = .sl0) || (s.mode.strapLinks.get l && (s.config.profile.get l).enabled))

/-- R111: the modes in which the outputs are not forced off. -/
def shapedMode : Mode → Bool
  | .run | .closedown => true
  | .off | .wake | .check | .defer | .retry | .barred => false

/-- R172: the supply and temperature window, from the last sample. Supply in 0.1 V. -/
def supplyWindow (s : State) : Bool :=
  decide (200 ≤ s.mode.supply ∧ s.mode.supply ≤ 300 ∧ s.mode.temperature < 135)

/-- R91, R52: the 10 ms work runs in every mode but OFF, and not before a WAKE whose load waits
for a save has taken its steps (R171). -/
def working (s : State) : Bool := decide (s.mode.mode ≠ .off) && !s.mode.loadWaits

/-- R175: no fitted axis deployed and no grant live. -/
def nothingOut (s : State) : Bool := !anyDeployed s && s.grant.table.isEmpty

end Sys2Proof.Machine
end

