-- ==== Sys2Proof/Machine/Drive.lean ====
section
/-! DEFINITION. The drive shaper (Chapter 5): starting and ending the drive of an axis, the gated
wind-down, the output force, the demand filter, the effective limit, the ramp, coil current and
dither. -/

namespace Sys2Proof.Machine

/-! ## Start, end, force (R92, R101, R102, R103, R111) -/

/-- The diverters after one is set for an axis: D1 for TILT, D2 for FOLD. -/
def setDiverter (a : Axis) (v : Option Sense) (d : DriveShaper) : DriveShaper :=
  match a with
  | .tilt => { d with d1 := v }
  | .fold => { d with d2 := v }
  | .lift | .shut | .ndor | .odor => d

/-- R101: what the drive shaper does at the start of a grant. The output is not changed. -/
def driveStart (g : Grant) (s : State) : State :=
  let d := s.drive
  let d := { d with driving := d.driving.set g.axis (some ⟨g.handle, g.station, g.sense⟩) }
  let d :=
    if pumpSense g.axis g.sense then
      { d with pumpClosed := true, startDelay := d.startDelay.set g.axis (some startDelayMs) }
    else d
  let d := setDiverter g.axis (some g.sense) d
  let d := if g.axis = .fold then { d with foldTravel := some 0 } else d
  let d :=
    match motorOf g.axis with
    | some m => { d with direction := d.direction.set m (some g.sense) }
    | none => d
  s.setDrive d

/-- R92: with no driving grant the output, the coil commands and the motor duty of an axis are
0. -/
def zeroAxis (a : Axis) (d : DriveShaper) : DriveShaper :=
  let d := { d with output := d.output.set a 0 }
  match a with
  | .lift => { d with coil := { d.coil with c1 := 0, c2 := 0 } }
  | .tilt => { d with coil := { d.coil with c3 := 0 } }
  | .fold => { d with coil := { d.coil with c4 := 0 } }
  | .shut => { d with duty := { d.duty with shut := 0 } }
  | .ndor => { d with duty := { d.duty with ndor := 0 } }
  | .odor => { d with duty := { d.duty with odor := 0 } }

/-- R92, R103, R104: what the drive shaper does when the driving grant of an axis is retired or
cut. A HYD axis opens the pump contactor; a promotion in the same event closes it again. -/
def driveEnd (a : Axis) (s : State) : State :=
  let d := zeroAxis a s.drive
  let d := { d with driving := d.driving.set a none, startDelay := d.startDelay.set a none }
  let d := setDiverter a none d
  let d := if a = .fold then { d with foldTravel := none } else d
  let d := if resourceOf a = .hyd then { d with pumpClosed := false } else d
  let d :=
    match motorOf a with
    | some m => { d with direction := d.direction.set m none }
    | none => d
  s.setDrive d

/-- R102: a ramped ending or a pause while the motor axis's gate is HELD or LATCH sets its output
and duty to 0 at once. -/
def gatedStop (a : Axis) (s : State) : State :=
  match motorOf a with
  | none => s
  | some m =>
    if (s.panel.axis.get m).gate = .pass then s
    else s.setDrive { s.drive with output := s.drive.output.set a 0, duty := s.drive.duty.set m 0 }

/-- R111: every output, coil command and motor duty 0, the contactor OPEN, both diverters
NEUTRAL. -/
def forceDrive (d : DriveShaper) : DriveShaper :=
  { d with output := .all 0, coil := .all 0, duty := .all 0, pumpClosed := false, d1 := none
           d2 := none }

/-- R111, R128: all outputs forced off, the solenoids with them. -/
def forceOutputs (s : State) : State :=
  let p := s.panel
  (s.setDrive (forceDrive s.drive)).setPanel
    { p with latch := ⟨{ p.latch.ndor with solenoid := false },
                       { p.latch.odor with solenoid := false }⟩ }

/-- R111, R113: entry into OFF also stops the dither timer and clears the pump over-time. -/
def stopDrive (s : State) : State :=
  s.setDrive { forceDrive s.drive with ditherTimer := none, pumpOver := 0 }

/-- R91: the LIFT output is sent to the axis status unit. -/
def reportLiftOutput (s : State) : State :=
  s.setAxis { s.axis with liftOutput := s.drive.output.lift }

/-! ## Demand (R93) -/

/-- R93: the demand clamped to 0..1000. -/
def clampDemand (n : Nat) : Nat := min 1000 n

/-- R93: the demand filter. -/
def filterDemand (h held new : Nat) : Nat :=
  let n := clampDemand new
  if held + h ≤ n ∨ n + h ≤ held ∨ n = 0 ∨ n = 1000 then n else held

/-- R7, R93: LIFT and TILT take the demand asked for; every other axis has 1000. -/
def takesDemand : Axis → Bool
  | .lift | .tilt => true
  | .fold | .shut | .ndor | .odor => false

/-! ## The effective limit (R94 to R97) -/

/-- R94: the base limit of an axis and sense. With no row for the band number held the LIFT limit is 0
(DESIGN CHOICE, log 44). -/
def baseLimit (a : Axis) (n : Sense) (s : State) : Nat :=
  let c := s.config.drive
  match a with
  | .lift =>
    match bandInForce s, n with
    | some b, .sense0 => b.raiseLimit
    | some b, .sense1 => b.lowerLimit
    | none, _ => 0
  | .tilt => if tiltAllowed s then c.tiltSpeed else 0
  | .fold => c.runFold
  | .shut => c.runShut
  | .ndor => c.runNdor
  | .odor => c.runOdor

/-- R95: the end override. -/
def endOverride (a : Axis) (n : Sense) (s : State) (l : Nat) : Nat :=
  if endFlag a n s then 0 else l

/-- R96: the load derate. -/
def loadDerate (a : Axis) (n : Sense) (s : State) (l : Nat) : Nat :=
  if a = .lift ∧ n = .raise ∧ s.permit.derate = true then l / 4 else l

/-- R97: the zone derate. -/
def zoneDerate (a : Axis) (s : State) (l : Nat) : Nat :=
  if zonePolicy (zoneOf a) s.config = some .tolerant ∧
      (s.beacon.zone.get (zoneOf a)).health = .dark then l / 2 else l

/-- R94 to R97: the effective limit. -/
def effectiveLimit (a : Axis) (n : Sense) (s : State) : Nat :=
  zoneDerate a s (loadDerate a n s (endOverride a n s (baseLimit a n s)))

/-- R98: the target of a driving grant. -/
def targetOf (g : Grant) (limit : Nat) : Nat :=
  if g.state = .driving then min g.demand limit else 0

/-! ## The ramp (R99, R100) -/

/-- R99: the step size of a non-zero ramp time: 10000 ÷ R, rounded up. -/
def rampStep (time : Nat) : Nat := (10000 + time - 1) / time

/-- R100: the amount of one step over a distance. -/
def rampAmount (profile : RampProfile) (time distance : Nat) : Nat :=
  match profile with
  | .linear => min (rampStep time) distance
  | .eased => min (rampStep time) (max 1 ((distance + 7) / 8))

/-- R99, R100: one ramp step of an axis from an output towards a target. -/
def rampTo (a : Axis) (target output : Nat) (c : DriveItems) : Nat :=
  if output < target then
    let time := c.rampUp.get a
    if time = 0 then target else output + rampAmount (c.profile.get a) time (target - output)
  else if target < output then
    let time := c.rampDown.get a
    if time = 0 then target else output - rampAmount (c.profile.get a) time (output - target)
  else output

/-- R109: the gate of a motor axis acting on the clamped output `o`. -/
def gateOutput (gate : Gate) (g : Grant) (a : Axis) (limit target o : Nat) (c : DriveItems) : Nat :=
  match gate with
  | .pass => rampTo a target o c
  | .held => 0
  | .latch => if g.state = .driving then min latchDuty limit else 0

/-- The gate of an axis; a platform axis has none, which is PASS. -/
def gateOf (a : Axis) (s : State) : Gate :=
  match motorOf a with
  | some m => (s.panel.axis.get m).gate
  | none => .pass

/-- R91 steps 2 to 4: the output of an axis after a period under its driving grant. -/
def nextOutput (g : Grant) (s : State) : Nat :=
  let a := g.axis
  let limit := effectiveLimit a g.sense s
  let clamped := min (s.drive.output.get a) limit
  match s.drive.startDelay.get a with
  | some (_ + 1) => 0
  | _ => gateOutput (gateOf a s) g a limit (targetOf g limit) clamped s.config.drive

/-- R101: the start delay after a period. -/
def nextDelay : Option Nat → Option Nat
  | none => none
  | some d => if d ≤ periodMs then none else some (d - periodMs)

/-! ## Coils and motors (R106, R107, R109) -/

/-- R106: base current of a channel at an output. -/
def baseCurrent (imin imax o : Nat) : Nat := if o = 0 then 0 else imin + o * (imax - imin) / 1000

/-- R107: the command of a channel with its dither. -/
def ditherCommand (phase : DitherPhase) (amplitude imax i : Nat) : Nat :=
  if i = 0 then 0
  else
    match phase with
    | .plus => min imax (i + amplitude)
    | .minus => i - amplitude

/-- R106: the base current of a channel: that of the driving grant's sense, else 0. -/
def channelBase (c : Coil) (s : State) : Nat :=
  match drivingGrant (axisOfCoil c) s with
  | none => 0
  | some g =>
    if coilOf g.axis g.sense = some c then
      baseCurrent (s.config.drive.imin.get c) (s.config.drive.imax.get c)
        (s.drive.output.get g.axis)
    else 0

/-- R107: the coil command of a channel. -/
def coilCommand (c : Coil) (s : State) : Nat :=
  ditherCommand s.drive.ditherPhase s.config.drive.ditherAmplitude (s.config.drive.imax.get c)
    (channelBase c s)

/-- Set the command of a channel. -/
def setCoil (c : Coil) (s : State) : State :=
  s.setDrive { s.drive with coil := s.drive.coil.set c (coilCommand c s) }

/-- R91 step 6: set the coil command or the motor duty of an axis from its output. -/
def setActuator (a : Axis) (s : State) : State :=
  match a with
  | .lift => setCoil .c2 (setCoil .c1 s)
  | .tilt => setCoil .c3 s
  | .fold => setCoil .c4 s
  | .shut => s.setDrive { s.drive with duty := s.drive.duty.set .shut (s.drive.output.get .shut) }
  | .ndor => s.setDrive { s.drive with duty := s.drive.duty.set .ndor (s.drive.output.get .ndor) }
  | .odor => s.setDrive { s.drive with duty := s.drive.duty.set .odor (s.drive.output.get .odor) }

/-- R107: the dither phase flips. -/
def flipPhase : DitherPhase → DitherPhase
  | .plus => .minus
  | .minus => .plus

/-- R112: a written drive item takes effect from the next period. The hysteresis and the dither
half-period are read between the periods too, so the period brings their written values into force: the
filter of R93 and the next load of the dither timer take them (log 51). Every other drive item is read by a
period, or by a flip whose base currents are 0 for as long as a write is let through. -/
def takeDriveItems (s : State) : State :=
  s.setDrive { s.drive with
    hysteresisInForce := s.config.drive.hysteresis
    halfPeriodInForce := s.config.drive.ditherHalfPeriod }

/-- R107: the end of a dither half-period: the phase flips, the timer is loaded again with the half-period
in force (R112, log 51) and every coil command is set, once the timer has run out (log 6). -/
def ditherFlip (s : State) : State :=
  if s.drive.ditherTimer = some 0 then
    let s := s.setDrive { s.drive with
      ditherPhase := flipPhase s.drive.ditherPhase
      ditherTimer := some s.drive.halfPeriodInForce }
    forEach setCoil Coil.list s
  else s

end Sys2Proof.Machine
end

