-- ==== Sys2Proof/Machine/Panel.lean ====
section
/-! DEFINITION. The panel sequencer's own steps (Chapter 6): judging an axis at rest, starting,
winding down, resuming and stopping a sequence, and the switch changes of doors and shutter. Its
reports to other blocks are in Machine/Faults.lean. -/

namespace Sys2Proof.Machine

/-- The panel record of a motor axis. -/
def panelOf (m : Motor) (s : State) : PanelRecord := s.panel.axis.get m

/-- Set the panel record of a motor axis. -/
def putPanel (m : Motor) (p : PanelRecord) (s : State) : State :=
  s.setPanel { s.panel with axis := s.panel.axis.set m p }

/-- The latch record of a door. -/
def latchOf (d : Door) (s : State) : LatchRecord := s.panel.latch.get d

/-- Set the latch record of a door. -/
def putLatch (d : Door) (l : LatchRecord) (s : State) : State :=
  s.setPanel { s.panel with latch := s.panel.latch.set d l }

/-! ## At rest (R115, R122) -/

/-- R115: the state of a door at rest from its three switches. -/
def doorAtRest (opened closed latched : Bool) : PanelState :=
  if opened && !closed then .opened
  else if closed && !opened && latched then .closed
  else .partway

/-- R122: the state of the shutter at rest from its switches; with both active it is kept. -/
def shutterAtRest (opened closed : Bool) (old : PanelState) : PanelState :=
  if opened && closed then old
  else if opened then .opened
  else if closed then .closed
  else .partway

/-- R122: the shutter's switch condition. -/
def switchCondition (opened closed : Bool) : Condition :=
  if opened && closed then .standing else .gone

/-! ## Start (R116) -/

/-- R116: the panel record with the sequence grant of a start recorded. -/
def withSequence (g : Grant) (p : PanelRecord) : PanelRecord :=
  { p with seq := some ⟨g.handle, g.station, g.sense, g.kind⟩, travel := some 0
           endReported := false, obstruction := 0 }

/-- Start of a sequence at the latch release: UNLATCHING, gate HELD, solenoid ON, pulse 400. -/
def startUnlatching (d : Door) (p : PanelRecord) (s : State) : State :=
  putLatch d { latchOf d s with solenoid := true, pulse := some latchPulseMs }
    (putPanel (motorOfDoor d) { p with state := .unlatching, gate := .held } s)

/-- Start of a sequence at the latch engage: LATCHING, gate LATCH, engage 1000. -/
def startLatching (d : Door) (p : PanelRecord) (s : State) : State :=
  putLatch d { latchOf d s with engage := some engageMs }
    (putPanel (motorOfDoor d) { p with state := .latching, gate := .latch } s)

/-- R116: the start of a grant on a door. A CLOSE from OPEN is CLOSING with gate PASS whatever the CLOSED
switch, and meets its frame at that switch's next change (DESIGN CHOICE, log 56). -/
def startDoor (d : Door) (g : Grant) (s : State) : State :=
  let m := motorOfDoor d
  let p := withSequence g (panelOf m s)
  match g.sense, p.state with
  | .sense0, .opened => putPanel m { p with gate := .held } s
  | .sense0, .closed => startUnlatching d p s
  | .sense0, _ =>
    if (latchOf d s).latched then startUnlatching d p s
    else putPanel m { p with state := .opening, gate := .pass } s
  | .sense1, .closed => putPanel m { p with gate := .held } s
  | .sense1, .opened => putPanel m { p with state := .closing, gate := .pass } s
  | .sense1, _ =>
    if !p.closedSwitch then putPanel m { p with state := .closing, gate := .pass } s
    else if (latchOf d s).latched then putPanel m { p with state := .closed, gate := .held } s
    else startLatching d p s

/-- R116, R122: the start of a grant on the shutter. While the switch condition stands the state
is kept and the gate is HELD. -/
def startShutter (g : Grant) (s : State) : State :=
  let p := withSequence g (panelOf .shut s)
  let q : PanelRecord :=
    if s.panel.condition = .standing then { p with gate := .held }
    else
      match g.sense, p.state with
      | .sense0, .opened => { p with gate := .held }
      | .sense0, _ => { p with state := .opening, gate := .pass }
      | .sense1, .closed => { p with gate := .held }
      | .sense1, _ =>
        { p with state := .closing, gate := if s.panel.contact then .held else .pass }
  putPanel .shut q s

/-- R116: the panel sequencer's part of a grant's start. -/
def panelStart (g : Grant) (s : State) : State :=
  match g.axis with
  | .shut => startShutter g s
  | .ndor => startDoor .ndor g s
  | .odor => startDoor .odor g s
  | .lift | .tilt | .fold => s

/-! ## Winding down, pausing, resuming, stopping (R120, R121) -/

/-- R120: entry of a sequence grant into EASING or PAUSED. -/
def panelWindDown (a : Axis) (s : State) : State :=
  match motorOf a with
  | none => s
  | some m =>
    let p := panelOf m s
    match p.state with
    | .unlatching =>
      match doorOf m with
      | some d => putLatch d { latchOf d s with solenoid := false, pulse := none } s
      | none => s
    | .latching =>
      match doorOf m with
      | some d => putLatch d { latchOf d s with engage := none } s
      | none => s
    | .opened | .closed => putPanel m { p with gate := .held } s
    | .opening | .closing | .partway => s

/-- R119, R120: a closing door whose CLOSED switch is active with its grant DRIVING. -/
def meetFrame (d : Door) (p : PanelRecord) (s : State) : State :=
  if (latchOf d s).latched then
    putPanel (motorOfDoor d) { p with state := .closed, gate := .held } s
  else startLatching d p s

/-- R120: a resumption continues the sequence of a door from the state kept. -/
def resumeDoor (d : Door) (s : State) : State :=
  let m := motorOfDoor d
  let p := panelOf m s
  let l := latchOf d s
  match p.state with
  | .unlatching =>
    if l.latched then putLatch d { l with solenoid := true, pulse := some latchPulseMs } s
    else putPanel m { p with state := .opening, gate := .pass } s
  | .latching =>
    if l.latched then putPanel m { p with state := .closed, gate := .held } s
    else if p.closedSwitch then
      putLatch d { l with engage := some engageMs } (putPanel m { p with gate := .latch } s)
    else putPanel m { p with state := .closing, gate := .pass } s
  | .closing => if p.closedSwitch then meetFrame d p s else s
  | .closed | .opening | .opened | .partway => s

/-- R120: a resumption; the shutter keeps its state and gate. -/
def panelResume (a : Axis) (s : State) : State :=
  match a with
  | .ndor => resumeDoor .ndor s
  | .odor => resumeDoor .odor s
  | .lift | .tilt | .fold | .shut => s

/-- R121: the state a stopped sequence leaves. -/
def stoppedState : PanelState → PanelState
  | .opened => .opened
  | .closed => .closed
  | .unlatching | .opening | .closing | .latching | .partway => .partway

/-- R121: a sequence stops. -/
def panelStop (a : Axis) (s : State) : State :=
  match motorOf a with
  | none => s
  | some m =>
    let p := panelOf m s
    let s := putPanel m { p with state := stoppedState p.state, seq := none, gate := .pass
                                 travel := none, obstruction := 0, endReported := false } s
    match doorOf m with
    | none => s
    | some d =>
      putLatch d { latchOf d s with solenoid := false, pulse := none, engage := none } s

/-! ## Switch changes (R115, R117 to R119, R122) -/

/-- The sequence grant of a motor axis is DRIVING. -/
def seqDriving (m : Motor) (s : State) : Bool :=
  match (panelOf m s).seq with
  | none => false
  | some q =>
    match findGrant q.handle s with
    | none => false
    | some g => decide (g.state = .driving)

/-- The sequence grant's sense. -/
def seqSense (p : PanelRecord) : Option Sense := p.seq.map (·.sense)

/-- R118, R122: OPENING and the OPEN switch becomes active. -/
def reachOpen (p : PanelRecord) : PanelRecord :=
  if seqSense p = some .opening then
    { p with state := .opened, gate := .held, travel := some 0 }
  else { p with state := .opened }

/-- R118, R119, R122: the axis leaves its end; the gate returns to PASS. -/
def leaveEnd (state : PanelState) (p : PanelRecord) : PanelRecord :=
  { p with state := state, gate := .pass, endReported := false }

/-- R118: the OPEN switch of a door under a sequence. A door pushed off its open end returns to OPENING
whatever the run kind of its grant (DEDUCED, log 52). -/
def doorOpenSwitch (d : Door) (active : Bool) (s : State) : State :=
  let m := motorOfDoor d
  let p := panelOf m s
  match p.state with
  | .opening => if active then putPanel m (reachOpen p) s else s
  | .opened =>
    if !active ∧ seqSense p = some .opening then putPanel m (leaveEnd .opening p) s else s
  | _ => s

/-- R119: the CLOSED switch of a door under a sequence. -/
def doorClosedSwitch (d : Door) (active : Bool) (s : State) : State :=
  let m := motorOfDoor d
  let p := panelOf m s
  match p.state with
  | .closing =>
    if active then
      if seqDriving m s then meetFrame d p s else putPanel m { p with gate := .held } s
    else if p.gate = .held then putPanel m { p with gate := .pass } s
    else s
  | .latching =>
    if active then s
    else
      putLatch d { latchOf d s with engage := none }
        (putPanel m { p with state := .closing, gate := .pass } s)
  | .closed =>
    if !active ∧ seqSense p = some .closing then putPanel m (leaveEnd .closing p) s else s
  | _ => s

/-- R117, R119: the LATCH switch of a door under a sequence. -/
def doorLatchSwitch (d : Door) (engaged : Bool) (s : State) : State :=
  let m := motorOfDoor d
  let p := panelOf m s
  match p.state with
  | .unlatching =>
    if !engaged ∧ seqDriving m s then
      putLatch d { latchOf d s with solenoid := false, pulse := none }
        (putPanel m { p with state := .opening, gate := .pass } s)
    else s
  | .latching =>
    if engaged then
      putLatch d { latchOf d s with engage := none }
        (putPanel m { p with state := .closed, gate := .held, travel := some 0 } s)
    else s
  | .closed =>
    if !engaged ∧ p.closedSwitch ∧ seqSense p = some .closing then
      let p := { p with endReported := false }
      if seqDriving m s then startLatching d p s
      else putPanel m { p with state := .closing, gate := .held } s
    else s
  | _ => s

/-- R115: record a door switch's new level. -/
def setDoorSwitch (d : Door) (w : DoorSwitch) (active : Bool) (s : State) : State :=
  let m := motorOfDoor d
  match w with
  | .opened => putPanel m { panelOf m s with openSwitch := active } s
  | .closed => putPanel m { panelOf m s with closedSwitch := active } s
  | .latched => putLatch d { latchOf d s with latched := active } s

/-- The level of a door switch as the panel sequencer holds it. -/
def doorSwitchLevel (d : Door) (w : DoorSwitch) (s : State) : Bool :=
  match w with
  | .opened => (panelOf (motorOfDoor d) s).openSwitch
  | .closed => (panelOf (motorOfDoor d) s).closedSwitch
  | .latched => (latchOf d s).latched

/-- R115: re-judge a door at rest from its switches. -/
def judgeDoor (d : Door) (s : State) : State :=
  let m := motorOfDoor d
  let p := panelOf m s
  putPanel m { p with state := doorAtRest p.openSwitch p.closedSwitch (latchOf d s).latched } s

/-- R115, R117 to R119: a change of a door switch. -/
def doorSwitchChange (d : Door) (w : DoorSwitch) (active : Bool) (s : State) : State :=
  if doorSwitchLevel d w s = active then s
  else
    let s := setDoorSwitch d w active s
    if (panelOf (motorOfDoor d) s).seq.isNone then judgeDoor d s
    else
      match w with
      | .opened => doorOpenSwitch d active s
      | .closed => doorClosedSwitch d active s
      | .latched => doorLatchSwitch d active s

/-- R122: the transition of the shutter under a sequence when a switch becomes active or
inactive. -/
def shutterTransition (w : ShutterSwitch) (active : Bool) (p : PanelRecord) : PanelRecord :=
  match w, active, p.state with
  | .opened, true, .opening => reachOpen p
  | .opened, false, .opened => if seqSense p = some .opening then leaveEnd .opening p else p
  | .closed, true, .closing =>
    if seqSense p = some .closing then
      { p with state := .closed, gate := .held, travel := some 0 }
    else { p with state := .closed }
  | .closed, false, .closed => if seqSense p = some .closing then leaveEnd .closing p else p
  | _, _, _ => p

/-- R122: the shutter when its switch condition goes under a sequence: the switches are judged as
they then stand, and the gate is again the state's own (DESIGN CHOICE, log 17). -/
def shutterCleared (contact : Bool) (p : PanelRecord) : PanelRecord :=
  let p : PanelRecord :=
    match p.state with
    | .opening => { p with gate := .pass }
    | .closing => { p with gate := if contact then .held else .pass }
    | _ => { p with gate := .held }
  shutterTransition .closed p.closedSwitch (shutterTransition .opened p.openSwitch p)

/-- The level of a shutter switch as the panel sequencer holds it. -/
def shutterSwitchLevel (w : ShutterSwitch) (s : State) : Bool :=
  match w with
  | .opened => (panelOf .shut s).openSwitch
  | .closed => (panelOf .shut s).closedSwitch

/-- The shutter's record with a switch's new level. -/
def setShutterSwitch (w : ShutterSwitch) (active : Bool) (p : PanelRecord) : PanelRecord :=
  match w with
  | .opened => { p with openSwitch := active }
  | .closed => { p with closedSwitch := active }

/-- R122: a change of a shutter limit switch. -/
def shutterSwitchChange (w : ShutterSwitch) (active : Bool) (s : State) : State :=
  if shutterSwitchLevel w s = active then s
  else
    let p := setShutterSwitch w active (panelOf .shut s)
    let was := s.panel.condition
    let now := switchCondition p.openSwitch p.closedSwitch
    let s := s.setPanel { s.panel with condition := now }
    let q : PanelRecord :=
      if p.seq.isNone then { p with state := shutterAtRest p.openSwitch p.closedSwitch p.state }
      else if now = .standing then { p with gate := .held }
      else if was = .standing then shutterCleared s.panel.contact p
      else shutterTransition w active p
    putPanel .shut q s

/-- R115, R122, R128: WAKE reads the switches of each motor axis and judges each fitted one at rest. An
axis that is not fitted keeps its state (DESIGN CHOICE, log 53). -/
def wakePanel (s : State) : State :=
  let i := s.inputs
  let door (d : Door) (s : State) : State :=
    let w := i.doors.get d
    let m := motorOfDoor d
    let s := putPanel m { PanelRecord.powerOn with
      state := if s.axis.fitted.get (axisOfMotor m) then doorAtRest w.opened w.closed w.latched
               else (panelOf m s).state
      openSwitch := w.opened, closedSwitch := w.closed } s
    putLatch d { LatchRecord.powerOn with latched := w.latched } s
  let w := i.shutter
  let s := putPanel .shut { PanelRecord.powerOn with
    state := if s.axis.fitted.get .shut then
               shutterAtRest w.opened w.closed (panelOf .shut s).state
             else (panelOf .shut s).state
    openSwitch := w.opened, closedSwitch := w.closed } s
  let s := s.setPanel { s.panel with
    contact := w.contact, condition := switchCondition w.opened w.closed }
  door .odor (door .ndor s)

end Sys2Proof.Machine
end

