-- ==== Sys2Proof/Machine/Grants.lean ====
section
/-! DEFINITION. The grant engine's operations (Chapter 1): entry into DRIVING, EASING and PAUSED,
retirement and cut, the reactions to other blocks, the creation of a grant, and the order of the
GENDs of one event. -/

namespace Sys2Proof.Machine

/-! ## Starting and retiring (R8, R21, R22) -/

/-- R8: entry into DRIVING at creation or promotion: the drive shaper and the panel sequencer
start. -/
def startGrant (g : Grant) (s : State) : State := panelStart g (driveStart g s)

/-- R22 steps 3 and 4: the slot of a retired holder passes to its waiting grant, or becomes
FREE. -/
def passSlot (r : Resource) (s : State) : State :=
  match (slotOf r s).waiting with
  | none => setSlot r ⟨none, none⟩ s
  | some w =>
    match findGrant w s with
    | none => setSlot r ⟨none, none⟩ s
    | some g =>
      let g := { g with state := .driving }
      startGrant g (putGrant g (setSlot r ⟨some w, none⟩ s))

/-- R22 steps 2 to 4: what the retirement of a grant does to its slot and to the blocks that drove
its axis. -/
def leaveSlot (g : Grant) (s : State) : State :=
  let r := resourceOf g.axis
  let slot := slotOf r s
  if slot.holder = some g.handle then passSlot r (panelStop g.axis (driveEnd g.axis s))
  else if slot.waiting = some g.handle then setSlot r { slot with waiting := none } s
  else s

/-- R22: a grant is retired with a reason. A cut (R21) is the same retirement: the drive shaper
sets the axis's output to 0 and the panel sequencer stops within it (R103, R121). -/
def retire (g : Grant) (r : Reason) (s : State) : State :=
  gendDue g r (leaveSlot g (dropGrant g.handle s))

/-- R21: a grant is cut with a reason. -/
def cut (g : Grant) (r : Reason) (s : State) : State := retire g r s

/-- R10: a DRIVING or PAUSED grant enters EASING with a reason, and is retired at once if its
axis's output is 0. -/
def ease (g : Grant) (r : Reason) (s : State) : State :=
  let s := putGrant { g with state := .easing, reason := some r, deadman := none, pause := none } s
  let s := panelWindDown g.axis (gatedStop g.axis s)
  if s.drive.output.get g.axis = 0 then retire g r s else s

/-- R11: a DRIVING grant enters PAUSED; the deadman becomes absent and the pause window is
loaded. -/
def pauseGrant (g : Grant) (s : State) : State :=
  let s := putGrant { g with state := .paused, deadman := none,
                             pause := some s.config.pauseWindow } s
  panelWindDown g.axis (gatedStop g.axis s)

/-- R13: the deadman a HOLD grant is loaded with; a LATCH grant has none. -/
def fullDeadman (k : RunKind) (s : State) : Option Nat :=
  match k with
  | .hold => some s.config.deadman
  | .latch => none

/-- R18: a PAUSED grant returns to DRIVING. -/
def resumeGrant (g : Grant) (s : State) : State :=
  panelResume g.axis
    (putGrant { g with state := .driving, pause := none, deadman := fullDeadman g.kind s } s)

/-! ## Acting on several grants in one event -/

/-- Act on the live grant carrying a handle, if there is one. -/
def onGrant (h : Nat) (f : Grant → State → State) (s : State) : State :=
  match findGrant h s with
  | none => s
  | some g => f g s

/-- Act on the selected grants, WAITING ones first, each as it then stands, so that no grant the
event reaches is promoted within it (R32). -/
def forGrants (sel : Grant → Bool) (f : Grant → State → State) (s : State) : State :=
  let hs := s.grant.table.filter sel
  let first := (hs.filter fun g => decide (g.state = .waiting)).map (·.handle)
  let rest := (hs.filter fun g => decide (g.state ≠ .waiting)).map (·.handle)
  forEach (fun h => onGrant h f) rest (forEach (fun h => onGrant h f) first s)

/-- R21: cut the selected grants. -/
def cutGrants (r : Reason) (sel : Grant → Bool) (s : State) : State :=
  forGrants sel (fun g => cut g r) s

/-- R20: a ramped ending by the state of the grant. -/
def windDown (r : Reason) (g : Grant) (s : State) : State :=
  match g.state with
  | .waiting => retire g r s
  | .driving | .paused => ease g r s
  | .easing => s

/-- R20: a ramped ending of the selected grants. -/
def easeGrants (r : Reason) (sel : Grant → Bool) (s : State) : State :=
  forGrants sel (windDown r) s

/-- R24: a LOCKOUT placed over an axis set. -/
def reactLockout (axes : PerAxis Bool) (s : State) : State :=
  easeGrants .held (fun g => axes.get g.axis) s

/-- R25: a STOP placed over an axis set. -/
def reactStop (axes : PerAxis Bool) (s : State) : State :=
  cutGrants .stopped (fun g => axes.get g.axis) s

/-- R27: an axis becomes FAULTED. -/
def reactFault (a : Axis) (s : State) : State := cutGrants .fault (fun g => decide (g.axis = a)) s

/-- R30: what a link loss does to one grant of its station. -/
def loseLink (m : LinkMode) (g : Grant) (s : State) : State :=
  match g.state, m with
  | .driving, .tolerant => pauseGrant g s
  | .paused, .tolerant => s
  | _, _ => windDown .linkLost g s

/-- R30: link loss, by the link mode in the station's profile when the loss is taken. -/
def reactLinkLoss (l : Link) (s : State) : State :=
  forGrants (fun g => decide (g.station = l)) (loseLink (s.config.profile.get l).mode) s

/-- R29: what a new mode does to the live grants. -/
def reactMode (m : Mode) (s : State) : State :=
  match m with
  | .closedown => easeGrants .mode (fun _ => true) s
  | .defer | .retry | .barred | .check | .off => cutGrants .mode (fun _ => true) s
  | .run | .wake => s

/-- R22: a report naming a sequence grant matches a live record in handle, station, axis and
sense. -/
def reportedGrant (a : Axis) (q : SeqGrant) (s : State) : Option Grant :=
  match findGrant q.handle s with
  | none => none
  | some g => if g.station = q.station ∧ g.axis = a ∧ g.sense = q.sense then some g else none

/-- R28: OBSTRUCTED is reported for a motor axis's sequence grant, which is cut. -/
def reportObstructed (m : Motor) (s : State) : State :=
  match (panelOf m s).seq with
  | none => s
  | some q =>
    match reportedGrant (axisOfMotor m) q s with
    | none => s
    | some g => cut g .obstructed s

/-- R22, R126: END is reported for a sequence grant: a LATCH grant DRIVING or PAUSED is retired. -/
def reportEnd (m : Motor) (q : SeqGrant) (s : State) : State :=
  match reportedGrant (axisOfMotor m) q s with
  | none => s
  | some g =>
    if g.kind = .latch ∧ (g.state = .driving ∨ g.state = .paused) then retire g .atEnd s else s

/-! ## Creating a grant (R3, R6, R7) -/

/-- The rank of a station's profile (R6). -/
def rankOf (l : Link) (s : State) : Nat := (s.config.profile.get l).rank

/-- R7: the record of a granted request, its handle allocated by R3. -/
def newGrant (l : Link) (a : Axis) (n : Sense) (k : RunKind) (demand : Nat) (st : GrantState)
    (s : State) : Grant :=
  { handle := allocate (s.grant.table.map (·.handle)) 255 s.grant.lastHandle
    station := l, axis := a, sense := n, kind := k
    demand := if takesDemand a then clampDemand demand else 1000
    state := st, reason := none, deadman := fullDeadman k s, pause := none }

/-- R7: a record joins the table at the end. -/
def addGrant (g : Grant) (s : State) : State :=
  s.setGrant { s.grant with table := s.grant.table ++ [g], lastHandle := g.handle }

/-- R6: the slot's answer to a request of a rank. -/
inductive SlotAnswer where
  | grant | preempt (holder : Grant) | queue | displace (waiting : Grant) | refuse
  deriving DecidableEq, Repr

/-- R6: the decision table. -/
def decideSlot (r : Resource) (rank : Nat) (s : State) : SlotAnswer :=
  match (slotOf r s).waiting.bind (findGrant · s) with
  | some w => if rankOf w.station s < rank then .displace w else .refuse
  | none =>
    match (slotOf r s).holder.bind (findGrant · s) with
    | none => .grant
    | some h =>
      match h.state with
      | .easing | .waiting => .queue
      | .driving | .paused => if rankOf h.station s < rank then .preempt h else .refuse

/-- R6, R7: a grant created in WAITING behind its resource's holder. -/
def queueGrant (g : Grant) (s : State) : State :=
  let r := resourceOf g.axis
  setSlot r { slotOf r s with waiting := some g.handle } (addGrant g s)

/-- R6, R8: a grant created in DRIVING on a FREE slot. -/
def holdSlot (g : Grant) (s : State) : State :=
  startGrant g (setSlot (resourceOf g.axis) ⟨some g.handle, none⟩ (addGrant g s))

/-! ## The order of one event's GENDs (R23) -/

/-- The creation order of a queued GEND's grant in a table; a message that is no GEND, or whose
grant the event itself created, comes last. -/
def gendOrder (table : List Grant) : OutMsg → Nat
  | .gend h _ _ => table.findIdx fun g => g.handle == h
  | .rply _ _ _ => table.length

/-- Insert a message before the first of a higher order. -/
def insertByOrder (table : List Grant) (m : OutMsg) : List OutMsg → List OutMsg
  | [] => [m]
  | x :: xs =>
    if gendOrder table m < gendOrder table x then m :: x :: xs
    else x :: insertByOrder table m xs

/-- The messages in creation order of their grants, otherwise as they stand. -/
def sortGends (table : List Grant) (l : List OutMsg) : List OutMsg :=
  l.foldl (fun acc m => insertByOrder table m acc) []

/-- R23: the GENDs that an event placed on a queue go out in the creation order the grants had
when the event was taken. -/
def orderPort (before : State) (l : Link) (s : State) : State :=
  let p := portOf l s
  let n := (portOf l before).queue.length
  putPort l { p with
    queue := p.queue.take n ++ sortGends before.grant.table (p.queue.drop n) } s

/-- R23 for every link. -/
def orderGends (before s : State) : State := forEach (orderPort before) Link.list s

end Sys2Proof.Machine
end

