-- ==== Sys2Proof/Machine/Holds.lean ====
section
/-! DEFINITION. The hold table's operations (Chapter 2): placing and retiring a hold, and the ESTOP
line. -/

namespace Sys2Proof.Machine

/-- R37: a new record is placed: the id is allocated (R36), the record joins the table at the end,
the covered axes are reported to the grant engine (R24, R25), and the HOLD notice is reported. -/
def placeHold (kind : HoldKind) (source : HoldSource) (axes : PerAxis Bool) (s : State) : State :=
  let id := allocate (s.hold.table.map (·.id)) 255 s.hold.lastId
  let s := s.setHold { s.hold with
    table := s.hold.table ++ [⟨id, kind, source, axes⟩], lastId := id }
  let s :=
    match kind with
    | .lockout _ => reactLockout axes s
    | .stop _ => reactStop axes s
  raise .hold s

/-- R37: a record leaves the table and the HOLD notice is reported. No grant is told. -/
def retireHold (id : Nat) (s : State) : State :=
  raise .hold (s.setHold { s.hold with table := s.hold.table.filter fun h => h.id != id })

/-- The live hold carrying an id. -/
def findHold (id : Nat) (s : State) : Option Hold := s.hold.table.find? fun h => h.id == id

/-- R33: the zone set of the LINE stop. -/
def roofOnly : PerZone Bool := ⟨false, false, false, true⟩

/-- R46: place the LINE stop if none is live. -/
def placeLineStop (s : State) : State :=
  if lineStopLive s then s else placeHold (.stop roofOnly) .line (.all true) s

/-- R46: the line state follows an assertion or a release. -/
def setLine (asserted : Bool) (s : State) : State :=
  s.setHold { s.hold with line := asserted }

/-- R46: an assertion of the ESTOP line. In OFF it is not taken. -/
def estopAssert (s : State) : State :=
  let s := s.setInputs { s.inputs with estop := true }
  if s.mode.mode = .off then s else placeLineStop (setLine true s)

/-- R46: a release of the ESTOP line. In OFF it is not taken. -/
def estopRelease (s : State) : State :=
  let s := s.setInputs { s.inputs with estop := false }
  if s.mode.mode = .off then s else setLine false s

/-- R47: entry into WAKE reads the line. -/
def wakeHolds (s : State) : State :=
  let s := setLine s.inputs.estop s
  if s.inputs.estop then placeLineStop s else s

end Sys2Proof.Machine
end

