-- ==== Sys2Proof/Machine/Faults.lean ====
section
/-! DEFINITION. Setting a fault on an axis (R66 to R68) and the watches that report one: the coil
watch (R108), the FOLD travel limit (R110), the latch expiries (R117, R119) and the motor axes'
travel and obstruction watches with the END check (R123 to R126). -/

namespace Sys2Proof.Machine

/-- R66, R68: a fault is set on an axis. A report that names an unfitted axis (R60) or one already
FAULTED is dropped. -/
def setFault (a : Axis) (code : FaultCode) (coil : Option Coil) (s : State) : State :=
  if s.axis.fitted.get a = true ∧ s.axis.fault.get a = none then
    let s := s.setAxis { s.axis with
      fault := s.axis.fault.set a (some code)
      stall := if a = .lift then none else s.axis.stall }
    let s := reactFault a s
    enterFault
      { kind := .axisFault code, axis := some a, coil := coil
        position := if a = .lift then some s.axis.position else none, mode := s.mode.mode }
      (raise .fault s)
  else s

/-! ## Drive shaper watches -/

/-- R108: one coil watch at a period. -/
def coilWatchStep (c : Coil) (current : Nat) (s : State) : State :=
  if s.axis.fitted.get (axisOfCoil c) then
    if current > s.config.drive.imax.get c + coilShortMargin then
      let was := s.drive.coilWatch.get c
      let s := s.setDrive { s.drive with coilWatch := s.drive.coilWatch.set c .disarmed }
      if was = .armed then setFault (axisOfCoil c) .coilshort (some c) s else s
    else s.setDrive { s.drive with coilWatch := s.drive.coilWatch.set c .armed }
  else s

/-- R110: TRAVEL on FOLD is reported, and the travel time becomes absent. -/
def foldTravelFault (s : State) : State :=
  setFault .fold .travel none (s.setDrive { s.drive with foldTravel := none })

/-- R110, R91 step 7: the FOLD travel time at a period. -/
def foldTravelStep (s : State) : State :=
  match s.drive.foldTravel, drivingGrant .fold s with
  | some t, some g =>
    if endFlag .fold g.sense s then s.setDrive { s.drive with foldTravel := some 0 }
    else if s.drive.output.get .fold = 0 then s
    else
      let s := s.setDrive { s.drive with foldTravel := some (t + periodMs) }
      if t + periodMs > foldTravelMs then foldTravelFault s else s
  | _, _ => s

/-! ## Panel sequencer watches, at the hand-over of each control period (R114) -/

/-- The state at the end of a sense (R126). -/
def endState : Sense → PanelState
  | .sense0 => .opened
  | .sense1 => .closed

/-- R126: the END check of a motor axis. -/
def endCheck (m : Motor) (s : State) : State :=
  let p := panelOf m s
  match p.seq with
  | none => s
  | some q =>
    if p.endReported = false ∧ p.state = endState q.sense ∧ s.drive.duty.get m = 0 then
      reportEnd m q (putPanel m { p with endReported := true } s)
    else s

/-- R123: the safety edge stops a closing shutter: gate HELD and OBSTRUCTED. -/
def edgeStop (s : State) : State :=
  reportObstructed .shut (putPanel .shut { panelOf .shut s with gate := .held } s)

/-- R123: the shutter is CLOSING with a sequence grant present. -/
def shutterClosing (s : State) : Bool :=
  decide ((panelOf .shut s).state = .closing) && (panelOf .shut s).seq.isSome

/-- R123: the safety edge at a period; a grant promoted within the period is met too (log 60). -/
def edgeCheck (m : Motor) (s : State) : State :=
  if m = .shut ∧ s.panel.contact = true ∧ shutterClosing s = true then edgeStop s else s

/-- R124: OBSTRUCTED is reported and the over-time is set to 0. -/
def obstructionReport (m : Motor) (s : State) : State :=
  reportObstructed m (putPanel m { panelOf m s with obstruction := 0 } s)

/-- R124: the obstruction watch at a period. After a cut of the same hand-over the duty reads 0 (DESIGN
CHOICE, log 55). -/
def obstructionStep (m : Motor) (current : Nat) (s : State) : State :=
  let p := panelOf m s
  if s.drive.duty.get m = 0 ∨ current ≤ s.config.obstruction.get m then
    putPanel m { p with obstruction := 0 } s
  else if p.obstruction + periodMs ≥ obstructionMs then obstructionReport m s
  else putPanel m { p with obstruction := p.obstruction + periodMs } s

/-- R125: TRAVEL on a motor axis is reported, and the travel time becomes absent. -/
def panelTravelFault (m : Motor) (s : State) : State :=
  setFault (axisOfMotor m) .travel none (putPanel m { panelOf m s with travel := none } s)

/-- R125: the travel count at a period. After a cut of the same hand-over the duty reads 0 (DESIGN CHOICE,
log 55). -/
def travelStep (m : Motor) (s : State) : State :=
  let p := panelOf m s
  match p.seq, p.travel with
  | some q, some t =>
    if p.state = endState q.sense then putPanel m { p with travel := some 0 } s
    else if s.drive.duty.get m = 0 then s
    else
      let s := putPanel m { p with travel := some (t + periodMs) } s
      if t + periodMs > travelLimitMs m then panelTravelFault m s else s
  | _, _ => s

/-- R114: what the panel sequencer does for one motor axis at a control period, in order. A sequence
started within the period is met too (DESIGN CHOICE, log 60). -/
def panelPeriod (m : Motor) (current : Nat) (s : State) : State :=
  travelStep m (obstructionStep m current (edgeCheck m (endCheck m s)))

/-! ## Latch expiries -/

/-- R117: the latch pulse ends with the latch still ENGAGED. An expiry that finds the pulse loaded again
does not happen (log 6). -/
def latchPulseExpired (d : Door) (s : State) : State :=
  if (latchOf d s).pulse = some 0 then
    setFault (axisOfMotor (motorOfDoor d)) .latchstuck none
      (putLatch d { latchOf d s with solenoid := false, pulse := none } s)
  else s

/-- R119: the engage ends with the latch still RELEASED. An expiry that finds the engage loaded again
does not happen (log 6). -/
def engageExpired (d : Door) (s : State) : State :=
  if (latchOf d s).engage = some 0 then
    setFault (axisOfMotor (motorOfDoor d)) .latchmiss none
      (putLatch d { latchOf d s with engage := none } s)
  else s

/-! ## The limits as events of their own -/

/-- R110: the FOLD travel limit is passed while a travel time is kept. -/
def foldTravelEvent (s : State) : State :=
  if s.drive.foldTravel.isSome then foldTravelFault s else s

/-- R124: the obstruction over-time reaches 200 ms. It counts only under a duty. -/
def obstructionEvent (m : Motor) (s : State) : State :=
  if s.drive.duty.get m = 0 then s else obstructionReport m s

/-- R125: the travel limit of a motor axis is passed while a travel time is kept. -/
def panelTravelEvent (m : Motor) (s : State) : State :=
  if (panelOf m s).travel.isSome then panelTravelFault m s else s

/-! ## Panel switch events, in every mode except OFF (R115, R122, R123) -/

/-- R115: a door switch changes; the input follows in every mode. -/
def doorEvent (d : Door) (w : DoorSwitch) (active : Bool) (s : State) : State :=
  let i := s.inputs.doors.get d
  let i : DoorSwitches :=
    match w with
    | .opened => { i with opened := active }
    | .closed => { i with closed := active }
    | .latched => { i with latched := active }
  let s := s.setInputs { s.inputs with doors := s.inputs.doors.set d i }
  if s.mode.mode = .off then s else doorSwitchChange d w active s

/-- R122: a shutter limit switch changes; the input follows in every mode. -/
def shutterEvent (w : ShutterSwitch) (active : Bool) (s : State) : State :=
  let i := s.inputs.shutter
  let i : ShutterSwitches :=
    match w with
    | .opened => { i with opened := active }
    | .closed => { i with closed := active }
  let s := s.setInputs { s.inputs with shutter := i }
  if s.mode.mode = .off then s else shutterSwitchChange w active s

/-- R123: the safety edge changes; the input follows in every mode. -/
def edgeEvent (contact : Bool) (s : State) : State :=
  let s := s.setInputs { s.inputs with shutter := { s.inputs.shutter with contact := contact } }
  if s.mode.mode = .off ∨ s.panel.contact = contact then s
  else
    let s := s.setPanel { s.panel with contact := contact }
    if contact = true ∧ shutterClosing s = true then edgeStop s else s

end Sys2Proof.Machine
end

