-- ==== Sys2Proof/Machine/Permits.lean ====
section
/-! DEFINITION. The permit monitor's events (Chapter 4): recomputing the permit map and reporting
newly absent causes, the deployed-while-moving condition, the chassis lines, the road speed and
the pressure. -/

namespace Sys2Proof.Machine

/-- R73, R74: the whole map is recomputed, and the grants whose axis and sense has a newly absent
cause other than MODE react by R26. -/
def recomputePermits (s : State) : State :=
  let before := s.permit.map
  let after := permitMap s
  easeGrants .permit
    (fun g => newlyAbsent ((before.get g.axis).get g.sense) ((after.get g.axis).get g.sense))
    (s.setPermit { s.permit with map := after })

/-- R87: the deployed-while-moving condition is judged; a change to SET is reported. -/
def judgeDeployMove (s : State) : State :=
  let now := deployMoveNow s
  let was := s.permit.deployMove
  let s := s.setPermit { s.permit with deployMove := now }
  if now && !was then raise .deploymove s else s

/-- R73, R87: a change of speed or of the reported axis flags, or a write of the stationary
threshold (R88). -/
def permitEvent (s : State) : State := recomputePermits (judgeDeployMove s)

/-! ## Lines (R76) -/

/-- R76: the permit monitor takes a new IGN level; in OFF it does not. -/
def permitIgn (on : Bool) (s : State) : State :=
  if s.mode.mode = .off then s else recomputePermits (s.setPermit { s.permit with ign := on })

/-- R76: a change of the PBRK line; in OFF it is not taken. -/
def pbrkEvent (applied : Bool) (s : State) : State :=
  let s := s.setInputs { s.inputs with pbrk := applied }
  if s.mode.mode = .off then s
  else recomputePermits (s.setPermit { s.permit with pbrk := applied })

/-! ## Road speed (R77 to R79) -/

/-- The speed record's two judged fields, to see whether an event changed them. -/
def speedPair (s : State) : SpeedState × Nat := (s.permit.speed, s.permit.speedValue)

/-- R73, R87: judge again if the speed state or value changed. -/
def afterSpeed (before : State) (s : State) : State :=
  if speedPair before = speedPair s then s else permitEvent s

/-- R77: a pulse arrival with its period in µs. -/
def pulseArrival (period : Nat) (s : State) : State :=
  if s.mode.mode = .off then s
  else
    let p := { s.permit with pulseTimer := some pulseTimerMs }
    let p :=
      match p.speed with
      | .unknown | .stopped => { p with speed := .starting, speedValue := 0, lastPeriod := none }
      | .starting | .running =>
        { p with speed := .running, lastPeriod := some period
                 speedValue := speedOf s.config.permit.pulsesPerKm period }
    afterSpeed s (s.setPermit p)

/-- R78: one second has passed without a pulse. An expiry that waits behind an arrival finds the timer
started again and does not happen (log 6). -/
def pulseTimerExpiry (s : State) : State :=
  if s.permit.pulseTimer = some 0 ∧ s.mode.mode ≠ .off then
    afterSpeed s (s.setPermit { s.permit with
      speed := .stopped, speedValue := 0, lastPeriod := none, pulseTimer := none })
  else s

/-- R79: a RUNNING speed value is recomputed from the last period with the K in force. -/
def recomputeSpeed (s : State) : State :=
  match s.permit.speed, s.permit.lastPeriod with
  | .running, some p =>
    s.setPermit { s.permit with speedValue := speedOf s.config.permit.pulsesPerKm p }
  | _, _ => s

/-! ## Pressure (R83 to R85) -/

/-- R83 to R85: the pressure sample of the input as it stands. -/
def samplePressure (s : State) : State :=
  let p := pressureOf s.inputs.pressure
  let items := s.config.permit
  let was := s.permit.overload
  let s := s.setPermit { s.permit with
    pressure := p
    overload := pressureState items.overload s.permit.overload p
    derate := pressureState items.derate s.permit.derate p }
  if s.permit.overload = was then s else recomputePermits s

/-- R83: a pressure sample is taken in every mode except OFF. -/
def pressureEvent (count : Nat) (s : State) : State :=
  let s := s.setInputs { s.inputs with pressure := count }
  if working s then samplePressure s else s

end Sys2Proof.Machine
end

