-- ==== Sys2Proof/Machine/AxisStatus.lean ====
section
/-! DEFINITION. The axis status unit's sample (R52) and what a configuration write, a reset or a
WAKE makes of it (R60, R61, R71). -/

namespace Sys2Proof.Machine

/-- R52 step 1: the readings, the FOLD switches, and the panel states and shutter condition as the
panel sequencer last reported them. Those of an axis that is not fitted are taken too and used by no
later step (DESIGN CHOICE, log 46). -/
def takeReadings (s : State) : State :=
  let i := s.inputs.axes
  s.setAxis { s.axis with
    liftReading := i.lift, tiltReading := i.tilt, stowed := i.stowed, unfolded := i.deployed
    panelState := ⟨(panelOf .shut s).state, (panelOf .ndor s).state, (panelOf .odor s).state⟩
    shutSwitch := s.panel.condition }

/-- R53 to R55, R62: LIFT computed from its reading; held values while the condition stands. -/
def computeLift (c : WorkingConfig) (u : AxisUnit) : AxisUnit :=
  let cond := liftCondition c.calibration u.liftReading
  let u := { u with condition := { u.condition with lift := cond } }
  match cond with
  | .standing =>
    { u with ends := { u.ends with lift := ⟨false, false⟩ }
             deployed := { u.deployed with lift := true } }
  | .gone =>
    let p := liftPosition c.calibration u.liftReading
    let e := liftEnds c.calibration p
    { u with position := p, ends := { u.ends with lift := e }, band := bandAt c.bands p
             deployed := { u.deployed with lift := !e.sense0 } }

/-- R56, R57: TILT computed from its reading. -/
def computeTilt (c : WorkingConfig) (u : AxisUnit) : AxisUnit :=
  let cond := tiltCondition c.calibration u.tiltReading
  let u := { u with condition := { u.condition with tilt := cond } }
  match cond with
  | .standing =>
    { u with ends := { u.ends with tilt := ⟨false, false⟩ }, level := false
             deployed := { u.deployed with tilt := true } }
  | .gone =>
    let a := tiltAngle c.calibration u.tiltReading
    let lv := tiltLevel c.calibration a
    { u with angle := a, ends := { u.ends with tilt := tiltEnds c.calibration a }, level := lv
             deployed := { u.deployed with tilt := !lv } }

/-- R58: FOLD computed from its switch levels. -/
def computeFold (u : AxisUnit) : AxisUnit :=
  let e := foldEnds u.stowed u.unfolded
  { u with condition := { u.condition with fold := foldCondition u.stowed u.unfolded }
           ends := { u.ends with fold := e }, deployed := { u.deployed with fold := !e.sense0 } }

/-- R59: SHUT mirrored from the panel sequencer. -/
def computeShut (u : AxisUnit) : AxisUnit :=
  let stands := u.shutSwitch = .standing
  let p := u.panelState.shut
  { u with condition := { u.condition with shut := u.shutSwitch }
           ends := { u.ends with shut := if stands then ⟨false, false⟩ else panelEnds p }
           deployed := { u.deployed with shut := decide (stands ∨ p ≠ .closed) } }

/-- R59: a door mirrored from the panel sequencer. -/
def computeDoor (d : Door) (u : AxisUnit) : AxisUnit :=
  let m := motorOfDoor d
  let p := u.panelState.get m
  { u with ends := u.ends.set (axisOfMotor m) (panelEnds p)
           deployed := u.deployed.set (axisOfMotor m) (decide (p ≠ .closed)) }

/-- R52 steps 2 and 3 for the fitted axes. -/
def computeAxes (c : WorkingConfig) (u : AxisUnit) : AxisUnit :=
  let u := if u.fitted.lift then computeLift c u else u
  let u := if u.fitted.tilt then computeTilt c u else u
  let u := if u.fitted.fold then computeFold u else u
  let u := if u.fitted.shut then computeShut u else u
  let u := if u.fitted.ndor then computeDoor .ndor u else u
  if u.fitted.odor then computeDoor .odor u else u

/-- R52 step 4: a fitted axis whose condition stands and which is not FAULTED takes its fault. -/
def conditionFaultStep (a : Axis) (s : State) : State :=
  if conditionOf s.axis.condition a = .standing then setFault a (conditionFault a) none s else s

/-- R65: the position differs from the reference by 5 mm or more. -/
def movedOff (reference position : Nat) : Bool :=
  decide (reference + stallMove ≤ position ∨ position + stallMove ≤ reference)

/-- R65: the stall watch runs. -/
def stallRuns (s : State) : Bool :=
  s.axis.fitted.lift && !faulted .lift s && decide (s.axis.condition.lift = .gone) &&
  decide (stallOutput ≤ s.axis.liftOutput)

/-- R65: the stall watch at a sample. -/
def stallStep (s : State) : State :=
  let fresh : StallWindow := ⟨s.axis.position, 0⟩
  if !stallRuns s then s.setAxis { s.axis with stall := none }
  else
    match s.axis.stall with
    | none => s.setAxis { s.axis with stall := some fresh }
    | some w =>
      if movedOff w.reference s.axis.position then s.setAxis { s.axis with stall := some fresh }
      else if w.elapsed + periodMs ≥ stallMs then setFault .lift .stall none s
      else s.setAxis { s.axis with stall := some { w with elapsed := w.elapsed + periodMs } }

/-- R52 step 5: what a sample reports to the permit monitor. -/
def reportedFlags (s : State) : PerAxis (PerSense Bool) × Bool × PerAxis Bool × Nat :=
  (s.axis.ends, s.axis.level, s.axis.deployed, s.axis.band)

/-- R52 step 5: report the flags if any differs from what the previous sample left. -/
def reportFlags (before s : State) : State :=
  if reportedFlags before = reportedFlags s then s else permitEvent s

/-- R52 steps 2 to 4 over the readings held; the stall watch runs only at a sample. The faults of one
sample are set in the order LIFT, TILT, FOLD, SHUT (DESIGN CHOICE, log 54). -/
def evaluateSample (sample : Bool) (s : State) : State :=
  let s := s.setAxis (computeAxes s.config s.axis)
  let s := forEach conditionFaultStep Axis.list s
  if sample then stallStep s else s

/-- R52: a sample of the inputs as they stand. -/
def takeSample (s : State) : State := reportFlags s (evaluateSample true (takeReadings s))

/-- R52, R61, R63: a configuration write taken as a sample of the held readings. -/
def sampleHeld (s : State) : State := reportFlags s (evaluateSample false s)

/-- R52: a sample falls due in every mode except OFF. -/
def axisSampleEvent (i : AxisInputs) (s : State) : State :=
  let s := s.setInputs { s.inputs with axes := i }
  if working s then takeSample s else s

/-- R65: the stall window reaches 2000 ms. -/
def stallEvent (s : State) : State :=
  match s.axis.stall with
  | none => s
  | some _ => setFault .lift .stall none s

/-! ## Resets and WAKE (R60, R71) -/

/-- R60: what an unfitted axis reads as. -/
def unfittedAxis (a : Axis) (u : AxisUnit) : AxisUnit :=
  let e : PerSense Bool :=
    match a with
    | .lift => ⟨true, false⟩
    | .tilt => ⟨false, false⟩
    | .fold | .shut | .ndor | .odor => ⟨false, true⟩
  let u := { u with ends := u.ends.set a e, deployed := u.deployed.set a false
                    fault := u.fault.set a none }
  match a with
  | .lift => { u with condition := { u.condition with lift := .gone }, band := 1 }
  | .tilt => { u with condition := { u.condition with tilt := .gone }, level := true }
  | .fold => { u with condition := { u.condition with fold := .gone } }
  | .shut => { u with condition := { u.condition with shut := .gone } }
  | .ndor | .odor => u

/-- R60: apply `unfittedAxis` to every axis not fitted. -/
def applyFitted (u : AxisUnit) : AxisUnit :=
  Axis.list.foldl (fun u a => if u.fitted.get a then u else unfittedAxis a u) u

/-- R71: RSTLVL 1 recomputes from the held readings with the reloaded items, without setting a
fault; the stall window becomes absent. -/
def recomputeAxes (s : State) : State :=
  s.setAxis { computeAxes s.config s.axis with stall := none }

/-- R71, R176: every fault code cleared. -/
def clearFaults (s : State) : State := s.setAxis { s.axis with fault := .all none }

end Sys2Proof.Machine
end

