-- ==== Sys2Proof/Machine/Beacons.lean ====
section
/-! DEFINITION. The beacon controller (Chapter 7): patterns and stagger, periods and restarts, zone
demand and health, lamp diagnostics, rearming, zone assignment and the lamp test. -/

namespace Sys2Proof.Machine

/-! ## Patterns and stagger (R131, R135) -/

/-- R131: the period of a pattern, in ticks; NONE has none. -/
def patternPeriod : Pattern → Nat
  | .none => 0
  | .slow => 100
  | .fast => 40
  | .alert => 80

/-- R131: the pattern is on at a position. -/
def patternOn (p : Pattern) (pos : Nat) : Bool :=
  match p with
  | .none => false
  | .slow => decide (pos < 50)
  | .fast => decide (pos < 20)
  | .alert => decide (pos < 10 ∨ (20 ≤ pos ∧ pos < 30))

/-- R137: the position at which an on-phase reaches its sixth tick, 50 ms into it. -/
def sixthTick (p : Pattern) (pos : Nat) : Bool :=
  match p with
  | .none => false
  | .slow | .fast => decide (pos = 5)
  | .alert => decide (pos = 5 ∨ pos = 25)

/-- R135: the offset of slot `k` of `n`, in ticks. -/
def slotOffset (p : Pattern) (k n : Nat) : Nat := k * patternPeriod p / n

/-- R131: a channel's position in the pattern. -/
def lampPosition (p : Pattern) (counter k n : Nat) : Nat :=
  (counter + patternPeriod p - slotOffset p k n) % patternPeriod p

/-- R131, R135: the channel at slot `k` is ON at a zone's counter. -/
def slotOn (z : ZoneRecord) (k : Nat) : Bool :=
  let n := z.workingSet.length
  decide (z.demand ≠ .none) &&
  !(z.firstPeriod && decide (z.counter < slotOffset z.demand k n)) &&
  patternOn z.demand (lampPosition z.demand z.counter k n)

/-! ## Reading and writing records -/

def lampOf (c : Lamp) (s : State) : LampRecord := s.beacon.lamp.get c

def putLamp (c : Lamp) (r : LampRecord) (s : State) : State :=
  s.setBeacon { s.beacon with lamp := s.beacon.lamp.set c r }

def zoneRecord (z : Zone) (s : State) : ZoneRecord := s.beacon.zone.get z

def putZone (z : Zone) (r : ZoneRecord) (s : State) : State :=
  s.setBeacon { s.beacon with zone := s.beacon.zone.set z r }

/-- Every channel OFF. -/
def lampsOff (s : State) : State :=
  s.setBeacon { s.beacon with
    lamp := .mk' fun c => { s.beacon.lamp.get c with driven := false } }

/-! ## Working set, drive, restart, tick (R131, R134, R136) -/

/-- R131: drive one channel of a zone for its position; a channel with no slot is OFF. -/
def driveLamp (z : Zone) (c : Lamp) (s : State) : State :=
  let r := lampOf c s
  match r.position with
  | none => putLamp c { r with driven := false } s
  | some k => putLamp c { r with driven := slotOn (zoneRecord z s) k } s

/-- R131: drive every channel of a zone. -/
def driveZone (z : Zone) (s : State) : State := forEach (driveLamp z) (lampsOf z s) s

/-- R136: number the working set's slots in channel-number order; a channel of the zone outside
the set has none. -/
def numberSlots (z : Zone) (set : List Lamp) (s : State) : State :=
  forEach (fun c s =>
    putLamp c { lampOf c s with
      position := if set.contains c then some (set.idxOf c) else none } s) (lampsOf z s) s

/-- R136: fix the working set of a zone. -/
def fixWorkingSet (z : Zone) (s : State) : State :=
  let set := okLamps z s
  numberSlots z set (putZone z { zoneRecord z s with workingSet := set } s)

/-- R134, R136: a zone's period restarts with a demand. -/
def restartZone (z : Zone) (p : Pattern) (s : State) : State :=
  let s := putZone z { zoneRecord z s with demand := p, counter := 0, firstPeriod := true } s
  driveZone z (fixWorkingSet z s)

/-- R136: a period start. -/
def periodStart (z : Zone) (s : State) : State :=
  let old := (zoneRecord z s).workingSet
  let s := fixWorkingSet z s
  putZone z { zoneRecord z s with
    counter := 0, firstPeriod := decide ((zoneRecord z s).workingSet ≠ old) } s

/-- R131: a tick of one zone; under NONE the counter stands at 0. -/
def tickZone (z : Zone) (s : State) : State :=
  let r := zoneRecord z s
  if r.demand = .none then s
  else if r.counter + 1 ≥ patternPeriod r.demand then driveZone z (periodStart z s)
  else driveZone z (putZone z { r with counter := r.counter + 1 } s)

/-! ## Demand (R132 to R134) -/

/-- The demand of a zone is judged: a change restarts its period, or is only recorded during the
lamp test (R134, R142), the counter and the first period kept as they stand (DESIGN CHOICE, log 57). -/
def setDemand (z : Zone) (p : Pattern) (s : State) : State :=
  if (zoneRecord z s).demand = p then s
  else if s.beacon.test.isSome then putZone z { zoneRecord z s with demand := p } s
  else restartZone z p s

/-- R143: demand is judged in every mode but OFF and WAKE. -/
def demandJudged (s : State) : Bool := linkMode s.mode.mode

/-- R132, R133: the event has changed what a zone's demand is judged from. -/
def demandChanged (before : State) (z : Zone) (s : State) : Bool :=
  decide (zoneDemand z before ≠ zoneDemand z s)

/-- R132 to R134: after an event, the demand of each zone whose judgement the event changed. -/
def judgeDemands (before s : State) : State :=
  if demandJudged s then
    forEach (fun z t => if demandChanged before z s then setDemand z (zoneDemand z s) t else t)
      Zone.list s
  else s

/-- R134, R142, R143: every zone restarts its period with its demand as it stands. -/
def restartAll (s : State) : State := forEach (fun z t => restartZone z (zoneDemand z s) t) Zone.list s

/-! ## Health (R139) -/

/-- R139: every zone's health judged; a change of REAR, NEAR or OFF is reported to the permit
monitor. -/
def judgeHealth (s : State) : State :=
  let before := s.beacon.zone
  let set (z : Zone) : ZoneRecord := { before.get z with health := zoneHealth z s }
  let s := s.setBeacon { s.beacon with zone := .mk' set }
  if before.rear.health = s.beacon.zone.rear.health ∧
      before.near.health = s.beacon.zone.near.health ∧
      before.off.health = s.beacon.zone.off.health then s
  else recomputePermits s

/-! ## Diagnostics (R137, R138) -/

/-- R137, R138, R142: a channel fails: OFF, its count and its slot gone, and the LAMP notice
reported. Health is judged after it. -/
def failLamp (st : LampState) (c : Lamp) (s : State) : State :=
  raise .lamp (putLamp c ⟨st, none, none, false⟩ s)

/-- R137: the measurement of one channel, against the open threshold alone; a current above 5 A comes as
LAMP_SHORT (DESIGN CHOICE, log 58). -/
def measureLamp (c : Lamp) (current : Nat) (s : State) : State :=
  let r := lampOf c s
  if s.config.lamp.openThreshold ≤ current then putLamp c { r with openCount := some 0 } s
  else if r.openCount = some 2 then failLamp .failedOpen c s
  else putLamp c { r with openCount := some (r.openCount.getD 0 + 1) } s

/-- R137: a channel is measured at this tick: driven, and its on-phase reaches its sixth tick. -/
def measuredNow (z : Zone) (c : Lamp) (s : State) : Bool :=
  let r := lampOf c s
  let zr := zoneRecord z s
  r.driven &&
    match r.position with
    | none => false
    | some k => sixthTick zr.demand (lampPosition zr.demand zr.counter k zr.workingSet.length)

/-- R137: the measurements of a zone at a tick; under NONE nothing is driven. -/
def measureZone (currents : PerLamp Nat) (z : Zone) (s : State) : State :=
  if (zoneRecord z s).demand = .none then s
  else forEach (fun c t => if measuredNow z c t then measureLamp c (currents.get c) t else t)
    (lampsOf z s) s

/-- R131, R137: a beacon tick. During the lamp test the patterns are stopped (R142). -/
def beaconTick (currents : PerLamp Nat) (s : State) : State :=
  if s.beacon.timebase = true ∧ s.beacon.test = none then
    judgeHealth (forEach (measureZone currents) Zone.list (forEach tickZone Zone.list s))
  else s

/-- R138: a driven channel's current goes above 5 A. -/
def lampShort (c : Lamp) (s : State) : State :=
  if (lampOf c s).driven then judgeHealth (failLamp .short c s) else s

/-! ## Rearming and assignment (R140, R141) -/

/-- R140: what LAMPRA does to a channel. -/
def rearmLamp (c : Lamp) (s : State) : State :=
  let r := lampOf c s
  match r.state with
  | .failedOpen | .short => putLamp c { r with state := .ok, openCount := some 0 } s
  | .ok => putLamp c { r with openCount := some 0 } s
  | .unassigned => s

/-- R140: rearm a set of channels. -/
def rearm (set : PerLamp Bool) (s : State) : State :=
  judgeHealth (forEach (fun c t => if set.get c then rearmLamp c t else t) Lamp.list s)

/-- R141: what a zone write makes of a channel's record. -/
def reassign (old new : Option Zone) (r : LampRecord) : LampRecord :=
  if old = new then r
  else
    match old, new with
    | _, none => ⟨.unassigned, none, none, false⟩
    | none, some _ => ⟨.ok, some 0, none, false⟩
    | some _, some _ => { r with position := none, driven := false }

/-- R141: a zone write of a channel acts within the write. -/
def writeLampZone (c : Lamp) (z : Option Zone) (s : State) : State :=
  let old := s.config.lamp.zone.get c
  let r := reassign old z (lampOf c s)
  let s := s.setConfig { s.config with
    lamp := { s.config.lamp with zone := s.config.lamp.zone.set c z } }
  judgeHealth (putLamp c r s)

/-- R144: at WAKE and RSTLVL 1 every exclusion is cleared and the loaded zones are applied; the
open counts are 0 and every channel is OFF. A channel whose zone changed has no slot (log 36). The demands,
the counters, the timebase and a lamp test are left as they are, in CHECK and CLOSEDOWN too, where the
steps of a WAKE that waited for a save may be taken (DESIGN CHOICE, log 64). -/
def clearExclusions (before : PerLamp (Option Zone)) (s : State) : State :=
  let fresh (c : Lamp) : LampRecord :=
    match s.config.lamp.zone.get c with
    | none => ⟨.unassigned, none, none, false⟩
    | some z =>
      ⟨.ok, some 0, if before.get c = some z then (lampOf c s).position else none, false⟩
  s.setBeacon { s.beacon with lamp := .mk' fresh }

/-! ## The lamp test and the modes (R142, R143) -/

/-- R142: the lamp test starts: every channel OFF, the demands recorded, then every assigned OK
channel ON. The period counters and first periods are kept through the test (DESIGN CHOICE, log 57). -/
def startLampTest (s : State) : State :=
  let lamp (c : Lamp) : LampRecord :=
    let r := s.beacon.lamp.get c
    { r with driven := decide (r.state = .ok) && (s.config.lamp.zone.get c).isSome }
  let zone (z : Zone) : ZoneRecord := { s.beacon.zone.get z with demand := zoneDemand z s }
  s.setBeacon { lamp := .mk' lamp, zone := .mk' zone, timebase := true, test := some ⟨0, false⟩ }

/-- R142: the measurement of one channel lit by the test, against the open threshold alone (log 58). A
channel that a zone write (R141) has set OFF since is not measured (DESIGN CHOICE, log 61). -/
def testLamp (currents : PerLamp Nat) (c : Lamp) (s : State) : State :=
  let r := lampOf c s
  if r.driven then
    if s.config.lamp.openThreshold ≤ currents.get c then
      putLamp c { r with openCount := some 0 } s
    else failLamp .failedOpen c s
  else s

/-- R142: the test has run its 50 ms and has not been measured. -/
def measureDue (t : LampTest) : Bool := decide (lampMeasureMs ≤ t.elapsed) && !t.measured

/-- R142: the measurement at 50 ms into the test. One that waits behind a new start of the test does not
happen (log 6). -/
def lampTestMeasure (currents : PerLamp Nat) (s : State) : State :=
  match s.beacon.test with
  | none => s
  | some t =>
    if measureDue t then
      let s := s.setBeacon { s.beacon with test := some { t with measured := true } }
      judgeHealth (forEach (testLamp currents) Lamp.list s)
    else s

/-- R142: the test is over: every channel OFF and no test in progress. -/
def dropLampTest (s : State) : State :=
  let s := lampsOff s
  s.setBeacon { s.beacon with test := none }

/-- R142: the test ends and every zone restarts its period. -/
def lampTestEnd (s : State) : State :=
  if s.beacon.test.isSome then restartAll (dropLampTest s) else s

/-- R142: the 200 ms of the lamp test have passed. An end that waits behind a new start of the test does
not happen (log 6). -/
def lampTestExpiry (s : State) : State :=
  match s.beacon.test with
  | some t => if lampTestMs ≤ t.elapsed then lampTestEnd s else s
  | none => s

/-- R143, R144: in OFF and WAKE every channel is OFF, the timebase stopped, the demands NONE. -/
def beaconsDark (s : State) : State :=
  let zone (z : Zone) : ZoneRecord :=
    { s.beacon.zone.get z with demand := .none, counter := 0, firstPeriod := true }
  let s := dropLampTest s
  s.setBeacon { s.beacon with zone := .mk' zone, timebase := false }

/-- R143: the beacon controller takes a mode change. -/
def beaconMode (old new : Mode) (s : State) : State :=
  match new with
  | .off | .wake => beaconsDark s
  | .check => startLampTest s
  | .closedown =>
    if old = .wake then
      restartAll (s.setBeacon { s.beacon with timebase := true })
    else lampTestEnd s
  | .run | .defer | .retry | .barred => lampTestEnd s

end Sys2Proof.Machine
end

