-- ==== Sys2Proof/Machine/Ports.lean ====
section
/-! DEFINITION. The station link ports apart from framing (Chapter 8): the symbol layout, entry into
OPENING, SILENCED and DISABLED, link errors, commanded closes, credit in both directions, the idle
timer and transmission. A CREDIT owed is sent at once; the symbols of queued messages are sent when
the transmission of a message is reported (DESIGN CHOICE, log 7). -/

namespace Sys2Proof.Machine

/-! ## The symbol (R146, R157) -/

/-- R146: a symbol as it stands on the line: the kind bit, the payload and the check bit. The start
bit and the stop bit are fixed. -/
structure LineSymbol where
  control : Bool
  payload : Byte
  check : Bool
  deriving DecidableEq, Repr

/-- R146: a symbol of either class. -/
inductive Symbol where
  | credit | fill
  | msg (m : MsgSymbol)
  deriving DecidableEq, Repr

/-- R146: the number of ones among the payload bits is odd. -/
def oddOnes (b : Byte) : Bool :=
  (b.getLsbD 0 ^^ b.getLsbD 1) ^^ (b.getLsbD 2 ^^ b.getLsbD 3) ^^
  (b.getLsbD 4 ^^ b.getLsbD 5) ^^ (b.getLsbD 6 ^^ b.getLsbD 7)

/-- R146: a kind and a payload with the check bit that makes the number of ones odd. -/
def lineSymbol (control : Bool) (payload : Byte) : LineSymbol :=
  ⟨control, payload, !(control ^^ oddOnes payload)⟩

/-- R146: the line form of a symbol. -/
def encodeSymbol : Symbol → LineSymbol
  | .credit => lineSymbol true 0#8
  | .fill => lineSymbol true 1#8
  | .msg .eom => lineSymbol true 2#8
  | .msg .drop => lineSymbol true 3#8
  | .msg (.data b) => lineSymbol false b

/-- R146: the symbol a line form spells, or `none` for a check error. -/
def decodeSymbol (l : LineSymbol) : Option Symbol :=
  if (l.control ^^ oddOnes l.payload ^^ l.check) = false then none
  else if l.control = false then some (.msg (.data l.payload))
  else if l.payload = 0#8 then some .credit
  else if l.payload = 1#8 then some .fill
  else if l.payload = 2#8 then some (.msg .eom)
  else if l.payload = 3#8 then some (.msg .drop)
  else none

/-- R146, R157: the twelve bits of a symbol in the order sent: start, kind, payload from bit 0,
check, stop. -/
def symbolBits (l : LineSymbol) : List Bool :=
  [false, l.control, l.payload.getLsbD 0, l.payload.getLsbD 1, l.payload.getLsbD 2,
    l.payload.getLsbD 3, l.payload.getLsbD 4, l.payload.getLsbD 5, l.payload.getLsbD 6,
    l.payload.getLsbD 7, l.check, true]

/-! ## Entry into the link states (R148, R150, R155) -/

/-- R148: a port in OPENING, its four opening CREDITs sent. -/
def openedPort (rate : Nat) : Port :=
  { Port.rest rate with
    state := .opening, creditGiven := bufferPlaces, idle := some 0, lastSent := some .credit }

/-- R150 steps 1 to 3: a port in SILENCED. -/
def silencedPort (rate : Nat) : Port :=
  { Port.rest rate with state := .silenced, heldLow := some heldLowMs }

/-- R148: a port enters OPENING and takes its rate from the rate item. -/
def enterOpening (l : Link) (s : State) : State := putPort l (openedPort (s.config.rate.get l)) s

/-- R176, R150: the reply of an RSTLVL 1 that waits is dropped once link 0 has left UP. -/
def dropResetReply (l : Link) (s : State) : State :=
  if l = .sl0 then
    s.setStore { s.store with resetWaits := s.store.resetWaits.map fun _ => .dropped }
  else s

/-- R150 step 4: what a port's departure from UP reports. -/
def reportLoss (l : Link) (s : State) : State :=
  raise .link (reactLinkLoss l (dropResetReply l s))

/-- A port takes a resting or silenced record, and reports link loss if it was UP. -/
def leavePort (l : Link) (p : Port) (s : State) : State :=
  if (portOf l s).state = .up then reportLoss l (putPort l p s) else putPort l p s

/-- R150: entry into SILENCED. -/
def enterSilenced (l : Link) (s : State) : State :=
  leavePort l (silencedPort (portOf l s).rate) s

/-- R155, R147: entry into DISABLED. -/
def enterDisabled (l : Link) (s : State) : State :=
  leavePort l (Port.rest (portOf l s).rate) s

/-- R149: a link error of an UP port. -/
def linkError (l : Link) (s : State) : State := enterSilenced l s

/-! ## Commanded closes and enabling (R147, R155) -/

/-- R155: a port enters the target of its close. -/
def enterTarget (t : CloseTarget) (l : Link) (s : State) : State :=
  match t with
  | .silenced => enterSilenced l s
  | .disabled => enterDisabled l s

/-- R155: the target of a close pending after a second commanded close. -/
def joinTarget : CloseTarget → CloseTarget → CloseTarget
  | .silenced, .silenced => .silenced
  | _, _ => .disabled

/-- R155: a commanded close of an UP port. With nothing queued the close is taken at once
(DEDUCED, log 8). -/
def commandedClose (t : CloseTarget) (l : Link) (s : State) : State :=
  let p := portOf l s
  match p.close with
  | some c => putPort l { p with close := some { c with target := joinTarget c.target t } } s
  | none =>
    if p.queue = [] then enterTarget t l s
    else putPort l { p with close := some ⟨t, closeMs⟩ } s

/-- R147, R155: a port that stops being enabled, or that an entry into OFF closes: UP it is given a
commanded close with target DISABLED, in OPENING or SILENCED it becomes DISABLED at once. -/
def stopEnabled (l : Link) (s : State) : State :=
  match (portOf l s).state with
  | .up => commandedClose .disabled l s
  | .opening | .silenced => enterDisabled l s
  | .disabled => s

/-- R147: a port becomes enabled. -/
def startEnabled (l : Link) (s : State) : State :=
  if (portOf l s).state = .disabled then enterOpening l s else s

/-- R147: a port acts on a change of its being enabled. -/
def judgePort (before : State) (l : Link) (s : State) : State :=
  match portEnabled l before, portEnabled l s with
  | false, true => startEnabled l s
  | true, false => stopEnabled l s
  | _, _ => s

/-- R147: every port judged after an event that may enable or disable it. -/
def judgePorts (before s : State) : State := forEach (judgePort before) Link.list s

/-- R155, R158, R170: entry into OFF closes every port to DISABLED, one that was not enabled before and is
not yet DISABLED too. -/
def closePorts (s : State) : State := forEach stopEnabled Link.list s

/-- R147, R155: what a mode change from the state `before` does to the ports. -/
def modePorts (m : Mode) (before s : State) : State :=
  if m = .off then closePorts s else judgePorts before s

/-- R155, R176: RSTLVL 1 closes one operator link. -/
def closeForReset (l : Link) (s : State) : State :=
  match (portOf l s).state with
  | .up => commandedClose .silenced l s
  | .opening => enterSilenced l s
  | .silenced | .disabled => s

/-- R156: what RSTLINK does to the port named. -/
def resetLink (l : Link) (s : State) : State :=
  let p := portOf l s
  match p.state with
  | .disabled => s
  | .opening => enterSilenced l s
  | .up => commandedClose .silenced l s
  | .silenced => putPort l { p with heldLow := some heldLowMs } s

/-! ## Timers (R149, R150, R152, R155) -/

/-- R149: the silence timer has reached 4 ms. -/
def silenceReached (p : Port) : Bool :=
  match p.silence with
  | none => false
  | some n => decide (silenceMs ≤ n)

/-- R149: 4 ms of silence on an UP port. An expiry that waits behind a symbol finds the timer restarted
and does not happen (log 6). -/
def silenceExpiry (l : Link) (s : State) : State :=
  if (portOf l s).state = .up ∧ silenceReached (portOf l s) = true then linkError l s else s

/-- R150: the held-low time of a SILENCED port runs out. An expiry that waits behind an RSTLINK finds it
loaded again and does not happen (log 6). -/
def heldLowExpiry (l : Link) (s : State) : State :=
  if (portOf l s).state = .silenced ∧ (portOf l s).heldLow = some 0 then
    if portEnabled l s then enterOpening l s else enterDisabled l s
  else s

/-- R155: the 4 ms of a close have run out (log 6): the rest of the queue is discarded. -/
def closeExpiry (l : Link) (s : State) : State :=
  match (portOf l s).close with
  | some c => if c.remaining = 0 then enterTarget c.target l s else s
  | none => s

/-! ## Credit (R151, R152) -/

/-- R151: the places neither filled nor promised. -/
def placesOwed (p : Port) : Nat := bufferPlaces - p.buffer.length - p.creditGiven

/-- R151: the port sends the CREDITs it owes, each promising 8 symbols. -/
def returnCredit (p : Port) : Port :=
  if placesOwed p < creditUnit then p
  else
    { p with creditGiven := p.creditGiven + creditUnit * (placesOwed p / creditUnit)
             idle := some 0, lastSent := some .credit }

/-- R152: a CREDIT received in UP raises credit held by 8. -/
def takeCredit (p : Port) : Port := { p with creditHeld := p.creditHeld + creditUnit }

/-- R152: a CREDIT received would raise credit held above 32. -/
def creditOverflow (p : Port) : Bool := decide (bufferPlaces < p.creditHeld + creditUnit)

/-- R151: a DATA, EOM or DROP symbol received enters the buffer within the credit given. -/
def bufferSymbol (m : MsgSymbol) (p : Port) : Port :=
  { p with buffer := p.buffer ++ [m], creditGiven := p.creditGiven - 1 }

/-! ## Transmission (R152, R154) -/

/-- R154: the symbols of a message: its data symbols and EOM. -/
def messageSymbols (m : OutMsg) : List SentSymbol := (outBytes m).map .data ++ [.eom]

/-- R152: the port sends at most `n` symbols of its oldest message, within the credit held. -/
def sendWithinCredit (n : Nat) (m : OutMsg) (p : Port) : Port :=
  let sent := ((messageSymbols m).drop p.position).take (min n p.creditHeld)
  match sent.getLast? with
  | none => p
  | some last =>
    { p with position := p.position + sent.length, creditHeld := p.creditHeld - sent.length
             idle := some 0, lastSent := some last }

/-- R154: the oldest message has been transmitted whole. -/
def whollySent (m : OutMsg) (p : Port) : Bool :=
  decide ((messageSymbols m).length ≤ p.position)

/-- R153: the transmission of a message's EOM ends the message in hand if it is its RPLY. -/
def endsInHand : OutMsg → Bool → Bool
  | .rply _ _ _, _ => false
  | .gend _ _ _, h => h

/-- R152, R154: the port sends at most `n` symbols of its oldest message, as far as its credit goes; a
message whose EOM is sent leaves the queue. -/
def sendOldest (n : Nat) (p : Port) : Port :=
  match p.queue with
  | [] => p
  | m :: rest =>
    let q := sendWithinCredit n m p
    if whollySent m q then
      { q with queue := rest, position := 0, inHand := endsInHand m q.inHand }
    else q

/-- R155: the whole queue sent as far as credit goes. -/
def sendQueue (p : Port) : Port := p.queue.foldl (fun p _ => sendOldest p.creditHeld p) p

/-- R152: the port has a message symbol to send and the credit for it. -/
def mayTransmit (p : Port) : Bool := decide (p.queue ≠ []) && decide (p.creditHeld ≠ 0)

/-- R148, R152: the idle timer has reached 1 ms. -/
def idleReached (p : Port) : Bool :=
  match p.idle with
  | none => false
  | some n => decide (idleMs ≤ n)

/-- R148, R152: the port sends FILL. -/
def sendFill (p : Port) : Port := { p with idle := some 0, lastSent := some .fill }

/-- R155: a port with a close pending whose queue is empty enters the target. -/
def closeIfEmpty (l : Link) (s : State) : State :=
  let p := portOf l s
  match p.close with
  | some c => if p.queue = [] then enterTarget c.target l s else s
  | none => s

end Sys2Proof.Machine
end

