-- ==== Sys2Proof/Machine/Modes.lean ====
section
/-! DEFINITION. The mode controller (Chapter 10): mode changes, entry into each mode, ignition,
supply and temperature, pump overcurrent and the retry history, the straps and the configuration
load, WAKE, and the two reset levels. -/

namespace Sys2Proof.Machine

/-! ## A mode change (R169) -/

/-- R169 step 1: the new mode and its timer. -/
def setModeTimer (m : Mode) (t : Option Nat) (s : State) : State :=
  s.setMode { s.mode with mode := m, timer := t }

/-- R169 step 2: the output force of R111 for a mode. -/
def forceFor (m : Mode) (s : State) : State := if shapedMode m then s else forceOutputs s

/-- R169 step 4: the MODE notice, for a change of mode (log 15). -/
def noticeMode (old new : Mode) (s : State) : State := if old = new then s else raise .mode s

/-- R169: a mode change. The force is applied after the cuts, an order R111 leaves free. -/
def changeMode (m : Mode) (t : Option Nat) (s : State) : State :=
  let old := s.mode.mode
  let u := forceFor m (reactMode m (setModeTimer m t s))
  let u := modePorts m s (beaconMode old m (recomputePermits u))
  noticeMode old m u

/-! ## Entry into OFF, CLOSEDOWN, CHECK, RUN, DEFER, RETRY, BARRED -/

/-- R71, R89, R111, R113, R170: what entry into OFF sets besides the mode change. -/
def offBlocks (s : State) : State :=
  let s := stopDrive s
  let s := s.setAxis { s.axis with stall := none }
  let s := s.setPermit { s.permit with deployMove := false, pulseTimer := none }
  s.setMode { s.mode with history := [], loadWaits := false }

/-- R170: entry into OFF. -/
def enterOff (s : State) : State := judgeAttention (offBlocks (changeMode .off none s))

/-- R175: the closedown time item in ms. -/
def closedownMs (s : State) : Nat := s.config.lamp.closedownTime * 1000

/-- R175: entry into CLOSEDOWN, with the second condition judged and a time of 0 taken. -/
def enterClosedown (s : State) : State :=
  let u := changeMode .closedown (some (closedownMs s)) s
  if closedownMs s = 0 ∨ nothingOut u = true then enterOff u else u

/-- R172: entry into CHECK. -/
def enterCheck (s : State) : State := changeMode .check (some checkMs) s

/-- R75: entry into RUN. -/
def enterRun (s : State) : State := changeMode .run none s

/-- R173: entry into DEFER. -/
def enterDefer (s : State) : State := changeMode .defer none s

/-- R174: entry into RETRY, the report's time added to the history. -/
def enterRetry (s : State) : State :=
  changeMode .retry (some retryMs) (s.setMode { s.mode with history := s.mode.history ++ [0] })

/-- R174: entry into BARRED; with IGN off CLOSEDOWN follows at once. -/
def enterBarred (s : State) : State :=
  let u := changeMode .barred none s
  if u.mode.ign then u else enterClosedown u

/-! ## Timer expiries (R171, R172, R174, R175) -/

/-- A mode's timer has run out: the mode is in force and nothing is left of its timer. An expiry that
waits behind a new entry into the mode does not happen (log 6). -/
def timerDone (m : Mode) (s : State) : Bool := decide (s.mode.mode = m ∧ s.mode.timer = some 0)

/-- R172, R174: RUN or DEFER by the window at the last sample; CLOSEDOWN with IGN off. -/
def leaveByWindow (s : State) : State :=
  if s.mode.ign = false then enterClosedown s
  else if supplyWindow s then enterRun s
  else enterDefer s

/-- R171. -/
def wakeExpiry (s : State) : State := if timerDone .wake s then enterCheck s else s

/-- R172. -/
def checkExpiry (s : State) : State := if timerDone .check s then leaveByWindow s else s

/-- R174. -/
def retryExpiry (s : State) : State := if timerDone .retry s then leaveByWindow s else s

/-- R175. -/
def closedownExpiry (s : State) : State := if timerDone .closedown s then enterOff s else s

/-- R174: a retry history entry that has become 60 s old leaves (log 6). -/
def ageHistory (s : State) : State :=
  match s.mode.history with
  | [] => s
  | a :: rest => if retryAgeMs ≤ a then s.setMode { s.mode with history := rest } else s

/-! ## Pump overcurrent (R105, R174) -/

/-- R174: the PUMPOC fault, with the mode in force. -/
def enterPartFault (k : FaultKind) (s : State) : State :=
  enterFault { kind := k, axis := none, coil := none, position := none, mode := s.mode.mode } s

/-- R174: RETRY, or BARRED with two entries in the history. -/
def reportOvercurrent (s : State) : State :=
  let s := enterPartFault .pumpoc s
  if s.mode.history.length < 2 then enterRetry s else enterBarred s

/-- R105: the over-time reaches 300 ms: it is set to 0 and the report is made. The contactor is
CLOSED only in RUN and CLOSEDOWN (R174). -/
def pumpOvercurrent (s : State) : State :=
  if s.drive.pumpClosed = true ∧ shapedMode s.mode.mode = true then
    reportOvercurrent (s.setDrive { s.drive with pumpOver := 0 })
  else s

/-! ## Supply and temperature (R173) -/

/-- R173: trips, in order. In CHECK or RUN each is entered with the mode in force, then DEFER is
entered; in any other mode nothing happens. -/
def takeTrips (l : List FaultKind) (s : State) : State :=
  match s.mode.mode with
  | .check | .run =>
    if l = [] then s else enterDefer (forEach enterPartFault l s)
  | .off | .wake | .defer | .retry | .barred | .closedown => s

/-- R173: the low count trips. -/
def lowTrip (s : State) : State :=
  takeTrips [.supplylow] (s.setMode { s.mode with lowCount := 0 })

/-- R173: the high count trips. -/
def highTrip (s : State) : State :=
  takeTrips [.supplyhigh] (s.setMode { s.mode with highCount := 0 })

/-- R173: the return count completes; it counts in DEFER alone. -/
def returnComplete (s : State) : State :=
  if s.mode.mode = .defer then
    let s := s.setMode { s.mode with returnCount := 0 }
    if s.mode.ign then enterRun s else enterClosedown s
  else s

/-- R173: a count after a sample. -/
def countStep (rises : Bool) (n : Nat) : Nat := if rises then n + periodMs else 0

/-- R173: a count that has tripped is set to 0. -/
def countTripped (limit n : Nat) : Nat := if limit ≤ n then 0 else n

/-- R173: the trips a sample gives, in the order they are entered. -/
def sampleTrips (low high : Nat) (temperature : Int) : List FaultKind :=
  (if lowTripMs ≤ low then [.supplylow] else []) ++
  (if highTripMs ≤ high then [.supplyhigh] else []) ++
  (if 150 ≤ temperature then [.overtemp] else [])

/-- R173: the supply and temperature are sampled. -/
def supplySample (supply : Nat) (temperature : Int) (s : State) : State :=
  if working s then
    let s := s.setMode { s.mode with supply := supply, temperature := temperature }
    let low := countStep (decide (supply < 180)) s.mode.lowCount
    let high := countStep (decide (320 < supply)) s.mode.highCount
    let ret := countStep (supplyWindow s) s.mode.returnCount
    let s := s.setMode { s.mode with
      lowCount := countTripped lowTripMs low
      highCount := countTripped highTripMs high
      returnCount := countTripped returnMs ret }
    let s := takeTrips (sampleTrips low high temperature) s
    if returnMs ≤ ret then returnComplete s else s
  else s

/-! ## Straps and configuration (R165, R166, R171) -/

/-- R171: the axes a VARIANT code fits. -/
def variantAxes : Option Nat → Option (PerAxis Bool)
  | some 1 => some ⟨true, true, true, true, true, true⟩
  | some 2 => some ⟨true, true, true, true, false, false⟩
  | some 3 => some ⟨false, false, false, true, true, true⟩
  | some 4 => some ⟨true, false, true, true, true, true⟩
  | some 5 => some ⟨true, true, true, true, true, false⟩
  | _ => none

/-- R171: the links a number of operator stations enables. -/
def firstLinks (n : Nat) : PerLink Bool :=
  ⟨true, decide (1 ≤ n), decide (2 ≤ n), decide (3 ≤ n), decide (4 ≤ n), decide (5 ≤ n)⟩

/-- R171: the links a STATIONS code enables. -/
def stationLinks : Option Nat → Option (PerLink Bool)
  | some n => if 1 ≤ n ∧ n ≤ 5 then some (firstLinks n) else none
  | none => none

/-- R171 step 1: the straps are read and kept. -/
def readStraps (s : State) : State :=
  let v := variantAxes s.inputs.straps.variant
  let l := stationLinks s.inputs.straps.stations
  let s := s.setAxis { s.axis with fitted := v.getD (.all true) }
  let s := s.setMode { s.mode with strapLinks := l.getD (firstLinks 3) }
  if v.isNone ∨ l.isNone then raise .strap s else s

/-- R171 step 2: the store is loaded, or the defaults with CFGDEF. -/
def loadConfig (s : State) : State :=
  if s.store.valid then s.setConfig s.store.stored else raise .cfgdef (s.setConfig defaultConfig)

/-! ## WAKE (R171) -/

/-- R89: the permit monitor's state at WAKE. -/
def wakePermits (s : State) : State :=
  s.setPermit { s.permit with
    ign := s.mode.ign, pbrk := s.inputs.pbrk
    speed := .unknown, speedValue := 0, lastPeriod := none, pulseTimer := some pulseTimerMs
    overload := false, derate := false, deployMove := false }

/-- R113: the drive shaper's state at WAKE, with the drive items just loaded in force. -/
def wakeDrive (s : State) : State :=
  takeDriveItems (s.setDrive { DriveShaper.powerOn with
    ditherTimer := some s.config.drive.ditherHalfPeriod })

/-- R60, R71: the axis status unit before its first sample of WAKE. The LIFT output last reported, which
R71 gives no row, is set to 0 (DESIGN CHOICE, log 45). -/
def wakeAxes (s : State) : State :=
  s.setAxis (applyFitted { s.axis with stall := none, liftOutput := 0 })

/-- R144: the beacon controller at WAKE: exclusions cleared, the loaded zones applied, health
judged. -/
def wakeBeacons (before : PerLamp (Option Zone)) (s : State) : State :=
  judgeHealth (clearExclusions before s)

/-- R173: the supply counts are set to 0 at the entry into WAKE. -/
def wakeSupply (s : State) : State :=
  s.setMode { s.mode with lowCount := 0, highCount := 0, returnCount := 0 }

/-- R171 steps 3 and 4. The panel sequencer reads its switches before the first sample mirrors
them (log 13). -/
def wakeBlocks (before : PerLamp (Option Zone)) (s : State) : State :=
  let s := wakeDrive (wakePanel (wakeHolds (wakePermits (wakeAxes s))))
  let s := samplePressure (takeSample (wakeBeacons before s))
  judgeAttention (recomputePermits s)

/-- R171 steps 2 to 5; the timer only while the mode is still WAKE (log 18). -/
def finishWake (s : State) : State :=
  let before := s.config.lamp.zone
  let s := wakeBlocks before (loadConfig (s.setMode { s.mode with loadWaits := false }))
  if s.mode.mode = .wake then s.setMode { s.mode with timer := some wakeMs } else s

/-- R171: entry into WAKE. With a save in progress the load and what follows wait for it. -/
def enterWake (s : State) : State :=
  let s := readStraps (wakeSupply (changeMode .wake none s))
  if s.store.save.isSome then s.setMode { s.mode with loadWaits := true } else finishWake s

/-! ## Ignition (R76, R169) -/

/-- R169: the mode controller takes IGN on. -/
def modeIgnOn (s : State) : State :=
  match s.mode.mode with
  | .off => enterWake s
  | .closedown => enterCheck s
  | .wake | .check | .run | .defer | .retry | .barred => s

/-- R169: the mode controller takes IGN off. -/
def modeIgnOff (s : State) : State :=
  match s.mode.mode with
  | .off | .closedown => s
  | .wake | .check | .run | .defer | .retry | .barred => enterClosedown s

/-- R76, R169: the IGN line comes on. The straps are as they stand at the line's change. R76 lets the two
blocks take it in either order; the permit monitor takes it first here, so that in OFF, where it takes no
change of the line, it has the level from the steps of WAKE alone, which may wait for a save (DESIGN CHOICE,
log 10). -/
def ignOn (straps : Straps) (s : State) : State :=
  let s := s.setInputs { s.inputs with straps := straps }
  if s.mode.ign then s else modeIgnOn (permitIgn true (s.setMode { s.mode with ign := true }))

/-- R76, R169: the IGN line goes off; the permit monitor and the mode controller take it in the
order given. -/
def ignOff (order : IgnOrder) (s : State) : State :=
  if s.mode.ign then
    let s := s.setMode { s.mode with ign := false }
    match order with
    | .permitFirst => modeIgnOff (permitIgn false s)
    | .modeFirst => permitIgn false (modeIgnOff s)
  else s

/-! ## Power-on reset (R170) -/

/-- R170: every piece of state at its power-on value; with IGN on WAKE is entered at once. -/
def powerOnReset (ign : Bool) (inputs : Inputs) (s : State) : State :=
  let s := State.powerOn s.store inputs s.pending
  if ign then enterWake (s.setMode { s.mode with ign := true }) else s

/-! ## Reset levels (R176) -/

/-- R31, R113, R71: every grant cut with reason RESET, the pump over-time 0, and the LIFT output the cut
leaves known to the axis status unit, so that the next sample finds no stall window. -/
def resetGrants (s : State) : State :=
  let s := cutGrants .reset (fun _ => true) s
  reportLiftOutput (s.setDrive { s.drive with pumpOver := 0 })

/-- R87, R89: the reload has changed a reported axis flag or the road speed. -/
def reloadReports (before s : State) : Bool :=
  decide (reportedFlags before ≠ reportedFlags s ∨ speedPair before ≠ speedPair s)

/-- R176 step 2, R71, R89: the store is loaded, the axes and the speed follow the reloaded items, the
deployed-while-moving condition is judged once, over both, if either has changed (DESIGN CHOICE,
log 47) and is kept otherwise, the permit map is recomputed and the ports re-judge their enabling. -/
def resetConfig (s : State) : State :=
  let u := recomputeSpeed (recomputeAxes (loadConfig s))
  let v := if reloadReports s u then judgeDeployMove u else u
  judgePorts s (recomputePermits v)

/-- R176 step 3: links 1 to 5 are closed or silenced. -/
def resetLinks (s : State) : State := forEach closeForReset Link.operators s

/-- R176 step 4: exclusions, fault codes, retry history and notice mask cleared. -/
def resetClear (before : PerLamp (Option Zone)) (s : State) : State :=
  let s := judgeHealth (clearExclusions before s)
  let s := clearFaults s
  let s := s.setMode { s.mode with history := [] }
  judgeAttention (s.setNotice { s.notice with mask := .empty })

/-- R176: RSTLVL 1, steps 1 to 5. -/
def resetLevel1 (s : State) : State :=
  let before := s.config.lamp.zone
  enterCheck (resetClear before (resetLinks (resetConfig (resetGrants s))))

/-- R176, R71: RSTLVL 2. -/
def resetLevel2 (s : State) : State :=
  let s := resetGrants s
  s.setAxis { s.axis with stall := none }

end Sys2Proof.Machine
end

