-- ==== Sys2Proof/Machine/Items.lean ====
section
/-! DEFINITION. The configuration items (R165): their numbers, how each reads, the values each
takes (R12, R61, R88, R112, R127, R141, R145, R159), what refuses a write for a live grant or a
failed lamp, and what an accepted write does within the message. -/

namespace Sys2Proof.Machine

/-- R165: the configuration items. -/
inductive Item where
  | ground | bed | bedHeight | endMargin | levelReading | gain | levelTolerance | upLimit
  | downLimit
  | pulsesPerKm | stationary | overload | derate | policyRear | policyNear | policyOff
  | rampUp (a : Axis) | rampDown (a : Axis) | rampProfile (a : Axis)
  | hysteresis | tiltSpeed | runFold | runShut | runNdor | runOdor
  | imin (c : Coil) | imax (c : Coil) | ditherAmplitude | ditherHalfPeriod | pumpLimit
  | obstruction (m : Motor)
  | lampZone (c : Lamp) | openThreshold | closedownTime
  | rate (l : Link) | deadman | pauseWindow
  | rank (l : Link) | allowed (l : Link) | latched (l : Link) | tagReader (l : Link)
  | linkMode (l : Link) | enabled (l : Link)
  deriving DecidableEq, Repr

/-- R165: the number ranges, each with its first number and its items in order. -/
def itemTable : List (Nat × List Item) :=
  [(1, [.ground, .bed, .bedHeight, .endMargin, .levelReading, .gain, .levelTolerance, .upLimit,
      .downLimit]),
   (16, [.pulsesPerKm, .stationary, .overload, .derate, .policyRear, .policyNear, .policyOff]),
   (32, Axis.list.map .rampUp), (38, Axis.list.map .rampDown), (44, Axis.list.map .rampProfile),
   (50, [.hysteresis, .tiltSpeed, .runFold, .runShut, .runNdor, .runOdor]),
   (56, Coil.list.map .imin), (60, Coil.list.map .imax),
   (64, [.ditherAmplitude, .ditherHalfPeriod, .pumpLimit]),
   (72, Motor.list.map .obstruction), (80, Lamp.list.map .lampZone),
   (92, [.openThreshold, .closedownTime]), (96, Link.list.map .rate), (104, [.deadman]),
   (105, [.pauseWindow]), (112, Link.list.map .rank), (120, Link.list.map .allowed),
   (128, Link.list.map .latched), (136, Link.list.map .tagReader),
   (144, Link.list.map .linkMode), (152, Link.list.map .enabled)]

/-- The item at a number within one range. -/
def itemInRange (n : Nat) (r : Nat × List Item) : Option Item :=
  if r.1 ≤ n then r.2[n - r.1]? else none

/-- R165: the item with a number, if any. -/
def itemOf (n : Nat) : Option Item := itemTable.findSome? (itemInRange n)

/-! ## Reading -/

/-- R141, R165: a lamp zone by its position in the list REAR, NEAR, OFF, ROOF, NONE. -/
def zoneCode : Option Zone → Nat
  | some .rear => 0 | some .near => 1 | some .off => 2 | some .roof => 3 | none => 4

def policyCode : ZonePolicy → Nat
  | .strict => 0 | .tolerant => 1

def rampProfileCode : RampProfile → Nat
  | .linear => 0 | .eased => 1

def linkModeCode : LinkMode → Nat
  | .strict => 0 | .tolerant => 1

/-- R160: an axis-sense set: bit twice the axis code plus the sense code. -/
def allowedBits (p : PerAxis (PerSense Bool)) : Nat :=
  bitsOf (Axis.list.flatMap fun a => [(p.get a).sense0, (p.get a).sense1])

/-- R165: the value of an item in the working configuration. -/
def readItem (c : WorkingConfig) : Item → Int
  | .ground => c.calibration.ground
  | .bed => c.calibration.bed
  | .bedHeight => c.calibration.bedHeight
  | .endMargin => c.calibration.endMargin
  | .levelReading => c.calibration.levelReading
  | .gain => c.calibration.gain
  | .levelTolerance => c.calibration.levelTolerance
  | .upLimit => c.calibration.upLimit
  | .downLimit => c.calibration.downLimit
  | .pulsesPerKm => c.permit.pulsesPerKm
  | .stationary => c.permit.stationary
  | .overload => c.permit.overload
  | .derate => c.permit.derate
  | .policyRear => policyCode c.permit.policyRear
  | .policyNear => policyCode c.permit.policyNear
  | .policyOff => policyCode c.permit.policyOff
  | .rampUp a => c.drive.rampUp.get a
  | .rampDown a => c.drive.rampDown.get a
  | .rampProfile a => rampProfileCode (c.drive.profile.get a)
  | .hysteresis => c.drive.hysteresis
  | .tiltSpeed => c.drive.tiltSpeed
  | .runFold => c.drive.runFold
  | .runShut => c.drive.runShut
  | .runNdor => c.drive.runNdor
  | .runOdor => c.drive.runOdor
  | .imin k => c.drive.imin.get k
  | .imax k => c.drive.imax.get k
  | .ditherAmplitude => c.drive.ditherAmplitude
  | .ditherHalfPeriod => c.drive.ditherHalfPeriod
  | .pumpLimit => c.drive.pumpLimit
  | .obstruction m => c.obstruction.get m
  | .lampZone k => zoneCode (c.lamp.zone.get k)
  | .openThreshold => c.lamp.openThreshold
  | .closedownTime => c.lamp.closedownTime
  | .rate l => c.rate.get l
  | .deadman => c.deadman
  | .pauseWindow => c.pauseWindow
  | .rank l => (c.profile.get l).rank
  | .allowed l => allowedBits (c.profile.get l).allowed
  | .latched l => ((c.profile.get l).latched.toNat : Int)
  | .tagReader l => ((c.profile.get l).tagReader.toNat : Int)
  | .linkMode l => linkModeCode (c.profile.get l).mode
  | .enabled l => ((c.profile.get l).enabled.toNat : Int)

/-! ## Values taken -/

/-- A value lies in a range. -/
def inRange (lo hi v : Int) : Bool := decide (lo ≤ v ∧ v ≤ hi)

/-- A value lies in a range and on its step. -/
def onStep (lo hi step v : Int) : Bool := inRange lo hi v && decide (v % step = 0)

/-- R112: a ramp time: 0, or 50..3000 ms in 10 ms steps. -/
def rampTimeValue (v : Int) : Bool := decide (v = 0) || onStep 50 3000 10 v

/-- R62: the low bound of the last band of the table. -/
def lastLow (bands : List Band) : Nat :=
  match bands.getLast? with
  | some b => b.low
  | none => 0

/-- R165 check 3: a value in range, on its step and through its item's cross-check. -/
def validValue (c : WorkingConfig) (i : Item) (v : Int) : Bool :=
  let k := c.calibration
  match i with
  | .ground => inRange 0 4095 v && decide (v < k.bed)
  | .bed => inRange 0 4095 v && decide ((k.ground : Int) < v)
  | .bedHeight => inRange 300 2000 v && decide ((lastLow c.bands : Int) < v)
  | .endMargin => inRange 2 50 v
  | .levelReading => inRange 0 4095 v
  | .gain => inRange 10 100 v
  | .levelTolerance => inRange 1 50 v && decide (v < k.upLimit ∧ v < -k.downLimit)
  | .upLimit => inRange 10 150 v && decide ((k.levelTolerance : Int) < v)
  | .downLimit => inRange (-150) (-10) v && decide (v < -(k.levelTolerance : Int))
  | .pulsesPerKm => inRange 1000 30000 v
  | .stationary => inRange 5 50 v
  | .overload => inRange 60 250 v && decide ((c.permit.derate : Int) < v)
  | .derate => inRange 50 240 v && decide (v < c.permit.overload)
  | .policyRear | .policyNear | .policyOff => inRange 0 1 v
  | .rampUp _ | .rampDown _ => rampTimeValue v
  | .rampProfile _ => inRange 0 1 v
  | .hysteresis => inRange 0 50 v
  | .tiltSpeed | .runFold | .runShut | .runNdor | .runOdor => inRange 50 1000 v
  | .imin x => inRange 0 1500 v && decide (v ≤ c.drive.imax.get x)
  | .imax x => inRange 0 1500 v && decide ((c.drive.imin.get x : Int) ≤ v)
  | .ditherAmplitude => inRange 0 200 v
  | .ditherHalfPeriod => onStep 5 50 5 v
  | .pumpLimit => inRange 100 400 v
  | .obstruction _ => inRange 2 20 v
  | .lampZone _ => inRange 0 4 v
  | .openThreshold => onStep 50 1000 10 v
  | .closedownTime => inRange 0 300 v
  | .rate _ => decide (v = 625 ∨ v = 1250 ∨ v = 2500)
  | .deadman => onStep 50 1000 10 v
  | .pauseWindow => onStep 100 2000 10 v
  | .rank _ => inRange 0 3 v
  | .allowed _ => inRange 0 4095 v
  | .latched _ | .tagReader _ | .linkMode _ => inRange 0 1 v
  | .enabled l => inRange 0 1 v && !(decide (l = .sl0) && decide (v = 0))

/-! ## Busy (R61, R112, R127, R141, R165 check 2) -/

/-- The axes on which a live grant refuses a write of the item. -/
def busyAxes : Item → List Axis
  | .ground | .bed | .bedHeight | .endMargin => [.lift]
  | .levelReading | .gain | .levelTolerance | .upLimit | .downLimit => [.tilt]
  | .rampUp a | .rampDown a | .rampProfile a => [a]
  | .hysteresis => [.lift, .tilt]
  | .tiltSpeed => [.tilt]
  | .runFold => [.fold]
  | .runShut => [.shut]
  | .runNdor => [.ndor]
  | .runOdor => [.odor]
  | .imin c | .imax c => [axisOfCoil c]
  | .ditherAmplitude | .ditherHalfPeriod | .pumpLimit => [.lift, .tilt, .fold]
  | .obstruction m => [axisOfMotor m]
  | _ => []

/-- R141: the channel is OPEN or SHORT. -/
def lampFailed (c : Lamp) (s : State) : Bool :=
  match (lampOf c s).state with
  | .failedOpen | .short => true
  | .ok | .unassigned => false

/-- R165 check 2 and R141: a write meets a live grant, or would unassign a failed channel. -/
def itemBusy (i : Item) (v : Int) (s : State) : Bool :=
  (busyAxes i).any (grantOn s) ||
  match i with
  | .lampZone c => decide (v = 4) && lampFailed c s
  | _ => false

/-! ## Writing -/

def zoneOfCode (v : Int) : Option Zone :=
  if v = 0 then some .rear else if v = 1 then some .near else if v = 2 then some .off
  else if v = 3 then some .roof else none

def policyOfCode (v : Int) : ZonePolicy := if v = 0 then .strict else .tolerant

def rampProfileOfCode (v : Int) : RampProfile := if v = 0 then .linear else .eased

def linkModeOfCode (v : Int) : LinkMode := if v = 0 then .strict else .tolerant

/-- An axis-sense set from its bits (R160). -/
def allowedOf (n : Nat) : PerAxis (PerSense Bool) :=
  .mk' fun a => ⟨n.testBit (2 * axisCode a), n.testBit (2 * axisCode a + 1)⟩

/-- One profile changed. -/
def setProfile (l : Link) (f : Profile → Profile) (c : WorkingConfig) : WorkingConfig :=
  { c with profile := c.profile.set l (f (c.profile.get l)) }

/-- R165: the working configuration with an item replaced. -/
def writeItem (c : WorkingConfig) (i : Item) (v : Int) : WorkingConfig :=
  let k := c.calibration
  let p := c.permit
  let d := c.drive
  let n := v.toNat
  match i with
  | .ground => { c with calibration := { k with ground := n } }
  | .bed => { c with calibration := { k with bed := n } }
  | .bedHeight => { c with calibration := { k with bedHeight := n } }
  | .endMargin => { c with calibration := { k with endMargin := n } }
  | .levelReading => { c with calibration := { k with levelReading := n } }
  | .gain => { c with calibration := { k with gain := n } }
  | .levelTolerance => { c with calibration := { k with levelTolerance := n } }
  | .upLimit => { c with calibration := { k with upLimit := v } }
  | .downLimit => { c with calibration := { k with downLimit := v } }
  | .pulsesPerKm => { c with permit := { p with pulsesPerKm := n } }
  | .stationary => { c with permit := { p with stationary := n } }
  | .overload => { c with permit := { p with overload := n } }
  | .derate => { c with permit := { p with derate := n } }
  | .policyRear => { c with permit := { p with policyRear := policyOfCode v } }
  | .policyNear => { c with permit := { p with policyNear := policyOfCode v } }
  | .policyOff => { c with permit := { p with policyOff := policyOfCode v } }
  | .rampUp a => { c with drive := { d with rampUp := d.rampUp.set a n } }
  | .rampDown a => { c with drive := { d with rampDown := d.rampDown.set a n } }
  | .rampProfile a => { c with drive := { d with profile := d.profile.set a (rampProfileOfCode v) } }
  | .hysteresis => { c with drive := { d with hysteresis := n } }
  | .tiltSpeed => { c with drive := { d with tiltSpeed := n } }
  | .runFold => { c with drive := { d with runFold := n } }
  | .runShut => { c with drive := { d with runShut := n } }
  | .runNdor => { c with drive := { d with runNdor := n } }
  | .runOdor => { c with drive := { d with runOdor := n } }
  | .imin x => { c with drive := { d with imin := d.imin.set x n } }
  | .imax x => { c with drive := { d with imax := d.imax.set x n } }
  | .ditherAmplitude => { c with drive := { d with ditherAmplitude := n } }
  | .ditherHalfPeriod => { c with drive := { d with ditherHalfPeriod := n } }
  | .pumpLimit => { c with drive := { d with pumpLimit := n } }
  | .obstruction m => { c with obstruction := c.obstruction.set m n }
  | .lampZone x => { c with lamp := { c.lamp with zone := c.lamp.zone.set x (zoneOfCode v) } }
  | .openThreshold => { c with lamp := { c.lamp with openThreshold := n } }
  | .closedownTime => { c with lamp := { c.lamp with closedownTime := n } }
  | .rate l => { c with rate := c.rate.set l n }
  | .deadman => { c with deadman := n }
  | .pauseWindow => { c with pauseWindow := n }
  | .rank l => setProfile l (fun q => { q with rank := n }) c
  | .allowed l => setProfile l (fun q => { q with allowed := allowedOf n }) c
  | .latched l => setProfile l (fun q => { q with latched := decide (v = 1) }) c
  | .tagReader l => setProfile l (fun q => { q with tagReader := decide (v = 1) }) c
  | .linkMode l => setProfile l (fun q => { q with mode := linkModeOfCode v }) c
  | .enabled l => setProfile l (fun q => { q with enabled := decide (v = 1) }) c

/-- The calibration items, whose write is taken as a sample of the held readings (R61). -/
def isCalibration : Item → Bool
  | .ground | .bed | .bedHeight | .endMargin | .levelReading | .gain | .levelTolerance
  | .upLimit | .downLimit => true
  | _ => false

/-- The permit items, whose write recomputes the map (R88). -/
def isPermitItem : Item → Bool
  | .pulsesPerKm | .stationary | .overload | .derate | .policyRear | .policyNear | .policyOff =>
    true
  | _ => false

/-- R61, R88, R141, R147: an accepted write acts within the message. -/
def takeWrite (i : Item) (v : Int) (s : State) : State :=
  let u := s.setConfig (writeItem s.config i v)
  match i with
  | .lampZone c => writeLampZone c (zoneOfCode v) s
  | .enabled _ => judgePorts s u
  | .pulsesPerKm => recomputePermits (afterSpeed s (recomputeSpeed u))
  | .stationary => permitEvent u
  | _ =>
    if isCalibration i then sampleHeld u
    else if isPermitItem i then recomputePermits u
    else u

/-! ## The band table (R63) -/

/-- R63 check 4: the low bounds rise strictly from 0 and lie below H. -/
def lowsRise : List Band → Bool
  | [] => true
  | [_] => true
  | a :: b :: rest => decide (a.low < b.low) && lowsRise (b :: rest)

/-- R63 check 4. -/
def lowsValid (h : Nat) (l : List Band) : Bool :=
  decide (l.head?.map (·.low) = some 0) && lowsRise l && l.all fun b => decide (b.low < h)

/-- R63 check 5. -/
def limitsValid (l : List Band) : Bool :=
  l.all fun b => decide (b.raiseLimit ≤ 1000 ∧ b.lowerLimit ≤ 1000)

/-- R63 checks 3 to 5. -/
def bandsValid (h : Nat) (l : List Band) : Bool :=
  decide (1 ≤ l.length ∧ l.length ≤ 8) && lowsValid h l && limitsValid l

/-- R63 check 2: a grant on LIFT, TILT or FOLD is live. -/
def hydGrantLive (s : State) : Bool := [Axis.lift, .tilt, .fold].any (grantOn s)

/-- R63: the table replaced, taken as a sample of the held readings. The permit map is judged again
whether or not the band number changes, since the row in force may allow tilt otherwise than before
(R62, R73). -/
def takeBands (l : List Band) (s : State) : State :=
  recomputePermits (sampleHeld (s.setConfig { s.config with bands := l }))

end Sys2Proof.Machine
end

