-- ==== Sys2Proof/Machine/Operands.lean ====
section
/-! DEFINITION. The operand forms of the station messages (R160, R162, R164): the kinds with their
codes, lengths and supervisor mark, the bytes each message is carried in, and the message a frame
names after the handler's four checks. -/

namespace Sys2Proof.Machine

/-! ## Kinds (R162, R164) -/

/-- R162, R164: the message kinds. -/
inductive MsgKind where
  | rqgrant | keep | ltgrant | rsgrant | stopz | clrstop | lockt | ulockt | ackflt | qgrants
  | qholds | qaxes | cfgrd | cfgwr | cfgband | cfgsave | rstlvl | rstlink | freelock | notrd
  | notmsk | lampra | fltrd
  deriving DecidableEq, Repr

/-- R162, R164: byte 0 of a message. -/
def msgKindCode : MsgKind → Nat
  | .rqgrant => 1 | .keep => 2 | .ltgrant => 3 | .rsgrant => 4 | .stopz => 5 | .clrstop => 6
  | .lockt => 7 | .ulockt => 8 | .ackflt => 9 | .qgrants => 10 | .qholds => 11 | .qaxes => 12
  | .cfgrd => 32 | .cfgwr => 33 | .cfgband => 34 | .cfgsave => 35 | .rstlvl => 36
  | .rstlink => 37 | .freelock => 38 | .notrd => 39 | .notmsk => 40 | .lampra => 41 | .fltrd => 42

/-- The kind a byte 0 names, if any. -/
def msgKindOf : Nat → Option MsgKind
  | 1 => some .rqgrant | 2 => some .keep | 3 => some .ltgrant | 4 => some .rsgrant
  | 5 => some .stopz | 6 => some .clrstop | 7 => some .lockt | 8 => some .ulockt
  | 9 => some .ackflt | 10 => some .qgrants | 11 => some .qholds | 12 => some .qaxes
  | 32 => some .cfgrd | 33 => some .cfgwr | 34 => some .cfgband | 35 => some .cfgsave
  | 36 => some .rstlvl | 37 => some .rstlink | 38 => some .freelock | 39 => some .notrd
  | 40 => some .notmsk | 41 => some .lampra | 42 => some .fltrd
  | _ => none

/-- R164: a supervisor message, taken from link 0 alone. -/
def supervisorKind : MsgKind → Bool
  | .rqgrant | .keep | .ltgrant | .rsgrant | .stopz | .clrstop | .lockt | .ulockt | .ackflt
  | .qgrants | .qholds | .qaxes => false
  | .cfgrd | .cfgwr | .cfgband | .cfgsave | .rstlvl | .rstlink | .freelock | .notrd | .notmsk
  | .lampra | .fltrd => true

/-- Byte `i` of a frame as a number. -/
def byteAt (bytes : List Byte) (i : Nat) : Nat := (bytes.getD i 0#8).toNat

/-- R162, R164: the length of a frame of a kind, byte 0 included; CFGBAND's follows its count. -/
def frameLength (bytes : List Byte) : MsgKind → Nat
  | .rqgrant | .keep | .ltgrant | .rsgrant | .lockt | .ulockt | .cfgwr => 6
  | .stopz | .clrstop | .ackflt | .qgrants | .qholds | .qaxes | .cfgrd | .rstlvl | .rstlink
  | .freelock => 2
  | .notmsk | .lampra => 3
  | .cfgsave | .notrd | .fltrd => 1
  | .cfgband => 2 + 4 * byteAt bytes 1

/-! ## The bytes of the messages (R162, R164), fields as sent -/

def rqgrantFrame (axis sense runKind : Byte) (demand : Word16) : List Byte :=
  [1#8, axis, sense, runKind] ++ bytes16 demand
/-- R162: a grant reference is the handle, the axis, the sense and a demand. -/
def referenceFrame (kind handle axis sense : Byte) (demand : Word16) : List Byte :=
  [kind, handle, axis, sense] ++ bytes16 demand
def keepFrame : Byte → Byte → Byte → Word16 → List Byte := referenceFrame 2#8
def ltgrantFrame : Byte → Byte → Byte → Word16 → List Byte := referenceFrame 3#8
def rsgrantFrame : Byte → Byte → Byte → Word16 → List Byte := referenceFrame 4#8
def stopzFrame (zones : Byte) : List Byte := [5#8, zones]
def clrstopFrame (id : Byte) : List Byte := [6#8, id]
def locktFrame (tag : Word32) (axes : Byte) : List Byte := 7#8 :: bytes32 tag ++ [axes]
def ulocktFrame (id : Byte) (tag : Word32) : List Byte := [8#8, id] ++ bytes32 tag
def ackfltFrame (axis : Byte) : List Byte := [9#8, axis]
def qgrantsFrame (first : Byte) : List Byte := [10#8, first]
def qholdsFrame (first : Byte) : List Byte := [11#8, first]
def qaxesFrame (axis : Byte) : List Byte := [12#8, axis]
def cfgrdFrame (item : Byte) : List Byte := [32#8, item]
def cfgwrFrame (item : Byte) (value : Word32) : List Byte := [33#8, item] ++ bytes32 value
def cfgbandFrame (bands : List Word32) : List Byte :=
  [34#8, byteOf bands.length] ++ bands.flatMap bytes32
def cfgsaveFrame : List Byte := [35#8]
def rstlvlFrame (level : Byte) : List Byte := [36#8, level]
def rstlinkFrame (target : Byte) : List Byte := [37#8, target]
def freelockFrame (id : Byte) : List Byte := [38#8, id]
def notrdFrame : List Byte := [39#8]
def notmskFrame (mask : Word16) : List Byte := 40#8 :: bytes16 mask
def lampraFrame (channels : Word16) : List Byte := 41#8 :: bytes16 channels
def fltrdFrame : List Byte := [42#8]

/-! ## Messages after the handler's checks -/

/-- A message as the owning block takes it. -/
inductive Msg where
  | rqgrant (axis : Axis) (sense : Sense) (kind : RunKind) (demand : Nat)
  | keep (handle : Nat) (axis : Axis) (sense : Sense) (demand : Nat)
  | ltgrant (handle : Nat) (axis : Axis) (sense : Sense) (demand : Nat)
  | rsgrant (handle : Nat) (axis : Axis) (sense : Sense) (demand : Nat)
  | stopz (zones : PerZone Bool)
  | clrstop (id : Nat)
  | lockt (tag : Nat) (axes : PerAxis Bool)
  | ulockt (id tag : Nat)
  | ackflt (axis : Axis)
  | qgrants (first : Nat)
  | qholds (first : Nat)
  | qaxes (axis : Axis)
  | cfgrd (item : Nat)
  | cfgwr (item : Nat) (value : Int)
  | cfgband (bands : List Band)
  | cfgsave
  | rstlvl (level : Nat)
  | rstlink (target : Nat)
  | freelock (id : Nat)
  | notrd
  | notmsk (mask : NoticeSet)
  | lampra (channels : PerLamp Bool)
  | fltrd
  deriving DecidableEq, Repr

/-- The handler's decision on a frame: a reply of refusal, or a message for its owner. -/
inductive Parsed where
  | reject (status : Status)
  | msg (m : Msg)
  deriving DecidableEq, Repr

/-- R160 check 4: a coded field that has no meaning is answered BADVALUE. -/
def coded {α : Type} (v : Option α) (f : α → Msg) : Parsed :=
  match v with
  | none => .reject .badvalue
  | some a => .msg (f a)

/-- R160 check 4: an axis set has no bit beyond its six members. -/
def axisSetField (n : Nat) : Option (PerAxis Bool) := if n < 64 then some (axisSetOf n) else none

/-- R160 check 4: a zone set has no bit beyond its four members. -/
def zoneSetField (n : Nat) : Option (PerZone Bool) := if n < 16 then some (zoneSetOf n) else none

/-- R160 check 4: a channel set has no bit beyond its twelve members. -/
def lampSetField (n : Nat) : Option (PerLamp Bool) := if n < 4096 then some (lampSetOf n) else none

/-- R160 check 4: a first position is not 0. -/
def firstField (n : Nat) : Option Nat := if n = 0 then none else some n

/-- R164: the band a 32-bit word carries. -/
def bandOfWord (w : Word32) : Band :=
  { low := (w.extractLsb' 20 11).toNat, raiseLimit := (w.extractLsb' 10 10).toNat
    lowerLimit := (w.extractLsb' 0 10).toNat, tiltAllowed := w.getLsbD 31 }

/-- R164: the 32-bit word of a band. -/
def wordOfBand (b : Band) : Word32 :=
  BitVec.ofBool b.tiltAllowed ++ BitVec.ofNat 11 b.low ++ BitVec.ofNat 10 b.raiseLimit ++
    BitVec.ofNat 10 b.lowerLimit

/-- The words in the field bytes of a CFGBAND. -/
def wordsOf : List Byte → List Word32
  | a :: b :: c :: d :: rest => word32 a b c d :: wordsOf rest
  | _ => []

/-- R160 check 4 and R162: the three coded fields of a grant reference. -/
def referenceField (handle axis sense : Byte) (demand : Nat)
    (f : Nat → Axis → Sense → Nat → Msg) : Parsed :=
  match axisOfCode axis.toNat, senseOfCode sense.toNat with
  | some a, some n => .msg (f handle.toNat a n demand)
  | _, _ => .reject .badvalue

/-- R160 check 4 over the fields of a frame of the right length. -/
def parseFields : MsgKind → List Byte → Parsed
  | .rqgrant, [axis, sense, kind, hi, lo] =>
    match axisOfCode axis.toNat, senseOfCode sense.toNat, kindOfCode kind.toNat with
    | some a, some n, some k => .msg (.rqgrant a n k (word16 hi lo).toNat)
    | _, _, _ => .reject .badvalue
  | .keep, [h, a, n, hi, lo] => referenceField h a n (word16 hi lo).toNat .keep
  | .ltgrant, [h, a, n, hi, lo] => referenceField h a n (word16 hi lo).toNat .ltgrant
  | .rsgrant, [h, a, n, hi, lo] => referenceField h a n (word16 hi lo).toNat .rsgrant
  | .stopz, [z] => coded (zoneSetField z.toNat) .stopz
  | .clrstop, [id] => .msg (.clrstop id.toNat)
  | .lockt, [a, b, c, d, axes] =>
    coded (axisSetField axes.toNat) (.lockt (word32 a b c d).toNat)
  | .ulockt, [id, a, b, c, d] => .msg (.ulockt id.toNat (word32 a b c d).toNat)
  | .ackflt, [a] => coded (axisOfCode a.toNat) .ackflt
  | .qgrants, [n] => coded (firstField n.toNat) .qgrants
  | .qholds, [n] => coded (firstField n.toNat) .qholds
  | .qaxes, [a] => coded (axisOfCode a.toNat) .qaxes
  | .cfgrd, [i] => .msg (.cfgrd i.toNat)
  | .cfgwr, [i, a, b, c, d] => .msg (.cfgwr i.toNat (word32 a b c d).toInt)
  | .cfgband, _ :: rest => .msg (.cfgband ((wordsOf rest).map bandOfWord))
  | .cfgsave, [] => .msg .cfgsave
  | .rstlvl, [n] => .msg (.rstlvl n.toNat)
  | .rstlink, [n] => .msg (.rstlink n.toNat)
  | .freelock, [id] => .msg (.freelock id.toNat)
  | .notrd, [] => .msg .notrd
  | .notmsk, [hi, lo] => .msg (.notmsk (noticeSetOf (word16 hi lo).toNat))
  | .lampra, [hi, lo] => coded (lampSetField (word16 hi lo).toNat) .lampra
  | .fltrd, [] => .msg .fltrd
  | _, _ => .reject .badmsg

/-- R160: the four checks on a frame from a link, in order. -/
def parseFrame (l : Link) (f : Frame) : Parsed :=
  match f.bytes, f.overlong with
  | [], _ => .reject .badmsg
  | _, true => .reject .badmsg
  | b :: rest, false =>
    match msgKindOf b.toNat with
    | none => .reject .badmsg
    | some k =>
      if supervisorKind k = true ∧ l ≠ .sl0 then .reject .notsuper
      else if (b :: rest).length ≠ frameLength (b :: rest) k then .reject .badmsg
      else parseFields k rest

/-- R157: the kind a reply echoes: byte 0 of the message, 0 for an empty one. -/
def kindEcho (f : Frame) : Byte := f.bytes.headD 0#8

/-! ## Messages as frames: the inverse of the checks -/

/-- The bytes of a message whose operands are in range. -/
def encodeMsg : Msg → List Byte
  | .rqgrant a n k d =>
    rqgrantFrame (byteOf (axisCode a)) (byteOf (senseCode n)) (byteOf (kindCode k))
      (BitVec.ofNat 16 d)
  | .keep h a n d =>
    keepFrame (byteOf h) (byteOf (axisCode a)) (byteOf (senseCode n)) (BitVec.ofNat 16 d)
  | .ltgrant h a n d =>
    ltgrantFrame (byteOf h) (byteOf (axisCode a)) (byteOf (senseCode n)) (BitVec.ofNat 16 d)
  | .rsgrant h a n d =>
    rsgrantFrame (byteOf h) (byteOf (axisCode a)) (byteOf (senseCode n)) (BitVec.ofNat 16 d)
  | .stopz z => stopzFrame (byteOf (zoneSetBits z))
  | .clrstop id => clrstopFrame (byteOf id)
  | .lockt t a => locktFrame (BitVec.ofNat 32 t) (byteOf (axisSetBits a))
  | .ulockt id t => ulocktFrame (byteOf id) (BitVec.ofNat 32 t)
  | .ackflt a => ackfltFrame (byteOf (axisCode a))
  | .qgrants n => qgrantsFrame (byteOf n)
  | .qholds n => qholdsFrame (byteOf n)
  | .qaxes a => qaxesFrame (byteOf (axisCode a))
  | .cfgrd i => cfgrdFrame (byteOf i)
  | .cfgwr i v => cfgwrFrame (byteOf i) (BitVec.ofInt 32 v)
  | .cfgband l => cfgbandFrame (l.map wordOfBand)
  | .cfgsave => cfgsaveFrame
  | .rstlvl n => rstlvlFrame (byteOf n)
  | .rstlink n => rstlinkFrame (byteOf n)
  | .freelock id => freelockFrame (byteOf id)
  | .notrd => notrdFrame
  | .notmsk m => notmskFrame (BitVec.ofNat 16 (noticeBits m))
  | .lampra c =>
    lampraFrame (BitVec.ofNat 16
      (bitsOf [c.ch1, c.ch2, c.ch3, c.ch4, c.ch5, c.ch6, c.ch7, c.ch8, c.ch9, c.ch10, c.ch11,
        c.ch12]))
  | .fltrd => fltrdFrame

end Sys2Proof.Machine
end

