-- ==== Sys2Proof/Machine/Messages.lean ====
section
/-! DEFINITION. What each station message does and how it is answered (R5 to R19, R38 to R48, R63,
R69, R70, R140, R156, R160 to R167, R176, R177). Each handler gives the state after the message and
its reply; an RSTLVL 1 that waits for a save gives no reply yet. -/

namespace Sys2Proof.Machine

/-- R161: the status of a reply and its fields. -/
structure Reply where
  status : Status
  fields : List Byte
  deriving DecidableEq, Repr

/-- What a message leaves behind: the state, and the reply unless it waits. -/
abbrev Answer := State × Option Reply

/-- R161: an OK with its fields. -/
def okReply (fields : List Byte) : Option Reply := some ⟨.ok, fields⟩

/-- A refusal that carries no field; the state is not changed. -/
def refuse (st : Status) (s : State) : Answer := (s, some ⟨st, []⟩)

/-- A refusal that carries one byte. -/
def refuseWith (st : Status) (n : Nat) (s : State) : Answer := (s, some ⟨st, [byteOf n]⟩)

/-! ## RQGRANT (R5 to R7) -/

/-- The profile of a link. -/
def profileOf (l : Link) (s : State) : Profile := s.config.profile.get l

/-- R5 check 3. -/
def requestAllowed (l : Link) (a : Axis) (n : Sense) (k : RunKind) (s : State) : Bool :=
  ((profileOf l s).allowed.get a).get n &&
  match k with
  | .hold => true
  | .latch => (profileOf l s).latched && (motorOf a).isSome

/-- R5 check 7: the station holds a live grant on the axis's resource. -/
def stationHasGrant (l : Link) (r : Resource) (s : State) : Bool :=
  s.grant.table.any fun g => decide (g.station = l ∧ resourceOf g.axis = r)

/-- R5 checks 1 to 8, in order: the reply of the first that fails. -/
def requestRefusal (l : Link) (a : Axis) (n : Sense) (k : RunKind) (s : State) : Option Reply :=
  if s.mode.mode ≠ .run then some ⟨.mode, []⟩
  else if s.axis.fitted.get a = false then some ⟨.notfitted, []⟩
  else if requestAllowed l a n k s = false then some ⟨.notallowed, []⟩
  else
    match s.axis.fault.get a with
    | some c => some ⟨.faulted, [byteOf (faultCodeNum c)]⟩
    | none =>
      match coveringHold a s with
      | some h => some ⟨.held, [byteOf h.id]⟩
      | none =>
        if (s.permit.map.get a).get n ≠ .empty then
          some ⟨.nopermit, [byteOf (causeBits ((s.permit.map.get a).get n))]⟩
        else if stationHasGrant l (resourceOf a) s then some ⟨.busy, []⟩
        else if maxGrants ≤ s.grant.table.length then some ⟨.noroom, []⟩
        else none

/-- The code of a grant's state in a reply: RETIRED once it is live no more. -/
def grantCode (h : Nat) (s : State) : Nat :=
  match findGrant h s with
  | some g => grantStateCode g.state
  | none => retiredCode

/-- A reply that carries a handle and the state of its grant (R7, R17, R18). -/
def grantReply (h : Nat) (s : State) : Option Reply :=
  okReply [byteOf h, byteOf (grantCode h s)]

/-- R6: the slot's answer is carried out, with the grant created. -/
def takeRequest (l : Link) (a : Axis) (n : Sense) (k : RunKind) (demand : Nat) (s : State) :
    Answer :=
  match decideSlot (resourceOf a) (rankOf l s) s with
  | .refuse => refuse .busy s
  | .grant =>
    let g := newGrant l a n k demand .driving s
    let u := holdSlot g s
    (u, grantReply g.handle u)
  | .queue =>
    let g := newGrant l a n k demand .waiting s
    let u := queueGrant g s
    (u, grantReply g.handle u)
  | .preempt h =>
    let g := newGrant l a n k demand .waiting s
    let u := ease h .preempted (queueGrant g s)
    (u, grantReply g.handle u)
  | .displace w =>
    let t := retire w .preempted s
    let g := newGrant l a n k demand .waiting t
    let u := queueGrant g t
    (u, grantReply g.handle u)

/-- R5 to R7: RQGRANT. -/
def handleRqgrant (l : Link) (a : Axis) (n : Sense) (k : RunKind) (demand : Nat) (s : State) :
    Answer :=
  match requestRefusal l a n k s with
  | some r => (s, some r)
  | none => takeRequest l a n k demand s

/-! ## KEEP, LTGRANT, RSGRANT (R15 to R18, R162) -/

/-- R15, R162: the grant a reference names for a sender, or the refusal. -/
inductive Referred where
  | none (st : Status)
  | grant (g : Grant)
  deriving DecidableEq, Repr

/-- R15 and R162: the three checks of a grant reference. -/
def referTo (l : Link) (h : Nat) (a : Axis) (n : Sense) (s : State) : Referred :=
  match findGrant h s with
  | none => .none .nohandle
  | some g =>
    if g.station ≠ l then .none .notowner
    else if g.axis = a ∧ g.sense = n then .grant g
    else .none .nohandle

/-- R16: a live HOLD grant refreshed: its deadman reloaded, its demand filtered with the
hysteresis in force (R93), a written one coming into force at the next period (R112). -/
def keptGrant (g : Grant) (demand : Nat) (s : State) : Grant :=
  match g.kind with
  | .latch => g
  | .hold =>
    { g with
      deadman := some s.config.deadman
      demand := if takesDemand g.axis then filterDemand s.drive.hysteresisInForce g.demand demand
                else g.demand }

/-- R16: KEEP on a grant. -/
def keepGrant (g : Grant) (demand : Nat) (s : State) : Answer :=
  match g.state with
  | .easing => refuse .winding s
  | .paused => refuse .paused s
  | .waiting | .driving =>
    let k := keptGrant g demand s
    (putGrant k s, okReply (byteOf k.handle :: nat16 k.demand))

/-- R16: KEEP. -/
def handleKeep (l : Link) (h : Nat) (a : Axis) (n : Sense) (demand : Nat) (s : State) : Answer :=
  match referTo l h a n s with
  | .none st => refuse st s
  | .grant g => keepGrant g demand s

/-- R17: LTGRANT on a grant. -/
def releaseGrant (g : Grant) (s : State) : Answer :=
  match g.state with
  | .easing => refuse .winding s
  | .waiting =>
    let u := retire g .released s
    (u, okReply [byteOf g.handle, byteOf retiredCode])
  | .driving | .paused =>
    let u := ease g .released s
    (u, grantReply g.handle u)

/-- R17: LTGRANT. -/
def handleLtgrant (l : Link) (h : Nat) (a : Axis) (n : Sense) (s : State) : Answer :=
  match referTo l h a n s with
  | .none st => refuse st s
  | .grant g => releaseGrant g s

/-- R18: RSGRANT on a grant. -/
def resumePaused (g : Grant) (s : State) : Answer :=
  match g.state with
  | .paused =>
    let u := resumeGrant g s
    (u, grantReply g.handle u)
  | .waiting | .driving | .easing => refuse .notpaused s

/-- R18: RSGRANT. -/
def handleRsgrant (l : Link) (h : Nat) (a : Axis) (n : Sense) (s : State) : Answer :=
  match referTo l h a n s with
  | .none st => refuse st s
  | .grant g => resumePaused g s

/-! ## QGRANTS (R19, R163) -/

/-- R163: a time in 10 ms units, rounded up. -/
def tenths (ms : Nat) : Nat := (ms + 9) / 10

/-- R163: the remaining time of an entry. -/
def remainingByte (g : Grant) : Nat :=
  match g.deadman, g.pause with
  | some d, _ => tenths d
  | none, some p => tenths p
  | none, none => 255

/-- R163: a QGRANTS entry of 8 bytes. -/
def grantEntry (g : Grant) : List Byte :=
  [byteOf g.handle, byteOf (linkNum g.station), byteOf (axisCode g.axis),
    byteOf (senseCode g.sense + 2 * kindCode g.kind + 16 * grantStateCode g.state)] ++
  nat16 g.demand ++
  [byteOf (match g.reason with | some r => reasonCode r | none => 255), byteOf (remainingByte g)]

/-- R163: as many entries as fit: four. -/
def entriesFrom {α : Type} (first : Nat) (l : List α) : List α := (l.drop (first - 1)).take 4

/-- R19: QGRANTS. -/
def handleQgrants (first : Nat) (s : State) : Answer :=
  if first = 0 ∨ 12 < first then refuse .badvalue s
  else
    (s, okReply (byteOf s.grant.table.length ::
      (entriesFrom first s.grant.table).flatMap grantEntry))

/-! ## Stops and lockouts (R38 to R45) -/

/-- R162: a placement is 0 NEW or 1 EXISTING. -/
def placedReply (id : Nat) (existing : Bool) : Option Reply :=
  okReply [byteOf id, byteOf existing.toNat]

/-- R43 check 2: the sender's live STOP with exactly this zone set. -/
def sameStop (l : Link) (z : PerZone Bool) (s : State) : Option Hold :=
  s.hold.table.find? fun h => decide (h.source = .station l ∧ h.kind = .stop z)

/-- R38 check 4: a live LOCKOUT with the same tag and exactly this axis set. -/
def sameLockout (tag : Nat) (axes : PerAxis Bool) (s : State) : Option Hold :=
  s.hold.table.find? fun h => decide (h.kind = .lockout tag ∧ h.axes = axes)

/-- R37: a placement from a station, with its reply. -/
def placeForStation (kind : HoldKind) (l : Link) (axes : PerAxis Bool) (s : State) : Answer :=
  let u := placeHold kind (.station l) axes s
  (u, placedReply u.hold.lastId false)

/-- R43: STOPZ. -/
def handleStopz (l : Link) (z : PerZone Bool) (s : State) : Answer :=
  if z = .all false then refuse .badvalue s
  else
    match sameStop l z s with
    | some h => (s, placedReply h.id true)
    | none =>
      if maxStationHolds ≤ stationHolds s then refuse .noroom s
      else placeForStation (.stop z) l (axesOfZones z) s

/-- The reply that carries a hold's id (R40, R44, R45). -/
def retireForStation (id : Nat) (s : State) : Answer := (retireHold id s, okReply [byteOf id])

/-- R44, R45: CLRSTOP on a live STOP. -/
def clearStop (l : Link) (h : Hold) (s : State) : Answer :=
  match h.source with
  | .line => if s.hold.line then refuse .lineactive s else retireForStation h.id s
  | .station t => if t = l ∨ l = .sl0 then retireForStation h.id s else refuse .notowner s

/-- R44, R45: CLRSTOP. -/
def handleClrstop (l : Link) (id : Nat) (s : State) : Answer :=
  match findHold id s with
  | none => refuse .nohold s
  | some h =>
    match h.kind with
    | .lockout _ => refuse .nohold s
    | .stop _ => clearStop l h s

/-- R38, R39: LOCKT. -/
def handleLockt (l : Link) (tag : Nat) (axes : PerAxis Bool) (s : State) : Answer :=
  if (profileOf l s).tagReader = false then refuse .notallowed s
  else if tag = 0 then refuse .badmsg s
  else if axes = .all false then refuse .badvalue s
  else
    match sameLockout tag axes s with
    | some h => (s, placedReply h.id true)
    | none =>
      if maxStationHolds ≤ stationHolds s then refuse .noroom s
      else placeForStation (.lockout tag) l axes s

/-- R40: ULOCKT. -/
def handleUlockt (l : Link) (id tag : Nat) (s : State) : Answer :=
  if (profileOf l s).tagReader = false then refuse .notallowed s
  else if tag = 0 then refuse .badmsg s
  else
    match findHold id s with
    | none => refuse .nohold s
    | some h =>
      match h.kind with
      | .stop _ => refuse .nohold s
      | .lockout t => if t = tag then retireForStation id s else refuse .tagmismatch s

/-- R41: FREELOCK. -/
def handleFreelock (id : Nat) (s : State) : Answer :=
  match findHold id s with
  | none => refuse .nohold s
  | some h =>
    match h.kind with
    | .stop _ => refuse .nohold s
    | .lockout t => (retireHold id s, okReply (byteOf id :: bytes32 (BitVec.ofNat 32 t)))

/-- R163: a QHOLDS entry of 8 bytes. -/
def holdEntry (h : Hold) : List Byte :=
  [byteOf h.id,
    byteOf (match h.kind with | .lockout _ => 0 | .stop _ => 1),
    byteOf (match h.source with | .station l => linkNum l | .line => 6),
    byteOf (axisSetBits h.axes)] ++
  match h.kind with
  | .lockout t => bytes32 (BitVec.ofNat 32 t)
  | .stop z => [byteOf (zoneSetBits z), 0#8, 0#8, 0#8]

/-- R48: QHOLDS. -/
def handleQholds (first : Nat) (s : State) : Answer :=
  if first = 0 ∨ 24 < first then refuse .badvalue s
  else
    (s, okReply ([byteOf s.hold.table.length, byteOf (stationHolds s), byteOf s.hold.line.toNat] ++
      (entriesFrom first s.hold.table).flatMap holdEntry))

/-! ## Axes (R69, R70) -/

/-- R69 check 2: either sense of the axis is in the station's allowed set. -/
def axisAllowed (l : Link) (a : Axis) (s : State) : Bool :=
  ((profileOf l s).allowed.get a).sense0 || ((profileOf l s).allowed.get a).sense1

/-- R69 check 4: a code whose acknowledgement waits for its condition. -/
def conditionCode : FaultCode → Bool
  | .sensor | .switch => true
  | .stall | .travel | .coilshort | .latchstuck | .latchmiss => false

/-- R69: ACKFLT. -/
def handleAckflt (l : Link) (a : Axis) (s : State) : Answer :=
  if s.axis.fitted.get a = false then refuse .notfitted s
  else if axisAllowed l a s = false then refuse .notallowed s
  else
    match s.axis.fault.get a with
    | none => (s, okReply [0#8])
    | some c =>
      if conditionCode c = true ∧ conditionOf s.axis.condition a = .standing then
        refuseWith .stillfaulty (faultCodeNum c) s
      else
        (s.setAxis { s.axis with fault := s.axis.fault.set a none },
          okReply [byteOf (faultCodeNum c)])

/-- R163: the position field of a QAXES reply. -/
def positionField (a : Axis) (s : State) : List Byte :=
  match a with
  | .lift => nat16 s.axis.position
  | .tilt => bytes16 (BitVec.ofInt 16 s.axis.angle)
  | .fold | .shut | .ndor | .odor => nat16 0

/-- R163: the band field of a QAXES reply. -/
def bandField (a : Axis) (s : State) : Nat := if a = .lift then s.axis.band else 0

/-- R163: the panel state field of a QAXES reply. -/
def panelField (a : Axis) (s : State) : Nat :=
  match motorOf a with
  | some m => panelCode m (s.axis.panelState.get m)
  | none => 255

/-- R163: the flags of a QAXES reply. An axis that has no level (R51, R70) sends 0 in its bit, and so one
that has no condition (DEDUCED, log 59). -/
def axisFlags (a : Axis) (s : State) : Nat :=
  bitsOf [endFlag a .sense0 s, endFlag a .sense1 s, decide (a = .tilt) && s.axis.level,
    s.axis.deployed.get a, decide (conditionOf s.axis.condition a = .standing)]

/-- R70: QAXES. -/
def handleQaxes (a : Axis) (s : State) : Answer :=
  if s.axis.fitted.get a = false then refuse .notfitted s
  else
    (s, okReply (byteOf (axisCode a) :: positionField a s ++
      [byteOf (bandField a s), byteOf (panelField a s), byteOf (axisFlags a s),
        byteOf (faultOptNum (s.axis.fault.get a)),
        byteOf (causeBits (s.permit.map.get a).sense0),
        byteOf (causeBits (s.permit.map.get a).sense1),
        byteOf (healthCode (s.beacon.zone.get (zoneOf a)).health)]))

/-! ## Configuration (R63, R165, R166) -/

/-- R166: a save is in progress. -/
def saving (s : State) : Bool := s.store.save.isSome

/-- R165: the fields of an item and its value. -/
def itemReply (item : Nat) (v : Int) : Option Reply :=
  okReply (byteOf item :: bytes32 (BitVec.ofInt 32 v))

/-- R165: CFGRD. -/
def handleCfgrd (item : Nat) (s : State) : Answer :=
  match itemOf item with
  | none => refuse .badvalue s
  | some i => (s, itemReply item (readItem s.config i))

/-- R165: CFGWR. A save is in progress before the number is looked up (log 14). -/
def handleCfgwr (item : Nat) (v : Int) (s : State) : Answer :=
  if saving s then refuse .busy s
  else
    match itemOf item with
    | none => refuse .badvalue s
    | some i =>
      if itemBusy i v s then refuse .busy s
      else if validValue s.config i v = false then refuse .badvalue s
      else
        let u := takeWrite i v s
        (u, itemReply item (readItem u.config i))

/-- R63: CFGBAND. -/
def handleCfgband (l : List Band) (s : State) : Answer :=
  if saving s then refuse .busy s
  else if hydGrantLive s then refuse .busy s
  else if bandsValid s.config.calibration.bedHeight l = false then refuse .badvalue s
  else
    let u := takeBands l s
    (u, okReply [byteOf u.config.bands.length, byteOf u.axis.band])

/-- R166: CFGSAVE. -/
def handleCfgsave (s : State) : Answer :=
  if saving s then refuse .busy s
  else (s.setStore { s.store with save := some ⟨saveMs, s.config⟩ }, okReply [])

/-! ## Resets (R156, R176) -/

/-- R176: the reply to an RSTLVL carried out. -/
def levelReply (n : Nat) : Option Reply := okReply [byteOf n]

/-- R176: RSTLVL 1. With a save in progress it waits and the message stays in hand. -/
def handleRstlvl1 (s : State) : Answer :=
  if s.mode.mode = .closedown then refuse .mode s
  else if saving s then (s.setStore { s.store with resetWaits := some .awaited }, none)
  else (resetLevel1 s, levelReply 1)

/-- R176: RSTLVL 2. -/
def handleRstlvl2 (s : State) : Answer :=
  if s.mode.mode = .barred then refuse .mode s else (resetLevel2 s, levelReply 2)

/-- R176: RSTLVL. -/
def handleRstlvl (level : Nat) (s : State) : Answer :=
  if level = 1 then handleRstlvl1 s
  else if level = 2 then handleRstlvl2 s
  else refuse .badlevel s

/-- R156: RSTLINK. -/
def handleRstlink (target : Nat) (s : State) : Answer :=
  match linkOfNat target with
  | none | some .sl0 => refuse .badvalue s
  | some t =>
    (resetLink t s,
      okReply [byteOf target, byteOf (linkStateCode (portOf t s).state)])

/-! ## Notices, lamps, fault record (R140, R167, R177) -/

/-- R167: NOTRD. -/
def handleNotrd (s : State) : Answer :=
  (judgeAttention (s.setNotice { s.notice with flags := .empty }),
    okReply (nat16 (noticeBits s.notice.flags) ++ nat16 (noticeBits s.notice.mask)))

/-- R167: NOTMSK. -/
def handleNotmsk (m : NoticeSet) (s : State) : Answer :=
  (judgeAttention (s.setNotice { s.notice with mask := m }), okReply (nat16 (noticeBits m)))

/-- R164: the twelve channel states. -/
def lampStates (s : State) : List Byte :=
  Lamp.list.map fun c => byteOf (lampStateCode (lampOf c s).state)

/-- R140: LAMPRA. -/
def handleLampra (set : PerLamp Bool) (s : State) : Answer :=
  let u := rearm set s
  (u, okReply (lampStates u))

/-- R177: the fields of an FLTRD reply. -/
def faultFields (f : FaultLog) : List Byte :=
  match f.record with
  | none => [0#8, 255#8, 255#8] ++ nat16 65535 ++ [255#8, byteOf f.further]
  | some r =>
    [byteOf (faultKindCode r.kind),
      byteOf (match r.axis with | some a => axisCode a | none => 255),
      byteOf (match r.coil with | some c => coilNum c | none => 255)] ++
    nat16 (r.position.getD 65535) ++ [byteOf (modeCode r.mode), byteOf f.further]

/-- R177: FLTRD. -/
def handleFltrd (s : State) : Answer := (s.setFaultLog .powerOn, okReply (faultFields s.faultLog))

/-! ## The message handler (R160) -/

/-- R162, R164: a message goes to its owning block. -/
def handleMsg (l : Link) (m : Msg) (s : State) : Answer :=
  match m with
  | .rqgrant a n k d => handleRqgrant l a n k d s
  | .keep h a n d => handleKeep l h a n d s
  | .ltgrant h a n _ => handleLtgrant l h a n s
  | .rsgrant h a n _ => handleRsgrant l h a n s
  | .stopz z => handleStopz l z s
  | .clrstop id => handleClrstop l id s
  | .lockt t a => handleLockt l t a s
  | .ulockt id t => handleUlockt l id t s
  | .ackflt a => handleAckflt l a s
  | .qgrants n => handleQgrants n s
  | .qholds n => handleQholds n s
  | .qaxes a => handleQaxes a s
  | .cfgrd i => handleCfgrd i s
  | .cfgwr i v => handleCfgwr i v s
  | .cfgband b => handleCfgband b s
  | .cfgsave => handleCfgsave s
  | .rstlvl n => handleRstlvl n s
  | .rstlink n => handleRstlink n s
  | .freelock id => handleFreelock id s
  | .notrd => handleNotrd s
  | .notmsk m => handleNotmsk m s
  | .lampra c => handleLampra c s
  | .fltrd => handleFltrd s

/-- R160: a frame handed over is answered by the first check it fails, or by its owner. -/
def handleFrame (l : Link) (f : Frame) (s : State) : Answer :=
  match parseFrame l f with
  | .reject st => refuse st s
  | .msg m => handleMsg l m s

end Sys2Proof.Machine
end

