-- ==== Sys2Proof/Machine/Framing.lean ====
section
/-! DEFINITION. Symbols received by a port (R148, R149, R151, R152), framing and the hand-over of a
message with its reply (R153, R160), the transmission of queued messages (R154, R155), and the
completion of a save with the RSTLVL 1 that waits for it (R166, R176). -/

namespace Sys2Proof.Machine

/-! ## Framing (R153) -/

/-- R153: the frame with one more data byte. The 41st byte is not kept and marks it overlong. -/
def addByte (b : Byte) : Option Frame → Frame
  | none => ⟨[b], false⟩
  | some f =>
    if f.overlong then f
    else if frameBytes ≤ f.bytes.length then { f with overlong := true }
    else { f with bytes := f.bytes ++ [b] }

/-- R153: what a symbol makes of the frame being assembled. -/
def frameAfter (m : MsgSymbol) (f : Option Frame) : Option Frame :=
  match m with
  | .data b => some (addByte b f)
  | .eom | .drop => none

/-- R153: the frame a symbol hands over. -/
def frameHanded (m : MsgSymbol) (f : Option Frame) : Option Frame :=
  match m with
  | .eom => some (f.getD ⟨[], false⟩)
  | .data _ | .drop => none

/-- R153, R155: framing takes a symbol: no message is in hand, and with a close pending none is
handed over. -/
def framingTakes (p : Port) (m : MsgSymbol) : Bool :=
  decide (p.state = .up) && !p.inHand && !(p.close.isSome && decide (m = .eom))

/-- R160: a frame is handled, the GENDs it caused go out in order (R23), and the reply is placed
if the link is still UP. -/
def deliver (l : Link) (f : Frame) (s : State) : State :=
  let a := handleFrame l f s
  let u := orderGends s a.1
  match a.2 with
  | none => u
  | some r => placeMessage l (.rply (kindEcho f) r.status r.fields) u

/-- R151, R153: one symbol leaves the buffer and the credit it frees is returned. -/
def takeFromBuffer (m : MsgSymbol) (rest : List MsgSymbol) (p : Port) : Port :=
  let q := returnCredit { p with buffer := rest }
  { q with frame := frameAfter m p.frame, inHand := (frameHanded m p.frame).isSome || p.inHand }

/-- R153: framing takes symbols from the buffer in order for as long as it may. -/
def drain (l : Link) : Nat → State → State
  | 0, s => s
  | fuel + 1, s =>
    let p := portOf l s
    match p.buffer with
    | [] => s
    | m :: rest =>
      if framingTakes p m then
        let s := putPort l (takeFromBuffer m rest p) s
        match frameHanded m p.frame with
        | none => drain l fuel s
        | some f => drain l fuel (deliver l f s)
      else s

/-- R153: framing over the whole buffer. -/
def frameBuffer (l : Link) (s : State) : State := drain l ((portOf l s).buffer.length + 1) s

/-! ## Symbols received (R148, R149, R151, R152) -/

/-- R149: the silence timer restarts at a symbol. -/
def heard (p : Port) : Port := { p with silence := some 0 }

/-- A symbol without a check error taken in UP. -/
def takeSymbol (l : Link) (x : Symbol) (s : State) : State :=
  let p := heard (portOf l s)
  match x with
  | .fill => putPort l p s
  | .credit =>
    if creditOverflow p then linkError l s else putPort l (takeCredit p) s
  | .msg m =>
    if p.creditGiven = 0 then linkError l s
    else frameBuffer l (putPort l (bufferSymbol m p) s)

/-- R148: entry into UP. -/
def enterUp (l : Link) (s : State) : State :=
  putPort l { portOf l s with state := .up, silence := some 0 } s

/-- R146 to R149: a symbol without a check error received on a link. -/
def receiveSymbol (l : Link) (x : Symbol) (s : State) : State :=
  match (portOf l s).state with
  | .disabled | .silenced => s
  | .opening => takeSymbol l x (enterUp l s)
  | .up => takeSymbol l x s

/-- R146, R149: a symbol with a check error. -/
def receiveError (l : Link) (s : State) : State :=
  if (portOf l s).state = .up then linkError l s else s

/-- R146: a symbol as it stands on the line, received on a link. -/
def receiveLine (l : Link) (x : LineSymbol) (s : State) : State :=
  match decodeSymbol x with
  | some y => receiveSymbol l y s
  | none => receiveError l s

/-- The symbols of bytes with a closing symbol, received one after another. -/
def receiveSymbols (l : Link) (xs : List MsgSymbol) (s : State) : State :=
  forEach (fun x => receiveLine l (encodeSymbol (.msg x))) xs s

/-- The DATA symbols of a message and its EOM received. -/
def receiveFrame (l : Link) (bytes : List Byte) (s : State) : State :=
  receiveSymbols l (bytes.map .data ++ [.eom]) s

/-- The DATA symbols of a message and a DROP received. -/
def receiveDropped (l : Link) (bytes : List Byte) (s : State) : State :=
  receiveSymbols l (bytes.map .data ++ [.drop]) s

/-! ## Transmission (R154, R155) -/

/-- R153, R155: what follows a transmission that leaves the port so: a close whose queue is now empty is
taken, and framing goes on if a reply has released the buffer. -/
def afterSending (l : Link) (p : Port) (s : State) : State :=
  frameBuffer l (closeIfEmpty l (putPort l p s))

/-- R154: the oldest queued message has been sent as far as credit goes. -/
def messageTransmitted (l : Link) (s : State) : State :=
  let p := portOf l s
  if p.state = .up then afterSending l (sendOldest p.creditHeld p) s else s

/-- R155: the queue of a port with a close pending is sent within credit; empty, the close is
taken (log 9). -/
def closeQueueEmpty (l : Link) (s : State) : State :=
  let p := portOf l s
  if p.close.isSome then afterSending l (sendQueue p) s else s

/-- R148, R152: the idle timer reaches 1 ms, and at the symbol boundary an UP port sends the next symbol
of its oldest message if its credit allows, and FILL otherwise; an OPENING port sends FILL. An expiry
that waits behind a symbol sent finds the timer restarted and does not happen (log 6). -/
def idleExpiry (l : Link) (s : State) : State :=
  let p := portOf l s
  if idleReached p then
    match p.state with
    | .opening => putPort l (sendFill p) s
    | .up => if mayTransmit p then afterSending l (sendOldest 1 p) s else putPort l (sendFill p) s
    | .disabled | .silenced => s
  else s

/-! ## Completion of a save (R166, R171, R176) -/

/-- R166: the store holds the copy just written. -/
def storeSaved (v : Save) (s : State) : State :=
  s.setStore { s.store with stored := v.copy, valid := true, save := none }

/-- R171: a WAKE whose load waits for the save goes on. -/
def resumeWake (s : State) : State := if s.mode.loadWaits then finishWake s else s

/-- R176: the RSTLVL 1 that waits is judged again and carried out. -/
def waitingReset (s : State) : Answer :=
  let s := s.setStore { s.store with resetWaits := none }
  match s.mode.mode with
  | .closedown | .off => refuse .mode s
  | .wake | .check | .run | .defer | .retry | .barred => (resetLevel1 s, levelReply 1)

/-- R176, R150: the reply of the RSTLVL 1 that waited, dropped if link 0 has left UP since. -/
def placeResetReply (w : ReplyWait) (r : Option Reply) (s : State) : State :=
  match w, r with
  | .awaited, some r => placeMessage .sl0 (.rply 36#8 r.status r.fields) s
  | _, _ => s

/-- R166, R171, R176: what the completion of a save brings about. Where both a WAKE's load and an RSTLVL 1
wait for it, the steps of the WAKE are taken first (DESIGN CHOICE, log 62). -/
def finishSave (v : Save) (s : State) : State :=
  let u := resumeWake (storeSaved v s)
  match u.store.resetWaits with
  | none => orderGends s u
  | some w =>
    let a := waitingReset u
    placeResetReply w a.2 (orderGends s a.1)

/-- R166, R171, R176: the save completes, once its 40 ms have passed (log 6). -/
def saveCompletion (s : State) : State :=
  match s.store.save with
  | none => s
  | some v => if v.remaining = 0 then finishSave v s else s

end Sys2Proof.Machine
end

