-- ==== Sys2Proof/Machine/Periods.lean ====
section
/-! DEFINITION. The control period (R91, with the panel sequencer's hand-over of R114), the grants'
timers (R13, R14, R101), what closes every event (R132 to R134, R175), and the millisecond that
passes while no command waits. -/

namespace Sys2Proof.Machine

/-! ## The control period (R91, R105, R108, R114) -/

/-- R91 steps 4 and 5 for a driving grant: the output and the start delay after the period, and
the retirement of an EASING grant whose output is now 0. -/
def driveAxis (g : Grant) (s : State) : State :=
  let d := s.drive
  let a := g.axis
  let o := nextOutput g s
  let u := s.setDrive { d with
    output := d.output.set a o, startDelay := d.startDelay.set a (nextDelay (d.startDelay.get a)) }
  if g.state = .easing ∧ o = 0 then retire g (g.reason.getD .released) u else u

/-- R91 steps 1 to 7 for one axis. -/
def axisPeriod (a : Axis) (s : State) : State :=
  match drivingGrant a s with
  | none => s.setDrive (zeroAxis a s.drive)
  | some g =>
    let u := setActuator a (driveAxis g s)
    if a = .fold then foldTravelStep u else u

/-- R91, R111: the six axes of a period, in the order of the axis table (DESIGN CHOICE, log 48); while
the force stands every output is 0. -/
def axesPeriod (s : State) : State :=
  if shapedMode s.mode.mode then forEach axisPeriod Axis.list s else forceOutputs s

/-- R105: the pump current watch. -/
def pumpWatch (current : Nat) (s : State) : State :=
  let total := s.drive.pumpOver + periodMs
  if s.drive.pumpClosed = true ∧ s.config.drive.pumpLimit < current then
    if pumpOverMs ≤ total then pumpOvercurrent s
    else s.setDrive { s.drive with pumpOver := total }
  else s.setDrive { s.drive with pumpOver := 0 }

/-- R91: a control period. The panel sequencer is handed the outputs after the six axes and before
the watches (log 12), those of a grant promoted within the period too, whose sequence the END check and the
edge check of R123 thus meet at this same hand-over (DESIGN CHOICE, log 60). The written drive items come
into force with the period (R112); no step of it reads those two, and they are taken last. The motor
axes are taken as SHUT, NDOR, ODOR (DESIGN CHOICE, log 50), the coil channels as C1 to C4 (DESIGN CHOICE,
log 49). -/
def controlPeriod (c : PeriodCurrents) (s : State) : State :=
  if working s then
    let s := axesPeriod s
    let s := forEach (fun m => panelPeriod m (c.motor.get m)) Motor.list s
    let s := reportLiftOutput s
    let s := forEach (fun k => coilWatchStep k (c.coil.get k)) Coil.list s
    takeDriveItems (pumpWatch c.pump s)
  else s

/-! ## Grant timers (R13, R14, R101) -/

/-- R13: deadman expiry: the loaded time has passed without a new load. An expiry that waits behind a
KEEP finds the deadman loaded again and does not happen (log 6). -/
def deadmanExpiry (h : Nat) (s : State) : State :=
  match findGrant h s with
  | none => s
  | some g => if g.deadman = some 0 then windDown .deadman g s else s

/-- R14: pause window expiry: the loaded time has passed with the grant still PAUSED. An expiry that waits
while the grant leaves PAUSED, and perhaps enters it again, does not happen (log 6). -/
def pauseExpiry (h : Nat) (s : State) : State :=
  match findGrant h s with
  | none => s
  | some g => if g.state = .paused ∧ g.pause = some 0 then ease g .linkLost s else s

/-- R101: the pump start delay runs out and becomes absent, whatever is left of it (log 6). -/
def startDelayExpiry (s : State) : State :=
  s.setDrive { s.drive with startDelay := .all none }

/-! ## The close of every event (R132 to R134, R175) -/

/-- R175: the event has retired a grant or changed a deployed flag in CLOSEDOWN, and no fitted axis
is deployed and no grant live. -/
def closedownDone (before s : State) : Bool :=
  decide (s.mode.mode = .closedown) &&
  (!before.grant.table.isEmpty || decide (before.axis.deployed ≠ s.axis.deployed)) &&
  nothingOut s

/-- R175, R134: CLOSEDOWN's second condition, then the demands the event changed. They close the event: the
GENDs and the reply it places are queued by then, and an entry into OFF sends them as it closes the links
(DESIGN CHOICE, log 63). -/
def conclude (before s : State) : State :=
  judgeDemands before (if closedownDone before s then enterOff s else s)

/-- An event of the part: its effect, its GENDs in order (R23), and what closes it. -/
def event (f : State → State) (s : State) : State := conclude s (orderGends s (f s))

/-- An event of a port, whose deliveries have ordered their own GENDs. -/
def portEvent (f : State → State) (s : State) : State := conclude s (f s)

/-! ## A millisecond (log 1) -/

/-- A time remaining after 1 ms. -/
def countDown : Option Nat → Option Nat
  | none => none
  | some n => some (n - 1)

/-- A time remaining runs out in this ms. -/
def runsOut : Option Nat → Bool
  | none => false
  | some n => decide (n ≤ 1)

/-- A time elapsed after 1 ms. -/
def countUp (limit : Nat) : Option Nat → Option Nat
  | none => none
  | some n => some (min limit (n + 1))

/-- A time elapsed reaches its limit in this ms. -/
def reaches (limit : Nat) : Option Nat → Bool
  | none => false
  | some n => decide (limit ≤ n + 1)

/-- The timers of a port after 1 ms. -/
def portTick (p : Port) : Port :=
  { p with
    silence := countUp silenceMs p.silence
    heldLow := countDown p.heldLow
    idle := countUp idleMs p.idle
    close := p.close.map fun c => { c with remaining := c.remaining - 1 } }

/-- The timers of a door's latch after 1 ms. -/
def latchTick (r : LatchRecord) : LatchRecord :=
  { r with pulse := countDown r.pulse, engage := countDown r.engage }

/-- R171: the mode timer after 1 ms; it stands while a WAKE's load waits for a save. -/
def modeTimerTick (m : ModeController) : Option Nat :=
  if m.loadWaits then m.timer else countDown m.timer

/-- R171, R172, R174, R175: the mode timer runs out in this ms. -/
def modeTimerOut (m : ModeController) : Bool := !m.loadWaits && runsOut m.timer

/-- Every ms timer after 1 ms. -/
def advance (s : State) : State :=
  let s := s.setGrant { s.grant with table := s.grant.table.map fun g =>
    { g with deadman := countDown g.deadman, pause := countDown g.pause } }
  let s := s.setPanel { s.panel with
    latch := ⟨latchTick s.panel.latch.ndor, latchTick s.panel.latch.odor⟩ }
  let s := s.setMode { s.mode with
    timer := modeTimerTick s.mode, history := s.mode.history.map (· + 1) }
  let s := s.setPermit { s.permit with pulseTimer := countDown s.permit.pulseTimer }
  let s := s.setDrive { s.drive with ditherTimer := countDown s.drive.ditherTimer }
  let s := s.setBeacon { s.beacon with
    test := s.beacon.test.map fun t => { t with elapsed := min lampTestMs (t.elapsed + 1) } }
  let s := s.setStore { s.store with
    save := s.store.save.map fun v => { v with remaining := v.remaining - 1 } }
  s.setPort ⟨portTick s.port.sl0, portTick s.port.sl1, portTick s.port.sl2, portTick s.port.sl3,
    portTick s.port.sl4, portTick s.port.sl5⟩

/-- One command, if its timer runs out. -/
def due (b : Bool) (i : Instr) : List Instr := if b then [i] else []

/-- The expiries of a grant in this ms. -/
def grantDue (g : Grant) : List Instr :=
  due (runsOut g.deadman) (.deadmanExpiry g.handle) ++
  due (runsOut g.pause) (.pauseWindowExpiry g.handle)

/-- The expiries of a port in this ms. -/
def portDue (p : Port) (l : Link) : List Instr :=
  due (reaches silenceMs p.silence) (.silenceExpiry l) ++
  due (runsOut p.heldLow) (.heldLowExpiry l) ++
  due (reaches idleMs p.idle) (.idleTimerExpiry l) ++
  due (runsOut (p.close.map (·.remaining))) (.closePendingExpiry l)

/-- The expiries of a door in this ms. -/
def doorDue (r : LatchRecord) (d : Door) : List Instr :=
  due (runsOut r.pulse) (.latchPulseExpiry d) ++ due (runsOut r.engage) (.engageExpiry d)

/-- The expiry of the mode timer in this ms. -/
def modeDue (m : ModeController) : List Instr :=
  match m.mode with
  | .wake => due (modeTimerOut m) .wakeTimerExpiry
  | .check => due (modeTimerOut m) .checkTimerExpiry
  | .retry => due (modeTimerOut m) .retryTimerExpiry
  | .closedown => due (modeTimerOut m) .closedownTimerExpiry
  | .off | .run | .defer | .barred => []

/-- The expiries that fall due in this ms, in the order they are queued (log 28). -/
def expiries (s : State) : List Instr :=
  s.grant.table.flatMap grantDue ++
  Link.list.flatMap (fun l => portDue (portOf l s) l) ++
  doorDue s.panel.latch.ndor .ndor ++ doorDue s.panel.latch.odor .odor ++
  due (runsOut s.permit.pulseTimer) .pulseTimerExpiry ++
  due (runsOut s.drive.ditherTimer) .ditherFlip ++
  due (reaches lampTestMs (s.beacon.test.map (·.elapsed))) .lampTestEnd ++
  due (runsOut (s.store.save.map (·.remaining))) .saveCompletion ++
  modeDue s.mode ++
  due (s.mode.history.any fun a => decide (retryAgeMs ≤ a + 1)) .retryEntryAgeing

/-- R12 to R178, the timers: a millisecond passes and the expiries that fall due wait in the
queue. -/
def tick (s : State) : State := (advance s).setPending (expiries s)

end Sys2Proof.Machine
end

