-- ==== Sys2Proof/Machine/BeaconCommands.lean ====
section
/-! DEFINITION. The meanings of the beacon commands (Chapter 7). -/

namespace Sys2Proof.Machine

/-- R131, R137: BEACON_TICK. -/
def execBeaconTick (currents : PerLamp Nat) (s : State) : Host.Outcome State Fault Refusal :=
  .next (event (Machine.beaconTick currents) s)

/-- R138: LAMP_SHORT. -/
def execLampShort (lamp : Lamp) (s : State) : Host.Outcome State Fault Refusal :=
  .next (event (Machine.lampShort lamp) s)

/-- R142: LAMP_TEST_MEASUREMENT. -/
def execLampTestMeasurement (currents : PerLamp Nat) (s : State) :
    Host.Outcome State Fault Refusal :=
  .next (event (lampTestMeasure currents) s)

/-- R142: LAMP_TEST_END. -/
def execLampTestEnd (s : State) : Host.Outcome State Fault Refusal :=
  .next (event lampTestExpiry s)

end Sys2Proof.Machine
end

