-- ==== Sys2Proof/Machine/DriveCommands.lean ====
section
/-! DEFINITION. The meanings of the motion commands: the grants' timers and the drive shaper's
periods and watches (Chapters 1 and 5). -/

namespace Sys2Proof.Machine

/-- R13: DEADMAN_EXPIRY. -/
def execDeadmanExpiry (handle : Nat) (s : State) : Host.Outcome State Fault Refusal :=
  .next (event (Machine.deadmanExpiry handle) s)

/-- R14: PAUSE_WINDOW_EXPIRY. -/
def execPauseWindowExpiry (handle : Nat) (s : State) : Host.Outcome State Fault Refusal :=
  .next (event (pauseExpiry handle) s)

/-- R101: START_DELAY_EXPIRY. -/
def execStartDelayExpiry (s : State) : Host.Outcome State Fault Refusal :=
  .next (event Machine.startDelayExpiry s)

/-- R91: CONTROL_PERIOD. -/
def execControlPeriod (currents : PeriodCurrents) (s : State) : Host.Outcome State Fault Refusal :=
  .next (event (Machine.controlPeriod currents) s)

/-- R107: DITHER_FLIP. -/
def execDitherFlip (s : State) : Host.Outcome State Fault Refusal :=
  .next (event Machine.ditherFlip s)

/-- R105, R174: PUMP_OVERCURRENT. -/
def execPumpOvercurrent (s : State) : Host.Outcome State Fault Refusal :=
  .next (event Machine.pumpOvercurrent s)

/-- R110: FOLD_TRAVEL_LIMIT. -/
def execFoldTravelLimit (s : State) : Host.Outcome State Fault Refusal :=
  .next (event foldTravelEvent s)

end Sys2Proof.Machine
end

