-- ==== Sys2Proof/Machine/LinkCommands.lean ====
section
/-! DEFINITION. The meanings of the link commands: symbols received and the ports' timers and
transmissions (Chapter 8). -/

namespace Sys2Proof.Machine

/-- R152: CREDIT_RECEIVED. -/
def execCreditReceived (link : Link) (s : State) : Host.Outcome State Fault Refusal :=
  .next (portEvent (receiveLine link (encodeSymbol .credit)) s)

/-- R149: FILL_RECEIVED. -/
def execFillReceived (link : Link) (s : State) : Host.Outcome State Fault Refusal :=
  .next (portEvent (receiveLine link (encodeSymbol .fill)) s)

/-- R153: DROP_RECEIVED, after the bytes of the message it abandons. -/
def execDropReceived (link : Link) (bytes : List Byte) (s : State) :
    Host.Outcome State Fault Refusal :=
  .next (portEvent (receiveDropped link bytes) s)

/-- R149: CHECK_ERROR. -/
def execCheckError (link : Link) (s : State) : Host.Outcome State Fault Refusal :=
  .next (portEvent (receiveError link) s)

/-- R151: OVERRUN. Within the credit given it is a symbol like any other (log 27). -/
def execOverrun (link : Link) (symbol : MsgSymbol) (s : State) : Host.Outcome State Fault Refusal :=
  .next (portEvent (receiveLine link (encodeSymbol (.msg symbol))) s)

/-- R149: SILENCE_EXPIRY. -/
def execSilenceExpiry (link : Link) (s : State) : Host.Outcome State Fault Refusal :=
  .next (portEvent (Machine.silenceExpiry link) s)

/-- R150: HELD_LOW_EXPIRY. -/
def execHeldLowExpiry (link : Link) (s : State) : Host.Outcome State Fault Refusal :=
  .next (portEvent (Machine.heldLowExpiry link) s)

/-- R152: IDLE_TIMER_EXPIRY. -/
def execIdleTimerExpiry (link : Link) (s : State) : Host.Outcome State Fault Refusal :=
  .next (portEvent (idleExpiry link) s)

/-- R154: MESSAGE_TRANSMITTED. -/
def execMessageTransmitted (link : Link) (s : State) : Host.Outcome State Fault Refusal :=
  .next (portEvent (Machine.messageTransmitted link) s)

/-- R155: CLOSE_QUEUE_EMPTY. -/
def execCloseQueueEmpty (link : Link) (s : State) : Host.Outcome State Fault Refusal :=
  .next (portEvent (Machine.closeQueueEmpty link) s)

/-- R155: CLOSE_PENDING_EXPIRY. -/
def execClosePendingExpiry (link : Link) (s : State) : Host.Outcome State Fault Refusal :=
  .next (portEvent (closeExpiry link) s)

end Sys2Proof.Machine
end

