-- ==== Sys2Proof/Machine/ModeCommands.lean ====
section
/-! DEFINITION. The meanings of the mode commands: ignition, supply, mode timers, power-on reset
and the completion of a save (Chapters 9 and 10). -/

namespace Sys2Proof.Machine

/-- R166, R171, R176: SAVE_COMPLETION. The GENDs of a reset it carries out are placed in order
before its reply. -/
def execSaveCompletion (s : State) : Host.Outcome State Fault Refusal :=
  .next (portEvent Machine.saveCompletion s)

/-- R76, R169: IGN_ON. -/
def execIgnOn (straps : Straps) (s : State) : Host.Outcome State Fault Refusal :=
  .next (event (Machine.ignOn straps) s)

/-- R76, R169: IGN_OFF. -/
def execIgnOff (order : IgnOrder) (s : State) : Host.Outcome State Fault Refusal :=
  .next (event (Machine.ignOff order) s)

/-- R173: SUPPLY_SAMPLE. -/
def execSupplySample (supply : Nat) (temperature : Int) (s : State) :
    Host.Outcome State Fault Refusal :=
  .next (event (Machine.supplySample supply temperature) s)

/-- R173: SUPPLYLOW_TRIP. -/
def execSupplylowTrip (s : State) : Host.Outcome State Fault Refusal :=
  .next (event lowTrip s)

/-- R173: SUPPLYHIGH_TRIP. -/
def execSupplyhighTrip (s : State) : Host.Outcome State Fault Refusal :=
  .next (event highTrip s)

/-- R173: RETURN_COUNT_EXPIRY. -/
def execReturnCountExpiry (s : State) : Host.Outcome State Fault Refusal :=
  .next (event returnComplete s)

/-- R171: WAKE_TIMER_EXPIRY. -/
def execWakeTimerExpiry (s : State) : Host.Outcome State Fault Refusal :=
  .next (event wakeExpiry s)

/-- R172: CHECK_TIMER_EXPIRY. -/
def execCheckTimerExpiry (s : State) : Host.Outcome State Fault Refusal :=
  .next (event checkExpiry s)

/-- R174: RETRY_TIMER_EXPIRY. -/
def execRetryTimerExpiry (s : State) : Host.Outcome State Fault Refusal :=
  .next (event retryExpiry s)

/-- R175: CLOSEDOWN_TIMER_EXPIRY. -/
def execClosedownTimerExpiry (s : State) : Host.Outcome State Fault Refusal :=
  .next (event closedownExpiry s)

/-- R174: RETRY_ENTRY_AGEING. -/
def execRetryEntryAgeing (s : State) : Host.Outcome State Fault Refusal :=
  .next (event ageHistory s)

/-- R170: POWER_ON_RESET. -/
def execPowerOnReset (ign : Bool) (inputs : Inputs) (s : State) :
    Host.Outcome State Fault Refusal :=
  .next (event (Machine.powerOnReset ign inputs) s)

end Sys2Proof.Machine
end

