-- ==== Sys2Proof/Machine/PanelCommands.lean ====
section
/-! DEFINITION. The meanings of the door and shutter commands (Chapter 6). -/

namespace Sys2Proof.Machine

/-- R115: DOOR_SWITCH_CHANGE. -/
def execDoorSwitchChange (door : Door) (switch : DoorSwitch) (active : Bool) (s : State) :
    Host.Outcome State Fault Refusal :=
  .next (event (doorEvent door switch active) s)

/-- R122: SHUTTER_SWITCH_CHANGE. -/
def execShutterSwitchChange (switch : ShutterSwitch) (active : Bool) (s : State) :
    Host.Outcome State Fault Refusal :=
  .next (event (shutterEvent switch active) s)

/-- R123: SAFETY_EDGE_CHANGE. -/
def execSafetyEdgeChange (contact : Bool) (s : State) : Host.Outcome State Fault Refusal :=
  .next (event (edgeEvent contact) s)

/-- R117: LATCH_PULSE_EXPIRY. -/
def execLatchPulseExpiry (door : Door) (s : State) : Host.Outcome State Fault Refusal :=
  .next (event (latchPulseExpired door) s)

/-- R119: ENGAGE_EXPIRY. -/
def execEngageExpiry (door : Door) (s : State) : Host.Outcome State Fault Refusal :=
  .next (event (engageExpired door) s)

/-- R124: OBSTRUCTION_OVERTIME. -/
def execObstructionOvertime (motor : Motor) (s : State) : Host.Outcome State Fault Refusal :=
  .next (event (obstructionEvent motor) s)

/-- R125: PANEL_TRAVEL_LIMIT. -/
def execPanelTravelLimit (motor : Motor) (s : State) : Host.Outcome State Fault Refusal :=
  .next (event (panelTravelEvent motor) s)

end Sys2Proof.Machine
end

