-- ==== Sys2Proof/Machine/SensorCommands.lean ====
section
/-! DEFINITION. The meanings of the sensing commands: axis, pressure and speed samples and the
lines PBRK and ESTOP (Chapters 2 to 4). -/

namespace Sys2Proof.Machine

/-- R52: AXIS_SAMPLE. -/
def execAxisSample (inputs : AxisInputs) (s : State) : Host.Outcome State Fault Refusal :=
  .next (event (axisSampleEvent inputs) s)

/-- R65: STALL. -/
def execStall (s : State) : Host.Outcome State Fault Refusal :=
  .next (event stallEvent s)

/-- R83: PRESSURE_SAMPLE. -/
def execPressureSample (count : Nat) (s : State) : Host.Outcome State Fault Refusal :=
  .next (event (pressureEvent count) s)

/-- R77: PULSE_ARRIVAL. -/
def execPulseArrival (period : Nat) (s : State) : Host.Outcome State Fault Refusal :=
  .next (event (Machine.pulseArrival period) s)

/-- R78: PULSE_TIMER_EXPIRY. -/
def execPulseTimerExpiry (s : State) : Host.Outcome State Fault Refusal :=
  .next (event Machine.pulseTimerExpiry s)

/-- R76: PBRK_CHANGE. -/
def execPbrkChange (applied : Bool) (s : State) : Host.Outcome State Fault Refusal :=
  .next (event (pbrkEvent applied) s)

/-- R46: ESTOP_ASSERTION. -/
def execEstopAssertion (s : State) : Host.Outcome State Fault Refusal :=
  .next (event estopAssert s)

/-- R46: ESTOP_RELEASE. -/
def execEstopRelease (s : State) : Host.Outcome State Fault Refusal :=
  .next (event Machine.estopRelease s)

end Sys2Proof.Machine
end

