-- ==== Sys2Proof/Machine/StationCommands.lean ====
section
/-! DEFINITION. The meanings of the message commands: the symbols of a message are received on a
link (R146 to R153), and a message that is handed over is handled and answered (R160). Each row's
effect on its record is its handler in Machine/Messages.lean. -/

namespace Sys2Proof.Machine

/-- R5: RQGRANT. -/
def execRqgrant (link : Link) (axis sense runKind : Byte) (demand : Word16) (s : State) :
    Host.Outcome State Fault Refusal :=
  .next (portEvent (receiveFrame link (rqgrantFrame axis sense runKind demand)) s)

/-- R16: KEEP. -/
def execKeep (link : Link) (handle axis sense : Byte) (demand : Word16) (s : State) :
    Host.Outcome State Fault Refusal :=
  .next (portEvent (receiveFrame link (keepFrame handle axis sense demand)) s)

/-- R17: LTGRANT. -/
def execLtgrant (link : Link) (handle axis sense : Byte) (demand : Word16) (s : State) :
    Host.Outcome State Fault Refusal :=
  .next (portEvent (receiveFrame link (ltgrantFrame handle axis sense demand)) s)

/-- R18: RSGRANT. -/
def execRsgrant (link : Link) (handle axis sense : Byte) (demand : Word16) (s : State) :
    Host.Outcome State Fault Refusal :=
  .next (portEvent (receiveFrame link (rsgrantFrame handle axis sense demand)) s)

/-- R43: STOPZ. -/
def execStopz (link : Link) (zones : Byte) (s : State) : Host.Outcome State Fault Refusal :=
  .next (portEvent (receiveFrame link (stopzFrame zones)) s)

/-- R44, R45: CLRSTOP. -/
def execClrstop (link : Link) (id : Byte) (s : State) : Host.Outcome State Fault Refusal :=
  .next (portEvent (receiveFrame link (clrstopFrame id)) s)

/-- R38, R39: LOCKT. -/
def execLockt (link : Link) (tag : Word32) (axes : Byte) (s : State) :
    Host.Outcome State Fault Refusal :=
  .next (portEvent (receiveFrame link (locktFrame tag axes)) s)

/-- R40: ULOCKT. -/
def execUlockt (link : Link) (id : Byte) (tag : Word32) (s : State) :
    Host.Outcome State Fault Refusal :=
  .next (portEvent (receiveFrame link (ulocktFrame id tag)) s)

/-- R69: ACKFLT. -/
def execAckflt (link : Link) (axis : Byte) (s : State) : Host.Outcome State Fault Refusal :=
  .next (portEvent (receiveFrame link (ackfltFrame axis)) s)

/-- R19: QGRANTS. -/
def execQgrants (link : Link) (first : Byte) (s : State) : Host.Outcome State Fault Refusal :=
  .next (portEvent (receiveFrame link (qgrantsFrame first)) s)

/-- R48: QHOLDS. -/
def execQholds (link : Link) (first : Byte) (s : State) : Host.Outcome State Fault Refusal :=
  .next (portEvent (receiveFrame link (qholdsFrame first)) s)

/-- R70: QAXES. -/
def execQaxes (link : Link) (axis : Byte) (s : State) : Host.Outcome State Fault Refusal :=
  .next (portEvent (receiveFrame link (qaxesFrame axis)) s)

/-- R165: CFGRD. -/
def execCfgrd (link : Link) (item : Byte) (s : State) : Host.Outcome State Fault Refusal :=
  .next (portEvent (receiveFrame link (cfgrdFrame item)) s)

/-- R165: CFGWR. -/
def execCfgwr (link : Link) (item : Byte) (value : Word32) (s : State) :
    Host.Outcome State Fault Refusal :=
  .next (portEvent (receiveFrame link (cfgwrFrame item value)) s)

/-- R63: CFGBAND. -/
def execCfgband (link : Link) (bands : List Word32) (s : State) :
    Host.Outcome State Fault Refusal :=
  .next (portEvent (receiveFrame link (cfgbandFrame bands)) s)

/-- R166: CFGSAVE. -/
def execCfgsave (link : Link) (s : State) : Host.Outcome State Fault Refusal :=
  .next (portEvent (receiveFrame link cfgsaveFrame) s)

/-- R176: RSTLVL_1. -/
def execRstlvl1 (link : Link) (s : State) : Host.Outcome State Fault Refusal :=
  .next (portEvent (receiveFrame link (rstlvlFrame 1#8)) s)

/-- R176: RSTLVL_2. -/
def execRstlvl2 (link : Link) (s : State) : Host.Outcome State Fault Refusal :=
  .next (portEvent (receiveFrame link (rstlvlFrame 2#8)) s)

/-- R156: RSTLINK. -/
def execRstlink (link : Link) (target : Byte) (s : State) : Host.Outcome State Fault Refusal :=
  .next (portEvent (receiveFrame link (rstlinkFrame target)) s)

/-- R41: FREELOCK. -/
def execFreelock (link : Link) (id : Byte) (s : State) : Host.Outcome State Fault Refusal :=
  .next (portEvent (receiveFrame link (freelockFrame id)) s)

/-- R167: NOTRD. -/
def execNotrd (link : Link) (s : State) : Host.Outcome State Fault Refusal :=
  .next (portEvent (receiveFrame link notrdFrame) s)

/-- R167: NOTMSK. -/
def execNotmsk (link : Link) (mask : Word16) (s : State) : Host.Outcome State Fault Refusal :=
  .next (portEvent (receiveFrame link (notmskFrame mask)) s)

/-- R140: LAMPRA. -/
def execLampra (link : Link) (channels : Word16) (s : State) : Host.Outcome State Fault Refusal :=
  .next (portEvent (receiveFrame link (lampraFrame channels)) s)

/-- R177: FLTRD. -/
def execFltrd (link : Link) (s : State) : Host.Outcome State Fault Refusal :=
  .next (portEvent (receiveFrame link fltrdFrame) s)

/-- R160: MALFORMED_FRAME, a frame of any bytes. -/
def execMalformedFrame (link : Link) (bytes : List Byte) (s : State) :
    Host.Outcome State Fault Refusal :=
  .next (portEvent (receiveFrame link bytes) s)

end Sys2Proof.Machine
end

