-- ==== Sys2Proof/Machine/Dispatch.lean ====
section
/-! DEFINITION. The dispatch of a command to its meaning. -/

namespace Sys2Proof.Machine

def exec (i : Instr) (s : State) : Host.Outcome State Fault Refusal :=
  match i with
  | .rqgrant link axis sense runKind demand => Sys2Proof.Machine.execRqgrant link axis sense runKind demand s
  | .keep link handle axis sense demand => Sys2Proof.Machine.execKeep link handle axis sense demand s
  | .ltgrant link handle axis sense demand => Sys2Proof.Machine.execLtgrant link handle axis sense demand s
  | .rsgrant link handle axis sense demand => Sys2Proof.Machine.execRsgrant link handle axis sense demand s
  | .stopz link zones => Sys2Proof.Machine.execStopz link zones s
  | .clrstop link id => Sys2Proof.Machine.execClrstop link id s
  | .lockt link tag axes => Sys2Proof.Machine.execLockt link tag axes s
  | .ulockt link id tag => Sys2Proof.Machine.execUlockt link id tag s
  | .ackflt link axis => Sys2Proof.Machine.execAckflt link axis s
  | .qgrants link first => Sys2Proof.Machine.execQgrants link first s
  | .qholds link first => Sys2Proof.Machine.execQholds link first s
  | .qaxes link axis => Sys2Proof.Machine.execQaxes link axis s
  | .cfgrd link item => Sys2Proof.Machine.execCfgrd link item s
  | .cfgwr link item value => Sys2Proof.Machine.execCfgwr link item value s
  | .cfgband link bands => Sys2Proof.Machine.execCfgband link bands s
  | .cfgsave link => Sys2Proof.Machine.execCfgsave link s
  | .saveCompletion => Sys2Proof.Machine.execSaveCompletion s
  | .rstlvl1 link => Sys2Proof.Machine.execRstlvl1 link s
  | .rstlvl2 link => Sys2Proof.Machine.execRstlvl2 link s
  | .rstlink link target => Sys2Proof.Machine.execRstlink link target s
  | .freelock link id => Sys2Proof.Machine.execFreelock link id s
  | .notrd link => Sys2Proof.Machine.execNotrd link s
  | .notmsk link mask => Sys2Proof.Machine.execNotmsk link mask s
  | .lampra link channels => Sys2Proof.Machine.execLampra link channels s
  | .fltrd link => Sys2Proof.Machine.execFltrd link s
  | .malformedFrame link bytes => Sys2Proof.Machine.execMalformedFrame link bytes s
  | .creditReceived link => Sys2Proof.Machine.execCreditReceived link s
  | .fillReceived link => Sys2Proof.Machine.execFillReceived link s
  | .dropReceived link bytes => Sys2Proof.Machine.execDropReceived link bytes s
  | .checkError link => Sys2Proof.Machine.execCheckError link s
  | .overrun link symbol => Sys2Proof.Machine.execOverrun link symbol s
  | .silenceExpiry link => Sys2Proof.Machine.execSilenceExpiry link s
  | .heldLowExpiry link => Sys2Proof.Machine.execHeldLowExpiry link s
  | .idleTimerExpiry link => Sys2Proof.Machine.execIdleTimerExpiry link s
  | .messageTransmitted link => Sys2Proof.Machine.execMessageTransmitted link s
  | .closeQueueEmpty link => Sys2Proof.Machine.execCloseQueueEmpty link s
  | .closePendingExpiry link => Sys2Proof.Machine.execClosePendingExpiry link s
  | .deadmanExpiry handle => Sys2Proof.Machine.execDeadmanExpiry handle s
  | .pauseWindowExpiry handle => Sys2Proof.Machine.execPauseWindowExpiry handle s
  | .startDelayExpiry => Sys2Proof.Machine.execStartDelayExpiry s
  | .controlPeriod currents => Sys2Proof.Machine.execControlPeriod currents s
  | .ditherFlip => Sys2Proof.Machine.execDitherFlip s
  | .pumpOvercurrent => Sys2Proof.Machine.execPumpOvercurrent s
  | .foldTravelLimit => Sys2Proof.Machine.execFoldTravelLimit s
  | .axisSample inputs => Sys2Proof.Machine.execAxisSample inputs s
  | .stall => Sys2Proof.Machine.execStall s
  | .pressureSample count => Sys2Proof.Machine.execPressureSample count s
  | .pulseArrival period => Sys2Proof.Machine.execPulseArrival period s
  | .pulseTimerExpiry => Sys2Proof.Machine.execPulseTimerExpiry s
  | .pbrkChange applied => Sys2Proof.Machine.execPbrkChange applied s
  | .ignOn straps => Sys2Proof.Machine.execIgnOn straps s
  | .ignOff order => Sys2Proof.Machine.execIgnOff order s
  | .estopAssertion => Sys2Proof.Machine.execEstopAssertion s
  | .estopRelease => Sys2Proof.Machine.execEstopRelease s
  | .doorSwitchChange door switch active => Sys2Proof.Machine.execDoorSwitchChange door switch active s
  | .shutterSwitchChange switch active => Sys2Proof.Machine.execShutterSwitchChange switch active s
  | .safetyEdgeChange contact => Sys2Proof.Machine.execSafetyEdgeChange contact s
  | .latchPulseExpiry door => Sys2Proof.Machine.execLatchPulseExpiry door s
  | .engageExpiry door => Sys2Proof.Machine.execEngageExpiry door s
  | .obstructionOvertime motor => Sys2Proof.Machine.execObstructionOvertime motor s
  | .panelTravelLimit motor => Sys2Proof.Machine.execPanelTravelLimit motor s
  | .beaconTick currents => Sys2Proof.Machine.execBeaconTick currents s
  | .lampShort lamp => Sys2Proof.Machine.execLampShort lamp s
  | .lampTestMeasurement currents => Sys2Proof.Machine.execLampTestMeasurement currents s
  | .lampTestEnd => Sys2Proof.Machine.execLampTestEnd s
  | .supplySample supply temperature => Sys2Proof.Machine.execSupplySample supply temperature s
  | .supplylowTrip => Sys2Proof.Machine.execSupplylowTrip s
  | .supplyhighTrip => Sys2Proof.Machine.execSupplyhighTrip s
  | .returnCountExpiry => Sys2Proof.Machine.execReturnCountExpiry s
  | .wakeTimerExpiry => Sys2Proof.Machine.execWakeTimerExpiry s
  | .checkTimerExpiry => Sys2Proof.Machine.execCheckTimerExpiry s
  | .retryTimerExpiry => Sys2Proof.Machine.execRetryTimerExpiry s
  | .closedownTimerExpiry => Sys2Proof.Machine.execClosedownTimerExpiry s
  | .retryEntryAgeing => Sys2Proof.Machine.execRetryEntryAgeing s
  | .powerOnReset ign inputs => Sys2Proof.Machine.execPowerOnReset ign inputs s

end Sys2Proof.Machine
end

