-- ==== Sys2Proof/Safety.lean ====
section
/-! DEFINITION. What a sound state of the part is, in the terms the statements use: the bounds of a
port record (R145), the hold table's places (R35, R36), the grant table and its slots (R1, R2, R4),
which grants may move (R32), the judgements in force (R73, R139), nothing driven outside RUN and
CLOSEDOWN (R29, R111), and a link ready for a message; and what an event leaves behind: its GENDs,
its reply, a notice, the zone demands. -/

namespace Sys2Proof.Machine

/-- R145: a port's buffer and credit lie in their places, its frame in its 40 bytes; only an UP port
has a queue or a close pending; a DISABLED or SILENCED port holds nothing. -/
structure PortOk (p : Port) : Prop where
  room : p.buffer.length + p.creditGiven ≤ bufferPlaces
  held : p.creditHeld ≤ bufferPlaces
  frame : ∀ f, p.frame = some f → f.bytes.length ≤ frameBytes
  queue : p.state ≠ .up → p.queue = []
  close : p.state ≠ .up → p.close = none
  rest : p.state = .disabled ∨ p.state = .silenced →
    p.buffer = [] ∧ p.creditGiven = 0 ∧ p.creditHeld = 0 ∧ p.frame = none ∧ p.inHand = false

/-- R145: every port is sound. -/
def PortsOk (s : State) : Prop := ∀ l, PortOk (portOf l s)

/-- R33, R35, R36: at most 23 records from stations and one from the line, ids distinct and within
1..255. -/
structure HoldsOk (s : State) : Prop where
  stations : stationHolds s ≤ maxStationHolds
  line : (s.hold.table.filter fun h => !fromStation h).length ≤ 1
  distinct : (s.hold.table.map (·.id)).Nodup
  range : ∀ h ∈ s.hold.table, 1 ≤ h.id ∧ h.id ≤ 255

/-- R111, R128: every output, coil command and motor duty is 0, the contactor OPEN, the diverters
NEUTRAL and the solenoids OFF. -/
structure OutputsOff (s : State) : Prop where
  output : s.drive.output = .all 0
  coil : s.drive.coil = .all 0
  duty : s.drive.duty = .all 0
  pump : s.drive.pumpClosed = false
  d1 : s.drive.d1 = none
  d2 : s.drive.d2 = none
  near : s.panel.latch.ndor.solenoid = false
  off : s.panel.latch.odor.solenoid = false

/-- R29, R111: outside RUN and CLOSEDOWN no grant is live and nothing is driven. -/
def Quiet (s : State) : Prop :=
  shapedMode s.mode.mode = false → s.grant.table = [] ∧ OutputsOff s

/-- R153: a link that takes each symbol as it comes and hands a message over at its EOM: UP, no
message in hand, no close pending, nothing buffered or framed, and credit given. The credit a taken
symbol frees is returned at once (R151), so one place is enough for a message of any length. -/
structure Ready (l : Link) (s : State) : Prop where
  up : (portOf l s).state = .up
  hand : (portOf l s).inHand = false
  close : (portOf l s).close = none
  buffer : (portOf l s).buffer = []
  frame : (portOf l s).frame = none
  credit : (portOf l s).creditGiven ≠ 0

/-! ## The grant engine's records and slots -/

/-- R1: a grant record's fields lie in their ranges, each conditional field present in its states
alone. -/
structure GrantOk (g : Grant) : Prop where
  handle : 1 ≤ g.handle ∧ g.handle ≤ 255
  demand : g.demand ≤ 1000
  fixed : takesDemand g.axis = false → g.demand = 1000
  reason : g.reason.isSome = true ↔ g.state = .easing
  deadman : g.deadman.isSome = true ↔ g.kind = .hold ∧ (g.state = .waiting ∨ g.state = .driving)
  pause : g.pause.isSome = true ↔ g.state = .paused

/-- R1, R2: at most 12 records, their handles distinct, and for a station at most one record on
each resource. -/
structure GrantsOk (s : State) : Prop where
  records : ∀ g ∈ s.grant.table, GrantOk g
  room : s.grant.table.length ≤ maxGrants
  distinct : (s.grant.table.map (·.handle)).Nodup
  single : ∀ g ∈ s.grant.table, ∀ k ∈ s.grant.table,
    g.station = k.station → resourceOf g.axis = resourceOf k.axis → g = k

/-- R4: the holder of a slot is the grant in DRIVING, EASING or PAUSED on its resource, the waiting
grant the one in WAITING; a waiting grant is present only while the holder is EASING. -/
structure SlotsOk (s : State) : Prop where
  holder : ∀ r h, (slotOf r s).holder = some h ↔
    ∃ g ∈ s.grant.table, g.handle = h ∧ resourceOf g.axis = r ∧ g.state ≠ .waiting
  waiting : ∀ r h, (slotOf r s).waiting = some h ↔
    ∃ g ∈ s.grant.table, g.handle = h ∧ resourceOf g.axis = r ∧ g.state = .waiting
  behind : ∀ r, (slotOf r s).waiting ≠ none →
    ∃ g ∈ s.grant.table, (slotOf r s).holder = some g.handle ∧ g.state = .easing

/-- R32: a grant that is not EASING stands in RUN, on an axis that is not FAULTED and not covered by
a live hold, with no permit cause of its sense absent. -/
def AllowedOk (s : State) : Prop :=
  ∀ g ∈ s.grant.table, g.state ≠ .easing →
    s.mode.mode = .run ∧ s.axis.fault.get g.axis = none ∧
      (∀ h ∈ s.hold.table, h.axes.get g.axis = false) ∧
      (s.permit.map.get g.axis).get g.sense = .empty

/-- R73, R139: the permit map and the zone health are those of the inputs as they stand. -/
structure JudgedOk (s : State) : Prop where
  map : s.permit.map = permitMap s
  health : ∀ z, (s.beacon.zone.get z).health = zoneHealth z s

/-- R90, R98: every output and every motor duty lies within 0..1000. -/
structure OutputsOk (s : State) : Prop where
  output : ∀ a, s.drive.output.get a ≤ 1000
  duty : ∀ m, s.drive.duty.get m ≤ 1000

/-- R2, R4: the grant in DRIVING, EASING or PAUSED on a resource, as the table lists it. -/
def holderOn (r : Resource) (s : State) : Option Grant :=
  s.grant.table.find? fun g => decide (resourceOf g.axis = r ∧ g.state ≠ .waiting)

/-- R2, R4: the grant in WAITING on a resource, as the table lists it. -/
def waiterOn (r : Resource) (s : State) : Option Grant :=
  s.grant.table.find? fun g => decide (resourceOf g.axis = r ∧ g.state = .waiting)

/-- R6: the resource slot refuses a request of a rank. -/
def slotRefuses (r : Resource) (rank : Nat) (s : State) : Bool :=
  match waiterOn r s, holderOn r s with
  | some w, _ => decide (rank ≤ rankOf w.station s)
  | none, some h => decide (h.state ≠ .easing) && decide (rank ≤ rankOf h.station s)
  | none, none => false

/-- R5: the nine checks on an RQGRANT, in order, each with the reply it gives. -/
def requestChecks (l : Link) (a : Axis) (n : Sense) (k : RunKind) (s : State) :
    List (Bool × Status × List Byte) :=
  let p := s.config.profile.get l
  let absent := (s.permit.map.get a).get n
  [(decide (s.mode.mode ≠ .run), .mode, []),
    (!s.axis.fitted.get a, .notfitted, []),
    (!(p.allowed.get a).get n || (decide (k = .latch) && (!p.latched || (motorOf a).isNone)),
      .notallowed, []),
    ((s.axis.fault.get a).isSome, .faulted, [byteOf (faultOptNum (s.axis.fault.get a))]),
    (s.hold.table.any fun h => h.axes.get a, .held,
      [byteOf (((s.hold.table.filter fun h => h.axes.get a).head?.map (·.id)).getD 0)]),
    (decide (absent ≠ .empty), .nopermit, [byteOf (causeBits absent)]),
    (s.grant.table.any fun g => decide (g.station = l ∧ resourceOf g.axis = resourceOf a), .busy,
      []),
    (decide (12 ≤ s.grant.table.length), .noroom, []),
    (slotRefuses (resourceOf a) (rankOf l s) s, .busy, [])]

/-- R5: a request that passes every check, sent over a ready link. -/
structure Accepted (l : Link) (a : Axis) (n : Sense) (k : RunKind) (s : State) : Prop where
  ready : Ready l s
  grants : GrantsOk s
  slots : SlotsOk s
  checks : ∀ row ∈ requestChecks l a n k s, row.1 = false

/-- R7: the RQGRANT of a link, its coded fields with a meaning. -/
def requestFor (l : Link) (a : Axis) (n : Sense) (k : RunKind) (demand : Word16) : Instr :=
  .rqgrant l (byteOf (axisCode a)) (byteOf (senseCode n)) (byteOf (kindCode k)) demand

/-- R3: the handle the next grant gets. -/
def nextHandle (s : State) : Nat :=
  allocate (s.grant.table.map (·.handle)) 255 s.grant.lastHandle

/-- R36: the id the next hold gets. -/
def nextId (s : State) : Nat := allocate (s.hold.table.map (·.id)) 255 s.hold.lastId

/-- R3, R36: the number after a number, with 255 followed by 1. -/
def numberAfter (n : Nat) : Nat := if n ≥ 255 then 1 else n + 1

/-- R7: the record a granted request makes. -/
def requested (l : Link) (a : Axis) (n : Sense) (k : RunKind) (demand : Word16) (st : GrantState)
    (s : State) : Grant :=
  { handle := nextHandle s, station := l, axis := a, sense := n, kind := k
    demand := if a = .lift ∨ a = .tilt then min 1000 demand.toNat else 1000
    state := st, reason := none
    deadman := if k = .hold then some s.config.deadman else none, pause := none }

/-! ## What an event leaves behind -/

/-- The output queue of a link's port. -/
def queueOf (k : Link) (s : State) : List OutMsg := (portOf k s).queue

/-- R153, R154: the symbols of queued messages, each with its EOM. -/
def symbolsIn (queue : List OutMsg) : Nat := (queue.map fun m => (outBytes m).length + 1).sum

/-- R23: the GENDs of retired grants that go to a link: none for RELEASED, none on a link not UP. -/
def gendsTo (k : Link) (ends : List (Grant × Reason)) (s : State) : List OutMsg :=
  if (portOf k s).state = .up then
    (ends.filter fun e => decide (e.1.station = k ∧ e.2 ≠ .released)).map fun e =>
      .gend e.1.handle e.1.axis e.2
  else []

/-- R23: an event has placed the GENDs of the grants it retired and touched no port otherwise. -/
def Told (ends : List (Grant × Reason)) (s t : State) : Prop :=
  ∀ k, portOf k t = { portOf k s with queue := queueOf k s ++ gendsTo k ends s }

/-- R151: the credit given after one symbol that framing takes at once: one place fewer promised, then
8 more for each 8 places that are neither filled nor promised. -/
def creditStep (c : Nat) : Nat := c - 1 + 8 * ((33 - c) / 8)

/-- R151: the credit given after a number of such symbols. -/
def creditAfter : Nat → Nat → Nat
  | 0, c => c
  | n + 1, c => creditAfter n (creditStep c)

/-- R151: a CREDIT is sent for one of them. -/
def creditSent : Nat → Nat → Bool
  | 0, _ => false
  | n + 1, c => decide (c ≤ 25) || creditSent n (creditStep c)

/-- R149, R151, R152: a ready port after `n` symbols that framing takes at once: the silence timer
restarted, the credit they used returned, the idle timer restarted by a CREDIT sent. -/
def taken (n : Nat) (p : Port) : Port :=
  { p with
    silence := some 0, creditGiven := creditAfter n p.creditGiven
    idle := if creditSent n p.creditGiven then some 0 else p.idle
    lastSent := if creditSent n p.creditGiven then some .credit else p.lastSent }

/-- R151, R153, R160, R23: a ready link has taken a message of `n` symbols (its bytes and its EOM), the
GENDs it caused are placed, then its reply; the message is in hand and no other port is touched
otherwise. -/
structure Handled (n : Nat) (l : Link) (ends : List (Grant × Reason)) (reply : OutMsg)
    (s t : State) : Prop where
  queue : ∀ k, queueOf k t =
    queueOf k s ++ gendsTo k ends s ++ (if k = l then [reply] else [])
  taker : portOf l t = { taken n (portOf l s) with inHand := true, queue := queueOf l t }
  others : ∀ k, k ≠ l → portOf k t = { portOf k s with queue := queueOf k t }

/-- R153, R160: a ready link has taken a message of `n` symbols that changes nothing but its own port,
and is answered. -/
def AnsweredOnly (n : Nat) (l : Link) (reply : OutMsg) (s t : State) : Prop :=
  t = putPort l (portOf l t) s ∧ Handled n l [] reply s t

/-- R167: one more flag set, the mask kept, the attention line judged. -/
def Noticed (flags mask : NoticeSet) (t : State) : Prop :=
  t.notice.flags = flags ∧ t.notice.mask = mask ∧
    t.notice.attention = (decide (t.mode.mode ≠ .off) && noticePending t.notice)

/-- R23, R167: the GEND notice of an event that has retired grants. -/
def GendNoticed (ends : List (Grant × Reason)) (s t : State) : Prop :=
  if ends.any fun e => decide (e.2 ≠ .released) then
    Noticed { s.notice.flags with gend := true } s.notice.mask t
  else t.notice = s.notice

/-- R134 to R136: a zone has restarted its period with a demand: counter 0, first period, the working
set its OK channels, each channel at its slot's place, and only the first slot's channel ON, its offset
alone being 0. -/
structure Restarted (z : Zone) (p : Pattern) (s t : State) : Prop where
  zone : t.beacon.zone.get z = { s.beacon.zone.get z with
    demand := p, counter := 0, firstPeriod := true, workingSet := okLamps z s }
  lamp : ∀ c ∈ lampsOf z s, t.beacon.lamp.get c = { s.beacon.lamp.get c with
    position := if c ∈ okLamps z s then some ((okLamps z s).idxOf c) else none
    driven := decide (p ≠ .none ∧ (okLamps z s).head? = some c) }

/-- R132, R133: an event has changed the judgement of a zone, and the zone shows another demand. -/
def demandMoves (z : Zone) (s t : State) : Bool :=
  decide (zoneDemand z t ≠ zoneDemand z s) &&
  decide ((s.beacon.zone.get z).demand ≠ zoneDemand z t)

/-- R132 to R134, R142: what an event changes in the beacon controller through the demands: a zone
whose demand it moves restarts its period with it, or during the lamp test only records it, the counter
and the first period kept (model's choice, log 57); every other zone and its channels are as before. -/
structure DemandsFollow (s t : State) : Prop where
  restarts : ∀ z, demandMoves z s t = true → s.beacon.test = none →
    Restarted z (zoneDemand z t) s t
  records : ∀ z, demandMoves z s t = true → s.beacon.test.isSome = true →
    t.beacon.zone.get z = { s.beacon.zone.get z with demand := zoneDemand z t } ∧
      ∀ c ∈ lampsOf z s, t.beacon.lamp.get c = s.beacon.lamp.get c
  kept : ∀ z, demandMoves z s t = false → t.beacon.zone.get z = s.beacon.zone.get z ∧
    ∀ c ∈ lampsOf z s, t.beacon.lamp.get c = s.beacon.lamp.get c
  lamp : ∀ c, s.config.lamp.zone.get c = none → t.beacon.lamp.get c = s.beacon.lamp.get c
  timebase : t.beacon.timebase = s.beacon.timebase
  test : t.beacon.test = s.beacon.test

/-- R177: the fault record after one more fault. -/
def loggedFault (r : FaultRecord) (f : FaultLog) : FaultLog :=
  match f.record with
  | none => { f with record := some r }
  | some _ => { f with further := min 255 (f.further + 1) }

/-- R167, R177: the notice flags an axis fault sets, FLTREC with an empty fault record alone. -/
def faultFlags (f : FaultLog) (n : NoticeSet) : NoticeSet :=
  { n with fault := true, fltrec := n.fltrec || f.record.isNone }

/-! ## What an ending leaves behind (R10, R20 to R22) -/

/-- The modes in which links are served and a grant's end does not by itself end the mode (R175). -/
def Settled (s : State) : Prop := linkMode s.mode.mode = true ∧ s.mode.mode ≠ .closedown

/-- R29, R32: in CLOSEDOWN every grant is EASING. -/
def EasingOnly (s : State) : Prop :=
  s.mode.mode = .closedown → ∀ g ∈ s.grant.table, g.state = .easing

/-- R147: the modes in which links are served, every grant EASING in CLOSEDOWN. -/
def Serving (s : State) : Prop := linkMode s.mode.mode = true ∧ EasingOnly s

/-- R10, R102: an axis whose grant does not reach an output of 0 within its entry into EASING: the
output is above 0 and, for a motor axis, the gate is PASS. -/
def runsDown (a : Axis) (s : State) : Bool :=
  decide (s.drive.output.get a ≠ 0) && decide (gateOf a s = .pass)

/-- R10: a grant that has entered EASING with a reason. -/
def eased (g : Grant) (r : Reason) : Grant :=
  { g with state := .easing, reason := some r, deadman := none, pause := none }

/-- R20: the table without the records of a handle. -/
def tableWithout (h : Nat) (s : State) : List Grant :=
  s.grant.table.filter fun x => decide (x.handle ≠ h)

/-- The table with the record of a grant's handle changed. -/
def tableWith (g : Grant) (s : State) : List Grant :=
  s.grant.table.map fun x => if x.handle = g.handle then g else x

/-- R20: the table after a ramped ending of the selected grants: WAITING ones retired, DRIVING and
PAUSED ones EASING, or retired where the output is 0. -/
def rampedTable (sel : Grant → Bool) (r : Reason) (s : State) : List Grant :=
  s.grant.table.filterMap fun g =>
    if sel g = false ∨ g.state = .easing then some g
    else if g.state ≠ .waiting ∧ runsDown g.axis s = true then some (eased g r)
    else none

/-- R20: the grants a ramped ending of the selected ones retires at once, in creation order. -/
def rampedEnds (sel : Grant → Bool) (r : Reason) (s : State) : List (Grant × Reason) :=
  (s.grant.table.filter fun g =>
    sel g && decide (g.state ≠ .easing) &&
      !(decide (g.state ≠ .waiting) && runsDown g.axis s)).map fun g => (g, r)

/-- R22, R103, R121: what is left of an axis whose driving grant has gone and is not replaced:
output, coil commands and duty 0, no driving grant and no start delay, the panel sequence stopped. -/
structure AxisStopped (a : Axis) (s t : State) : Prop where
  output : t.drive.output.get a = 0
  driving : t.drive.driving.get a = none
  delay : t.drive.startDelay.get a = none
  coil : ∀ c, axisOfCoil c = a → t.drive.coil.get c = 0
  duty : ∀ m, axisOfMotor m = a → t.drive.duty.get m = 0 ∧ t.drive.direction.get m = none
  panel : ∀ m, axisOfMotor m = a →
    (t.panel.axis.get m).seq = none ∧ (t.panel.axis.get m).gate = .pass ∧
      (t.panel.axis.get m).travel = none ∧
      (t.panel.axis.get m).state = stoppedState (s.panel.axis.get m).state
  latch : ∀ d, axisOfMotor (motorOfDoor d) = a →
    (t.panel.latch.get d).solenoid = false ∧ (t.panel.latch.get d).pulse = none ∧
      (t.panel.latch.get d).engage = none
  pump : resourceOf a = .hyd → t.drive.pumpClosed = false

/-- R17, R13, R14, R20: the holder of a slot, with no grant waiting, has taken a ramped ending: it
is EASING with nothing else changed, or, its output being 0, retired with its axis stopped and its
slot FREE. -/
structure HolderRamped (g : Grant) (r : Reason) (s t : State) : Prop where
  eases : runsDown g.axis s = true → t.drive = s.drive ∧
    t.grant = { s.grant with table := tableWith (eased g r) s }
  ends : runsDown g.axis s = false → AxisStopped g.axis s t ∧
    t.grant = { s.grant with
      table := tableWithout g.handle s
      slots := s.grant.slots.set (resourceOf g.axis) ⟨none, none⟩ }
  platform : motorOf g.axis = none → t.panel = s.panel

/-- R20: a ramped ending of the selected grants. The axes of the retired holders are stopped. -/
structure Ramped (sel : Grant → Bool) (r : Reason) (s t : State) : Prop where
  table : t.grant.table = rampedTable sel r s
  handle : t.grant.lastHandle = s.grant.lastHandle
  stopped : ∀ e ∈ rampedEnds sel r s, e.1.state ≠ .waiting → AxisStopped e.1.axis s t

/-- R30, R150, R155: a port has left UP for a resting record. The LINK notice is reported, the
grants of its station wind down (STRICT) or pause (TOLERANT), no GEND reaches the station and no
other port is touched. -/
structure LinkLost (l : Link) (p : Port) (s t : State) : Prop where
  port : portOf l t = p
  others : ∀ k, k ≠ l → portOf k t = portOf k s
  strict : (s.config.profile.get l).mode = .strict →
    Ramped (fun g => decide (g.station = l)) .linkLost s t ∧
      Noticed { s.notice.flags with
        link := true
        gend := s.notice.flags.gend ||
          (rampedEnds (fun g => decide (g.station = l)) .linkLost s).any fun _ => true }
        s.notice.mask t
  tolerant : (s.config.profile.get l).mode = .tolerant →
    t.grant.table = s.grant.table.filterMap (fun g =>
      if g.station ≠ l then some g
      else
        match g.state with
        | .waiting => none
        | .driving => some { g with
            state := .paused, deadman := none, pause := some s.config.pauseWindow }
        | .easing | .paused => some g) ∧
      Noticed { s.notice.flags with
        link := true
        gend := s.notice.flags.gend ||
          s.grant.table.any fun g => decide (g.station = l ∧ g.state = .waiting) }
        s.notice.mask t
  frame : t = { s with
    grant := t.grant, drive := t.drive, panel := t.panel, port := t.port, notice := t.notice
    beacon := t.beacon, store := t.store }
  demands : DemandsFollow s t
  store : t.store = { s.store with
    resetWaits := if l = .sl0 then s.store.resetWaits.map fun _ => .dropped
                  else s.store.resetWaits }

/-- R66: a fault has been set on an axis: the code recorded, every grant on the axis cut with reason
FAULT, the FAULT notice raised and the fault entered in the record or counted. -/
structure FaultSet (a : Axis) (code : FaultCode) (s t : State) : Prop where
  recorded : t.axis.fault = s.axis.fault.set a (some code)
  table : t.grant.table.map (·.handle) =
    (s.grant.table.filter fun g => decide (g.axis ≠ a)).map (·.handle)
  log : t.faultLog = loggedFault
    { kind := .axisFault code, axis := some a, coil := none
      position := if a = .lift then some s.axis.position else none, mode := s.mode.mode }
    s.faultLog
  notice : Noticed { faultFlags s.faultLog s.notice.flags with
    gend := s.notice.flags.gend || s.grant.table.any fun g => decide (g.axis = a) }
    s.notice.mask t
  told : Told ((s.grant.table.filter fun g => decide (g.axis = a)).map fun g => (g, .fault)) s t
  frame : t = { s with
    grant := t.grant, axis := t.axis, drive := t.drive, panel := t.panel, port := t.port
    notice := t.notice, faultLog := t.faultLog, beacon := t.beacon }

/-- R65, R110, R117, R119, R125: the window or travel time that the command reports is there, or the
latch time has run out. -/
def limitRuns (c : Instr) (s : State) : Bool :=
  match c with
  | .stall => s.axis.stall.isSome
  | .foldTravelLimit => s.drive.foldTravel.isSome
  | .latchPulseExpiry d => decide ((s.panel.latch.get d).pulse = some 0)
  | .engageExpiry d => decide ((s.panel.latch.get d).engage = some 0)
  | .panelTravelLimit m => (s.panel.axis.get m).travel.isSome
  | _ => false

/-- R67: the commands that report a fault, with the axis and the code. -/
def faultEvents : List (Instr × Axis × FaultCode) :=
  [(.stall, .lift, .stall), (.foldTravelLimit, .fold, .travel),
    (.latchPulseExpiry .ndor, .ndor, .latchstuck), (.latchPulseExpiry .odor, .odor, .latchstuck),
    (.engageExpiry .ndor, .ndor, .latchmiss), (.engageExpiry .odor, .odor, .latchmiss),
    (.panelTravelLimit .shut, .shut, .travel), (.panelTravelLimit .ndor, .ndor, .travel),
    (.panelTravelLimit .odor, .odor, .travel)]

/-- R148: a port that has just entered OPENING at a rate. -/
def openingPort (rate : Nat) : Port :=
  { state := .opening, rate := rate, buffer := [], creditGiven := 32, creditHeld := 0
    frame := none, inHand := false, queue := [], position := 0, close := none, silence := none
    heldLow := none, idle := some 0, lastSent := some .credit }

/-- R150: a port that has just entered SILENCED. -/
def restingPort (rate : Nat) (silenced : Bool) : Port :=
  { state := if silenced then .silenced else .disabled, rate := rate, buffer := []
    creditGiven := 0, creditHeld := 0, frame := none, inHand := false, queue := [], position := 0
    close := none, silence := none, heldLow := if silenced then some 10 else none, idle := none
    lastSent := none }

/-- R155: the target of a close commanded while another is pending. -/
def closeTarget (disabled : Bool) : CloseTarget → CloseTarget
  | .disabled => .disabled
  | .silenced => if disabled then .disabled else .silenced

/-- R176 step 3, R147, R155: what RSTLVL 1 makes of an operator port, whose output queue with the GENDs
of the cuts is `q`, between the states before and after: UP it closes, OPENING it is silenced, and where
the reload disables it, it is DISABLED or closes to it. -/
def resetPort (k : Link) (q : List OutMsg) (s t : State) : Port :=
  let p := portOf k s
  let ended := portEnabled k s && !portEnabled k t
  match p.state, p.close with
  | .up, some c => { p with queue := q, close := some { c with target := closeTarget ended c.target } }
  | .up, none =>
    if q = [] then restingPort p.rate (!ended)
    else { p with queue := q, close := some ⟨closeTarget ended .silenced, 4⟩ }
  | .opening, _ => restingPort p.rate (!ended)
  | .silenced, _ => if ended then restingPort p.rate false else p
  | .disabled, _ =>
    if !portEnabled k s && portEnabled k t then restingPort (t.config.rate.get k) true else p

/-- R29, R31: no grant is live, every slot is FREE, nothing is driven. -/
structure AllCut (s t : State) : Prop where
  table : t.grant.table = []
  handle : t.grant.lastHandle = s.grant.lastHandle
  slots : t.grant.slots = .all ⟨none, none⟩
  outputs : OutputsOff t

/-- R175: in CLOSEDOWN, with no fitted axis deployed, an event leaves no grant of a table live that had
one: the mode ends in OFF. -/
def leavesOff (after : List Grant) (s : State) : Bool :=
  decide (s.mode.mode = .closedown ∧ s.grant.table ≠ [] ∧ after = []) && !anyDeployed s

/-- R170, R175: CLOSEDOWN has ended in OFF, and every port is DISABLED within the event but for an UP one
with messages queued or a close pending, which closes to DISABLED once they are sent or its 4 ms have passed
(R147, R155, R158; with nothing queued an UP port closes at once, log 8). -/
structure WentOff (s t : State) : Prop where
  mode : t.mode = { s.mode with
    mode := .off, timer := none, history := [], loadWaits := false }
  cut : AllCut s t
  attention : t.notice.attention = false
  config : t.config = s.config
  log : t.faultLog = s.faultLog
  watches : t.axis = { s.axis with stall := none, liftOutput := t.axis.liftOutput }
  disabled : ∀ l, (portOf l s).state = .disabled → portOf l t = portOf l s
  resting : ∀ l, (portOf l s).state = .opening ∨ (portOf l s).state = .silenced →
    portOf l t = restingPort (portOf l s).rate false
  closing : ∀ l, (portOf l s).state = .up → ∀ c, (portOf l s).close = some c →
    (portOf l t).state = .up ∧ (portOf l t).close = some { c with target := .disabled }
  served : ∀ l, (portOf l s).state = .up → (portOf l s).close = none →
    (queueOf l t = [] → portOf l t = restingPort (portOf l s).rate false) ∧
    (queueOf l t ≠ [] →
      (portOf l t).state = .up ∧ (portOf l t).close = some ⟨.disabled, 4⟩)

/-! ## The panel sequences (R116 to R122) -/

/-- R116: the state and the gate a door's sequence starts in. -/
def doorStart (n : Sense) (st : PanelState) (closed latched : Bool) : PanelState × Gate :=
  match n, st with
  | .sense0, .opened => (.opened, .held)
  | .sense0, .closed => (.unlatching, .held)
  | .sense0, _ => if latched then (.unlatching, .held) else (.opening, .pass)
  | .sense1, .closed => (.closed, .held)
  | .sense1, .opened => (.closing, .pass)
  | .sense1, _ =>
    if !closed then (.closing, .pass) else if latched then (.closed, .held) else (.latching, .latch)

/-- R116, R122: the state and the gate a shutter's sequence starts in. -/
def shutterStart (n : Sense) (st : PanelState) (standing contact : Bool) : PanelState × Gate :=
  if standing then (st, .held)
  else
    match n, st with
    | .sense0, .opened => (.opened, .held)
    | .sense0, _ => (.opening, .pass)
    | .sense1, .closed => (.closed, .held)
    | .sense1, _ => (.closing, if contact then .held else .pass)

/-- R117 to R119: the changes of a door's switches that a sequence acts on, by the sense and the
DRIVING state of its grant, the CLOSED switch and the state; any other changes only the level. -/
def doorActs (x : Sense) (driving closed : Bool) (st : PanelState) (w : DoorSwitch) (b : Bool) :
    Bool :=
  match st, w, b with
  | .opening, .opened, true | .closing, .closed, _ | .latching, .closed, false
  | .latching, .latched, true => true
  | .opened, .opened, false => decide (x = .opening)
  | .closed, .closed, false => decide (x = .closing)
  | .unlatching, .latched, false => driving
  | .closed, .latched, false => closed && decide (x = .closing)
  | _, _, _ => false

/-- R122: the changes of the shutter's switches that a sequence acts on. -/
def shutterActs (x : Sense) (st : PanelState) (w : ShutterSwitch) (b : Bool) : Bool :=
  match st, w, b with
  | .opening, .opened, true | .closing, .closed, true => true
  | .opened, .opened, false => decide (x = .opening)
  | .closed, .closed, false => decide (x = .closing)
  | _, _, _ => false

/-- R120: the panel and latch records of a door whose grant resumes: its sequence goes on from the
state kept, as its switches then stand. -/
def resumed (p : PanelRecord) (l : LatchRecord) : PanelRecord × LatchRecord :=
  match p.state with
  | .unlatching =>
    if l.latched then (p, { l with solenoid := true, pulse := some 400 })
    else ({ p with state := .opening, gate := .pass }, l)
  | .latching =>
    if l.latched then ({ p with state := .closed, gate := .held }, l)
    else if p.closedSwitch then ({ p with gate := .latch }, { l with engage := some 1000 })
    else ({ p with state := .closing, gate := .pass }, l)
  | .closing =>
    if p.closedSwitch = false then (p, l)
    else if l.latched then ({ p with state := .closed, gate := .held }, l)
    else ({ p with state := .latching, gate := .latch }, { l with engage := some 1000 })
  | .closed | .opening | .opened | .partway => (p, l)

/-! ## The readings (R53 to R62) -/

/-- R53 to R55, R62: LIFT as computed from the reading held: outside the sensor margin the condition
stands, with no end, deployed, position and band held and SENSOR set; else position, ends, deployed and
band follow the reading. -/
structure LiftFollows (s t : State) : Prop where
  out : (t.axis.liftReading : Int) < t.config.calibration.ground - 200 ∨
      t.axis.liftReading > t.config.calibration.bed + 200 →
    t.axis.condition.lift = .standing ∧ t.axis.position = s.axis.position ∧
      t.axis.band = s.axis.band ∧ t.axis.ends.lift = ⟨false, false⟩ ∧
      t.axis.deployed.lift = true ∧ t.axis.fault.lift = some ((s.axis.fault.lift).getD .sensor)
  read : ¬ ((t.axis.liftReading : Int) < t.config.calibration.ground - 200 ∨
      t.axis.liftReading > t.config.calibration.bed + 200) →
    let c := t.config.calibration
    t.axis.condition.lift = .gone ∧
      (t.axis.position : Int) = max 0 (min (c.bedHeight : Int)
        ((((t.axis.liftReading : Int) - c.ground) * c.bedHeight).tdiv
          ((c.bed : Int) - c.ground))) ∧
      (t.axis.ends.lift.sense0 = true ↔ c.bedHeight - c.endMargin ≤ t.axis.position) ∧
      (t.axis.ends.lift.sense1 = true ↔ t.axis.position ≤ c.endMargin) ∧
      t.axis.deployed.lift = !t.axis.ends.lift.sense0 ∧
      ∀ (k : Nat) (b : Band), t.config.bands[k]? = some b →
        (b.low ≤ t.axis.position ↔ k < t.axis.band)

/-- R65: the stall watch at a sample. The window is absent with the condition standing or a reported LIFT
output below 200, and none starts on a FAULTED LIFT; else it starts, starts again where the platform has
moved by 5 mm, or runs on by 10 ms, and at 2000 ms the STALL fault is set and the window absent. -/
structure StallFollows (s t : State) : Prop where
  absent : t.axis.condition.lift = .standing ∨ s.axis.liftOutput < 200 → t.axis.stall = none
  faulted : s.axis.fault.lift ≠ none → s.axis.stall = none → t.axis.stall = none
  runs : t.axis.condition.lift = .gone → 200 ≤ s.axis.liftOutput → s.axis.fault.lift = none →
    (s.axis.stall = none →
      t.axis.stall = some ⟨t.axis.position, 0⟩ ∧ t.axis.fault.lift = none) ∧
    ∀ w, s.axis.stall = some w →
      (w.reference + 5 ≤ t.axis.position ∨ t.axis.position + 5 ≤ w.reference →
        t.axis.stall = some ⟨t.axis.position, 0⟩ ∧ t.axis.fault.lift = none) ∧
      (t.axis.position < w.reference + 5 → w.reference < t.axis.position + 5 →
        (w.elapsed + 10 < 2000 →
          t.axis.stall = some ⟨w.reference, w.elapsed + 10⟩ ∧ t.axis.fault.lift = none) ∧
        (2000 ≤ w.elapsed + 10 →
          t.axis.stall = none ∧ t.axis.fault.lift = some .stall))

/-- R56 to R60: TILT, FOLD and the panel axes as computed from what is held of them; an axis that is
not fitted keeps what it reads as. -/
structure AxesFollow (s t : State) : Prop where
  tiltOut : s.axis.fitted.tilt = true →
    let c := t.config.calibration
    let raw := (((t.axis.tiltReading : Int) - c.levelReading) * 10).tdiv c.gain
    raw < -200 ∨ 200 < raw →
      t.axis.condition.tilt = .standing ∧ t.axis.angle = s.axis.angle ∧ t.axis.level = false ∧
        t.axis.ends.tilt = ⟨false, false⟩ ∧ t.axis.deployed.tilt = true ∧
        t.axis.fault.tilt = some ((s.axis.fault.tilt).getD .sensor)
  tilt : s.axis.fitted.tilt = true →
    let c := t.config.calibration
    let raw := (((t.axis.tiltReading : Int) - c.levelReading) * 10).tdiv c.gain
    raw ≤ 200 → -200 ≤ raw →
      t.axis.condition.tilt = .gone ∧ t.axis.angle = max (-150) (min 150 raw) ∧
        (t.axis.level = true ↔
          -(c.levelTolerance : Int) ≤ t.axis.angle ∧ t.axis.angle ≤ c.levelTolerance) ∧
        (t.axis.ends.tilt.sense0 = true ↔ c.upLimit ≤ t.axis.angle) ∧
        (t.axis.ends.tilt.sense1 = true ↔ t.axis.angle ≤ c.downLimit) ∧
        t.axis.deployed.tilt = !t.axis.level ∧ t.axis.fault.tilt = s.axis.fault.tilt
  fold : s.axis.fitted.fold = true →
    t.axis.ends.fold =
        ⟨t.axis.stowed && !t.axis.unfolded, t.axis.unfolded && !t.axis.stowed⟩ ∧
      t.axis.deployed.fold = !(t.axis.stowed && !t.axis.unfolded) ∧
      (t.axis.condition.fold = .standing ↔ t.axis.stowed = true ∧ t.axis.unfolded = true) ∧
      t.axis.fault.fold =
        if t.axis.stowed && t.axis.unfolded then some ((s.axis.fault.fold).getD .switch)
        else s.axis.fault.fold
  panel : ∀ m : Motor, s.axis.fitted.get (axisOfMotor m) = true →
    ¬ (m = .shut ∧ t.axis.shutSwitch = .standing) →
    t.axis.ends.get (axisOfMotor m) =
        ⟨decide (t.axis.panelState.get m = .opened), decide (t.axis.panelState.get m = .closed)⟩ ∧
      t.axis.deployed.get (axisOfMotor m) = decide (t.axis.panelState.get m ≠ .closed)
  shut : s.axis.fitted.shut = true → t.axis.shutSwitch = .standing →
    t.axis.ends.shut = ⟨false, false⟩ ∧ t.axis.deployed.shut = true ∧
      t.axis.fault.shut = some ((s.axis.fault.shut).getD .switch)
  unfitted : ∀ a : Axis, s.axis.fitted.get a = false →
    t.axis.ends.get a = s.axis.ends.get a ∧ t.axis.deployed.get a = s.axis.deployed.get a ∧
      t.axis.fault.get a = s.axis.fault.get a

/-- R74: the grants whose axis and sense have a cause newly absent between two states. -/
def newlyBarred (s t : State) (g : Grant) : Bool :=
  newlyAbsent ((s.permit.map.get g.axis).get g.sense) ((t.permit.map.get g.axis).get g.sense)

/-! ## The beacon tick (R131, R136, R137) -/

/-- R131, R136: the record of a zone with a pattern after a tick: the counter one further, or at the end of
the period a new period with the OK channels as its working set. -/
def tickedZone (z : Zone) (s : State) : ZoneRecord :=
  let r := zoneRecord z s
  if r.counter + 1 < patternPeriod r.demand then { r with counter := r.counter + 1 }
  else { r with counter := 0, workingSet := okLamps z s
                firstPeriod := decide (okLamps z s ≠ r.workingSet) }

/-- R136: the slot of a channel of the zone after that tick. -/
def tickedSlot (z : Zone) (k : Lamp) (s : State) : Option Nat :=
  let r := zoneRecord z s
  if r.counter + 1 < patternPeriod r.demand then (lampOf k s).position
  else if k ∈ okLamps z s then some ((okLamps z s).idxOf k) else none

/-- R137: at that tick an on-phase of the channel, driven, reaches its sixth tick. -/
def measuredAt (z : Zone) (k : Lamp) (s : State) : Bool :=
  let r := tickedZone z s
  (tickedSlot z k s).any fun x =>
    slotOn r x && sixthTick r.demand (lampPosition r.demand r.counter x r.workingSet.length)

/-- R137: what a tick that measures `current` on a channel, or does not measure it, makes of its state and
its open count. -/
structure OpenCounted (measured : Bool) (current threshold : Nat) (r q : LampRecord)
    (lampNotice : Bool) : Prop where
  unmeasured : measured = false → q.state = r.state ∧ q.openCount = r.openCount
  good : measured = true → threshold ≤ current → q.state = r.state ∧ q.openCount = some 0
  low : measured = true → current < threshold → ∀ n, r.openCount = some n → n < 2 →
    q.state = r.state ∧ q.openCount = some (n + 1)
  third : measured = true → current < threshold → r.openCount = some 2 →
    q = ⟨.failedOpen, none, none, false⟩ ∧ lampNotice = true

/-! ## The control period (R105 to R110, R124 to R126) -/

/-- R106, R107: the command of a coil channel at an output of its sense: the base current, taken up or
down by the dither, at most imax; no current, no dither. -/
def commandAt (k : Coil) (o : Nat) (s : State) : Nat :=
  let c := s.config.drive
  let i := if o = 0 then 0 else c.imin.get k + o * (c.imax.get k - c.imin.get k) / 1000
  if i = 0 then 0
  else if s.drive.ditherPhase = .plus then min (c.imax.get k) (i + c.ditherAmplitude)
  else i - c.ditherAmplitude

/-- A grant of a state is still live in another. -/
def livesOn (g : Grant) (t : State) : Bool := t.grant.table.any fun k => decide (k.handle = g.handle)

/-- R108: the current of a channel stands above its maximum by more than 500 mA. -/
def overCoil (c : PeriodCurrents) (k : Coil) (s : State) : Bool :=
  decide (s.config.drive.imax.get k + 500 < c.coil.get k)

/-- R22: the sequence grant of a motor axis is a live grant. -/
def sequenceOf (g : Grant) (m : Motor) (s : State) : Bool :=
  decide ((panelOf m s).seq.map (fun x => (x.handle, x.station, x.sense)) =
    some (g.handle, g.station, g.sense))

/-- R10, R91: the period does not end a driving grant by itself. -/
def staysOn (g : Grant) (s : State) : Bool := decide (g.state ≠ .easing ∨ nextOutput g s ≠ 0)

/-- R22, R23: a grant has ended with a reason, and its station is told if its link is UP. -/
def EndedFor (g : Grant) (r : Reason) (s t : State) : Prop :=
  livesOn g t = false ∧
  ((portOf g.station s).state = .up → .gend g.handle g.axis r ∈ queueOf g.station t)

/-! ## A millisecond with no command waiting (log 1) -/

/-- A time left, 1 ms later. -/
def less : Option Nat → Option Nat := Option.map (· - 1)

/-- A time left runs out within the millisecond. -/
def lastMs (o : Option Nat) : Bool := o.any fun n => decide (n ≤ 1)

/-- A time elapsed reaches its end within the millisecond. -/
def fullMs (limit : Nat) (o : Option Nat) : Bool := o.any fun n => decide (limit ≤ n + 1)

/-- R171: the mode timer runs out within the millisecond; none runs while a WAKE's load waits. -/
def modeLastMs (s : State) : Bool := decide (s.mode.loadWaits = false) && lastMs s.mode.timer

/-- R13, R14, R78, R107, R117, R119, R142, R149, R150, R152, R155, R166, R171 to R175: the command
reports a time that runs out in this millisecond. -/
def fallsDue (c : Instr) (s : State) : Bool :=
  match c with
  | .deadmanExpiry h => s.grant.table.any fun g => decide (g.handle = h) && lastMs g.deadman
  | .pauseWindowExpiry h => s.grant.table.any fun g => decide (g.handle = h) && lastMs g.pause
  | .silenceExpiry l => fullMs 4 (portOf l s).silence
  | .heldLowExpiry l => lastMs (portOf l s).heldLow
  | .idleTimerExpiry l => fullMs 1 (portOf l s).idle
  | .closePendingExpiry l => lastMs ((portOf l s).close.map (·.remaining))
  | .latchPulseExpiry d => lastMs (latchOf d s).pulse
  | .engageExpiry d => lastMs (latchOf d s).engage
  | .pulseTimerExpiry => lastMs s.permit.pulseTimer
  | .ditherFlip => lastMs s.drive.ditherTimer
  | .lampTestEnd => fullMs 200 (s.beacon.test.map (·.elapsed))
  | .saveCompletion => lastMs (s.store.save.map (·.remaining))
  | .wakeTimerExpiry => decide (s.mode.mode = .wake) && modeLastMs s
  | .checkTimerExpiry => decide (s.mode.mode = .check) && modeLastMs s
  | .retryTimerExpiry => decide (s.mode.mode = .retry) && modeLastMs s
  | .closedownTimerExpiry => decide (s.mode.mode = .closedown) && modeLastMs s
  | .retryEntryAgeing => s.mode.history.any fun a => decide (59999 ≤ a)
  | _ => false

/-- Model's choice (logs 1, 28, 42): a millisecond has passed: every time left is 1 ms less, every time
elapsed 1 ms more, up to its end; the expiries due wait in the queue, and nothing else changes. The mode
timer stands while a WAKE's load waits for a save (R171). -/
structure MillisecondPassed (s t : State) : Prop where
  due : ∀ c : Instr, c ∈ t.pending ↔ fallsDue c s = true
  grant : t.grant = { s.grant with table := s.grant.table.map fun g =>
    { g with deadman := less g.deadman, pause := less g.pause } }
  latch : ∀ d, latchOf d t = { latchOf d s with
    pulse := less (latchOf d s).pulse, engage := less (latchOf d s).engage }
  panel : t.panel = { s.panel with latch := t.panel.latch }
  mode : t.mode = { s.mode with
    timer := if s.mode.loadWaits then s.mode.timer else less s.mode.timer
    history := s.mode.history.map (· + 1) }
  permit : t.permit = { s.permit with pulseTimer := less s.permit.pulseTimer }
  drive : t.drive = { s.drive with ditherTimer := less s.drive.ditherTimer }
  beacon : t.beacon = { s.beacon with
    test := s.beacon.test.map fun x => { x with elapsed := min 200 (x.elapsed + 1) } }
  store : t.store = { s.store with
    save := s.store.save.map fun v => { v with remaining := v.remaining - 1 } }
  port : ∀ l, portOf l t = { portOf l s with
    silence := (portOf l s).silence.map fun n => min 4 (n + 1)
    heldLow := less (portOf l s).heldLow
    idle := (portOf l s).idle.map fun n => min 1 (n + 1)
    close := (portOf l s).close.map fun c => { c with remaining := c.remaining - 1 } }
  frame : t = { s with
    pending := t.pending, grant := t.grant, panel := t.panel, mode := t.mode
    permit := t.permit, drive := t.drive, beacon := t.beacon, store := t.store, port := t.port }

/-! ## The values after power-on reset -/

/-- R159, R61, R88, R112, R127, R141, R147, R12, R14, R165: the number of every configuration item and its
built-in default. A zone is its place in REAR, NEAR, OFF, ROOF, NONE; an allowed set has bit twice the axis
code plus the sense code. -/
def itemDefaults : List (Nat × Int) :=
  [(1, 300), (2, 3700), (3, 1200), (4, 10), (5, 2048), (6, 40), (7, 10), (8, 80), (9, -120),
    (16, 6000), (17, 30), (18, 180), (19, 120), (20, 0), (21, 0), (22, 0),
    (32, 400), (33, 300), (34, 500), (35, 600), (36, 500), (37, 500),
    (38, 300), (39, 300), (40, 300), (41, 400), (42, 300), (43, 300)] ++
  [(44, 0), (45, 0), (46, 0), (47, 0), (48, 0), (49, 0), (50, 10), (51, 500),
    (52, 800), (53, 1000), (54, 700), (55, 700), (56, 300), (57, 300), (58, 300), (59, 300),
    (60, 1300), (61, 1300), (62, 1300), (63, 1300), (64, 40), (65, 10), (66, 300),
    (72, 8), (73, 8), (74, 8)] ++
  [(80, 0), (81, 0), (82, 0), (83, 0), (84, 1), (85, 1), (86, 2), (87, 2), (88, 3), (89, 3),
    (90, 4), (91, 4), (92, 150), (93, 30), (96, 1250), (97, 1250), (98, 1250), (99, 1250),
    (100, 1250), (101, 1250), (104, 200), (105, 500)] ++
  [(112, 1), (113, 3), (114, 2), (115, 2), (116, 2), (117, 0),
    (120, 4032), (121, 255), (122, 960), (123, 3072), (124, 63), (125, 0),
    (128, 1), (129, 0), (130, 0), (131, 0), (132, 0), (133, 0),
    (136, 0), (137, 1), (138, 0), (139, 0), (140, 0), (141, 0)] ++
  [(144, 0), (145, 0), (146, 0), (147, 0), (148, 1), (149, 0),
    (152, 1), (153, 1), (154, 1), (155, 1), (156, 1), (157, 0)]

/-- R63: the default band table. -/
def bandDefaults : List Band :=
  [⟨0, 600, 300, true⟩, ⟨150, 1000, 1000, false⟩, ⟨1050, 400, 600, false⟩]

/-- R144: the place of a channel in the working set of its default zone. -/
def slotDefault : Lamp → Option Nat
  | .ch1 | .ch5 | .ch7 | .ch9 => some 0
  | .ch2 | .ch6 | .ch8 | .ch10 => some 1
  | .ch3 => some 2
  | .ch4 => some 3
  | .ch11 | .ch12 => none

/-! ## Operands in range -/

/-- R160 to R164: the operands of a message lie in the ranges its fields hold. -/
def MsgOk : Msg → Prop
  | .rqgrant _ _ _ d => d < 65536
  | .keep h _ _ d | .ltgrant h _ _ d | .rsgrant h _ _ d => h < 256 ∧ d < 65536
  | .clrstop n | .cfgrd n | .rstlvl n | .rstlink n | .freelock n => n < 256
  | .qgrants n | .qholds n => 0 < n ∧ n < 256
  | .lockt t _ => t < 4294967296
  | .ulockt id t => id < 256 ∧ t < 4294967296
  | .cfgwr i v => i < 256 ∧ -2147483648 ≤ v ∧ v < 2147483648
  | .cfgband l => l.length ≤ 9 ∧
    ∀ b ∈ l, b.low < 2048 ∧ b.raiseLimit < 1024 ∧ b.lowerLimit < 1024
  | .stopz _ | .ackflt _ | .qaxes _ | .cfgsave | .notrd | .notmsk _ | .lampra _ | .fltrd => True

/-- R160 check 4: the frame of a kind carries a coded field with no meaning. -/
def codedFieldBad (bytes : List Byte) : MsgKind → Bool
  | .rqgrant =>
    decide (5 < byteAt bytes 1 ∨ 1 < byteAt bytes 2 ∨ 1 < byteAt bytes 3)
  | .keep | .ltgrant | .rsgrant => decide (5 < byteAt bytes 2 ∨ 1 < byteAt bytes 3)
  | .stopz => decide (15 < byteAt bytes 1)
  | .lockt => decide (63 < byteAt bytes 5)
  | .ackflt | .qaxes => decide (5 < byteAt bytes 1)
  | .qgrants | .qholds => decide (byteAt bytes 1 = 0)
  | .lampra => decide (15 < byteAt bytes 1)
  | .clrstop | .ulockt | .cfgrd | .cfgwr | .cfgband | .cfgsave | .rstlvl | .rstlink | .freelock
  | .notrd | .notmsk | .fltrd => false

end Sys2Proof.Machine
end

