-- ==== Sys2Proof/Certificates/Slice0/Obligations.lean ====
section
/-! DEFINITION. The statements for the provers: the invariants every step keeps, then what each command
does, family by family in the table's order. The terms they use are in Safety.lean. -/

open Sys2Proof Sys2Proof.Machine

/-! ## The whole part -/

/-- Model's choice (logs 1, 28, 42): the command at the front of the queue runs on the state with the
queue's rest; with none waiting a millisecond passes: every timer that runs moves on by 1 ms, and the
expiries that fall due wait in the queue. -/
def Obligations.StepRunsFrontCommand : Prop :=
  (∀ (c : Instr) (s : State) (rest : List Instr), s.pending = c :: rest →
    step s = exec c (s.setPending rest)) ∧
  ∀ s : State, s.pending = [] → ∃ t, step s = .next t ∧ MillisecondPassed s t

/-- R31, R50, R71, R89, R113, R128, R144, R158, R168, R170, R178: the state after power-on reset is sound in
every sense the invariants name, and every block holds the values its chapter gives, with every
configuration item and the band table at the built-in defaults. The permit map is the one of its inputs.
Model's choice: no command waits (log 1), the last symbol sent is none (log 7), the supply and temperature
last sampled are 0 (log 20), end reported is no without a sequence (log 37), and the LIFT output last
reported is 0 (log 45). The input lines and the contents of the store are the model's too (logs 2, 4) and
not stated. -/
def Obligations.ResetIsSound : Prop :=
  (HoldsOk State.reset ∧ PortsOk State.reset ∧ Quiet State.reset ∧ GrantsOk State.reset ∧
    SlotsOk State.reset ∧ AllowedOk State.reset ∧ JudgedOk State.reset ∧ OutputsOk State.reset) ∧
  State.reset.pending = [] ∧
  State.reset.grant = ⟨[], 0, .all ⟨none, none⟩⟩ ∧
  State.reset.hold = ⟨[], 0, false⟩ ∧
  State.reset.axis =
    { fitted := .all true, liftReading := 0, tiltReading := 0, stowed := false, unfolded := false
      panelState := .all .closed, shutSwitch := .gone, position := 0, angle := 0
      ends := .all ⟨false, false⟩, level := false, deployed := .all false
      condition := ⟨.gone, .gone, .gone, .gone⟩, fault := .all none, band := 1, stall := none
      liftOutput := 0 } ∧
  State.reset.permit =
    { ign := false, pbrk := false, speed := .unknown, speedValue := 0, lastPeriod := none
      pulseTimer := none, pressure := some 0, overload := false, derate := false
      deployMove := false, map := permitMap State.reset } ∧
  (∀ a n, ((State.reset.permit.map.get a).get n).mode = true ∧
    ((State.reset.permit.map.get a).get n).chassis = true) ∧
  State.reset.drive =
    { output := .all 0, driving := .all none, startDelay := .all none, foldTravel := none
      coil := .all 0, duty := .all 0, direction := .all none, pumpClosed := false, d1 := none
      d2 := none, pumpOver := 0, ditherPhase := .plus, ditherTimer := none
      hysteresisInForce := 10, halfPeriodInForce := 10, coilWatch := .all .armed } ∧
  (∀ m, panelOf m State.reset =
    { state := .closed, seq := none, gate := .pass, travel := none, obstruction := 0
      openSwitch := false, closedSwitch := false, endReported := false }) ∧
  (∀ d, latchOf d State.reset =
    { solenoid := false, pulse := none, engage := none, latched := false }) ∧
  State.reset.panel.contact = false ∧ State.reset.panel.condition = .gone ∧
  (∀ k, lampOf k State.reset =
    match slotDefault k with
    | some x => ⟨.ok, some 0, some x, false⟩
    | none => ⟨.unassigned, none, none, false⟩) ∧
  (∀ z, zoneRecord z State.reset = ⟨.none, 0, true, okLamps z State.reset, .lit⟩) ∧
  State.reset.beacon.timebase = false ∧ State.reset.beacon.test = none ∧
  (∀ l, portOf l State.reset =
    { state := .disabled, rate := 1250, buffer := [], creditGiven := 0, creditHeld := 0
      frame := none, inHand := false, queue := [], position := 0, close := none, silence := none
      heldLow := none, idle := none, lastSent := none }) ∧
  State.reset.mode =
    { mode := .off, timer := none, history := [], ign := false, lowCount := 0, highCount := 0
      returnCount := 0, supply := 0, temperature := 0
      strapLinks := ⟨true, true, true, true, false, false⟩, loadWaits := false } ∧
  State.reset.notice = ⟨.empty, .empty, false⟩ ∧ State.reset.faultLog = ⟨none, 0⟩ ∧
  State.reset.store.save = none ∧ State.reset.store.resetWaits = none ∧
  (∀ n : Nat, n < 256 → (itemOf n).map (readItem State.reset.config) =
    (itemDefaults.find? fun e => decide (e.1 = n)).map (·.2)) ∧
  State.reset.config.bands = bandDefaults

/-- R33, R35, R36: every step keeps the hold table within its places, its ids distinct. -/
def Obligations.StepKeepsHoldTable : Prop :=
  ∀ s t : State, HoldsOk s → step s = .next t → HoldsOk t

/-- R145: every step keeps every port record sound. -/
def Obligations.StepKeepsPorts : Prop :=
  ∀ s t : State, PortsOk s → step s = .next t → PortsOk t

/-- R29, R111: every step keeps outputs off and grants gone outside RUN and CLOSEDOWN. -/
def Obligations.StepKeepsQuiet : Prop :=
  ∀ s t : State, Quiet s → step s = .next t → Quiet t

/-- R1, R2: every step keeps the grant table at most 12 sound records with distinct handles, and for
a station at most one on each resource. -/
def Obligations.StepKeepsGrantTable : Prop :=
  ∀ s t : State, GrantsOk s → SlotsOk s → step s = .next t → GrantsOk t

/-- R4: every step keeps the slots and the table in agreement, a grant WAITING only behind an EASING
holder. -/
def Obligations.StepKeepsSlots : Prop :=
  ∀ s t : State, GrantsOk s → SlotsOk s → step s = .next t → SlotsOk t

/-- R32: every step keeps it that no grant but an EASING one stands outside RUN, on a FAULTED or held
axis, or with a permit cause absent. -/
def Obligations.StepKeepsGrantsAllowed : Prop :=
  ∀ s t : State, GrantsOk s → SlotsOk s → AllowedOk s → step s = .next t → AllowedOk t

/-- R73, R139: every step keeps the permit map and the zone health those of the inputs as they
stand. -/
def Obligations.StepKeepsJudgements : Prop :=
  ∀ s t : State, JudgedOk s → step s = .next t → JudgedOk t

/-- R90, R98: every step keeps outputs and motor duties within 0..1000 per mille. -/
def Obligations.StepKeepsOutputsInRange : Prop :=
  ∀ s t : State, GrantsOk s → SlotsOk s → OutputsOk s → step s = .next t → OutputsOk t

/-! ## Codings and judgements -/

/-- R157, R160, R162, R164: the frame of every message in range names that message again, from link 0,
and from links 1 to 5 for the operator messages; a supervisor message is refused there. -/
def Obligations.FrameNamesItsMessage : Prop :=
  ∀ m : Msg, MsgOk m →
    (encodeMsg m).length ≤ 40 ∧ parseFrame .sl0 ⟨encodeMsg m, false⟩ = .msg m ∧
    ∀ l : Link, l ≠ .sl0 → parseFrame l ⟨encodeMsg m, false⟩ =
      if byteAt (encodeMsg m) 0 ≤ 12 then .msg m else .reject .notsuper

/-- R160: the four checks on a frame handed over, in order. -/
def Obligations.FrameChecksInOrder : Prop :=
  ∀ (l : Link) (f : Frame),
    (f.bytes = [] ∨ f.overlong = true ∨ msgKindOf (byteAt f.bytes 0) = none →
      parseFrame l f = .reject .badmsg) ∧
    ∀ k : MsgKind, f.bytes ≠ [] → f.overlong = false →
      msgKindOf (byteAt f.bytes 0) = some k →
      (32 ≤ byteAt f.bytes 0 ∧ l ≠ .sl0 → parseFrame l f = .reject .notsuper) ∧
      (byteAt f.bytes 0 < 32 ∨ l = .sl0 →
        (f.bytes.length ≠ frameLength f.bytes k → parseFrame l f = .reject .badmsg) ∧
        (f.bytes.length = frameLength f.bytes k →
          (codedFieldBad f.bytes k = true → parseFrame l f = .reject .badvalue) ∧
          (codedFieldBad f.bytes k = false → ∃ m, parseFrame l f = .msg m)))

/-- R146: a symbol on the line reads back as sent, and a symbol has a check error exactly when its
kind, payload and check bits hold an even number of ones or it is CONTROL with an upper payload bit
set. -/
def Obligations.SymbolsReadBack : Prop :=
  (∀ x : Symbol, decodeSymbol (encodeSymbol x) = some x) ∧
  ∀ y : LineSymbol, decodeSymbol y = none ↔
    ((((symbolBits y).drop 1).take 10).count true % 2 = 0 ∨
      (y.control = true ∧ 4 ≤ y.payload.toNat))

/-- R165: a value an item takes is the value it then reads, and no other item's value changes. -/
def Obligations.ItemsReadBackWritten : Prop :=
  ∀ (c : WorkingConfig) (i j : Item) (v : Int), validValue c i v = true →
    readItem (writeItem c i v) i = v ∧
      (i ≠ j → readItem (writeItem c i v) j = readItem c j)

/-- R3, R36: the number allocated is the first after the last one, with 255 followed by 1, that no
live record carries. -/
def Obligations.NumbersAllocatedInOrder : Prop :=
  ∀ (live : List Nat) (last : Nat), live.length ≤ 24 → last ≤ 255 →
    allocate live 255 last ∉ live ∧ 1 ≤ allocate live 255 last ∧ allocate live 255 last ≤ 255 ∧
    ∃ k : Nat, numberAfter^[k + 1] last = allocate live 255 last ∧
      ∀ j : Nat, j < k → numberAfter^[j + 1] last ∈ live

/-- R98, R100: the output of a period never exceeds the effective limit, never rises unless the grant
is DRIVING, and never passes the target on a ramp. -/
def Obligations.OutputStaysUnderLimit : Prop :=
  ∀ (g : Grant) (s : State),
    nextOutput g s ≤ effectiveLimit g.axis g.sense s ∧
    (g.state ≠ .driving → nextOutput g s ≤ s.drive.output.get g.axis) ∧
    (gateOf g.axis s = .pass → s.drive.startDelay.get g.axis = none →
      let o := min (s.drive.output.get g.axis) (effectiveLimit g.axis g.sense s)
      let target := if g.state = .driving then min g.demand (effectiveLimit g.axis g.sense s) else 0
      min o target ≤ nextOutput g s ∧ nextOutput g s ≤ max o target ∧
        (nextOutput g s = o → o = target))

/-! ## Frames on a link -/

/-- R151, R153, R160: on a ready link a frame that fails a check is answered by that check's refusal and
changes nothing else; a frame of more than 40 bytes is answered BADMSG with its first byte; a message
abandoned by DROP changes nothing and is not answered. Each symbol's credit is returned as it is
taken. -/
def Obligations.RefusedFramesChangeNothing : Prop :=
  ∀ (l : Link) (bytes : List Byte) (s : State), Ready l s →
    (∀ st : Status, bytes.length ≤ 40 → parseFrame l ⟨bytes, false⟩ = .reject st →
      ∃ t, exec (.malformedFrame l bytes) s = .next t ∧
        AnsweredOnly (bytes.length + 1) l (.rply (bytes.headD 0#8) st []) s t) ∧
    (40 < bytes.length →
      ∃ t, exec (.malformedFrame l bytes) s = .next t ∧
        AnsweredOnly (bytes.length + 1) l (.rply (bytes.headD 0#8) .badmsg []) s t) ∧
    (∃ t, exec (.dropReceived l bytes) s = .next t ∧
      t = putPort l (taken (bytes.length + 1) (portOf l s)) s)

/-! ## Motion grants -/

/-- R5: the first of the nine checks on an RQGRANT that fails gives the reply, and the request then
changes nothing. -/
def Obligations.RqgrantAnsweredByFirstCheck : Prop :=
  ∀ (l : Link) (a : Axis) (n : Sense) (k : RunKind) (d : Word16) (s : State),
    Ready l s → GrantsOk s → SlotsOk s →
    ∀ row, (requestChecks l a n k s).find? (fun r => r.1) = some row →
    ∃ t, exec (requestFor l a n k d) s = .next t ∧
      AnsweredOnly 7 l (.rply 1#8 row.2.1 row.2.2) s t

/-- R6, R7, R101: an accepted request for a FREE slot makes a DRIVING grant at the end of the table,
holder of its slot, and starts the drive of its axis. -/
def Obligations.RqgrantTakesFreeSlot : Prop :=
  ∀ (l : Link) (a : Axis) (n : Sense) (k : RunKind) (d : Word16) (s : State),
    Accepted l a n k s → holderOn (resourceOf a) s = none →
    ∃ t, exec (requestFor l a n k d) s = .next t ∧
      t.grant = { table := s.grant.table ++ [requested l a n k d .driving s]
                  lastHandle := nextHandle s
                  slots := s.grant.slots.set (resourceOf a) ⟨some (nextHandle s), none⟩ } ∧
      t.drive = { s.drive with
        driving := s.drive.driving.set a (some ⟨nextHandle s, l, n⟩)
        pumpClosed := s.drive.pumpClosed || pumpSense a n
        startDelay := if pumpSense a n then s.drive.startDelay.set a (some 150)
                      else s.drive.startDelay
        d1 := if a = .tilt then some n else s.drive.d1
        d2 := if a = .fold then some n else s.drive.d2
        foldTravel := if a = .fold then some 0 else s.drive.foldTravel
        direction :=
          match motorOf a with
          | some m => s.drive.direction.set m (some n)
          | none => s.drive.direction } ∧
      (motorOf a = none → t.panel = s.panel) ∧
      Handled 7 l [] (.rply 1#8 .ok [byteOf (nextHandle s), 1#8]) s t ∧ DemandsFollow s t ∧
      t = { s with grant := t.grant, drive := t.drive, panel := t.panel, port := t.port
                   beacon := t.beacon }

/-- R6: an accepted request against an EASING holder waits behind it, and displaces a grant that
waits there with a lower rank. -/
def Obligations.RqgrantWaitsBehindEasing : Prop :=
  ∀ (l : Link) (a : Axis) (n : Sense) (k : RunKind) (d : Word16) (s : State),
    Accepted l a n k s → ∀ h, holderOn (resourceOf a) s = some h → h.state = .easing →
    (waiterOn (resourceOf a) s = none →
      ∃ t, exec (requestFor l a n k d) s = .next t ∧
        t.grant = { table := s.grant.table ++ [requested l a n k d .waiting s]
                    lastHandle := nextHandle s
                    slots := s.grant.slots.set (resourceOf a)
                      ⟨some h.handle, some (nextHandle s)⟩ } ∧
        Handled 7 l [] (.rply 1#8 .ok [byteOf (nextHandle s), 0#8]) s t ∧ DemandsFollow s t ∧
        t = { s with grant := t.grant, port := t.port, beacon := t.beacon }) ∧
    (∀ w, waiterOn (resourceOf a) s = some w →
      ∃ t, exec (requestFor l a n k d) s = .next t ∧
        (let x := allocate ((tableWithout w.handle s).map (·.handle)) 255 s.grant.lastHandle
        t.grant = { table := tableWithout w.handle s ++
                      [{ requested l a n k d .waiting s with handle := x }]
                    lastHandle := x
                    slots := s.grant.slots.set (resourceOf a) ⟨some h.handle, some x⟩ } ∧
        Handled 7 l [(w, .preempted)] (.rply 1#8 .ok [byteOf x, 0#8]) s t) ∧
        Noticed { s.notice.flags with gend := true } s.notice.mask t ∧ DemandsFollow s t ∧
        t = { s with grant := t.grant, port := t.port, notice := t.notice, beacon := t.beacon })

/-- R6, R10: an accepted request against a DRIVING or PAUSED holder of lower rank sends it to EASING
with reason PREEMPTED and waits; where the holder's output is 0 the holder is retired and the new
grant drives within the same request. Model's choice: the new grant joins the table before the holder is
sent to EASING, so its handle passes over the holder's (log 40). -/
def Obligations.RqgrantPreemptsLowerRank : Prop :=
  ∀ (l : Link) (a : Axis) (n : Sense) (k : RunKind) (d : Word16) (s : State),
    Accepted l a n k s → ∀ h, holderOn (resourceOf a) s = some h → h.state ≠ .easing →
    (runsDown h.axis s = true →
      ∃ t, exec (requestFor l a n k d) s = .next t ∧
        t.grant = { table := tableWith (eased h .preempted) s ++ [requested l a n k d .waiting s]
                    lastHandle := nextHandle s
                    slots := s.grant.slots.set (resourceOf a)
                      ⟨some h.handle, some (nextHandle s)⟩ } ∧
        t.drive = s.drive ∧ (motorOf a = none → t.panel = s.panel) ∧
        Handled 7 l [] (.rply 1#8 .ok [byteOf (nextHandle s), 0#8]) s t ∧ DemandsFollow s t ∧
        t = { s with grant := t.grant, panel := t.panel, port := t.port, beacon := t.beacon }) ∧
    (runsDown h.axis s = false →
      ∃ t, exec (requestFor l a n k d) s = .next t ∧
        t.grant = { table := tableWithout h.handle s ++ [requested l a n k d .driving s]
                    lastHandle := nextHandle s
                    slots := s.grant.slots.set (resourceOf a) ⟨some (nextHandle s), none⟩ } ∧
        t.drive.output = s.drive.output.set h.axis 0 ∧
        t.drive.driving = (s.drive.driving.set h.axis none).set a (some ⟨nextHandle s, l, n⟩) ∧
        (resourceOf a = .hyd → t.drive.pumpClosed = pumpSense a n) ∧
        Handled 7 l [(h, .preempted)] (.rply 1#8 .ok [byteOf (nextHandle s), 1#8]) s t ∧
        Noticed { s.notice.flags with gend := true } s.notice.mask t ∧ DemandsFollow s t ∧
        t = { s with grant := t.grant, drive := t.drive, panel := t.panel, port := t.port
                     notice := t.notice, beacon := t.beacon })

/-- R15, R162: KEEP, LTGRANT and RSGRANT are answered NOHANDLE where no live grant carries the handle,
then NOTOWNER where it is another station's, then NOHANDLE where its axis or sense differs; nothing
changes. -/
def Obligations.GrantReferencesChecked : Prop :=
  ∀ (l : Link) (h : Byte) (a : Axis) (n : Sense) (d : Word16) (s : State),
    Ready l s →
    ∀ st, (match s.grant.table.find? (fun g => decide (g.handle = h.toNat)) with
      | none => some Status.nohandle
      | some g =>
        if g.station ≠ l then some Status.notowner
        else if g.axis ≠ a ∨ g.sense ≠ n then some Status.nohandle
        else none) = some st →
    (∃ t, exec (.keep l h (byteOf (axisCode a)) (byteOf (senseCode n)) d) s = .next t ∧
      AnsweredOnly 7 l (.rply 2#8 st []) s t) ∧
    (∃ t, exec (.ltgrant l h (byteOf (axisCode a)) (byteOf (senseCode n)) d) s = .next t ∧
      AnsweredOnly 7 l (.rply 3#8 st []) s t) ∧
    (∃ t, exec (.rsgrant l h (byteOf (axisCode a)) (byteOf (senseCode n)) d) s = .next t ∧
      AnsweredOnly 7 l (.rply 4#8 st []) s t)

/-- R16, R93: KEEP on the station's own grant, by its state and kind: WINDING, PAUSED, OK without
effect for LATCH, and for HOLD the deadman reloaded and the demand filtered with the hysteresis the last
period took, a written one coming into force at the next (R112, log 51). -/
def Obligations.KeepRefreshesGrant : Prop :=
  ∀ (d : Word16) (s : State), GrantsOk s → ∀ g ∈ s.grant.table, Ready g.station s →
    ∃ t, exec (.keep g.station (byteOf g.handle) (byteOf (axisCode g.axis))
        (byteOf (senseCode g.sense)) d) s = .next t ∧
      (g.state = .easing → AnsweredOnly 7 g.station (.rply 2#8 .winding []) s t) ∧
      (g.state = .paused → AnsweredOnly 7 g.station (.rply 2#8 .paused []) s t) ∧
      (g.state ≠ .easing → g.state ≠ .paused → g.kind = .latch →
        AnsweredOnly 7 g.station (.rply 2#8 .ok (byteOf g.handle :: nat16 g.demand)) s t) ∧
      (g.state ≠ .easing → g.state ≠ .paused → g.kind = .hold →
        let asked := min 1000 d.toNat
        let held :=
          if (g.axis = .lift ∨ g.axis = .tilt) ∧
              (s.drive.hysteresisInForce ≤ max asked g.demand - min asked g.demand ∨ asked = 0 ∨
                asked = 1000)
          then asked else g.demand
        t = { s with
          grant := { s.grant with
            table := tableWith { g with deadman := some s.config.deadman, demand := held } s }
          port := t.port } ∧
        Handled 7 g.station [] (.rply 2#8 .ok (byteOf g.handle :: nat16 held)) s t)

/-- R17, R10: LTGRANT on the station's own grant: WINDING for an EASING grant in every mode; in RUN a
WAITING grant retired; a DRIVING or PAUSED grant EASING with reason RELEASED, or retired at once where
its output is 0; never a GEND. Outside RUN, CLOSEDOWN too, every grant is EASING (R32), so none is released
there. -/
def Obligations.LtgrantReleasesGrant : Prop :=
  (∀ (d : Word16) (s : State), GrantsOk s → AllowedOk s → s.mode.mode ≠ .run →
    ∀ g ∈ s.grant.table, Ready g.station s →
    ∃ t, exec (.ltgrant g.station (byteOf g.handle) (byteOf (axisCode g.axis))
        (byteOf (senseCode g.sense)) d) s = .next t ∧
      AnsweredOnly 7 g.station (.rply 3#8 .winding []) s t) ∧
  ∀ (d : Word16) (s : State), GrantsOk s → SlotsOk s →
    ∀ g ∈ s.grant.table, Ready g.station s → s.mode.mode = .run ∨ g.state = .easing →
    ∃ t, exec (.ltgrant g.station (byteOf g.handle) (byteOf (axisCode g.axis))
        (byteOf (senseCode g.sense)) d) s = .next t ∧
      (g.state = .easing → AnsweredOnly 7 g.station (.rply 3#8 .winding []) s t) ∧
      (g.state = .waiting →
        t.grant = { s.grant with
          table := tableWithout g.handle s
          slots := s.grant.slots.set (resourceOf g.axis)
            { s.grant.slots.get (resourceOf g.axis) with waiting := none } } ∧
        t.drive = s.drive ∧ t.panel = s.panel ∧
        Handled 7 g.station [] (.rply 3#8 .ok [byteOf g.handle, 4#8]) s t) ∧
      (g.state = .driving ∨ g.state = .paused → HolderRamped g .released s t ∧
        Handled 7 g.station []
          (.rply 3#8 .ok [byteOf g.handle, if runsDown g.axis s then 2#8 else 4#8]) s t) ∧
      (s.mode.mode = .run → DemandsFollow s t) ∧
      t = { s with grant := t.grant, drive := t.drive, panel := t.panel, port := t.port
                   beacon := t.beacon }

/-- R18, R120: RSGRANT on the station's own grant: NOTPAUSED unless it is PAUSED; a PAUSED grant is
DRIVING again, its deadman loaded in full, with no new start of the drive; a door's sequence goes on from
the state it kept, the shutter keeps its state and gate. -/
def Obligations.RsgrantResumesGrant : Prop :=
  ∀ (d : Word16) (s : State), GrantsOk s → ∀ g ∈ s.grant.table, Ready g.station s →
    ∃ t, exec (.rsgrant g.station (byteOf g.handle) (byteOf (axisCode g.axis))
        (byteOf (senseCode g.sense)) d) s = .next t ∧
      (g.state ≠ .paused → AnsweredOnly 7 g.station (.rply 4#8 .notpaused []) s t) ∧
      (g.state = .paused →
        t.grant = { s.grant with
          table := tableWith { g with
            state := .driving, pause := none
            deadman := if g.kind = .hold then some s.config.deadman else none } s } ∧
        (motorOf g.axis = none ∨ g.axis = .shut → t.panel = s.panel) ∧
        (∀ e : Door, g.axis = axisOfMotor (motorOfDoor e) →
          (panelOf (motorOfDoor e) t, latchOf e t) =
              resumed (panelOf (motorOfDoor e) s) (latchOf e s) ∧
            t.panel = { s.panel with
              axis := s.panel.axis.set (motorOfDoor e) (panelOf (motorOfDoor e) t)
              latch := s.panel.latch.set e (latchOf e t) }) ∧
        t = { s with grant := t.grant, panel := t.panel, port := t.port } ∧
        Handled 7 g.station [] (.rply 4#8 .ok [byteOf g.handle, 1#8]) s t)

/-- R13, R14: the deadman expiry and the pause window expiry of a grant whose loaded time has passed end it
in RUN by its state. Outside RUN, CLOSEDOWN too, every grant is EASING (R32) and no expiry finds a grant
of its kind. Model's choice: an expiry command whose time has not run out, or has no grant of its
kind, changes nothing (logs 6, 23). -/
def Obligations.GrantTimersEndGrants : Prop :=
  (∀ s : State, GrantsOk s → SlotsOk s → s.mode.mode = .run →
    ∀ g ∈ s.grant.table, g.deadman = some 0 →
    ∃ t, exec (.deadmanExpiry g.handle) s = .next t ∧
      (g.state = .waiting →
        t.grant = { s.grant with
          table := tableWithout g.handle s
          slots := s.grant.slots.set (resourceOf g.axis)
            { s.grant.slots.get (resourceOf g.axis) with waiting := none } } ∧
        t.drive = s.drive ∧ Told [(g, .deadman)] s t ∧ GendNoticed [(g, .deadman)] s t) ∧
      (g.state = .driving → HolderRamped g .deadman s t ∧
        Told (if runsDown g.axis s then [] else [(g, .deadman)]) s t ∧
        GendNoticed (if runsDown g.axis s then [] else [(g, .deadman)]) s t) ∧
      DemandsFollow s t ∧
      t = { s with grant := t.grant, drive := t.drive, panel := t.panel, port := t.port
                   notice := t.notice, beacon := t.beacon }) ∧
  (∀ s : State, GrantsOk s → SlotsOk s → s.mode.mode = .run →
    ∀ g ∈ s.grant.table, g.state = .paused → g.pause = some 0 →
    ∃ t, exec (.pauseWindowExpiry g.handle) s = .next t ∧
      HolderRamped g .linkLost s t ∧
      Told (if runsDown g.axis s then [] else [(g, .linkLost)]) s t ∧
      GendNoticed (if runsDown g.axis s then [] else [(g, .linkLost)]) s t ∧ DemandsFollow s t ∧
      t = { s with grant := t.grant, drive := t.drive, panel := t.panel, port := t.port
                   notice := t.notice, beacon := t.beacon }) ∧
  (∀ (s : State) (h : Nat),
    ((∀ g ∈ s.grant.table, g.handle = h → g.deadman ≠ some 0) →
      exec (.deadmanExpiry h) s = .next s) ∧
    ((∀ g ∈ s.grant.table, g.handle = h → g.state ≠ .paused ∨ g.pause ≠ some 0) →
      exec (.pauseWindowExpiry h) s = .next s)) ∧
  (∀ (s : State) (h : Nat), GrantsOk s → AllowedOk s → s.mode.mode ≠ .run →
    exec (.deadmanExpiry h) s = .next s ∧ exec (.pauseWindowExpiry h) s = .next s)

/-- R19, R48, R70, R163, R165: the queries answer from the tables and records as they stand and change
nothing. Model's choice: the numbering of the panel state of SHUT (log 22), and 0 in the level bit of an axis
other than TILT and in the condition bit of a door (log 59). -/
def Obligations.QueriesReportAndChangeNothing : Prop :=
  ∀ (l : Link) (b : Byte) (a : Axis) (s : State), Ready l s →
    (∃ t, exec (.qgrants l b) s = .next t ∧ AnsweredOnly 3 l
      (if 1 ≤ b.toNat ∧ b.toNat ≤ 12 then
        .rply 10#8 .ok (byteOf s.grant.table.length ::
          ((s.grant.table.drop (b.toNat - 1)).take 4).flatMap grantEntry)
      else .rply 10#8 .badvalue []) s t) ∧
    (∃ t, exec (.qholds l b) s = .next t ∧ AnsweredOnly 3 l
      (if 1 ≤ b.toNat ∧ b.toNat ≤ 24 then
        .rply 11#8 .ok (byteOf s.hold.table.length :: byteOf (stationHolds s) ::
          byteOf (if s.hold.line then 1 else 0) ::
          ((s.hold.table.drop (b.toNat - 1)).take 4).flatMap holdEntry)
      else .rply 11#8 .badvalue []) s t) ∧
    (∃ t, exec (.qaxes l (byteOf (axisCode a))) s = .next t ∧ AnsweredOnly 3 l
      (if s.axis.fitted.get a then
        .rply 12#8 .ok (byteOf (axisCode a) ::
          (if a = .lift then nat16 s.axis.position
            else if a = .tilt then bytes16 (BitVec.ofInt 16 s.axis.angle) else [0#8, 0#8]) ++
          [byteOf (if a = .lift then s.axis.band else 0), byteOf (panelField a s),
            byteOf (axisFlags a s), byteOf (faultOptNum (s.axis.fault.get a)),
            byteOf (causeBits (s.permit.map.get a).sense0),
            byteOf (causeBits (s.permit.map.get a).sense1),
            byteOf (healthCode (s.beacon.zone.get (zoneOf a)).health)])
      else .rply 12#8 .notfitted []) s t) ∧
    (5 < b.toNat → ∃ t, exec (.qaxes l b) s = .next t ∧
      AnsweredOnly 3 l (.rply 12#8 .badvalue []) s t) ∧
    (∃ t, exec (.cfgrd l b) s = .next t ∧ AnsweredOnly 3 l
      (if l ≠ .sl0 then .rply 32#8 .notsuper []
      else
        match itemOf b.toNat with
        | none => .rply 32#8 .badvalue []
        | some i => .rply 32#8 .ok (b :: bytes32 (BitVec.ofInt 32 (readItem s.config i)))) s t)

/-! ## Holds -/

/-- R43, R37, R25, R175: STOPZ by its checks in order; a new stop joins the table, cuts every grant on
its axes with reason STOPPED, is noticed and answered with its id; where it cuts the last grant of a
CLOSEDOWN with nothing deployed the mode ends in OFF, every port closed to DISABLED (R155). Model's choice:
its reply is queued before OFF closes the links (log 63), and an UP port with nothing queued closes within
the message (log 8). -/
def Obligations.StopzPlacesStop : Prop :=
  ∀ (l : Link) (b : Byte) (s : State),
    Ready l s → linkMode s.mode.mode = true → GrantsOk s → SlotsOk s → HoldsOk s → b.toNat < 16 →
    let z := zoneSetOf b.toNat
    let axes := PerAxis.mk' fun a => z.get (zoneOf a) || z.roof
    let same := s.hold.table.find? fun h => decide (h.source = .station l ∧ h.kind = .stop z)
    let ends := (s.grant.table.filter fun g => axes.get g.axis).map fun g => (g, Reason.stopped)
    let left := s.grant.table.filter fun g => !axes.get g.axis
    ∃ t, exec (.stopz l b) s = .next t ∧
      (b = 0#8 → AnsweredOnly 3 l (.rply 5#8 .badvalue []) s t) ∧
      (b ≠ 0#8 → ∀ h, same = some h → AnsweredOnly 3 l (.rply 5#8 .ok [byteOf h.id, 1#8]) s t) ∧
      (b ≠ 0#8 → same = none → 23 ≤ stationHolds s → AnsweredOnly 3 l (.rply 5#8 .noroom []) s t) ∧
      (b ≠ 0#8 → same = none → stationHolds s < 23 →
        t.hold = { s.hold with
          table := s.hold.table ++ [⟨nextId s, .stop z, .station l, axes⟩], lastId := nextId s } ∧
        t.grant.table = left ∧ t.grant.lastHandle = s.grant.lastHandle ∧
        (∀ e ∈ ends, e.1.state ≠ .waiting → AxisStopped e.1.axis s t) ∧
        (leavesOff left s = false →
          Noticed { s.notice.flags with hold := true
                                        gend := s.notice.flags.gend || !ends.isEmpty }
            s.notice.mask t ∧
          Handled 3 l ends (.rply 5#8 .ok [byteOf (nextId s), 0#8]) s t ∧ DemandsFollow s t ∧
          t = { s with grant := t.grant, hold := t.hold, drive := t.drive, panel := t.panel
                       port := t.port, notice := t.notice, beacon := t.beacon }) ∧
        (leavesOff left s = true → WentOff s t ∧ t.notice.flags.hold = true ∧
          queueOf l t = queueOf l s ++ gendsTo l ends s ++
            [.rply 5#8 .ok [byteOf (nextId s), 0#8]]))

/-- R38, R39, R37, R24, R175: LOCKT by its checks in order; a new lockout joins the table, winds down
every grant on its axes with reason HELD, is noticed and answered with its id. In CLOSEDOWN every grant
is EASING already and none ends by it. -/
def Obligations.LocktPlacesLockout : Prop :=
  ∀ (l : Link) (tag : Word32) (b : Byte) (s : State),
    Ready l s → linkMode s.mode.mode = true → GrantsOk s → SlotsOk s → HoldsOk s → b.toNat < 64 →
    EasingOnly s →
    let axes := axisSetOf b.toNat
    let same := s.hold.table.find? fun h => decide (h.kind = .lockout tag.toNat ∧ h.axes = axes)
    let sel := fun g : Grant => axes.get g.axis
    let reader := (s.config.profile.get l).tagReader
    ∃ t, exec (.lockt l tag b) s = .next t ∧
      (reader = false → AnsweredOnly 7 l (.rply 7#8 .notallowed []) s t) ∧
      (reader = true → tag = 0#32 → AnsweredOnly 7 l (.rply 7#8 .badmsg []) s t) ∧
      (reader = true → tag ≠ 0#32 → b = 0#8 → AnsweredOnly 7 l (.rply 7#8 .badvalue []) s t) ∧
      (reader = true → tag ≠ 0#32 → b ≠ 0#8 → ∀ h, same = some h →
        AnsweredOnly 7 l (.rply 7#8 .ok [byteOf h.id, 1#8]) s t) ∧
      (reader = true → tag ≠ 0#32 → b ≠ 0#8 → same = none → 23 ≤ stationHolds s →
        AnsweredOnly 7 l (.rply 7#8 .noroom []) s t) ∧
      (reader = true → tag ≠ 0#32 → b ≠ 0#8 → same = none → stationHolds s < 23 →
        t.hold = { s.hold with
          table := s.hold.table ++ [⟨nextId s, .lockout tag.toNat, .station l, axes⟩]
          lastId := nextId s } ∧
        Ramped sel .held s t ∧
        Noticed { s.notice.flags with
            hold := true, gend := s.notice.flags.gend || !(rampedEnds sel .held s).isEmpty }
          s.notice.mask t ∧
        Handled 7 l (rampedEnds sel .held s) (.rply 7#8 .ok [byteOf (nextId s), 0#8]) s t ∧
        DemandsFollow s t ∧
        t = { s with grant := t.grant, hold := t.hold, drive := t.drive, panel := t.panel
                     port := t.port, notice := t.notice, beacon := t.beacon })

/-- R44, R45, R37: CLRSTOP by its checks in order; a stop it clears leaves the table, noticed, and no
grant is touched. -/
def Obligations.ClrstopRetiresStop : Prop :=
  ∀ (l : Link) (id : Byte) (s : State), Ready l s → linkMode s.mode.mode = true →
    ∃ t, exec (.clrstop l id) s = .next t ∧
      match s.hold.table.find? (fun h => decide (h.id = id.toNat)) with
      | none => AnsweredOnly 3 l (.rply 6#8 .nohold []) s t
      | some h =>
        if isLockout h = true then AnsweredOnly 3 l (.rply 6#8 .nohold []) s t
        else if h.source = .line ∧ s.hold.line = true then
          AnsweredOnly 3 l (.rply 6#8 .lineactive []) s t
        else if h.source ≠ .line ∧ h.source ≠ .station l ∧ l ≠ .sl0 then
          AnsweredOnly 3 l (.rply 6#8 .notowner []) s t
        else
          t = { s with
            hold := { s.hold with
              table := s.hold.table.filter fun x => decide (x.id ≠ id.toNat) }
            port := t.port, notice := t.notice, beacon := t.beacon } ∧
          Noticed { s.notice.flags with hold := true } s.notice.mask t ∧
          Handled 3 l [] (.rply 6#8 .ok [id]) s t ∧ DemandsFollow s t

/-- R40, R41, R37: ULOCKT with a lockout's own tag, or FREELOCK from link 0 without it, retires the
lockout; each by its checks in order. -/
def Obligations.LockoutRetiredByTagOrSupervisor : Prop :=
  ∀ (l : Link) (id : Byte) (tag : Word32) (s : State), Ready l s → linkMode s.mode.mode = true →
    let found := (s.hold.table.find? fun h => decide (h.id = id.toNat)).filter isLockout
    let gone : State → Prop := fun t =>
      t = { s with
        hold := { s.hold with table := s.hold.table.filter fun x => decide (x.id ≠ id.toNat) }
        port := t.port, notice := t.notice, beacon := t.beacon } ∧
      Noticed { s.notice.flags with hold := true } s.notice.mask t ∧ DemandsFollow s t
    (∃ t, exec (.ulockt l id tag) s = .next t ∧
      if (s.config.profile.get l).tagReader = false then
        AnsweredOnly 7 l (.rply 8#8 .notallowed []) s t
      else if tag = 0#32 then AnsweredOnly 7 l (.rply 8#8 .badmsg []) s t
      else
        match found with
        | none => AnsweredOnly 7 l (.rply 8#8 .nohold []) s t
        | some h =>
          if h.kind = .lockout tag.toNat then
            gone t ∧ Handled 7 l [] (.rply 8#8 .ok [id]) s t
          else AnsweredOnly 7 l (.rply 8#8 .tagmismatch []) s t) ∧
    (∃ t, exec (.freelock l id) s = .next t ∧
      if l ≠ .sl0 then AnsweredOnly 3 l (.rply 38#8 .notsuper []) s t
      else
        match found with
        | none => AnsweredOnly 3 l (.rply 38#8 .nohold []) s t
        | some h =>
          match h.kind with
          | .lockout n =>
            gone t ∧ Handled 3 l [] (.rply 38#8 .ok (id :: bytes32 (BitVec.ofNat 32 n))) s t
          | .stop _ => False)

/-- R46, R175: an assertion of the ESTOP line with no LINE stop live places it over all six axes and
cuts every grant, which in CLOSEDOWN with nothing deployed ends the mode in OFF; in WAKE it is placed and
noticed and nothing else changes; with one live the assertion only takes the line; a release retires
nothing; in OFF neither is taken. The entry into OFF closes every port to DISABLED (R155); model's choice:
an UP port with nothing queued closes within the event (log 8). -/
def Obligations.EstopLineStopsEverything : Prop :=
  ∀ s : State,
    (linkMode s.mode.mode = true → GrantsOk s → SlotsOk s → HoldsOk s → lineStopLive s = false →
      ∃ t, exec .estopAssertion s = .next t ∧
        t.inputs = { s.inputs with estop := true } ∧
        t.hold = ⟨s.hold.table ++ [⟨nextId s, .stop ⟨false, false, false, true⟩, .line, .all true⟩],
          nextId s, true⟩ ∧
        t.grant.table = [] ∧ t.grant.slots = .all ⟨none, none⟩ ∧
        (∀ g ∈ s.grant.table, g.state ≠ .waiting → AxisStopped g.axis s t) ∧
        (leavesOff [] s = false →
          Told (s.grant.table.map fun g => (g, .stopped)) s t ∧
          Noticed { s.notice.flags with hold := true
                                        gend := s.notice.flags.gend || !s.grant.table.isEmpty }
            s.notice.mask t ∧ DemandsFollow s t ∧
          t = { s with inputs := t.inputs, grant := t.grant, hold := t.hold, drive := t.drive
                       panel := t.panel, port := t.port, notice := t.notice
                       beacon := t.beacon }) ∧
        (leavesOff [] s = true → WentOff s t ∧ t.notice.flags.hold = true)) ∧
    (s.mode.mode = .wake → s.grant.table = [] → lineStopLive s = false →
      ∃ t, exec .estopAssertion s = .next t ∧
        t = { s with
          inputs := { s.inputs with estop := true }
          hold := ⟨s.hold.table ++
            [⟨nextId s, .stop ⟨false, false, false, true⟩, .line, .all true⟩], nextId s, true⟩
          notice := t.notice } ∧
        Noticed { s.notice.flags with hold := true } s.notice.mask t) ∧
    (s.mode.mode ≠ .off → lineStopLive s = true →
      ∃ t, exec .estopAssertion s = .next t ∧
        t = { s with inputs := { s.inputs with estop := true }
                     hold := { s.hold with line := true } }) ∧
    (∃ t, exec .estopRelease s = .next t ∧
      t = { s with inputs := { s.inputs with estop := false }
                   hold := if s.mode.mode = .off then s.hold else { s.hold with line := false } }) ∧
    (s.mode.mode = .off → ∃ t, exec .estopAssertion s = .next t ∧
      t = { s with inputs := { s.inputs with estop := true } })

/-! ## Axes -/

/-- R52 to R55, R62: a sample reads LIFT: outside the sensor margin the condition stands, with no end,
deployed, position and band held and SENSOR set; else position, ends, deployed and band follow the
reading. The stall watch (R65) then starts, restarts, runs on or sets STALL, and its window is absent below
an output of 200 or while the condition stands, unless the sample ends CLOSEDOWN in OFF, which makes it
absent (R71). -/
def Obligations.SampleFollowsLift : Prop :=
  ∀ (i : AxisInputs) (s : State),
    working s = true → s.axis.fitted.lift = true →
    lowsValid s.config.calibration.bedHeight s.config.bands = true →
    ∃ t, exec (.axisSample i) s = .next t ∧ t.axis.liftReading = i.lift ∧ t.config = s.config ∧
      LiftFollows s t ∧
      (t.mode.mode = s.mode.mode → StallFollows s t) ∧
      (t.mode.mode ≠ s.mode.mode → t.axis.stall = none)

/-- R56 to R60: a sample reads TILT and FOLD and mirrors the panel axes; an axis the strap leaves
unfitted keeps what it reads as. Model's choice: the raw readings, switch levels and panel states are taken
whether or not their axis is fitted (log 46). -/
def Obligations.SampleFollowsOtherAxes : Prop :=
  ∀ (i : AxisInputs) (s : State), working s = true →
    ∃ t, exec (.axisSample i) s = .next t ∧
      t.axis.tiltReading = i.tilt ∧ t.axis.stowed = i.stowed ∧ t.axis.unfolded = i.deployed ∧
      (∀ m, t.axis.panelState.get m = (s.panel.axis.get m).state) ∧
      t.axis.shutSwitch = s.panel.condition ∧ t.config = s.config ∧ AxesFollow s t

/-- R66 to R68, R108, R110: a stall, a travel limit or a latch expiry sets its fault on a fitted axis
that is not FAULTED; on one that is FAULTED or not fitted the report is dropped. At a control period a
coil current above imax plus 500 mA disarms its watch and sets COILSHORT, with its channel recorded; an
axis FAULTED already, or not fitted, keeps its code, and where no code changes and the pump is within its
limit nothing is recorded or noticed; and the FOLD travel time counts under an output, stands at 0 at the
end and past 10 s sets TRAVEL. Model's choice: the stall and travel commands act while their window or travel time
is present, whatever it holds (log 5), the latch commands once their time has run out (log 6). -/
def Obligations.FaultReportsSetFirstCode : Prop :=
  (∀ (c : Instr) (a : Axis) (code : FaultCode) (s : State),
    (c, a, code) ∈ faultEvents → limitRuns c s = true →
    (Settled s → GrantsOk s → SlotsOk s → s.axis.fitted.get a = true → s.axis.fault.get a = none →
      ∃ t, exec c s = .next t ∧ FaultSet a code s t ∧ DemandsFollow s t) ∧
    (s.axis.fitted.get a = false ∨ s.axis.fault.get a ≠ none →
      ∃ t, exec c s = .next t ∧
        t = { s with drive := t.drive, panel := t.panel } ∧
        t.drive.output = s.drive.output)) ∧
  ∀ (c : PeriodCurrents) (s : State), working s = true → GrantsOk s → SlotsOk s →
    ∃ t, exec (.controlPeriod c) s = .next t ∧
      (∀ a : Axis, s.axis.fault.get a ≠ none ∨ s.axis.fitted.get a = false →
        t.axis.fault.get a = s.axis.fault.get a) ∧
      (c.pump ≤ s.config.drive.pumpLimit → t.axis.fault = s.axis.fault →
        t.faultLog = s.faultLog ∧ t.notice.flags.fault = s.notice.flags.fault) ∧
      (∀ k : Coil,
        (s.axis.fitted.get (axisOfCoil k) = false →
          t.drive.coilWatch.get k = s.drive.coilWatch.get k) ∧
        (s.axis.fitted.get (axisOfCoil k) = true →
          t.drive.coilWatch.get k = if overCoil c k s then .disarmed else .armed) ∧
        (s.axis.fitted.get (axisOfCoil k) = true → overCoil c k s = true →
          s.drive.coilWatch.get k = .armed → s.axis.fault.get (axisOfCoil k) = none →
          (∀ g ∈ t.grant.table, g.axis ≠ axisOfCoil k) ∧
          ((∀ n, s.drive.foldTravel = some n → n + 10 ≤ 10000) →
            t.axis.fault.get (axisOfCoil k) = some .coilshort ∧
            ((∀ m, (panelOf m s).travel = none) → (∀ j, j ≠ k → overCoil c j s = false) →
              c.pump ≤ s.config.drive.pumpLimit →
              t.faultLog = loggedFault
                { kind := .axisFault .coilshort, axis := some (axisOfCoil k), coil := some k
                  position := if axisOfCoil k = .lift then some s.axis.position else none
                  mode := s.mode.mode } s.faultLog)))) ∧
      (shapedMode s.mode.mode = true →
        ∀ g, drivingGrant .fold s = some g → ∀ n, s.drive.foldTravel = some n →
        (livesOn g t = true → endFlag .fold g.sense s = true → t.drive.foldTravel = some 0) ∧
        (livesOn g t = true → endFlag .fold g.sense s = false → n + 10 ≤ 10000 →
          t.drive.foldTravel = some (if nextOutput g s = 0 then n else n + 10)) ∧
        (endFlag .fold g.sense s = false → nextOutput g s ≠ 0 → 10000 < n + 10 →
          s.axis.fitted.fold = true → s.axis.fault.fold = none →
          t.axis.fault.fold = some .travel ∧ EndedFor g .fault s t))

/-- R69: ACKFLT by its checks in order; a code it clears becomes absent and nothing else of the axes
changes. -/
def Obligations.AckfltClearsFault : Prop :=
  ∀ (l : Link) (a : Axis) (s : State), Ready l s → linkMode s.mode.mode = true →
    ∃ t, exec (.ackflt l (byteOf (axisCode a))) s = .next t ∧
      if s.axis.fitted.get a = false then AnsweredOnly 3 l (.rply 9#8 .notfitted []) s t
      else if ((s.config.profile.get l).allowed.get a).sense0 = false ∧
          ((s.config.profile.get l).allowed.get a).sense1 = false then
        AnsweredOnly 3 l (.rply 9#8 .notallowed []) s t
      else
        match s.axis.fault.get a with
        | none => AnsweredOnly 3 l (.rply 9#8 .ok [0#8]) s t
        | some c =>
          if (c = .sensor ∨ c = .switch) ∧ conditionOf s.axis.condition a = .standing then
            AnsweredOnly 3 l (.rply 9#8 .stillfaulty [byteOf (faultCodeNum c)]) s t
          else
            t = { s with
              axis := { s.axis with fault := s.axis.fault.set a none }
              port := t.port, beacon := t.beacon } ∧
            Handled 3 l [] (.rply 9#8 .ok [byteOf (faultCodeNum c)]) s t ∧ DemandsFollow s t

/-- R63, R62: CFGBAND from link 0 by its checks in order; an accepted table replaces the old, and the
position in force picks its band at once; another link is answered NOTSUPER. Model's choice: the permit
map is judged again whether or not the band number changes (log 35), and the reply is queued before an end of
CLOSEDOWN the sample brings closes the links (log 63). -/
def Obligations.CfgbandReplacesBandTable : Prop :=
  (∀ (l : Link) (words : List Word32) (s : State), l ≠ .sl0 → Ready l s → words.length ≤ 9 →
    ∃ t, exec (.cfgband l words) s = .next t ∧
      AnsweredOnly (3 + 4 * words.length) l (.rply 34#8 .notsuper []) s t) ∧
  ∀ (words : List Word32) (s : State),
    Ready .sl0 s → words.length ≤ 9 →
    let bands := words.map bandOfWord
    let h := s.config.calibration.bedHeight
    ∃ t, exec (.cfgband .sl0 words) s = .next t ∧
      (s.store.save.isSome = true ∨ (∃ g ∈ s.grant.table, resourceOf g.axis = .hyd) →
        AnsweredOnly (3 + 4 * words.length) .sl0 (.rply 34#8 .busy []) s t) ∧
      (s.store.save = none → (∀ g ∈ s.grant.table, resourceOf g.axis ≠ .hyd) →
        (bands = [] ∨ 8 < bands.length ∨ (∀ b, bands[0]? = some b → b.low ≠ 0) ∨
          (∃ (k : Nat) (b c : Band), bands[k]? = some b ∧ bands[k + 1]? = some c ∧ c.low ≤ b.low) ∨
          (∃ b ∈ bands, h ≤ b.low) ∨ (∃ b ∈ bands, 1000 < b.raiseLimit ∨ 1000 < b.lowerLimit) →
          AnsweredOnly (3 + 4 * words.length) .sl0 (.rply 34#8 .badvalue []) s t) ∧
        (bandsValid h bands = true →
          t.config = { s.config with bands := bands } ∧ t.permit.map = permitMap t ∧
          (queueOf .sl0 t).getLast? =
            some (.rply 34#8 .ok [byteOf bands.length, byteOf t.axis.band]) ∧
          (s.axis.fitted.lift = true → t.axis.condition.lift = .gone →
            ∀ (k : Nat) (b : Band), bands[k]? = some b →
              (b.low ≤ t.axis.position ↔ k < t.axis.band))))

/-! ## Permits -/

/-- R76, R80, R83 to R85, R73, R74: a change of the PBRK line and a pressure sample take the new level,
judge the permit map again and wind down with reason PERMIT every grant a cause is newly absent for; in
CLOSEDOWN every grant is EASING already. -/
def Obligations.BrakeAndPressureJudgePermits : Prop :=
  ∀ (s : State), GrantsOk s → SlotsOk s → JudgedOk s →
    EasingOnly s →
    let judged := fun (t : State) =>
      t.permit.map = permitMap t ∧ Ramped (newlyBarred s t) .permit s t ∧
        Told (rampedEnds (newlyBarred s t) .permit s) s t ∧
        GendNoticed (rampedEnds (newlyBarred s t) .permit s) s t
    (∀ b : Bool, ∃ t, exec (.pbrkChange b) s = .next t ∧
      t.inputs = { s.inputs with pbrk := b } ∧
      (s.mode.mode = .off → t = s.setInputs { s.inputs with pbrk := b }) ∧
      (s.mode.mode ≠ .off →
        t.permit = { s.permit with pbrk := b, map := t.permit.map } ∧ judged t ∧
        t = { s with inputs := t.inputs, grant := t.grant, permit := t.permit, drive := t.drive
                     panel := t.panel, port := t.port, notice := t.notice
                     beacon := t.beacon })) ∧
    (∀ n : Nat, ∃ t, exec (.pressureSample n) s = .next t ∧
      t.inputs = { s.inputs with pressure := n } ∧
      (working s = false → t = s.setInputs { s.inputs with pressure := n }) ∧
      (working s = true →
        let p := if n < 200 ∨ 3895 < n then none else some ((n - 200) * 400 / 3696)
        let state := fun (level : Nat) (old : Bool) =>
          match p with
          | none => true
          | some b => decide (level ≤ b) || (old && decide (level ≤ b + 10))
        t.permit = { s.permit with
          pressure := p, overload := state s.config.permit.overload s.permit.overload
          derate := state s.config.permit.derate s.permit.derate, map := t.permit.map } ∧
        judged t ∧
        t = { s with inputs := t.inputs, grant := t.grant, permit := t.permit, drive := t.drive
                     panel := t.panel, port := t.port, notice := t.notice
                     beacon := t.beacon }))

/-- R77 to R79, R73, R74, R87: a pulse arrival and the expiry of the pulse timer move the speed record,
judge the permit map again and wind down with reason PERMIT every grant a cause is newly absent for. An
expiry that finds the timer started again by an arrival changes nothing (R78; log 6 names the point). -/
def Obligations.PulsesMeasureRoadSpeed : Prop :=
  ∀ (s : State),
    GrantsOk s → SlotsOk s → JudgedOk s → s.mode.mode ≠ .off →
    EasingOnly s →
    let judged := fun (t : State) =>
      t.permit.map = permitMap t ∧ Ramped (newlyBarred s t) .permit s t ∧
        ((t.permit.speed, t.permit.speedValue) ≠ (s.permit.speed, s.permit.speedValue) →
          t.permit.deployMove =
            if s.permit.deployMove then !stationary t
            else decide (t.permit.speed = .running) && decide (50 ≤ t.permit.speedValue) &&
              anyDeployed s) ∧
        t = { s with grant := t.grant, permit := t.permit, drive := t.drive, panel := t.panel
                     port := t.port, notice := t.notice, beacon := t.beacon }
    (∀ p : Nat, ∃ t, exec (.pulseArrival p) s = .next t ∧ judged t ∧
      t.permit.pulseTimer = some 1000 ∧
      (s.permit.speed = .unknown ∨ s.permit.speed = .stopped →
        t.permit.speed = .starting ∧ t.permit.speedValue = 0 ∧ t.permit.lastPeriod = none) ∧
      (s.permit.speed = .starting ∨ s.permit.speed = .running →
        t.permit.speed = .running ∧ t.permit.lastPeriod = some p ∧
        t.permit.speedValue =
          min 2500 (36000000000 / (s.config.permit.pulsesPerKm * max 100 p)))) ∧
    (∃ t, exec .pulseTimerExpiry s = .next t ∧
      (s.permit.pulseTimer ≠ some 0 → t = s) ∧
      (s.permit.pulseTimer = some 0 → judged t ∧ t.permit.speed = .stopped ∧
        t.permit.speedValue = 0 ∧ t.permit.lastPeriod = none ∧ t.permit.pulseTimer = none))

/-! ## Drive -/

/-- R91 to R103, R106, R107, R109, R111: a control period gives each axis the output its driving grant
calls for, or 0 where that grant's period ends it; an axis no grant drove has 0; the coil of the grant's
sense has the command of that output and every other coil 0, and each motor's duty is its output; outside
RUN and CLOSEDOWN everything stays off. The written hysteresis and dither half-period come into force
(R112). Model's choice: the axes are taken in the order of the axis table, so a LIFT grant promoted by the
period of TILT or FOLD gets no output in that period (log 48). -/
def Obligations.ControlPeriodDrivesAxes : Prop :=
  ∀ (c : PeriodCurrents) (s : State), working s = true → GrantsOk s → SlotsOk s → Quiet s →
    ∃ t, exec (.controlPeriod c) s = .next t ∧
      t.drive.hysteresisInForce = s.config.drive.hysteresis ∧
      t.drive.halfPeriodInForce = s.config.drive.ditherHalfPeriod ∧
      (shapedMode s.mode.mode = false → OutputsOff t) ∧
      (shapedMode s.mode.mode = true → ∀ a : Axis,
        (drivingGrant a s = none → t.drive.output.get a = 0) ∧
        (∀ g, drivingGrant a s = some g →
          ((∃ k ∈ t.grant.table, k.handle = g.handle) → t.drive.output.get a = nextOutput g s) ∧
          ((∀ k ∈ t.grant.table, k.handle ≠ g.handle) → t.drive.output.get a = 0) ∧
          (g.state = .easing → nextOutput g s = 0 → ∀ k ∈ t.grant.table, k.handle ≠ g.handle))) ∧
      (shapedMode s.mode.mode = true →
        (∀ m : Motor, t.drive.duty.get m = t.drive.output.get (axisOfMotor m)) ∧
        ∀ k : Coil,
          (t.drive.output.get (axisOfCoil k) = 0 → t.drive.coil.get k = 0) ∧
          (∀ g, drivingGrant (axisOfCoil k) s = some g → livesOn g t = true →
            t.drive.coil.get k =
              if coilOf g.axis g.sense = some k then commandAt k (nextOutput g s) s else 0))

/-- R107, R101: a dither flip turns the phase, reloads the half-period the last period took and sets every
coil command from its base current; the start delay running out becomes absent; nothing else changes.
Model's choice: a half-period under way when another comes into force runs to its old end (log 51), a flip
whose half-period has not run out changes nothing (logs 6, 23), and the start delay's expiry clears every
start delay, whatever is left of it (log 6). -/
def Obligations.DitherAndStartDelayRunOut : Prop :=
  ∀ s : State,
    (∃ t, exec .ditherFlip s = .next t ∧
      (s.drive.ditherTimer ≠ some 0 → t = s) ∧
      (s.drive.ditherTimer = some 0 →
        t = { s with drive := t.drive } ∧
        t.drive = { s.drive with
          ditherPhase := t.drive.ditherPhase
          ditherTimer := some s.drive.halfPeriodInForce, coil := t.drive.coil } ∧
        t.drive.ditherPhase ≠ s.drive.ditherPhase ∧
        ∀ k : Coil,
          (channelBase k s = 0 → t.drive.coil.get k = 0) ∧
          (channelBase k s ≠ 0 → t.drive.ditherPhase = .plus → t.drive.coil.get k =
            min (s.config.drive.imax.get k)
              (channelBase k s + s.config.drive.ditherAmplitude)) ∧
          (channelBase k s ≠ 0 → t.drive.ditherPhase = .minus →
            t.drive.coil.get k = channelBase k s - s.config.drive.ditherAmplitude))) ∧
    (∃ t, exec .startDelayExpiry s = .next t ∧
      t = { s with drive := { s.drive with startDelay := .all none } })

/-- R174, R105, R29, R177: a pump overcurrent with the contactor closed in RUN, or in CLOSEDOWN for a
history of fewer than two, is logged and enters RETRY with its time added, or BARRED with two entries
in the history; every grant is cut and every output off. At a control period the over-time counts 10 ms
for a current above the limit under a closed contactor, is 0 otherwise, and reports at 300 ms. Model's
choice: the command acts whatever the over-time (log 5). -/
def Obligations.PumpOvercurrentRetriesOrBars : Prop :=
  (∀ (c : PeriodCurrents) (s : State), working s = true → GrantsOk s → SlotsOk s → Quiet s →
    ∃ t, exec (.controlPeriod c) s = .next t ∧
      (c.pump ≤ s.config.drive.pumpLimit → t.drive.pumpOver = 0) ∧
      (s.config.drive.pumpLimit < c.pump → s.drive.pumpOver < 290 →
        t.drive.pumpOver = if t.drive.pumpClosed then s.drive.pumpOver + 10 else 0) ∧
      (s.config.drive.pumpLimit < c.pump → 290 ≤ s.drive.pumpOver →
        s.mode.mode = .run → s.drive.pumpClosed = true →
        (∀ g ∈ s.grant.table, resourceOf g.axis = .hyd → g.state = .driving) →
        (∀ k, overCoil c k s = false) → (∀ n, s.drive.foldTravel = some n → n + 10 ≤ 10000) →
        AllCut s t ∧ t.drive.pumpOver = 0 ∧
        (s.mode.history.length < 2 → t.mode = { s.mode with
          mode := .retry, timer := some 2000, history := s.mode.history ++ [0] }) ∧
        (2 ≤ s.mode.history.length → s.mode.ign = true →
          t.mode = { s.mode with mode := .barred, timer := none }))) ∧
  ∀ s : State, GrantsOk s → SlotsOk s → s.drive.pumpClosed = true →
    shapedMode s.mode.mode = true → s.mode.mode = .run ∨ s.mode.history.length < 2 →
    s.mode.ign = true ∨ s.mode.mode = .closedown →
    ∃ t, exec .pumpOvercurrent s = .next t ∧ AllCut s t ∧ t.drive.pumpOver = 0 ∧
      t.faultLog = loggedFault
        { kind := .pumpoc, axis := none, coil := none, position := none, mode := s.mode.mode }
        s.faultLog ∧
      (s.mode.history.length < 2 → t.mode = { s.mode with
        mode := .retry, timer := some 2000, history := s.mode.history ++ [0] }) ∧
      (2 ≤ s.mode.history.length → t.mode = { s.mode with mode := .barred, timer := none }) ∧
      Noticed { s.notice.flags with
        mode := true, gend := s.notice.flags.gend || !s.grant.table.isEmpty
        fltrec := s.notice.flags.fltrec || s.faultLog.record.isNone } s.notice.mask t ∧
      Told (s.grant.table.map fun g => (g, .mode)) s t

/-! ## Panels -/

/-- R115, R122, R117 to R119, R123: a switch change judges a door or shutter at rest afresh, and moves
a sequence on: latch released, open end reached and left, frame met and left, latch driven home and sprung;
under an EASING or PAUSED grant no latch is worked. The release of the safety edge changes only its level.
In OFF, and where the level is no change, only the input follows. Model's choice: the form of a switch
command in OFF and of one that changes no level (log 23), what a door pushed off its open end does under
any run kind (log 52), the latching states' switches under any grant state (log 16), and the shutter as its
switch condition goes (log 17). -/
def Obligations.PanelSwitchesMoveSequences : Prop :=
  (∀ (s : State) (d : Door) (w : DoorSwitch) (v : ShutterSwitch) (b : Bool),
    (s.mode.mode = .off ∨ doorSwitchLevel d w s = b →
      ∃ t, exec (.doorSwitchChange d w b) s = .next t ∧ t = { s with inputs := t.inputs }) ∧
    (s.mode.mode = .off ∨ shutterSwitchLevel v s = b →
      ∃ t, exec (.shutterSwitchChange v b) s = .next t ∧ t = { s with inputs := t.inputs })) ∧
  ∀ (s : State), s.mode.mode ≠ .off →
    (∀ (d : Door) (w : DoorSwitch) (b : Bool), doorSwitchLevel d w s ≠ b →
      ∃ t, exec (.doorSwitchChange d w b) s = .next t ∧
        t = { s with inputs := t.inputs, panel := t.panel } ∧
        (let p := panelOf (motorOfDoor d) s
        let q := panelOf (motorOfDoor d) t
        let l := latchOf d t
        let driving := seqDriving (motorOfDoor d) s
        t.panel = { s.panel with
          axis := s.panel.axis.set (motorOfDoor d) q, latch := s.panel.latch.set d l } ∧
        (∀ v, doorSwitchLevel d v t = if v = w then b else doorSwitchLevel d v s) ∧
        (p.seq = none → q.state =
          if q.openSwitch && !q.closedSwitch then .opened
          else if q.closedSwitch && !q.openSwitch && l.latched then .closed else .partway) ∧
        (∀ x, p.seq = some x →
          q.seq = p.seq ∧ q.obstruction = p.obstruction ∧
          (doorActs x.sense driving p.closedSwitch p.state w b = false →
            q = { p with openSwitch := q.openSwitch, closedSwitch := q.closedSwitch } ∧
            l = { latchOf d s with latched := l.latched }) ∧
          (p.state = .unlatching → w = .latched → b = false → driving = true →
            q.state = .opening ∧ q.gate = .pass ∧ l.solenoid = false ∧ l.pulse = none) ∧
          (p.state = .opening → w = .opened → b = true → q.state = .opened ∧
            (x.sense = .opening → q.gate = .held ∧ q.travel = some 0) ∧
            (x.sense = .closing → q.gate = p.gate ∧ q.travel = p.travel)) ∧
          (p.state = .opened → w = .opened → b = false → x.sense = .opening →
            q.state = .opening ∧ q.gate = .pass ∧ q.endReported = false) ∧
          (p.state = .closing → w = .closed → b = true →
            (driving = true → l.latched = false →
              q.state = .latching ∧ q.gate = .latch ∧ l.engage = some 1000) ∧
            (driving = true → l.latched = true → q.state = .closed ∧ q.gate = .held) ∧
            (driving = false → q.state = .closing ∧ q.gate = .held ∧ l = latchOf d s)) ∧
          (p.state = .closing → w = .closed → b = false →
            q.state = .closing ∧ q.gate = (if p.gate = .held then .pass else p.gate) ∧
            l = latchOf d s) ∧
          (p.state = .latching → w = .latched → b = true →
            q.state = .closed ∧ q.gate = .held ∧ l.engage = none ∧ q.travel = some 0) ∧
          (p.state = .latching → w = .closed → b = false →
            q.state = .closing ∧ q.gate = .pass ∧ l.engage = none) ∧
          (p.state = .closed → w = .closed → b = false → x.sense = .closing →
            q.state = .closing ∧ q.gate = .pass ∧ q.endReported = false) ∧
          (p.state = .closed → w = .latched → b = false → x.sense = .closing →
            p.closedSwitch = true → q.endReported = false ∧
            (driving = true → q.state = .latching ∧ q.gate = .latch ∧ l.engage = some 1000) ∧
            (driving = false → q.state = .closing ∧ q.gate = .held ∧
              l.engage = (latchOf d s).engage))))) ∧
    (∀ (w : ShutterSwitch) (b : Bool), shutterSwitchLevel w s ≠ b →
      ∃ t, exec (.shutterSwitchChange w b) s = .next t ∧
        t = { s with inputs := t.inputs, panel := t.panel } ∧
        (let p := panelOf .shut s
        let q := panelOf .shut t
        t.panel = { s.panel with
          axis := s.panel.axis.set .shut q, condition := t.panel.condition } ∧
        (∀ v, shutterSwitchLevel v t = if v = w then b else shutterSwitchLevel v s) ∧
        (t.panel.condition = .standing ↔ q.openSwitch = true ∧ q.closedSwitch = true) ∧
        (p.seq = none → q.state =
          if q.openSwitch && q.closedSwitch then p.state
          else if q.openSwitch then .opened else if q.closedSwitch then .closed else .partway) ∧
        (p.seq.isSome = true → t.panel.condition = .standing → q.state = p.state ∧ q.gate = .held) ∧
        (∀ x, p.seq = some x → s.panel.condition = .gone → t.panel.condition = .gone →
          (shutterActs x.sense p.state w b = false →
            q = { p with openSwitch := q.openSwitch, closedSwitch := q.closedSwitch }) ∧
          (p.state = .opening → w = .opened → b = true → q.state = .opened ∧
            (x.sense = .opening → q.gate = .held ∧ q.travel = some 0)) ∧
          (p.state = .opened → w = .opened → b = false → x.sense = .opening →
            q.state = .opening ∧ q.gate = .pass ∧ q.endReported = false) ∧
          (p.state = .closing → w = .closed → b = true → q.state = .closed ∧
            (x.sense = .closing → q.gate = .held ∧ q.travel = some 0)) ∧
          (p.state = .closed → w = .closed → b = false → x.sense = .closing →
            q.state = .closing ∧ q.gate = .pass ∧ q.endReported = false)) ∧
        (∀ x, p.seq = some x → s.panel.condition = .standing → t.panel.condition = .gone →
          (p.state = .opening → q.openSwitch = false → q.state = .opening ∧ q.gate = .pass) ∧
          (p.state = .opening → q.openSwitch = true → q.state = .opened) ∧
          (p.state = .closing → q.closedSwitch = false → q.state = .closing ∧
            q.gate = if s.panel.contact then .held else .pass) ∧
          (p.state = .closing → q.closedSwitch = true → q.state = .closed) ∧
          (p.state = .opened → q.openSwitch = true → q.state = .opened ∧ q.gate = .held) ∧
          (p.state = .closed → q.closedSwitch = true → q.state = .closed ∧ q.gate = .held)))) ∧
    (∃ t, exec (.safetyEdgeChange false) s = .next t ∧
      t = { s with
        inputs := { s.inputs with shutter := { s.inputs.shutter with contact := false } }
        panel := { s.panel with contact := false } })

/-- R116, R122: an accepted request for a FREE motor axis at rest starts its sequence in the state and
gate of the start table, with the solenoid and latch pulse of an unlatching and the engage of a
latching. Model's choice: a CLOSE from OPEN is CLOSING whatever the CLOSED switch (log 56). -/
def Obligations.RequestStartsPanelSequence : Prop :=
  ∀ (l : Link) (m : Motor) (n : Sense) (k : RunKind) (d : Word16) (s : State),
    Accepted l (axisOfMotor m) n k s → holderOn (resourceOf (axisOfMotor m)) s = none →
    (panelOf m s).state = .opened ∨ (panelOf m s).state = .closed ∨
      (panelOf m s).state = .partway →
    ∃ t, exec (requestFor l (axisOfMotor m) n k d) s = .next t ∧
      (let p := panelOf m s
      let q := panelOf m t
      q.seq = some ⟨nextHandle s, l, n, k⟩ ∧ q.travel = some 0 ∧ q.obstruction = 0 ∧
        q.endReported = false ∧
      (m = .shut → (q.state, q.gate) =
        shutterStart n p.state (decide (s.panel.condition = .standing)) s.panel.contact) ∧
      (∀ e : Door, m = motorOfDoor e →
        (q.state, q.gate) = doorStart n p.state p.closedSwitch (latchOf e s).latched ∧
        (latchOf e t).latched = (latchOf e s).latched ∧
        (q.state = .unlatching →
          (latchOf e t).solenoid = true ∧ (latchOf e t).pulse = some 400) ∧
        (q.state = .latching → (latchOf e t).engage = some 1000)))

/-- R123 to R126, R28, R121, R22: an obstruction of a driven motor axis and a contact of the safety edge
while the shutter closes cut the sequence grant with reason OBSTRUCTED and set no fault, and a grant that
waits behind it starts; with no sequence grant nothing is cut. At a control period the obstruction time
counts under a duty and an excess current and cuts at 200 ms, the travel time counts under a duty, stands
at 0 at the end and past its limit sets TRAVEL, and END is reported once at the end with the duty 0: a LATCH
grant is retired, a HOLD grant goes on. Model's choice: the obstruction command acts under any duty,
whatever the over-time (log 5), and in a period the hand-over to the panels comes before the pump watch, so
that these endings stand where both fall in one period (log 12). -/
def Obligations.ObstructionCutsSequenceGrant : Prop :=
  (∀ (s : State) (c : Instr) (m : Motor), Settled s → GrantsOk s → SlotsOk s →
    (c = .obstructionOvertime m ∧ s.drive.duty.get m ≠ 0 ∨
      c = .safetyEdgeChange true ∧ m = .shut ∧ s.panel.contact = false ∧
        (panelOf .shut s).state = .closing) →
    (∀ g ∈ s.grant.table, sequenceOf g m s = true → g.axis = axisOfMotor m → g.state ≠ .waiting →
      ∃ t, exec c s = .next t ∧
        t.axis = s.axis ∧ t.faultLog = s.faultLog ∧ t.drive.output.get g.axis = 0 ∧
        t.drive.duty.get m = 0 ∧ Told [(g, .obstructed)] s t ∧
        GendNoticed [(g, .obstructed)] s t ∧ DemandsFollow s t ∧
        (waiterOn (resourceOf g.axis) s = none →
          t.grant.table = tableWithout g.handle s ∧ AxisStopped g.axis s t) ∧
        (∀ w, waiterOn (resourceOf g.axis) s = some w →
          t.grant = { s.grant with
            table := (tableWithout g.handle s).map fun x =>
              if x.handle = w.handle then { w with state := .driving } else x
            slots := s.grant.slots.set (resourceOf g.axis) ⟨some w.handle, none⟩ } ∧
          t.drive.driving.get g.axis = some ⟨w.handle, w.station, w.sense⟩ ∧
          (panelOf m t).seq = some ⟨w.handle, w.station, w.sense, w.kind⟩)) ∧
    ((panelOf m s).seq = none → ∃ t, exec c s = .next t ∧ t.grant = s.grant ∧ t.drive = s.drive ∧
      t.port = s.port ∧ t.notice = s.notice)) ∧
  ∀ (c : PeriodCurrents) (s : State), working s = true → GrantsOk s → SlotsOk s →
    shapedMode s.mode.mode = true →
    ∃ t, exec (.controlPeriod c) s = .next t ∧
      ∀ (m : Motor) (g : Grant), drivingGrant (axisOfMotor m) s = some g → sequenceOf g m s = true →
        let p := panelOf m s
        let q := panelOf m t
        let excess := decide (s.config.obstruction.get m < c.motor.get m)
        let atEnd := decide (p.state = if g.sense = .opening then .opened else .closed)
        let edge := decide (m = .shut ∧ s.panel.contact = true ∧ p.state = .closing)
        let limit := if m = .shut then 15000 else 8000
        (livesOn g t = true → q.seq = p.seq ∧ q.state = p.state ∧
          q.obstruction = (if nextOutput g s ≠ 0 ∧ excess = true ∧ p.obstruction + 10 < 200
            then p.obstruction + 10 else 0) ∧
          (∀ n, p.travel = some n →
            (atEnd = true → q.travel = some 0) ∧
            (atEnd = false → nextOutput g s = 0 → q.travel = some n) ∧
            (atEnd = false → nextOutput g s ≠ 0 → n + 10 ≤ limit → q.travel = some (n + 10))) ∧
          (atEnd = true → nextOutput g s = 0 → q.endReported = true)) ∧
        (nextOutput g s ≠ 0 → excess = true → 200 ≤ p.obstruction + 10 →
          EndedFor g .obstructed s t ∧
            t.axis.fault.get (axisOfMotor m) = s.axis.fault.get (axisOfMotor m)) ∧
        (staysOn g s = true → edge = true → EndedFor g .obstructed s t) ∧
        (∀ n, p.travel = some n → atEnd = false → nextOutput g s ≠ 0 → excess = false → edge = false →
          limit < n + 10 → s.axis.fitted.get (axisOfMotor m) = true →
          s.axis.fault.get (axisOfMotor m) = none →
          t.axis.fault.get (axisOfMotor m) = some .travel ∧ EndedFor g .fault s t) ∧
        (atEnd = true → nextOutput g s = 0 → p.endReported = false → g.kind = .latch →
          g.state ≠ .easing → EndedFor g .atEnd s t)

/-! ## Beacons -/

/-- R131, R134, R135, R136: at a tick each zone with a pattern moves on by one tick round its period, and
each of its channels is ON or OFF by its own position, held OFF before its offset in a first period; a
channel that fails the measurement is OFF. Only a channel whose on-phase reaches its sixth tick is measured:
its open count is 0 at or above the threshold, one more below it, and the third in a row makes it OPEN with
the LAMP notice (R137). Model's choice: a tick measures against the open threshold
alone, and a short comes by its own command (log 58). -/
def Obligations.BeaconTickRunsPatterns : Prop :=
  ∀ (c : PerLamp Nat) (s : State), Serving s → s.beacon.timebase = true → s.beacon.test = none →
    ∃ t, exec (.beaconTick c) s = .next t ∧
      ∀ z : Zone, (zoneRecord z s).demand ≠ .none →
        (zoneDemand z t = zoneDemand z s →
          (zoneRecord z t).demand = (zoneRecord z s).demand ∧
          (zoneRecord z t).counter =
            if (zoneRecord z s).counter + 1 < patternPeriod (zoneRecord z s).demand then
              (zoneRecord z s).counter + 1 else 0) ∧
        ∀ k ∈ lampsOf z s,
          ((lampOf k t).state = (lampOf k s).state → (lampOf k t).driven =
            match (lampOf k t).position with
            | none => false
            | some x => slotOn (zoneRecord z t) x) ∧
          ((lampOf k t).state ≠ (lampOf k s).state →
            lampOf k t = ⟨.failedOpen, none, none, false⟩) ∧
          OpenCounted (measuredAt z k s) (c.get k) s.config.lamp.openThreshold (lampOf k s)
            (lampOf k t) t.notice.flags.lamp

/-- R137 to R139, R142: a current above 5 A on a driven channel makes it SHORT; the lamp test's
measurement, 50 ms into the test, makes each lit channel below the open threshold OPEN and clears the
others' counts. The health of every zone follows and the LAMP notice is reported. Model's choice: a short
on a channel that is not driven and a measurement with no test or one made already change nothing (log 23),
nor does one before the 50 ms (log 6), the measurement finds no short (log 58), and a channel a zone write
has set OFF is not measured (log 61). -/
def Obligations.LampFailuresExcludeChannels : Prop :=
  ∀ s : State, Serving s → GrantsOk s → SlotsOk s → JudgedOk s →
    (∀ k : Lamp, ∃ t, exec (.lampShort k) s = .next t ∧
      ((lampOf k s).driven = false → t = s) ∧
      ((lampOf k s).driven = true → lampOf k t = ⟨.short, none, none, false⟩ ∧
        (∀ x, x ≠ k → (lampOf x t).state = (lampOf x s).state) ∧ t.notice.flags.lamp = true ∧
        (∀ z, (zoneRecord z t).health = zoneHealth z t) ∧ t.permit.map = permitMap t)) ∧
    (∀ (c : PerLamp Nat), s.beacon.test = none ∨
        (∀ x, s.beacon.test = some x → x.measured = true ∨ x.elapsed < 50) →
      exec (.lampTestMeasurement c) s = .next s) ∧
    (∀ (c : PerLamp Nat), ∀ x, s.beacon.test = some x → x.measured = false → 50 ≤ x.elapsed →
      ∃ t, exec (.lampTestMeasurement c) s = .next t ∧ t.beacon.test = some ⟨x.elapsed, true⟩ ∧
        (∀ k, (lampOf k s).driven = true →
          (c.get k < s.config.lamp.openThreshold →
            lampOf k t = ⟨.failedOpen, none, none, false⟩ ∧ t.notice.flags.lamp = true) ∧
          (s.config.lamp.openThreshold ≤ c.get k →
            lampOf k t = { lampOf k s with openCount := some 0 })) ∧
        (∀ k, (lampOf k s).driven = false → lampOf k t = lampOf k s) ∧
        ∀ z, (zoneRecord z t).health = zoneHealth z t)

/-- R142, R134, R140, R139: the lamp test's end restarts every zone with its demand as it stands; LAMPRA
from link 0 rearms the channels named and answers with all twelve states; another link is answered
NOTSUPER. Model's choice: an end of the test whose 200 ms have not passed changes nothing (logs 6, 23). -/
def Obligations.LampTestEndsAndLampraRearms : Prop :=
  (∀ (s : State), s.beacon.test = none ∨ (∀ x, s.beacon.test = some x → x.elapsed < 200) →
    exec .lampTestEnd s = .next s) ∧
  (∀ (s : State), ∀ x, s.beacon.test = some x → 200 ≤ x.elapsed →
    ∃ t, exec .lampTestEnd s = .next t ∧ t = { s with beacon := t.beacon } ∧
      t.beacon.test = none ∧ t.beacon.timebase = s.beacon.timebase ∧
      (∀ z : Zone, Restarted z (zoneDemand z s) s t) ∧
      ∀ c, s.config.lamp.zone.get c = none → lampOf c t = { lampOf c s with driven := false }) ∧
  (∀ (l : Link) (w : Word16) (s : State), l ≠ .sl0 → Ready l s →
    ∃ t, exec (.lampra l w) s = .next t ∧
      AnsweredOnly 4 l (.rply 41#8 .notsuper []) s t) ∧
  (∀ (w : Word16) (s : State), Ready .sl0 s → linkMode s.mode.mode = true → JudgedOk s →
    ∃ t, exec (.lampra .sl0 w) s = .next t ∧
      (4096 ≤ w.toNat → AnsweredOnly 4 .sl0 (.rply 41#8 .badvalue []) s t) ∧
      (w.toNat < 4096 →
        (∀ k : Lamp, ((lampOf k t).state, (lampOf k t).openCount) =
          if (lampSetOf w.toNat).get k = true ∧ (lampOf k s).state ≠ .unassigned then
            (.ok, some 0)
          else ((lampOf k s).state, (lampOf k s).openCount)) ∧
        (∀ z, (zoneRecord z t).health = zoneHealth z t) ∧
        queueOf .sl0 t = queueOf .sl0 s ++ [.rply 41#8 .ok (lampStates t)] ∧
        t.config = s.config ∧ t.grant = s.grant))

/-! ## Station links -/

/-- R148, R149, R152: a CREDIT or FILL restarts the silence timer, opens an OPENING port to UP, and a
CREDIT adds eight to the credit held, or closes the link where that would pass 32; a resting port
takes neither. After 1 ms of idleness an UP port sends the next symbol of its oldest message if it has the
credit, and FILL otherwise; an OPENING port sends FILL. A SILENCED port whose held-low time runs out enters
OPENING at its rate item, with 32 symbols of credit given, where it is enabled, and DISABLED where it
is not. Model's choice: an expiry that finds its timer loaded or started again changes nothing (log 6), nor
does an expiry of another state (log 23), and the last symbol sent is kept (log 7). -/
def Obligations.CreditFillAndHeldLowTaken : Prop :=
  ∀ (l : Link) (s : State),
    let p := portOf l s
    (p.state = .up ∨ p.state = .opening →
      (p.creditHeld ≤ 24 → ∃ t, exec (.creditReceived l) s = .next t ∧
        t = putPort l { p with
          state := .up, silence := some 0, creditHeld := p.creditHeld + 8 } s) ∧
      (24 < p.creditHeld → Serving s → ∃ t, exec (.creditReceived l) s = .next t ∧
        portOf l t = restingPort p.rate true ∧ t.notice.flags.link = true) ∧
      (∃ t, exec (.fillReceived l) s = .next t ∧
        t = putPort l { p with state := .up, silence := some 0 } s) ∧
      (∀ n, p.idle = some n → 1 ≤ n → p.state = .opening ∨ p.queue = [] ∨ p.creditHeld = 0 →
        ∃ t, exec (.idleTimerExpiry l) s = .next t ∧
          t = putPort l { p with idle := some 0, lastSent := some .fill } s)) ∧
    (∀ n, p.idle = some n → 1 ≤ n → p.state = .up → p.close = none → p.buffer = [] →
      p.creditHeld ≠ 0 → ∀ m rest, p.queue = m :: rest →
      (∀ b, (outBytes m)[p.position]? = some b →
        ∃ t, exec (.idleTimerExpiry l) s = .next t ∧
          t = putPort l { p with
            position := p.position + 1, creditHeld := p.creditHeld - 1, idle := some 0
            lastSent := some (.data b) } s) ∧
      (p.position = (outBytes m).length →
        ∃ t, exec (.idleTimerExpiry l) s = .next t ∧
          t = putPort l { p with
            queue := rest, position := 0, creditHeld := p.creditHeld - 1, idle := some 0
            inHand := if byteAt (outBytes m) 0 = 128 then false else p.inHand
            lastSent := some .eom } s)) ∧
    (p.idle = none ∨ p.idle = some 0 → exec (.idleTimerExpiry l) s = .next s) ∧
    (p.state = .disabled ∨ p.state = .silenced →
      exec (.creditReceived l) s = .next s ∧ exec (.fillReceived l) s = .next s ∧
      exec (.idleTimerExpiry l) s = .next s) ∧
    (p.state = .silenced → p.heldLow = some 0 → ∃ t, exec (.heldLowExpiry l) s = .next t ∧
      t = putPort l (if portEnabled l s then openingPort (s.config.rate.get l)
                     else restingPort p.rate false) s) ∧
    (p.state ≠ .silenced ∨ p.heldLow ≠ some 0 → exec (.heldLowExpiry l) s = .next s)

/-- R149 to R151, R155, R30: a check error, 4 ms of silence, a symbol beyond the credit given, and a
commanded close whose time runs out or whose queue has gone out take an UP link down and report its loss;
an OPENING port discards a symbol with a check error. Model's choice: at the report of an emptied queue the
messages still queued are sent as far as the credit goes, and short of credit the port stays UP with its
close (log 9); an expiry whose time has not run out changes nothing (log 6); an
RSTLVL 1 reply that waits for a save is dropped for good when link 0 is lost (log 19). -/
def Obligations.LinkErrorsAndClosesLoseLink : Prop :=
  ∀ (l : Link) (s : State),
    let p := portOf l s
    (p.state = .up → Serving s → GrantsOk s → SlotsOk s →
      (∃ t, exec (.checkError l) s = .next t ∧ LinkLost l (restingPort p.rate true) s t) ∧
      (∀ n, p.silence = some n → 4 ≤ n →
        ∃ t, exec (.silenceExpiry l) s = .next t ∧ LinkLost l (restingPort p.rate true) s t) ∧
      (∀ m : MsgSymbol, p.creditGiven = 0 →
        ∃ t, exec (.overrun l m) s = .next t ∧ LinkLost l (restingPort p.rate true) s t) ∧
      (∀ x, p.close = some x →
        (x.remaining = 0 → ∃ t, exec (.closePendingExpiry l) s = .next t ∧
          LinkLost l (restingPort p.rate (decide (x.target = .silenced))) s t) ∧
        (p.queue = [] → ∃ t, exec (.closeQueueEmpty l) s = .next t ∧
          LinkLost l (restingPort p.rate (decide (x.target = .silenced))) s t) ∧
        (∀ m rest, p.queue = m :: rest → p.position ≤ (outBytes m).length →
          (symbolsIn p.queue ≤ p.position + p.creditHeld →
            ∃ t, exec (.closeQueueEmpty l) s = .next t ∧
              LinkLost l (restingPort p.rate (decide (x.target = .silenced))) s t) ∧
          (p.position + p.creditHeld < symbolsIn p.queue → p.buffer = [] →
            ∃ t, exec (.closeQueueEmpty l) s = .next t ∧
              t = putPort l (portOf l t) s ∧
              (let q := portOf l t
              q.state = .up ∧ q.close = p.close ∧ q.creditHeld = 0 ∧ q.buffer = [] ∧
                q.frame = p.frame ∧ q.creditGiven = p.creditGiven ∧ q.queue <:+ p.queue ∧
                q.queue ≠ [] ∧
                symbolsIn p.queue + q.position =
                  symbolsIn q.queue + p.position + p.creditHeld))))) ∧
    (p.silence = none ∨ (∀ n, p.silence = some n → n < 4) →
      exec (.silenceExpiry l) s = .next s) ∧
    (p.close = none ∨ (∀ x, p.close = some x → x.remaining ≠ 0) →
      exec (.closePendingExpiry l) s = .next s) ∧
    (p.state ≠ .up →
      exec (.checkError l) s = .next s ∧ exec (.silenceExpiry l) s = .next s)

/-- R151 to R154: the oldest queued message is sent within the credit held; once its EOM is sent it
leaves the queue, and its RPLY releases the link for the next message, which is handed over at once where
its symbols wait in the buffer, the credit they used returned. Model's choice: as much of the message is
sent as the credit allows, and the last symbol sent is kept (log 7). -/
def Obligations.TransmissionUsesCredit : Prop :=
  ∀ (l : Link) (s : State),
    let p := portOf l s
    p.state = .up → p.close = none → ∀ m rest, p.queue = m :: rest →
    let left := (outBytes m).length + 1 - p.position
    p.position ≤ (outBytes m).length →
    (left ≤ p.creditHeld → p.buffer = [] → ∃ t, exec (.messageTransmitted l) s = .next t ∧
      t = putPort l { p with
        queue := rest, position := 0, creditHeld := p.creditHeld - left
        inHand := if byteAt (outBytes m) 0 = 128 then false else p.inHand
        idle := some 0, lastSent := some .eom } s) ∧
    (left ≤ p.creditHeld → byteAt (outBytes m) 0 = 128 → p.frame = none →
      ∀ bytes : List Byte, p.buffer = bytes.map .data ++ [.eom] → bytes.length ≤ 40 →
      ∃ t, exec (.messageTransmitted l) s = .next t ∧
        t = conclude s (deliver l ⟨bytes, false⟩ (putPort l { p with
          queue := rest, position := 0, creditHeld := p.creditHeld - left, buffer := []
          inHand := true, creditGiven := p.creditGiven + 8 * ((32 - p.creditGiven) / 8)
          idle := some 0
          lastSent := if p.creditGiven ≤ 24 then some .credit else some .eom } s))) ∧
    (p.creditHeld < left → p.buffer = [] → ∃ t, exec (.messageTransmitted l) s = .next t ∧
      t = putPort l { p with
        position := p.position + p.creditHeld, creditHeld := 0
        idle := if p.creditHeld = 0 then p.idle else some 0
        lastSent := if p.creditHeld = 0 then p.lastSent
          else ((outBytes m)[p.position + p.creditHeld - 1]?).map .data } s)

/-- R156, R155: RSTLINK by the state of the port named: nothing when DISABLED, SILENCED from OPENING,
a commanded close from UP with messages queued, no more than the close there is with one pending, the
held-low time reloaded when SILENCED; answered with the state found. Model's choice: from UP with nothing
queued the close is taken within the message (log 8). -/
def Obligations.RstlinkResetsPort : Prop :=
  ∀ (l k : Link) (b : Byte) (s : State), Ready l s →
    (l ≠ .sl0 → ∃ t, exec (.rstlink l b) s = .next t ∧
      AnsweredOnly 3 l (.rply 37#8 .notsuper []) s t) ∧
    (l = .sl0 → b.toNat = 0 ∨ 5 < b.toNat → ∃ t, exec (.rstlink l b) s = .next t ∧
      AnsweredOnly 3 l (.rply 37#8 .badvalue []) s t) ∧
    (l = .sl0 → k ≠ .sl0 → b = byteOf (linkNum k) →
      ∃ t, exec (.rstlink l b) s = .next t ∧
        (let p := portOf k s
        let reply := OutMsg.rply 37#8 .ok [b, byteOf (linkStateCode p.state)]
        (p.state = .disabled ∨ p.state = .up ∧ p.close.isSome = true →
          AnsweredOnly 3 l reply s t) ∧
        (p.state ≠ .disabled → p.state ≠ .up ∨ p.queue ≠ [] ∧ p.close = none →
          t = { s with port := t.port } ∧ (∀ j, j ≠ k → j ≠ l → portOf j t = portOf j s) ∧
          portOf l t = { taken 3 (portOf l s) with
            inHand := true, queue := queueOf l s ++ [reply] } ∧
          portOf k t =
            match p.state with
            | .disabled => p
            | .opening => restingPort p.rate true
            | .up => { p with close := some ⟨.silenced, 4⟩ }
            | .silenced => { p with heldLow := some 10 }) ∧
        (p.state = .up → p.queue = [] → p.close = none → Serving s →
          portOf k t = restingPort p.rate true ∧ t.notice.flags.link = true)))

/-! ## Configuration, save, notices, fault record -/

/-- R165, R61, R88, R141, R147, R79, R87: CFGWR from link 0 by its checks in order; an accepted value
replaces the item and is answered. A calibration item is taken as a sample of the readings held, without
the stall watch; a permit item has the map judged again, with K the RUNNING speed; a lamp's zone makes
its record afresh and has the health judged; an enabling closes or opens its port; any other item changes
nothing else. In CLOSEDOWN a sample that leaves nothing deployed and no grant live ends the mode in OFF
(R175). Another link is answered NOTSUPER. Model's choice: BUSY during a save stands before the look at the
number (log 14), a port disabled with nothing queued closes within the write (R155; log 8), one enabled
again keeps the close it has pending (R155; log 31), and the reply is queued before an end of CLOSEDOWN
closes the links (log 63). -/
def Obligations.CfgwrWritesItem : Prop :=
  (∀ (l : Link) (b : Byte) (w : Word32) (s : State), l ≠ .sl0 → Ready l s →
    ∃ t, exec (.cfgwr l b w) s = .next t ∧
      AnsweredOnly 7 l (.rply 33#8 .notsuper []) s t) ∧
  ∀ (b : Byte) (w : Word32) (s : State), Ready .sl0 s →
    ∃ t, exec (.cfgwr .sl0 b w) s = .next t ∧
      (s.store.save.isSome = true → AnsweredOnly 7 .sl0 (.rply 33#8 .busy []) s t) ∧
      (s.store.save = none → itemOf b.toNat = none →
        AnsweredOnly 7 .sl0 (.rply 33#8 .badvalue []) s t) ∧
      (s.store.save = none → ∀ i, itemOf b.toNat = some i →
        (itemBusy i w.toInt s = true → AnsweredOnly 7 .sl0 (.rply 33#8 .busy []) s t) ∧
        (itemBusy i w.toInt s = false → validValue s.config i w.toInt = false →
          AnsweredOnly 7 .sl0 (.rply 33#8 .badvalue []) s t) ∧
        (itemBusy i w.toInt s = false → validValue s.config i w.toInt = true →
          let reply := OutMsg.rply 33#8 .ok (b :: bytes32 w)
          t.config = writeItem s.config i w.toInt ∧
          (queueOf .sl0 t).getLast? = some reply ∧
          (isCalibration i = true →
            t.axis.liftReading = s.axis.liftReading ∧ t.axis.tiltReading = s.axis.tiltReading ∧
            t.axis.stowed = s.axis.stowed ∧ t.axis.unfolded = s.axis.unfolded ∧
            t.axis.panelState = s.axis.panelState ∧ t.axis.shutSwitch = s.axis.shutSwitch ∧
            t.axis.fitted = s.axis.fitted ∧ AxesFollow s t ∧
            (s.axis.fitted.lift = true →
              lowsValid s.config.calibration.bedHeight s.config.bands = true → LiftFollows s t) ∧
            (GrantsOk s → SlotsOk s → JudgedOk s → t.permit.map = permitMap t) ∧
            let stays :=
              t.axis.liftOutput = s.axis.liftOutput ∧
              t.axis.stall =
                (if t.axis.fault.lift = s.axis.fault.lift then s.axis.stall else none) ∧
              t = { s with
                config := t.config, axis := t.axis, grant := t.grant, drive := t.drive
                panel := t.panel, permit := t.permit, port := t.port, notice := t.notice
                faultLog := t.faultLog, beacon := t.beacon }
            (s.mode.mode ≠ .closedown → stays) ∧
            (s.mode.mode = .closedown → stays ∨
              anyDeployed t = false ∧
                (s.grant.table ≠ [] ∨ t.axis.deployed ≠ s.axis.deployed) ∧
                WentOff { s with
                  config := t.config, axis := t.axis, faultLog := t.faultLog } t)) ∧
          (isPermitItem i = true → EasingOnly s → GrantsOk s → SlotsOk s →
            let u := t.permit
            let moved := decide (i = .stationary) ||
              decide (i = .pulsesPerKm ∧ u.speedValue ≠ s.permit.speedValue)
            let ends := rampedEnds (newlyBarred s t) .permit s
            u = { s.permit with
              speedValue := u.speedValue, deployMove := u.deployMove, map := permitMap t } ∧
            u.speedValue = (if i = .pulsesPerKm ∧ u.speed = .running then
                (u.lastPeriod.map (speedOf w.toNat)).getD s.permit.speedValue
              else s.permit.speedValue) ∧
            u.deployMove = (if moved = false then s.permit.deployMove
              else if s.permit.deployMove then !stationary t
              else decide (u.speed = .running ∧ 50 ≤ u.speedValue) && anyDeployed s) ∧
            Ramped (newlyBarred s t) .permit s t ∧
            Handled 7 .sl0 ends reply s t ∧
            t.notice.flags = { s.notice.flags with
              gend := s.notice.flags.gend || !ends.isEmpty
              deploymove := s.notice.flags.deploymove ||
                (u.deployMove && !s.permit.deployMove) } ∧
            t.notice.mask = s.notice.mask ∧
            t = { s with
              config := t.config, permit := t.permit, grant := t.grant, drive := t.drive
              panel := t.panel, port := t.port, notice := t.notice, beacon := t.beacon }) ∧
          (∀ k, i = .lampZone k → EasingOnly s → GrantsOk s → SlotsOk s → JudgedOk s →
            let old := s.config.lamp.zone.get k
            let new := t.config.lamp.zone.get k
            let fresh : LampRecord :=
              if old = new then lampOf k s
              else if new = none then ⟨.unassigned, none, none, false⟩
              else if old = none then ⟨.ok, some 0, none, false⟩
              else { lampOf k s with position := none, driven := false }
            (lampOf k t).state = fresh.state ∧ (lampOf k t).openCount = fresh.openCount ∧
            (∀ z, (zoneRecord z t).health = zoneHealth z t) ∧ t.permit.map = permitMap t ∧
            ((∀ z, zoneDemand z t = zoneDemand z s) → lampOf k t = fresh ∧
              (∀ x, x ≠ k → lampOf x t = lampOf x s) ∧
              ∀ z, zoneRecord z t = { zoneRecord z s with health := (zoneRecord z t).health }) ∧
            t = { s with
              config := t.config, permit := { s.permit with map := t.permit.map }
              grant := t.grant, drive := t.drive, panel := t.panel, port := t.port
              notice := t.notice, beacon := t.beacon }) ∧
          (∀ k, i = .enabled k →
            let p := portOf k s
            (portEnabled k s = portEnabled k t →
              t = { s with config := t.config, port := t.port } ∧ Handled 7 .sl0 [] reply s t) ∧
            (portEnabled k s ≠ portEnabled k t →
              ¬ (portEnabled k t = false ∧ p.state = .up ∧ p.queue = [] ∧ p.close = none) →
              t = { s with config := t.config, port := t.port } ∧
              portOf .sl0 t = { taken 7 (portOf .sl0 s) with
                inHand := true, queue := queueOf .sl0 s ++ [reply] } ∧
              (∀ j, j ≠ k → j ≠ .sl0 → portOf j t = portOf j s) ∧
              portOf k t =
                if portEnabled k t then
                  (if p.state = .disabled then openingPort (s.config.rate.get k) else p)
                else
                  match p.state with
                  | .disabled => p
                  | .opening | .silenced => restingPort p.rate false
                  | .up => { p with close := some ⟨.disabled, (p.close.map (·.remaining)).getD 4⟩ }) ∧
            (EasingOnly s → portEnabled k s = true → portEnabled k t = false → p.state = .up →
              p.queue = [] → p.close = none →
              portOf k t = restingPort p.rate false ∧ t.notice.flags.link = true)) ∧
          (isCalibration i = false → isPermitItem i = false →
            (∀ k, i ≠ .lampZone k) → (∀ k, i ≠ .enabled k) →
            t = { s with config := t.config, port := t.port } ∧
            Handled 7 .sl0 [] reply s t)))

/-- R166, R171, R176: CFGSAVE from link 0 starts a save of the configuration as it stands, 40 ms long, or
is answered BUSY; another link is answered NOTSUPER. The completion leaves the copy in the store with a
good check value and ends the save; a WAKE whose load waits goes on with the copy, and an RSTLVL 1 that
waits is carried out, or in CLOSEDOWN and OFF answered MODE. Model's choice: a completion with no save
under way, or with time of it left, changes nothing (logs 6, 23). -/
def Obligations.SaveWritesStore : Prop :=
  ∀ s : State,
    (∀ l, l ≠ .sl0 → Ready l s → ∃ t, exec (.cfgsave l) s = .next t ∧
      AnsweredOnly 2 l (.rply 35#8 .notsuper []) s t) ∧
    (Ready .sl0 s → ∃ t, exec (.cfgsave .sl0) s = .next t ∧
      (s.store.save.isSome = true → AnsweredOnly 2 .sl0 (.rply 35#8 .busy []) s t) ∧
      (s.store.save = none →
        t = { s with store := { s.store with save := some ⟨40, s.config⟩ }, port := t.port } ∧
        Handled 2 .sl0 [] (.rply 35#8 .ok []) s t)) ∧
    (∃ t, exec .saveCompletion s = .next t ∧
      (s.store.save = none ∨ (∀ v, s.store.save = some v → v.remaining ≠ 0) → t = s) ∧
      (∀ v, s.store.save = some v → v.remaining = 0 → t.store.stored = v.copy ∧ t.store.valid = true ∧
        t.store.save = none ∧ t.store.resetWaits = none ∧
        (s.store.resetWaits = none → s.mode.loadWaits = false →
          t = { s with store := t.store }) ∧
        (∀ x, s.store.resetWaits = some x → s.mode.loadWaits = false →
          s.mode.mode = .closedown ∨ s.mode.mode = .off →
          t = { s with store := t.store, port := t.port } ∧
          ∀ l, portOf l t = { portOf l s with
            queue := queueOf l s ++
              if l = .sl0 ∧ x = .awaited ∧ (portOf l s).state = .up then [.rply 36#8 .mode []]
              else [] }) ∧
        (s.store.resetWaits = none → s.mode.loadWaits = true → s.mode.mode = .wake →
          t.config = v.copy ∧ t.mode.mode = .wake ∧ t.mode.timer = some 50 ∧
          t.mode.loadWaits = false ∧ t.permit.speed = .unknown ∧
          t.permit.pulseTimer = some 1000 ∧ t.permit.pbrk = s.inputs.pbrk ∧
          t.hold.line = s.inputs.estop) ∧
        (s.store.resetWaits.isSome = true → s.mode.loadWaits = false → s.mode.mode ≠ .off →
          s.mode.mode ≠ .closedown → t.mode.mode = .check ∧ t.config = v.copy ∧
            t.grant.table = [] ∧ t.axis.fault = .all none)))

/-- R167, R177: NOTRD returns and clears the flags, NOTMSK replaces the mask, FLTRD returns and empties
the fault record; the attention line is judged with the first two. A link other than 0 is answered
NOTSUPER. -/
def Obligations.NoticesAndFaultRecordRead : Prop :=
  (∀ (l : Link) (m : Word16) (s : State), l ≠ .sl0 → Ready l s →
    (∃ t, exec (.notrd l) s = .next t ∧ AnsweredOnly 2 l (.rply 39#8 .notsuper []) s t) ∧
    (∃ t, exec (.notmsk l m) s = .next t ∧ AnsweredOnly 4 l (.rply 40#8 .notsuper []) s t) ∧
    (∃ t, exec (.fltrd l) s = .next t ∧ AnsweredOnly 2 l (.rply 42#8 .notsuper []) s t)) ∧
  ∀ (m : Word16) (s : State), Ready .sl0 s →
    (∃ t, exec (.notrd .sl0) s = .next t ∧
      t = { s with notice := ⟨.empty, s.notice.mask, false⟩, port := t.port } ∧
      Handled 2 .sl0 []
        (.rply 39#8 .ok (nat16 (noticeBits s.notice.flags) ++ nat16 (noticeBits s.notice.mask)))
        s t) ∧
    (∃ t, exec (.notmsk .sl0 m) s = .next t ∧
      t = { s with notice := t.notice, port := t.port } ∧
      Noticed s.notice.flags (noticeSetOf m.toNat) t ∧
      Handled 4 .sl0 [] (.rply 40#8 .ok (bytes16 (m &&& 0x03FF#16))) s t) ∧
    (∃ t, exec (.fltrd .sl0) s = .next t ∧
      t = { s with faultLog := ⟨none, 0⟩, port := t.port } ∧
      Handled 2 .sl0 [] (.rply 42#8 .ok
        (match s.faultLog.record with
        | none => [0#8, 255#8, 255#8, 255#8, 255#8, 255#8, byteOf s.faultLog.further]
        | some r =>
          [byteOf (faultKindCode r.kind), byteOf ((r.axis.map axisCode).getD 255),
            byteOf ((r.coil.map coilNum).getD 255)] ++ nat16 (r.position.getD 65535) ++
          [byteOf (modeCode r.mode), byteOf s.faultLog.further])) s t)

/-! ## Operating modes -/

/-- R169, R171, R172, R175: IGN on enters WAKE from OFF with the straps and the store read, the load
waiting for a save in progress, and CHECK from CLOSEDOWN; IGN off enters CLOSEDOWN, or OFF where the
closedown time is 0 or nothing is out. Model's choice: the straps come with the command (log 3), and an
IGN level that is no change changes only the inputs (log 23). -/
def Obligations.IgnitionStartsAndStops : Prop :=
  ∀ (p : Straps) (o : IgnOrder) (s : State), GrantsOk s → SlotsOk s →
    (∃ t, exec (.ignOn p) s = .next t ∧
      t.inputs = { s.inputs with straps := p } ∧ t.mode.ign = true ∧
      (s.mode.ign = true → t = s.setInputs t.inputs) ∧
      (s.mode.ign = false → s.mode.mode = .off → s.store.save = none →
        t.mode.mode = .wake ∧ t.mode.timer = some 50 ∧
        t.axis.fitted = (variantAxes p.variant).getD (.all true) ∧
        t.mode.strapLinks = (stationLinks p.stations).getD
          ⟨true, true, true, true, false, false⟩ ∧
        t.config = (if s.store.valid then s.store.stored else defaultConfig) ∧
        t.mode.lowCount = 0 ∧ t.mode.highCount = 0 ∧ t.mode.returnCount = 0 ∧
        t.permit.speed = .unknown ∧ t.permit.pulseTimer = some 1000 ∧ t.permit.ign = true ∧
        t.permit.pbrk = s.inputs.pbrk ∧ t.hold.line = s.inputs.estop ∧
        t.notice.flags.cfgdef = (s.notice.flags.cfgdef || !s.store.valid)) ∧
      (s.mode.ign = false → s.mode.mode = .off → s.store.save.isSome = true →
        t.mode.mode = .wake ∧ t.mode.timer = none ∧ t.mode.loadWaits = true ∧
        t.mode.lowCount = 0 ∧ t.mode.highCount = 0 ∧ t.mode.returnCount = 0 ∧
        t.axis.fitted = (variantAxes p.variant).getD (.all true) ∧ t.config = s.config ∧
        t.store = s.store) ∧
      (s.mode.ign = false → s.mode.mode = .closedown →
        t.mode.mode = .check ∧ t.mode.timer = some 300 ∧ AllCut s t ∧
        t.beacon.test = some ⟨0, false⟩)) ∧
    (∃ t, exec (.ignOff o) s = .next t ∧ t.mode.ign = false ∧
      (s.mode.ign = false → t = s) ∧
      (s.mode.ign = true → s.mode.mode ≠ .off → s.mode.mode ≠ .closedown →
        (t.mode.mode = .closedown ∧ s.config.lamp.closedownTime ≠ 0 ∧
          t.mode.timer = some (s.config.lamp.closedownTime * 1000) ∧
          (∀ g ∈ t.grant.table, g.state = .easing) ∧
          (anyDeployed s = true ∨ t.grant.table ≠ [])) ∨
        (t.mode.mode = .off ∧ AllCut s t ∧ t.mode.timer = none ∧ t.mode.history = [] ∧
          (s.config.lamp.closedownTime = 0 ∨ anyDeployed s = false))))

/-- R173, R177, R29: a supply or temperature trip in CHECK or RUN is logged and enters DEFER, cutting
every grant; in any other mode it only clears its count; the return count ends DEFER. Model's choice: the
return count runs in every mode and starts again at 500 ms (log 41), its expiry outside DEFER changes
nothing (log 23), and the trip commands act whatever the counts (log 5). -/
def Obligations.SupplyTripsDefer : Prop :=
  ∀ (c : Instr) (k : FaultKind) (n : Nat) (u : Int) (s : State), GrantsOk s → SlotsOk s →
    ((c, k) ∈ [(Instr.supplylowTrip, FaultKind.supplylow), (.supplyhighTrip, .supplyhigh)] →
      ∃ t, exec c s = .next t ∧
        (k = .supplylow → t.mode.lowCount = 0) ∧ (k = .supplyhigh → t.mode.highCount = 0) ∧
        (s.mode.mode = .check ∨ s.mode.mode = .run →
          t.mode.mode = .defer ∧ t.mode.timer = none ∧ AllCut s t ∧
          t.faultLog = loggedFault
            { kind := k, axis := none, coil := none, position := none, mode := s.mode.mode }
            s.faultLog ∧ Told (s.grant.table.map fun g => (g, .mode)) s t) ∧
        (s.mode.mode ≠ .check → s.mode.mode ≠ .run → t = s.setMode t.mode ∧
          t.mode.mode = s.mode.mode)) ∧
    (∃ t, exec .returnCountExpiry s = .next t ∧
      (s.mode.mode ≠ .defer → t = s) ∧
      (s.mode.mode = .defer → s.mode.ign = true →
        t.mode = { s.mode with mode := .run, timer := none, returnCount := 0 }) ∧
      (s.mode.mode = .defer → s.mode.ign = false →
        t.mode.mode = .closedown ∨ t.mode.mode = .off)) ∧
    (∃ t, exec (.supplySample n u) s = .next t ∧
      (working s = false → t = s) ∧
      (working s = true → t.mode.supply = n ∧ t.mode.temperature = u ∧
        (s.mode.mode ≠ .defer →
          t.mode.returnCount = (let x := if 200 ≤ n ∧ n ≤ 300 ∧ u < 135 then
            s.mode.returnCount + 10 else 0; if 500 ≤ x then 0 else x)) ∧
        t.mode.lowCount = (let x := if n < 180 then s.mode.lowCount + 10 else 0
          if 500 ≤ x then 0 else x) ∧
        t.mode.highCount = (let x := if 320 < n then s.mode.highCount + 10 else 0
          if 100 ≤ x then 0 else x) ∧
        (s.mode.mode = .check ∨ s.mode.mode = .run →
          (150 ≤ u ∨ n < 180 ∧ 490 ≤ s.mode.lowCount ∨ 320 < n ∧ 90 ≤ s.mode.highCount →
            t.mode.mode = .defer ∧ AllCut s t) ∧
          ((180 ≤ n ∨ s.mode.lowCount < 490) → (n ≤ 320 ∨ s.mode.highCount < 90) →
            (150 ≤ u → t.faultLog = loggedFault
              { kind := .overtemp, axis := none, coil := none, position := none
                mode := s.mode.mode } s.faultLog) ∧
            (u < 150 → t = s.setMode t.mode ∧ t.mode.mode = s.mode.mode)))))

/-- R171 to R175: each mode timer's expiry leaves its mode: WAKE for CHECK, CHECK and RETRY for RUN,
DEFER or CLOSEDOWN by the ignition and the supply window, CLOSEDOWN for OFF; ageing takes the oldest
entry from the retry history. CLOSEDOWN ends in OFF too within the event that leaves no fitted axis
deployed and no grant live. An entry into OFF closes every port to DISABLED, one not enabled before too
(R155, R158). Model's choice: an expiry whose time has not run out, an ageing with no entry 60 s old (log 6)
and an expiry of another mode (log 23) change nothing, and at an entry into OFF an UP port with nothing
queued closes at once (log 8). -/
def Obligations.ModeTimersLeaveModes : Prop :=
  (∀ (c : Instr) (s t : State), exec c s = .next t → t.mode.mode = .closedown →
    s.mode.mode ≠ .closedown ∨ t.grant.table ≠ s.grant.table ∨
      t.axis.deployed ≠ s.axis.deployed → nothingOut t = false) ∧
  (∀ (i : AxisInputs) (s : State),
    s.mode.mode = .closedown → s.mode.loadWaits = false → s.grant.table = [] →
    ∃ t, exec (.axisSample i) s = .next t ∧
      (t.axis.deployed ≠ s.axis.deployed → anyDeployed t = false → WentOff (s.setAxis t.axis) t)) ∧
  ∀ s : State, GrantsOk s → SlotsOk s →
    (∃ t, exec .wakeTimerExpiry s = .next t ∧
      (s.mode.mode ≠ .wake ∨ s.mode.timer ≠ some 0 → t = s) ∧
      (s.mode.mode = .wake → s.mode.timer = some 0 →
        t.mode = { s.mode with mode := .check, timer := some 300 } ∧ AllCut s t ∧
        t.beacon.test = some ⟨0, false⟩ ∧ t.notice.flags.mode = true ∧
        ∀ l, portEnabled l t = true → (portOf l s).state = .disabled →
          portOf l t = openingPort (s.config.rate.get l))) ∧
    (∀ (c : Instr) (m : Mode),
      (c, m) ∈ [(Instr.checkTimerExpiry, Mode.check), (.retryTimerExpiry, .retry)] →
      ∃ t, exec c s = .next t ∧
        (s.mode.mode ≠ m ∨ s.mode.timer ≠ some 0 → t = s) ∧
        (s.mode.mode = m → s.mode.timer = some 0 →
          (s.mode.ign = true →
            t.mode = { s.mode with
              mode := if 200 ≤ s.mode.supply ∧ s.mode.supply ≤ 300 ∧ s.mode.temperature < 135
                      then .run else .defer
              timer := none } ∧ t.beacon.test = none) ∧
          (s.mode.ign = false → t.mode.mode = .closedown ∨ t.mode.mode = .off))) ∧
    (∃ t, exec .closedownTimerExpiry s = .next t ∧
      (s.mode.mode ≠ .closedown ∨ s.mode.timer ≠ some 0 → t = s) ∧
      (s.mode.mode = .closedown → s.mode.timer = some 0 →
        WentOff s t ∧ t.hold = s.hold)) ∧
    (∃ t, exec .retryEntryAgeing s = .next t ∧
      (s.mode.history = [] → t = s) ∧
      (∀ a rest, s.mode.history = a :: rest →
        (60000 ≤ a → t = s.setMode { s.mode with history := rest }) ∧ (a < 60000 → t = s)))

/-- R176, R31, R144, R155, R147, R175: RSTLVL 1 from link 0 cuts every grant, its GENDs placed on each UP
link, reloads the store, commands a close of each UP operator port and silences each OPENING one, clears
exclusions, faults, history and mask, enters CHECK with every assigned lamp lit by the test, and is
answered; or it waits for a save; it is answered MODE in CLOSEDOWN. RSTLVL 2 cuts every grant and
leaves the rest, but for a CLOSEDOWN that it ends in OFF; it is answered MODE in BARRED. A link other than 0
is answered NOTSUPER. Model's choice: a second RSTLVL 1 that waits takes the place of the first (log 19),
and within RSTLVL 2 the stall window becomes absent and the LIFT output the cuts leave is taken as reported
(logs 38, 45). Model's choice too: a port with nothing queued closes within the message (log 8), one that
the reload enables again keeps the close it has pending (log 31), and the slots of a lamp are kept unless the
load moves it (log 36), and the reply is queued before the end of CLOSEDOWN closes the links (log 63). -/
def Obligations.ResetLevelsCutGrants : Prop :=
  (∀ (l : Link) (s : State), l ≠ .sl0 → Ready l s →
    (∃ t, exec (.rstlvl1 l) s = .next t ∧ AnsweredOnly 3 l (.rply 36#8 .notsuper []) s t) ∧
    (∃ t, exec (.rstlvl2 l) s = .next t ∧ AnsweredOnly 3 l (.rply 36#8 .notsuper []) s t)) ∧
  ∀ s : State, Ready .sl0 s → GrantsOk s → SlotsOk s → linkMode s.mode.mode = true →
    let ends := s.grant.table.map fun g => (g, Reason.reset)
    (∃ t, exec (.rstlvl1 .sl0) s = .next t ∧
      (s.mode.mode = .closedown → AnsweredOnly 3 .sl0 (.rply 36#8 .mode []) s t) ∧
      (s.mode.mode ≠ .closedown → s.store.save.isSome = true →
        t = { s with store := { s.store with resetWaits := some .awaited }, port := t.port } ∧
        queueOf .sl0 t = queueOf .sl0 s ∧ (portOf .sl0 t).inHand = true) ∧
      (s.mode.mode ≠ .closedown → s.store.save = none →
        t.mode = { s.mode with mode := .check, timer := some 300, history := [] } ∧ AllCut s t ∧
        t.config = (if s.store.valid then s.store.stored else defaultConfig) ∧
        t.axis.fault = .all none ∧ t.hold = s.hold ∧ t.faultLog = s.faultLog ∧
        t.notice.mask = .empty ∧ t.notice.attention = false ∧
        t.beacon.test = some ⟨0, false⟩ ∧
        (∀ k, k ≠ .sl0 → portOf k t = resetPort k (queueOf k s ++ gendsTo k ends s) s t) ∧
        (∀ k, k ≠ .sl0 → (portOf k s).state = .up → (portOf k t).state ≠ .up →
          t.notice.flags.link = true) ∧
        (∀ c, lampOf c t =
          match t.config.lamp.zone.get c with
          | none => ⟨.unassigned, none, none, false⟩
          | some z => ⟨.ok, some 0,
              if s.config.lamp.zone.get c = some z then (lampOf c s).position else none, true⟩) ∧
        (∀ z, (zoneRecord z t).health = zoneHealth z t) ∧ t.permit.map = permitMap t ∧
        portOf .sl0 t = { taken 3 (portOf .sl0 s) with
          inHand := true
          queue := queueOf .sl0 s ++ gendsTo .sl0 ends s ++ [.rply 36#8 .ok [1#8]] })) ∧
    (∃ t, exec (.rstlvl2 .sl0) s = .next t ∧
      (s.mode.mode = .barred → AnsweredOnly 3 .sl0 (.rply 36#8 .mode []) s t) ∧
      (s.mode.mode ≠ .barred →
        t.grant = { s.grant with table := [], slots := .all ⟨none, none⟩ } ∧
        (∀ g ∈ s.grant.table, g.state ≠ .waiting → AxisStopped g.axis s t) ∧
        t.drive.pumpOver = 0 ∧
        (leavesOff [] s = false →
          Handled 3 .sl0 ends (.rply 36#8 .ok [2#8]) s t ∧
          t = { s with
            grant := t.grant
            axis := { s.axis with stall := none, liftOutput := t.drive.output.lift }
            drive := t.drive, panel := t.panel, port := t.port, notice := t.notice
            beacon := t.beacon }) ∧
        (leavesOff [] s = true → WentOff s t ∧
          queueOf .sl0 t = queueOf .sl0 s ++ gendsTo .sl0 ends s ++ [.rply 36#8 .ok [2#8]])))

/-- R170, R3, R36, R168, R178: power-on reset sets the power-on values whatever stood before, keeps the
store, and rests in OFF with IGN off or enters WAKE with IGN on. Model's choice: the commands waiting stay
(log 1), the inputs come with the command (log 2), the supply and temperature last sampled are 0 (log 20),
and a store whose check has failed keeps its contents (log 34). -/
def Obligations.PowerOnResetRestores : Prop :=
  ∀ (i : Inputs) (s : State),
    (∃ t, exec (.powerOnReset false i) s = .next t ∧
      t = { State.reset with
        pending := s.pending, inputs := i
        store := { stored := s.store.stored, valid := s.store.valid && s.store.save.isNone
                   save := none, resetWaits := none } }) ∧
    (∃ t, exec (.powerOnReset true i) s = .next t ∧
      t.mode.mode = .wake ∧ t.mode.timer = some 50 ∧ t.mode.ign = true ∧ t.grant = .powerOn ∧
      t.hold.line = i.estop ∧ t.inputs = i ∧
      t.config = (if s.store.valid && s.store.save.isNone then s.store.stored
                  else defaultConfig) ∧
      t.axis.fitted = (variantAxes i.straps.variant).getD (.all true))
end

