-- ==== Sys2Proof/Laws/Records.lean ====
section
/-! SUPPORT. The records indexed by a name: what `get` reads after `set`, and of a constant or a
built record; a record is what its reads are. -/

namespace Sys2Proof

variable {α : Type}

@[simp] theorem PerAxis.get_set_same (p : PerAxis α) (i : Axis) (v : α) : (p.set i v).get i = v := by
  cases i <;> rfl

theorem PerAxis.get_set (p : PerAxis α) (i j : Axis) (v : α) :
    (p.set i v).get j = if j = i then v else p.get j := by
  cases i <;> cases j <;> rfl

@[simp] theorem PerAxis.get_set_ne (p : PerAxis α) {i j : Axis} (v : α) (h : j ≠ i) :
    (p.set i v).get j = p.get j := by
  rw [PerAxis.get_set, if_neg h]

@[simp] theorem PerAxis.set_get (p : PerAxis α) (i : Axis) : p.set i (p.get i) = p := by
  cases i <;> rfl

@[simp] theorem PerAxis.get_all (i : Axis) (v : α) : (PerAxis.all v).get i = v := by
  cases i <;> rfl

theorem PerAxis.ext_get {p q : PerAxis α} (h : ∀ i, p.get i = q.get i) : p = q := by
  cases p; cases q
  simp only [PerAxis.mk.injEq]
  exact ⟨h .lift, h .tilt, h .fold, h .shut, h .ndor, h .odor⟩

@[simp] theorem PerLink.get_set_same (p : PerLink α) (i : Link) (v : α) : (p.set i v).get i = v := by
  cases i <;> rfl

theorem PerLink.get_set (p : PerLink α) (i j : Link) (v : α) :
    (p.set i v).get j = if j = i then v else p.get j := by
  cases i <;> cases j <;> rfl

@[simp] theorem PerLink.get_set_ne (p : PerLink α) {i j : Link} (v : α) (h : j ≠ i) :
    (p.set i v).get j = p.get j := by
  rw [PerLink.get_set, if_neg h]

@[simp] theorem PerLink.set_get (p : PerLink α) (i : Link) : p.set i (p.get i) = p := by
  cases i <;> rfl

@[simp] theorem PerLink.get_all (i : Link) (v : α) : (PerLink.all v).get i = v := by
  cases i <;> rfl

theorem PerLink.ext_get {p q : PerLink α} (h : ∀ i, p.get i = q.get i) : p = q := by
  cases p; cases q
  simp only [PerLink.mk.injEq]
  exact ⟨h .sl0, h .sl1, h .sl2, h .sl3, h .sl4, h .sl5⟩

@[simp] theorem PerResource.get_set_same (p : PerResource α) (i : Resource) (v : α) : (p.set i v).get i = v := by
  cases i <;> rfl

theorem PerResource.get_set (p : PerResource α) (i j : Resource) (v : α) :
    (p.set i v).get j = if j = i then v else p.get j := by
  cases i <;> cases j <;> rfl

@[simp] theorem PerResource.get_set_ne (p : PerResource α) {i j : Resource} (v : α) (h : j ≠ i) :
    (p.set i v).get j = p.get j := by
  rw [PerResource.get_set, if_neg h]

@[simp] theorem PerResource.set_get (p : PerResource α) (i : Resource) : p.set i (p.get i) = p := by
  cases i <;> rfl

@[simp] theorem PerResource.get_all (i : Resource) (v : α) : (PerResource.all v).get i = v := by
  cases i <;> rfl

theorem PerResource.ext_get {p q : PerResource α} (h : ∀ i, p.get i = q.get i) : p = q := by
  cases p; cases q
  simp only [PerResource.mk.injEq]
  exact ⟨h .hyd, h .shut, h .ndor, h .odor⟩

@[simp] theorem PerZone.get_set_same (p : PerZone α) (i : Zone) (v : α) : (p.set i v).get i = v := by
  cases i <;> rfl

theorem PerZone.get_set (p : PerZone α) (i j : Zone) (v : α) :
    (p.set i v).get j = if j = i then v else p.get j := by
  cases i <;> cases j <;> rfl

@[simp] theorem PerZone.get_set_ne (p : PerZone α) {i j : Zone} (v : α) (h : j ≠ i) :
    (p.set i v).get j = p.get j := by
  rw [PerZone.get_set, if_neg h]

@[simp] theorem PerZone.set_get (p : PerZone α) (i : Zone) : p.set i (p.get i) = p := by
  cases i <;> rfl

@[simp] theorem PerZone.get_all (i : Zone) (v : α) : (PerZone.all v).get i = v := by
  cases i <;> rfl

theorem PerZone.ext_get {p q : PerZone α} (h : ∀ i, p.get i = q.get i) : p = q := by
  cases p; cases q
  simp only [PerZone.mk.injEq]
  exact ⟨h .rear, h .near, h .off, h .roof⟩

@[simp] theorem PerCoil.get_set_same (p : PerCoil α) (i : Coil) (v : α) : (p.set i v).get i = v := by
  cases i <;> rfl

theorem PerCoil.get_set (p : PerCoil α) (i j : Coil) (v : α) :
    (p.set i v).get j = if j = i then v else p.get j := by
  cases i <;> cases j <;> rfl

@[simp] theorem PerCoil.get_set_ne (p : PerCoil α) {i j : Coil} (v : α) (h : j ≠ i) :
    (p.set i v).get j = p.get j := by
  rw [PerCoil.get_set, if_neg h]

@[simp] theorem PerCoil.set_get (p : PerCoil α) (i : Coil) : p.set i (p.get i) = p := by
  cases i <;> rfl

@[simp] theorem PerCoil.get_all (i : Coil) (v : α) : (PerCoil.all v).get i = v := by
  cases i <;> rfl

theorem PerCoil.ext_get {p q : PerCoil α} (h : ∀ i, p.get i = q.get i) : p = q := by
  cases p; cases q
  simp only [PerCoil.mk.injEq]
  exact ⟨h .c1, h .c2, h .c3, h .c4⟩

@[simp] theorem PerMotor.get_set_same (p : PerMotor α) (i : Motor) (v : α) : (p.set i v).get i = v := by
  cases i <;> rfl

theorem PerMotor.get_set (p : PerMotor α) (i j : Motor) (v : α) :
    (p.set i v).get j = if j = i then v else p.get j := by
  cases i <;> cases j <;> rfl

@[simp] theorem PerMotor.get_set_ne (p : PerMotor α) {i j : Motor} (v : α) (h : j ≠ i) :
    (p.set i v).get j = p.get j := by
  rw [PerMotor.get_set, if_neg h]

@[simp] theorem PerMotor.set_get (p : PerMotor α) (i : Motor) : p.set i (p.get i) = p := by
  cases i <;> rfl

@[simp] theorem PerMotor.get_all (i : Motor) (v : α) : (PerMotor.all v).get i = v := by
  cases i <;> rfl

theorem PerMotor.ext_get {p q : PerMotor α} (h : ∀ i, p.get i = q.get i) : p = q := by
  cases p; cases q
  simp only [PerMotor.mk.injEq]
  exact ⟨h .shut, h .ndor, h .odor⟩

@[simp] theorem PerDoor.get_set_same (p : PerDoor α) (i : Door) (v : α) : (p.set i v).get i = v := by
  cases i <;> rfl

theorem PerDoor.get_set (p : PerDoor α) (i j : Door) (v : α) :
    (p.set i v).get j = if j = i then v else p.get j := by
  cases i <;> cases j <;> rfl

@[simp] theorem PerDoor.get_set_ne (p : PerDoor α) {i j : Door} (v : α) (h : j ≠ i) :
    (p.set i v).get j = p.get j := by
  rw [PerDoor.get_set, if_neg h]

@[simp] theorem PerDoor.set_get (p : PerDoor α) (i : Door) : p.set i (p.get i) = p := by
  cases i <;> rfl

@[simp] theorem PerDoor.get_all (i : Door) (v : α) : (PerDoor.all v).get i = v := by
  cases i <;> rfl

theorem PerDoor.ext_get {p q : PerDoor α} (h : ∀ i, p.get i = q.get i) : p = q := by
  cases p; cases q
  simp only [PerDoor.mk.injEq]
  exact ⟨h .ndor, h .odor⟩

@[simp] theorem PerSense.get_set_same (p : PerSense α) (i : Sense) (v : α) : (p.set i v).get i = v := by
  cases i <;> rfl

theorem PerSense.get_set (p : PerSense α) (i j : Sense) (v : α) :
    (p.set i v).get j = if j = i then v else p.get j := by
  cases i <;> cases j <;> rfl

@[simp] theorem PerSense.get_set_ne (p : PerSense α) {i j : Sense} (v : α) (h : j ≠ i) :
    (p.set i v).get j = p.get j := by
  rw [PerSense.get_set, if_neg h]

@[simp] theorem PerSense.set_get (p : PerSense α) (i : Sense) : p.set i (p.get i) = p := by
  cases i <;> rfl

theorem PerSense.ext_get {p q : PerSense α} (h : ∀ i, p.get i = q.get i) : p = q := by
  cases p; cases q
  simp only [PerSense.mk.injEq]
  exact ⟨h .sense0, h .sense1⟩

@[simp] theorem PerLamp.get_set_same (p : PerLamp α) (i : Lamp) (v : α) : (p.set i v).get i = v := by
  cases i <;> rfl

theorem PerLamp.get_set (p : PerLamp α) (i j : Lamp) (v : α) :
    (p.set i v).get j = if j = i then v else p.get j := by
  cases i <;> cases j <;> rfl

@[simp] theorem PerLamp.get_set_ne (p : PerLamp α) {i j : Lamp} (v : α) (h : j ≠ i) :
    (p.set i v).get j = p.get j := by
  rw [PerLamp.get_set, if_neg h]

@[simp] theorem PerLamp.set_get (p : PerLamp α) (i : Lamp) : p.set i (p.get i) = p := by
  cases i <;> rfl

@[simp] theorem PerLamp.get_all (i : Lamp) (v : α) : (PerLamp.all v).get i = v := by
  cases i <;> rfl

theorem PerLamp.ext_get {p q : PerLamp α} (h : ∀ i, p.get i = q.get i) : p = q := by
  cases p; cases q
  simp only [PerLamp.mk.injEq]
  exact ⟨h .ch1, h .ch2, h .ch3, h .ch4, h .ch5, h .ch6, h .ch7, h .ch8, h .ch9, h .ch10, h .ch11, h .ch12⟩

@[simp] theorem PerAxis.get_mk' (f : Axis → α) (i : Axis) : (PerAxis.mk' f).get i = f i := by
  cases i <;> rfl

@[simp] theorem PerZone.get_mk' (f : Zone → α) (i : Zone) : (PerZone.mk' f).get i = f i := by
  cases i <;> rfl

@[simp] theorem PerLamp.get_mk' (f : Lamp → α) (i : Lamp) : (PerLamp.mk' f).get i = f i := by
  cases i <;> rfl

end Sys2Proof
end

