-- ==== Sys2Proof/Laws/State.lean ====
section
/-! SUPPORT. One lemma per field per update of State, true by rfl, so that no later proof unfolds a
record update; and the last of two updates of one field stands. -/

namespace Sys2Proof.Machine.State

variable (s : State)

@[simp] theorem setPending_pending (v : List Instr) : (s.setPending v).pending = v := rfl
@[simp] theorem setPending_inputs (v : List Instr) : (s.setPending v).inputs = s.inputs := rfl
@[simp] theorem setPending_grant (v : List Instr) : (s.setPending v).grant = s.grant := rfl
@[simp] theorem setPending_hold (v : List Instr) : (s.setPending v).hold = s.hold := rfl
@[simp] theorem setPending_axis (v : List Instr) : (s.setPending v).axis = s.axis := rfl
@[simp] theorem setPending_permit (v : List Instr) : (s.setPending v).permit = s.permit := rfl
@[simp] theorem setPending_drive (v : List Instr) : (s.setPending v).drive = s.drive := rfl
@[simp] theorem setPending_panel (v : List Instr) : (s.setPending v).panel = s.panel := rfl
@[simp] theorem setPending_beacon (v : List Instr) : (s.setPending v).beacon = s.beacon := rfl
@[simp] theorem setPending_port (v : List Instr) : (s.setPending v).port = s.port := rfl
@[simp] theorem setPending_mode (v : List Instr) : (s.setPending v).mode = s.mode := rfl
@[simp] theorem setPending_notice (v : List Instr) : (s.setPending v).notice = s.notice := rfl
@[simp] theorem setPending_faultLog (v : List Instr) : (s.setPending v).faultLog = s.faultLog := rfl
@[simp] theorem setPending_config (v : List Instr) : (s.setPending v).config = s.config := rfl
@[simp] theorem setPending_store (v : List Instr) : (s.setPending v).store = s.store := rfl
@[simp] theorem setPending_setPending (v w : List Instr) :
    (s.setPending v).setPending w = s.setPending w := rfl
@[simp] theorem setPending_self : s.setPending s.pending = s := rfl

@[simp] theorem setInputs_pending (v : Inputs) : (s.setInputs v).pending = s.pending := rfl
@[simp] theorem setInputs_inputs (v : Inputs) : (s.setInputs v).inputs = v := rfl
@[simp] theorem setInputs_grant (v : Inputs) : (s.setInputs v).grant = s.grant := rfl
@[simp] theorem setInputs_hold (v : Inputs) : (s.setInputs v).hold = s.hold := rfl
@[simp] theorem setInputs_axis (v : Inputs) : (s.setInputs v).axis = s.axis := rfl
@[simp] theorem setInputs_permit (v : Inputs) : (s.setInputs v).permit = s.permit := rfl
@[simp] theorem setInputs_drive (v : Inputs) : (s.setInputs v).drive = s.drive := rfl
@[simp] theorem setInputs_panel (v : Inputs) : (s.setInputs v).panel = s.panel := rfl
@[simp] theorem setInputs_beacon (v : Inputs) : (s.setInputs v).beacon = s.beacon := rfl
@[simp] theorem setInputs_port (v : Inputs) : (s.setInputs v).port = s.port := rfl
@[simp] theorem setInputs_mode (v : Inputs) : (s.setInputs v).mode = s.mode := rfl
@[simp] theorem setInputs_notice (v : Inputs) : (s.setInputs v).notice = s.notice := rfl
@[simp] theorem setInputs_faultLog (v : Inputs) : (s.setInputs v).faultLog = s.faultLog := rfl
@[simp] theorem setInputs_config (v : Inputs) : (s.setInputs v).config = s.config := rfl
@[simp] theorem setInputs_store (v : Inputs) : (s.setInputs v).store = s.store := rfl
@[simp] theorem setInputs_setInputs (v w : Inputs) :
    (s.setInputs v).setInputs w = s.setInputs w := rfl
@[simp] theorem setInputs_self : s.setInputs s.inputs = s := rfl

@[simp] theorem setGrant_pending (v : GrantEngine) : (s.setGrant v).pending = s.pending := rfl
@[simp] theorem setGrant_inputs (v : GrantEngine) : (s.setGrant v).inputs = s.inputs := rfl
@[simp] theorem setGrant_grant (v : GrantEngine) : (s.setGrant v).grant = v := rfl
@[simp] theorem setGrant_hold (v : GrantEngine) : (s.setGrant v).hold = s.hold := rfl
@[simp] theorem setGrant_axis (v : GrantEngine) : (s.setGrant v).axis = s.axis := rfl
@[simp] theorem setGrant_permit (v : GrantEngine) : (s.setGrant v).permit = s.permit := rfl
@[simp] theorem setGrant_drive (v : GrantEngine) : (s.setGrant v).drive = s.drive := rfl
@[simp] theorem setGrant_panel (v : GrantEngine) : (s.setGrant v).panel = s.panel := rfl
@[simp] theorem setGrant_beacon (v : GrantEngine) : (s.setGrant v).beacon = s.beacon := rfl
@[simp] theorem setGrant_port (v : GrantEngine) : (s.setGrant v).port = s.port := rfl
@[simp] theorem setGrant_mode (v : GrantEngine) : (s.setGrant v).mode = s.mode := rfl
@[simp] theorem setGrant_notice (v : GrantEngine) : (s.setGrant v).notice = s.notice := rfl
@[simp] theorem setGrant_faultLog (v : GrantEngine) : (s.setGrant v).faultLog = s.faultLog := rfl
@[simp] theorem setGrant_config (v : GrantEngine) : (s.setGrant v).config = s.config := rfl
@[simp] theorem setGrant_store (v : GrantEngine) : (s.setGrant v).store = s.store := rfl
@[simp] theorem setGrant_setGrant (v w : GrantEngine) :
    (s.setGrant v).setGrant w = s.setGrant w := rfl
@[simp] theorem setGrant_self : s.setGrant s.grant = s := rfl

@[simp] theorem setHold_pending (v : HoldTable) : (s.setHold v).pending = s.pending := rfl
@[simp] theorem setHold_inputs (v : HoldTable) : (s.setHold v).inputs = s.inputs := rfl
@[simp] theorem setHold_grant (v : HoldTable) : (s.setHold v).grant = s.grant := rfl
@[simp] theorem setHold_hold (v : HoldTable) : (s.setHold v).hold = v := rfl
@[simp] theorem setHold_axis (v : HoldTable) : (s.setHold v).axis = s.axis := rfl
@[simp] theorem setHold_permit (v : HoldTable) : (s.setHold v).permit = s.permit := rfl
@[simp] theorem setHold_drive (v : HoldTable) : (s.setHold v).drive = s.drive := rfl
@[simp] theorem setHold_panel (v : HoldTable) : (s.setHold v).panel = s.panel := rfl
@[simp] theorem setHold_beacon (v : HoldTable) : (s.setHold v).beacon = s.beacon := rfl
@[simp] theorem setHold_port (v : HoldTable) : (s.setHold v).port = s.port := rfl
@[simp] theorem setHold_mode (v : HoldTable) : (s.setHold v).mode = s.mode := rfl
@[simp] theorem setHold_notice (v : HoldTable) : (s.setHold v).notice = s.notice := rfl
@[simp] theorem setHold_faultLog (v : HoldTable) : (s.setHold v).faultLog = s.faultLog := rfl
@[simp] theorem setHold_config (v : HoldTable) : (s.setHold v).config = s.config := rfl
@[simp] theorem setHold_store (v : HoldTable) : (s.setHold v).store = s.store := rfl
@[simp] theorem setHold_setHold (v w : HoldTable) :
    (s.setHold v).setHold w = s.setHold w := rfl
@[simp] theorem setHold_self : s.setHold s.hold = s := rfl

@[simp] theorem setAxis_pending (v : AxisUnit) : (s.setAxis v).pending = s.pending := rfl
@[simp] theorem setAxis_inputs (v : AxisUnit) : (s.setAxis v).inputs = s.inputs := rfl
@[simp] theorem setAxis_grant (v : AxisUnit) : (s.setAxis v).grant = s.grant := rfl
@[simp] theorem setAxis_hold (v : AxisUnit) : (s.setAxis v).hold = s.hold := rfl
@[simp] theorem setAxis_axis (v : AxisUnit) : (s.setAxis v).axis = v := rfl
@[simp] theorem setAxis_permit (v : AxisUnit) : (s.setAxis v).permit = s.permit := rfl
@[simp] theorem setAxis_drive (v : AxisUnit) : (s.setAxis v).drive = s.drive := rfl
@[simp] theorem setAxis_panel (v : AxisUnit) : (s.setAxis v).panel = s.panel := rfl
@[simp] theorem setAxis_beacon (v : AxisUnit) : (s.setAxis v).beacon = s.beacon := rfl
@[simp] theorem setAxis_port (v : AxisUnit) : (s.setAxis v).port = s.port := rfl
@[simp] theorem setAxis_mode (v : AxisUnit) : (s.setAxis v).mode = s.mode := rfl
@[simp] theorem setAxis_notice (v : AxisUnit) : (s.setAxis v).notice = s.notice := rfl
@[simp] theorem setAxis_faultLog (v : AxisUnit) : (s.setAxis v).faultLog = s.faultLog := rfl
@[simp] theorem setAxis_config (v : AxisUnit) : (s.setAxis v).config = s.config := rfl
@[simp] theorem setAxis_store (v : AxisUnit) : (s.setAxis v).store = s.store := rfl
@[simp] theorem setAxis_setAxis (v w : AxisUnit) :
    (s.setAxis v).setAxis w = s.setAxis w := rfl
@[simp] theorem setAxis_self : s.setAxis s.axis = s := rfl

@[simp] theorem setPermit_pending (v : PermitMonitor) : (s.setPermit v).pending = s.pending := rfl
@[simp] theorem setPermit_inputs (v : PermitMonitor) : (s.setPermit v).inputs = s.inputs := rfl
@[simp] theorem setPermit_grant (v : PermitMonitor) : (s.setPermit v).grant = s.grant := rfl
@[simp] theorem setPermit_hold (v : PermitMonitor) : (s.setPermit v).hold = s.hold := rfl
@[simp] theorem setPermit_axis (v : PermitMonitor) : (s.setPermit v).axis = s.axis := rfl
@[simp] theorem setPermit_permit (v : PermitMonitor) : (s.setPermit v).permit = v := rfl
@[simp] theorem setPermit_drive (v : PermitMonitor) : (s.setPermit v).drive = s.drive := rfl
@[simp] theorem setPermit_panel (v : PermitMonitor) : (s.setPermit v).panel = s.panel := rfl
@[simp] theorem setPermit_beacon (v : PermitMonitor) : (s.setPermit v).beacon = s.beacon := rfl
@[simp] theorem setPermit_port (v : PermitMonitor) : (s.setPermit v).port = s.port := rfl
@[simp] theorem setPermit_mode (v : PermitMonitor) : (s.setPermit v).mode = s.mode := rfl
@[simp] theorem setPermit_notice (v : PermitMonitor) : (s.setPermit v).notice = s.notice := rfl
@[simp] theorem setPermit_faultLog (v : PermitMonitor) : (s.setPermit v).faultLog = s.faultLog := rfl
@[simp] theorem setPermit_config (v : PermitMonitor) : (s.setPermit v).config = s.config := rfl
@[simp] theorem setPermit_store (v : PermitMonitor) : (s.setPermit v).store = s.store := rfl
@[simp] theorem setPermit_setPermit (v w : PermitMonitor) :
    (s.setPermit v).setPermit w = s.setPermit w := rfl
@[simp] theorem setPermit_self : s.setPermit s.permit = s := rfl

@[simp] theorem setDrive_pending (v : DriveShaper) : (s.setDrive v).pending = s.pending := rfl
@[simp] theorem setDrive_inputs (v : DriveShaper) : (s.setDrive v).inputs = s.inputs := rfl
@[simp] theorem setDrive_grant (v : DriveShaper) : (s.setDrive v).grant = s.grant := rfl
@[simp] theorem setDrive_hold (v : DriveShaper) : (s.setDrive v).hold = s.hold := rfl
@[simp] theorem setDrive_axis (v : DriveShaper) : (s.setDrive v).axis = s.axis := rfl
@[simp] theorem setDrive_permit (v : DriveShaper) : (s.setDrive v).permit = s.permit := rfl
@[simp] theorem setDrive_drive (v : DriveShaper) : (s.setDrive v).drive = v := rfl
@[simp] theorem setDrive_panel (v : DriveShaper) : (s.setDrive v).panel = s.panel := rfl
@[simp] theorem setDrive_beacon (v : DriveShaper) : (s.setDrive v).beacon = s.beacon := rfl
@[simp] theorem setDrive_port (v : DriveShaper) : (s.setDrive v).port = s.port := rfl
@[simp] theorem setDrive_mode (v : DriveShaper) : (s.setDrive v).mode = s.mode := rfl
@[simp] theorem setDrive_notice (v : DriveShaper) : (s.setDrive v).notice = s.notice := rfl
@[simp] theorem setDrive_faultLog (v : DriveShaper) : (s.setDrive v).faultLog = s.faultLog := rfl
@[simp] theorem setDrive_config (v : DriveShaper) : (s.setDrive v).config = s.config := rfl
@[simp] theorem setDrive_store (v : DriveShaper) : (s.setDrive v).store = s.store := rfl
@[simp] theorem setDrive_setDrive (v w : DriveShaper) :
    (s.setDrive v).setDrive w = s.setDrive w := rfl
@[simp] theorem setDrive_self : s.setDrive s.drive = s := rfl

@[simp] theorem setPanel_pending (v : PanelSequencer) : (s.setPanel v).pending = s.pending := rfl
@[simp] theorem setPanel_inputs (v : PanelSequencer) : (s.setPanel v).inputs = s.inputs := rfl
@[simp] theorem setPanel_grant (v : PanelSequencer) : (s.setPanel v).grant = s.grant := rfl
@[simp] theorem setPanel_hold (v : PanelSequencer) : (s.setPanel v).hold = s.hold := rfl
@[simp] theorem setPanel_axis (v : PanelSequencer) : (s.setPanel v).axis = s.axis := rfl
@[simp] theorem setPanel_permit (v : PanelSequencer) : (s.setPanel v).permit = s.permit := rfl
@[simp] theorem setPanel_drive (v : PanelSequencer) : (s.setPanel v).drive = s.drive := rfl
@[simp] theorem setPanel_panel (v : PanelSequencer) : (s.setPanel v).panel = v := rfl
@[simp] theorem setPanel_beacon (v : PanelSequencer) : (s.setPanel v).beacon = s.beacon := rfl
@[simp] theorem setPanel_port (v : PanelSequencer) : (s.setPanel v).port = s.port := rfl
@[simp] theorem setPanel_mode (v : PanelSequencer) : (s.setPanel v).mode = s.mode := rfl
@[simp] theorem setPanel_notice (v : PanelSequencer) : (s.setPanel v).notice = s.notice := rfl
@[simp] theorem setPanel_faultLog (v : PanelSequencer) : (s.setPanel v).faultLog = s.faultLog := rfl
@[simp] theorem setPanel_config (v : PanelSequencer) : (s.setPanel v).config = s.config := rfl
@[simp] theorem setPanel_store (v : PanelSequencer) : (s.setPanel v).store = s.store := rfl
@[simp] theorem setPanel_setPanel (v w : PanelSequencer) :
    (s.setPanel v).setPanel w = s.setPanel w := rfl
@[simp] theorem setPanel_self : s.setPanel s.panel = s := rfl

@[simp] theorem setBeacon_pending (v : BeaconController) : (s.setBeacon v).pending = s.pending := rfl
@[simp] theorem setBeacon_inputs (v : BeaconController) : (s.setBeacon v).inputs = s.inputs := rfl
@[simp] theorem setBeacon_grant (v : BeaconController) : (s.setBeacon v).grant = s.grant := rfl
@[simp] theorem setBeacon_hold (v : BeaconController) : (s.setBeacon v).hold = s.hold := rfl
@[simp] theorem setBeacon_axis (v : BeaconController) : (s.setBeacon v).axis = s.axis := rfl
@[simp] theorem setBeacon_permit (v : BeaconController) : (s.setBeacon v).permit = s.permit := rfl
@[simp] theorem setBeacon_drive (v : BeaconController) : (s.setBeacon v).drive = s.drive := rfl
@[simp] theorem setBeacon_panel (v : BeaconController) : (s.setBeacon v).panel = s.panel := rfl
@[simp] theorem setBeacon_beacon (v : BeaconController) : (s.setBeacon v).beacon = v := rfl
@[simp] theorem setBeacon_port (v : BeaconController) : (s.setBeacon v).port = s.port := rfl
@[simp] theorem setBeacon_mode (v : BeaconController) : (s.setBeacon v).mode = s.mode := rfl
@[simp] theorem setBeacon_notice (v : BeaconController) : (s.setBeacon v).notice = s.notice := rfl
@[simp] theorem setBeacon_faultLog (v : BeaconController) : (s.setBeacon v).faultLog = s.faultLog := rfl
@[simp] theorem setBeacon_config (v : BeaconController) : (s.setBeacon v).config = s.config := rfl
@[simp] theorem setBeacon_store (v : BeaconController) : (s.setBeacon v).store = s.store := rfl
@[simp] theorem setBeacon_setBeacon (v w : BeaconController) :
    (s.setBeacon v).setBeacon w = s.setBeacon w := rfl
@[simp] theorem setBeacon_self : s.setBeacon s.beacon = s := rfl

@[simp] theorem setPort_pending (v : PerLink Port) : (s.setPort v).pending = s.pending := rfl
@[simp] theorem setPort_inputs (v : PerLink Port) : (s.setPort v).inputs = s.inputs := rfl
@[simp] theorem setPort_grant (v : PerLink Port) : (s.setPort v).grant = s.grant := rfl
@[simp] theorem setPort_hold (v : PerLink Port) : (s.setPort v).hold = s.hold := rfl
@[simp] theorem setPort_axis (v : PerLink Port) : (s.setPort v).axis = s.axis := rfl
@[simp] theorem setPort_permit (v : PerLink Port) : (s.setPort v).permit = s.permit := rfl
@[simp] theorem setPort_drive (v : PerLink Port) : (s.setPort v).drive = s.drive := rfl
@[simp] theorem setPort_panel (v : PerLink Port) : (s.setPort v).panel = s.panel := rfl
@[simp] theorem setPort_beacon (v : PerLink Port) : (s.setPort v).beacon = s.beacon := rfl
@[simp] theorem setPort_port (v : PerLink Port) : (s.setPort v).port = v := rfl
@[simp] theorem setPort_mode (v : PerLink Port) : (s.setPort v).mode = s.mode := rfl
@[simp] theorem setPort_notice (v : PerLink Port) : (s.setPort v).notice = s.notice := rfl
@[simp] theorem setPort_faultLog (v : PerLink Port) : (s.setPort v).faultLog = s.faultLog := rfl
@[simp] theorem setPort_config (v : PerLink Port) : (s.setPort v).config = s.config := rfl
@[simp] theorem setPort_store (v : PerLink Port) : (s.setPort v).store = s.store := rfl
@[simp] theorem setPort_setPort (v w : PerLink Port) :
    (s.setPort v).setPort w = s.setPort w := rfl
@[simp] theorem setPort_self : s.setPort s.port = s := rfl

@[simp] theorem setMode_pending (v : ModeController) : (s.setMode v).pending = s.pending := rfl
@[simp] theorem setMode_inputs (v : ModeController) : (s.setMode v).inputs = s.inputs := rfl
@[simp] theorem setMode_grant (v : ModeController) : (s.setMode v).grant = s.grant := rfl
@[simp] theorem setMode_hold (v : ModeController) : (s.setMode v).hold = s.hold := rfl
@[simp] theorem setMode_axis (v : ModeController) : (s.setMode v).axis = s.axis := rfl
@[simp] theorem setMode_permit (v : ModeController) : (s.setMode v).permit = s.permit := rfl
@[simp] theorem setMode_drive (v : ModeController) : (s.setMode v).drive = s.drive := rfl
@[simp] theorem setMode_panel (v : ModeController) : (s.setMode v).panel = s.panel := rfl
@[simp] theorem setMode_beacon (v : ModeController) : (s.setMode v).beacon = s.beacon := rfl
@[simp] theorem setMode_port (v : ModeController) : (s.setMode v).port = s.port := rfl
@[simp] theorem setMode_mode (v : ModeController) : (s.setMode v).mode = v := rfl
@[simp] theorem setMode_notice (v : ModeController) : (s.setMode v).notice = s.notice := rfl
@[simp] theorem setMode_faultLog (v : ModeController) : (s.setMode v).faultLog = s.faultLog := rfl
@[simp] theorem setMode_config (v : ModeController) : (s.setMode v).config = s.config := rfl
@[simp] theorem setMode_store (v : ModeController) : (s.setMode v).store = s.store := rfl
@[simp] theorem setMode_setMode (v w : ModeController) :
    (s.setMode v).setMode w = s.setMode w := rfl
@[simp] theorem setMode_self : s.setMode s.mode = s := rfl

@[simp] theorem setNotice_pending (v : Notices) : (s.setNotice v).pending = s.pending := rfl
@[simp] theorem setNotice_inputs (v : Notices) : (s.setNotice v).inputs = s.inputs := rfl
@[simp] theorem setNotice_grant (v : Notices) : (s.setNotice v).grant = s.grant := rfl
@[simp] theorem setNotice_hold (v : Notices) : (s.setNotice v).hold = s.hold := rfl
@[simp] theorem setNotice_axis (v : Notices) : (s.setNotice v).axis = s.axis := rfl
@[simp] theorem setNotice_permit (v : Notices) : (s.setNotice v).permit = s.permit := rfl
@[simp] theorem setNotice_drive (v : Notices) : (s.setNotice v).drive = s.drive := rfl
@[simp] theorem setNotice_panel (v : Notices) : (s.setNotice v).panel = s.panel := rfl
@[simp] theorem setNotice_beacon (v : Notices) : (s.setNotice v).beacon = s.beacon := rfl
@[simp] theorem setNotice_port (v : Notices) : (s.setNotice v).port = s.port := rfl
@[simp] theorem setNotice_mode (v : Notices) : (s.setNotice v).mode = s.mode := rfl
@[simp] theorem setNotice_notice (v : Notices) : (s.setNotice v).notice = v := rfl
@[simp] theorem setNotice_faultLog (v : Notices) : (s.setNotice v).faultLog = s.faultLog := rfl
@[simp] theorem setNotice_config (v : Notices) : (s.setNotice v).config = s.config := rfl
@[simp] theorem setNotice_store (v : Notices) : (s.setNotice v).store = s.store := rfl
@[simp] theorem setNotice_setNotice (v w : Notices) :
    (s.setNotice v).setNotice w = s.setNotice w := rfl
@[simp] theorem setNotice_self : s.setNotice s.notice = s := rfl

@[simp] theorem setFaultLog_pending (v : FaultLog) : (s.setFaultLog v).pending = s.pending := rfl
@[simp] theorem setFaultLog_inputs (v : FaultLog) : (s.setFaultLog v).inputs = s.inputs := rfl
@[simp] theorem setFaultLog_grant (v : FaultLog) : (s.setFaultLog v).grant = s.grant := rfl
@[simp] theorem setFaultLog_hold (v : FaultLog) : (s.setFaultLog v).hold = s.hold := rfl
@[simp] theorem setFaultLog_axis (v : FaultLog) : (s.setFaultLog v).axis = s.axis := rfl
@[simp] theorem setFaultLog_permit (v : FaultLog) : (s.setFaultLog v).permit = s.permit := rfl
@[simp] theorem setFaultLog_drive (v : FaultLog) : (s.setFaultLog v).drive = s.drive := rfl
@[simp] theorem setFaultLog_panel (v : FaultLog) : (s.setFaultLog v).panel = s.panel := rfl
@[simp] theorem setFaultLog_beacon (v : FaultLog) : (s.setFaultLog v).beacon = s.beacon := rfl
@[simp] theorem setFaultLog_port (v : FaultLog) : (s.setFaultLog v).port = s.port := rfl
@[simp] theorem setFaultLog_mode (v : FaultLog) : (s.setFaultLog v).mode = s.mode := rfl
@[simp] theorem setFaultLog_notice (v : FaultLog) : (s.setFaultLog v).notice = s.notice := rfl
@[simp] theorem setFaultLog_faultLog (v : FaultLog) : (s.setFaultLog v).faultLog = v := rfl
@[simp] theorem setFaultLog_config (v : FaultLog) : (s.setFaultLog v).config = s.config := rfl
@[simp] theorem setFaultLog_store (v : FaultLog) : (s.setFaultLog v).store = s.store := rfl
@[simp] theorem setFaultLog_setFaultLog (v w : FaultLog) :
    (s.setFaultLog v).setFaultLog w = s.setFaultLog w := rfl
@[simp] theorem setFaultLog_self : s.setFaultLog s.faultLog = s := rfl

@[simp] theorem setConfig_pending (v : WorkingConfig) : (s.setConfig v).pending = s.pending := rfl
@[simp] theorem setConfig_inputs (v : WorkingConfig) : (s.setConfig v).inputs = s.inputs := rfl
@[simp] theorem setConfig_grant (v : WorkingConfig) : (s.setConfig v).grant = s.grant := rfl
@[simp] theorem setConfig_hold (v : WorkingConfig) : (s.setConfig v).hold = s.hold := rfl
@[simp] theorem setConfig_axis (v : WorkingConfig) : (s.setConfig v).axis = s.axis := rfl
@[simp] theorem setConfig_permit (v : WorkingConfig) : (s.setConfig v).permit = s.permit := rfl
@[simp] theorem setConfig_drive (v : WorkingConfig) : (s.setConfig v).drive = s.drive := rfl
@[simp] theorem setConfig_panel (v : WorkingConfig) : (s.setConfig v).panel = s.panel := rfl
@[simp] theorem setConfig_beacon (v : WorkingConfig) : (s.setConfig v).beacon = s.beacon := rfl
@[simp] theorem setConfig_port (v : WorkingConfig) : (s.setConfig v).port = s.port := rfl
@[simp] theorem setConfig_mode (v : WorkingConfig) : (s.setConfig v).mode = s.mode := rfl
@[simp] theorem setConfig_notice (v : WorkingConfig) : (s.setConfig v).notice = s.notice := rfl
@[simp] theorem setConfig_faultLog (v : WorkingConfig) : (s.setConfig v).faultLog = s.faultLog := rfl
@[simp] theorem setConfig_config (v : WorkingConfig) : (s.setConfig v).config = v := rfl
@[simp] theorem setConfig_store (v : WorkingConfig) : (s.setConfig v).store = s.store := rfl
@[simp] theorem setConfig_setConfig (v w : WorkingConfig) :
    (s.setConfig v).setConfig w = s.setConfig w := rfl
@[simp] theorem setConfig_self : s.setConfig s.config = s := rfl

@[simp] theorem setStore_pending (v : ConfigStore) : (s.setStore v).pending = s.pending := rfl
@[simp] theorem setStore_inputs (v : ConfigStore) : (s.setStore v).inputs = s.inputs := rfl
@[simp] theorem setStore_grant (v : ConfigStore) : (s.setStore v).grant = s.grant := rfl
@[simp] theorem setStore_hold (v : ConfigStore) : (s.setStore v).hold = s.hold := rfl
@[simp] theorem setStore_axis (v : ConfigStore) : (s.setStore v).axis = s.axis := rfl
@[simp] theorem setStore_permit (v : ConfigStore) : (s.setStore v).permit = s.permit := rfl
@[simp] theorem setStore_drive (v : ConfigStore) : (s.setStore v).drive = s.drive := rfl
@[simp] theorem setStore_panel (v : ConfigStore) : (s.setStore v).panel = s.panel := rfl
@[simp] theorem setStore_beacon (v : ConfigStore) : (s.setStore v).beacon = s.beacon := rfl
@[simp] theorem setStore_port (v : ConfigStore) : (s.setStore v).port = s.port := rfl
@[simp] theorem setStore_mode (v : ConfigStore) : (s.setStore v).mode = s.mode := rfl
@[simp] theorem setStore_notice (v : ConfigStore) : (s.setStore v).notice = s.notice := rfl
@[simp] theorem setStore_faultLog (v : ConfigStore) : (s.setStore v).faultLog = s.faultLog := rfl
@[simp] theorem setStore_config (v : ConfigStore) : (s.setStore v).config = s.config := rfl
@[simp] theorem setStore_store (v : ConfigStore) : (s.setStore v).store = v := rfl
@[simp] theorem setStore_setStore (v w : ConfigStore) :
    (s.setStore v).setStore w = s.setStore w := rfl
@[simp] theorem setStore_self : s.setStore s.store = s := rfl

end Sys2Proof.Machine.State
end

