-- ==== Sys2Proof/Laws/Frames.lean ====
section
/-! SUPPORT. What the grant engine's operations leave alone, said once: a reaction changes the grant
table and slots, the drive shaper, the panel sequencer, the notices and the queues of UP ports, and
nothing else. Every operation of Chapter 1 is shown to be such a reaction. -/

namespace Sys2Proof.Machine

/-- A port that has at most had messages placed on its queue, or its queue reordered. -/
structure PortKept (p q : Port) : Prop where
  eq : q = { p with queue := q.queue }
  quiet : p.state ≠ .up → p.queue = [] → q.queue = []

theorem PortKept.refl (p : Port) : PortKept p p := ⟨rfl, fun _ h => h⟩

theorem PortKept.state {p q : Port} (h : PortKept p q) : q.state = p.state := by rw [h.eq]

theorem PortKept.trans {p q r : Port} (h : PortKept p q) (k : PortKept q r) : PortKept p r :=
  ⟨by rw [k.eq, h.eq], fun n e => k.quiet (by rw [h.state]; exact n) (h.quiet n e)⟩

/-- The blocks a reaction of the grant engine leaves alone. -/
structure Reacts (s t : State) : Prop where
  pending : t.pending = s.pending
  inputs : t.inputs = s.inputs
  hold : t.hold = s.hold
  axis : t.axis = s.axis
  permit : t.permit = s.permit
  beacon : t.beacon = s.beacon
  mode : t.mode = s.mode
  faultLog : t.faultLog = s.faultLog
  config : t.config = s.config
  store : t.store = s.store
  port : ∀ l, PortKept (portOf l s) (portOf l t)

theorem Reacts.refl (s : State) : Reacts s s :=
  ⟨rfl, rfl, rfl, rfl, rfl, rfl, rfl, rfl, rfl, rfl, fun _ => .refl _⟩

theorem Reacts.trans {s t u : State} (h : Reacts s t) (k : Reacts t u) : Reacts s u :=
  ⟨k.pending.trans h.pending, k.inputs.trans h.inputs, k.hold.trans h.hold, k.axis.trans h.axis,
    k.permit.trans h.permit, k.beacon.trans h.beacon, k.mode.trans h.mode,
    k.faultLog.trans h.faultLog, k.config.trans h.config, k.store.trans h.store,
    fun l => (h.port l).trans (k.port l)⟩

theorem reacts_setGrant (s : State) (v : GrantEngine) : Reacts s (s.setGrant v) :=
  ⟨rfl, rfl, rfl, rfl, rfl, rfl, rfl, rfl, rfl, rfl, fun _ => .refl _⟩

theorem reacts_setDrive (s : State) (v : DriveShaper) : Reacts s (s.setDrive v) :=
  ⟨rfl, rfl, rfl, rfl, rfl, rfl, rfl, rfl, rfl, rfl, fun _ => .refl _⟩

theorem reacts_setPanel (s : State) (v : PanelSequencer) : Reacts s (s.setPanel v) :=
  ⟨rfl, rfl, rfl, rfl, rfl, rfl, rfl, rfl, rfl, rfl, fun _ => .refl _⟩

theorem reacts_setNotice (s : State) (v : Notices) : Reacts s (s.setNotice v) :=
  ⟨rfl, rfl, rfl, rfl, rfl, rfl, rfl, rfl, rfl, rfl, fun _ => .refl _⟩

/-! ## Notices and messages -/

theorem reacts_raise (f : NoticeFlag) (s : State) : Reacts s (raise f s) :=
  (reacts_setNotice s _).trans (reacts_setNotice _ _)

@[simp] theorem portOf_putPort_same (l : Link) (p : Port) (s : State) :
    portOf l (putPort l p s) = p := PerLink.get_set_same _ _ _

theorem portOf_putPort (l k : Link) (p : Port) (s : State) :
    portOf k (putPort l p s) = if k = l then p else portOf k s := PerLink.get_set _ _ _ _

@[simp] theorem portOf_putPort_ne {l k : Link} (p : Port) (s : State) (h : k ≠ l) :
    portOf k (putPort l p s) = portOf k s := PerLink.get_set_ne _ _ h

/-- A port replaced by a kept one is a reaction. -/
theorem reacts_putPort {l : Link} {p : Port} {s : State} (h : PortKept (portOf l s) p) :
    Reacts s (putPort l p s) :=
  ⟨rfl, rfl, rfl, rfl, rfl, rfl, rfl, rfl, rfl, rfl, fun k => by
    rw [portOf_putPort]
    split
    · next e => subst e; exact h
    · exact .refl _⟩

theorem reacts_placeMessage (l : Link) (m : OutMsg) (s : State) :
    Reacts s (placeMessage l m s) := by
  unfold placeMessage
  dsimp only
  split
  · next h => exact reacts_putPort ⟨rfl, fun n => absurd h n⟩
  · exact .refl s

theorem reacts_gendDue (g : Grant) (r : Reason) (s : State) : Reacts s (gendDue g r s) := by
  unfold gendDue
  split
  · exact .refl s
  · exact (reacts_placeMessage _ _ _).trans (reacts_raise _ _)

/-! ## Table and slots -/

theorem reacts_putGrant (g : Grant) (s : State) : Reacts s (putGrant g s) := reacts_setGrant s _
theorem reacts_dropGrant (h : Nat) (s : State) : Reacts s (dropGrant h s) := reacts_setGrant s _
theorem reacts_setSlot (r : Resource) (v : Slot) (s : State) : Reacts s (setSlot r v s) :=
  reacts_setGrant s _
theorem reacts_addGrant (g : Grant) (s : State) : Reacts s (addGrant g s) := reacts_setGrant s _
theorem reacts_putPanel (m : Motor) (p : PanelRecord) (s : State) : Reacts s (putPanel m p s) :=
  reacts_setPanel s _
theorem reacts_putLatch (d : Door) (p : LatchRecord) (s : State) : Reacts s (putLatch d p s) :=
  reacts_setPanel s _

/-! ## Drive shaper and panel sequencer -/

theorem reacts_driveStart (g : Grant) (s : State) : Reacts s (driveStart g s) :=
  reacts_setDrive s _

theorem reacts_driveEnd (a : Axis) (s : State) : Reacts s (driveEnd a s) := reacts_setDrive s _

theorem reacts_gatedStop (a : Axis) (s : State) : Reacts s (gatedStop a s) := by
  unfold gatedStop
  split
  · exact .refl s
  · split
    · exact .refl s
    · exact reacts_setDrive s _

theorem reacts_startUnlatching (d : Door) (p : PanelRecord) (s : State) :
    Reacts s (startUnlatching d p s) := (reacts_putPanel _ _ _).trans (reacts_putLatch _ _ _)

theorem reacts_startLatching (d : Door) (p : PanelRecord) (s : State) :
    Reacts s (startLatching d p s) := (reacts_putPanel _ _ _).trans (reacts_putLatch _ _ _)

theorem reacts_startDoor (d : Door) (g : Grant) (s : State) : Reacts s (startDoor d g s) := by
  unfold startDoor
  dsimp only
  split
  · exact reacts_putPanel _ _ _
  · exact reacts_startUnlatching _ _ _
  · split
    · exact reacts_startUnlatching _ _ _
    · exact reacts_putPanel _ _ _
  · exact reacts_putPanel _ _ _
  · exact reacts_putPanel _ _ _
  · split
    · exact reacts_putPanel _ _ _
    · split
      · exact reacts_putPanel _ _ _
      · exact reacts_startLatching _ _ _

theorem reacts_panelStart (g : Grant) (s : State) : Reacts s (panelStart g s) := by
  unfold panelStart
  split
  · exact reacts_putPanel _ _ _
  · exact reacts_startDoor _ _ _
  · exact reacts_startDoor _ _ _
  · exact .refl s
  · exact .refl s
  · exact .refl s

theorem reacts_panelWindDown (a : Axis) (s : State) : Reacts s (panelWindDown a s) := by
  unfold panelWindDown
  dsimp only
  repeat' split
  all_goals first
    | exact .refl s
    | exact reacts_putLatch _ _ _
    | exact reacts_putPanel _ _ _

theorem reacts_meetFrame (d : Door) (p : PanelRecord) (s : State) :
    Reacts s (meetFrame d p s) := by
  unfold meetFrame
  split
  · exact reacts_putPanel _ _ _
  · exact reacts_startLatching _ _ _

theorem reacts_resumeDoor (d : Door) (s : State) : Reacts s (resumeDoor d s) := by
  unfold resumeDoor
  dsimp only
  repeat' split
  all_goals first
    | exact .refl s
    | exact reacts_putLatch _ _ _
    | exact reacts_putPanel _ _ _
    | exact reacts_meetFrame _ _ _
    | exact (reacts_putPanel _ _ _).trans (reacts_putLatch _ _ _)

theorem reacts_panelResume (a : Axis) (s : State) : Reacts s (panelResume a s) := by
  unfold panelResume
  split
  · exact reacts_resumeDoor _ _
  · exact reacts_resumeDoor _ _
  all_goals exact .refl s

theorem reacts_panelStop (a : Axis) (s : State) : Reacts s (panelStop a s) := by
  unfold panelStop
  dsimp only
  split
  · exact .refl s
  · split
    · exact reacts_putPanel _ _ _
    · exact (reacts_putPanel _ _ _).trans (reacts_putLatch _ _ _)

/-! ## Grants -/

theorem reacts_startGrant (g : Grant) (s : State) : Reacts s (startGrant g s) :=
  (reacts_driveStart g s).trans (reacts_panelStart g _)

theorem reacts_passSlot (r : Resource) (s : State) : Reacts s (passSlot r s) := by
  unfold passSlot
  split
  · exact reacts_setSlot _ _ _
  · split
    · exact reacts_setSlot _ _ _
    · exact ((reacts_setSlot _ _ _).trans (reacts_putGrant _ _)).trans (reacts_startGrant _ _)

theorem reacts_leaveSlot (g : Grant) (s : State) : Reacts s (leaveSlot g s) := by
  unfold leaveSlot
  dsimp only
  split
  · exact ((reacts_driveEnd _ _).trans (reacts_panelStop _ _)).trans (reacts_passSlot _ _)
  · split
    · exact reacts_setSlot _ _ _
    · exact .refl s

theorem reacts_retire (g : Grant) (r : Reason) (s : State) : Reacts s (retire g r s) :=
  ((reacts_dropGrant _ _).trans (reacts_leaveSlot _ _)).trans (reacts_gendDue _ _ _)

theorem reacts_cut (g : Grant) (r : Reason) (s : State) : Reacts s (cut g r s) :=
  reacts_retire g r s

theorem reacts_ease (g : Grant) (r : Reason) (s : State) : Reacts s (ease g r s) := by
  have h (x : Grant) : Reacts s (panelWindDown g.axis (gatedStop g.axis (putGrant x s))) :=
    ((reacts_putGrant _ _).trans (reacts_gatedStop _ _)).trans (reacts_panelWindDown _ _)
  unfold ease
  dsimp only
  split
  · exact (h _).trans (reacts_retire _ _ _)
  · exact h _

theorem reacts_pauseGrant (g : Grant) (s : State) : Reacts s (pauseGrant g s) :=
  ((reacts_putGrant _ _).trans (reacts_gatedStop _ _)).trans (reacts_panelWindDown _ _)

theorem reacts_resumeGrant (g : Grant) (s : State) : Reacts s (resumeGrant g s) :=
  (reacts_putGrant _ _).trans (reacts_panelResume _ _)

theorem reacts_windDown (r : Reason) (g : Grant) (s : State) : Reacts s (windDown r g s) := by
  unfold windDown
  split
  · exact reacts_retire _ _ _
  · exact reacts_ease _ _ _
  · exact reacts_ease _ _ _
  · exact .refl s

theorem reacts_loseLink (m : LinkMode) (g : Grant) (s : State) : Reacts s (loseLink m g s) := by
  unfold loseLink
  split
  · exact reacts_pauseGrant _ _
  · exact .refl s
  · exact reacts_windDown _ _ _

/-- A fold of reactions is a reaction. -/
theorem reacts_forEach {α : Type} {f : α → State → State} (hf : ∀ x s, Reacts s (f x s))
    (l : List α) (s : State) : Reacts s (forEach f l s) := by
  unfold forEach
  induction l generalizing s with
  | nil => exact .refl s
  | cons x xs ih => exact (hf x s).trans (ih _)

theorem reacts_onGrant {f : Grant → State → State} (hf : ∀ g s, Reacts s (f g s)) (h : Nat)
    (s : State) : Reacts s (onGrant h f s) := by
  unfold onGrant
  split
  · exact .refl s
  · exact hf _ _

theorem reacts_forGrants (sel : Grant → Bool) {f : Grant → State → State}
    (hf : ∀ g s, Reacts s (f g s)) (s : State) : Reacts s (forGrants sel f s) :=
  (reacts_forEach (fun h s => reacts_onGrant hf h s) _ s).trans
    (reacts_forEach (fun h s => reacts_onGrant hf h s) _ _)

theorem reacts_cutGrants (r : Reason) (sel : Grant → Bool) (s : State) :
    Reacts s (cutGrants r sel s) := reacts_forGrants sel (fun g s => reacts_cut g r s) s

theorem reacts_easeGrants (r : Reason) (sel : Grant → Bool) (s : State) :
    Reacts s (easeGrants r sel s) := reacts_forGrants sel (fun g s => reacts_windDown r g s) s

theorem reacts_reactLockout (x : PerAxis Bool) (s : State) : Reacts s (reactLockout x s) :=
  reacts_easeGrants _ _ s
theorem reacts_reactStop (x : PerAxis Bool) (s : State) : Reacts s (reactStop x s) :=
  reacts_cutGrants _ _ s
theorem reacts_reactFault (a : Axis) (s : State) : Reacts s (reactFault a s) :=
  reacts_cutGrants _ _ s
theorem reacts_reactLinkLoss (l : Link) (s : State) : Reacts s (reactLinkLoss l s) :=
  reacts_forGrants _ (fun g s => reacts_loseLink _ g s) s

theorem reacts_reactMode (m : Mode) (s : State) : Reacts s (reactMode m s) := by
  unfold reactMode
  split
  · exact reacts_easeGrants _ _ s
  all_goals first | exact reacts_cutGrants _ _ s | exact .refl s

theorem reacts_reportObstructed (m : Motor) (s : State) : Reacts s (reportObstructed m s) := by
  unfold reportObstructed
  split
  · exact .refl s
  · split
    · exact .refl s
    · exact reacts_cut _ _ _

theorem reacts_reportEnd (m : Motor) (q : SeqGrant) (s : State) :
    Reacts s (reportEnd m q s) := by
  unfold reportEnd
  split
  · exact .refl s
  · split
    · exact reacts_retire _ _ _
    · exact .refl s

theorem reacts_queueGrant (g : Grant) (s : State) : Reacts s (queueGrant g s) :=
  (reacts_addGrant _ _).trans (reacts_setSlot _ _ _)

theorem reacts_holdSlot (g : Grant) (s : State) : Reacts s (holdSlot g s) :=
  ((reacts_addGrant _ _).trans (reacts_setSlot _ _ _)).trans (reacts_startGrant _ _)

/-! ## The order of GENDs (R23) -/

theorem sortGends_nil (table : List Grant) : sortGends table [] = [] := rfl

theorem reacts_orderPort (before : State) (l : Link) (s : State) :
    Reacts s (orderPort before l s) :=
  reacts_putPort ⟨rfl, fun _ e => by simp [e, sortGends_nil]⟩

theorem reacts_orderGends (before s : State) : Reacts s (orderGends before s) :=
  reacts_forEach (fun l s => reacts_orderPort before l s) _ s

/-! ## Periods of the panel sequencer that set no fault -/

theorem reacts_endCheck (m : Motor) (s : State) : Reacts s (endCheck m s) := by
  unfold endCheck
  dsimp only
  split
  · exact .refl s
  · split
    · exact (reacts_putPanel _ _ _).trans (reacts_reportEnd _ _ _)
    · exact .refl s

theorem reacts_edgeStop (s : State) : Reacts s (edgeStop s) :=
  (reacts_putPanel _ _ _).trans (reacts_reportObstructed _ _)

theorem reacts_edgeCheck (m : Motor) (s : State) : Reacts s (edgeCheck m s) := by
  unfold edgeCheck
  split
  · exact reacts_edgeStop s
  · exact .refl s

theorem reacts_obstructionReport (m : Motor) (s : State) : Reacts s (obstructionReport m s) :=
  (reacts_putPanel _ _ _).trans (reacts_reportObstructed _ _)

theorem reacts_obstructionStep (m : Motor) (c : Nat) (s : State) :
    Reacts s (obstructionStep m c s) := by
  unfold obstructionStep
  dsimp only
  split
  · exact reacts_putPanel _ _ _
  · split
    · exact reacts_obstructionReport _ _
    · exact reacts_putPanel _ _ _

end Sys2Proof.Machine
end

