-- ==== Sys2Proof/Laws/Judgements.lean ====
section
/-! SUPPORT. What the part's judgements leave alone, said once: setting a fault, sampling,
recomputing the permits, judging lamps and beacons, and the work of a control period change no
hold, no input, no configuration, no mode, no store and no command waiting, and of a port at most
its queue. -/

namespace Sys2Proof.Machine

/-- The blocks a judgement leaves alone. -/
structure Judges (s t : State) : Prop where
  pending : t.pending = s.pending
  inputs : t.inputs = s.inputs
  hold : t.hold = s.hold
  mode : t.mode = s.mode
  config : t.config = s.config
  store : t.store = s.store
  port : ∀ l, PortKept (portOf l s) (portOf l t)

theorem Judges.refl (s : State) : Judges s s :=
  ⟨rfl, rfl, rfl, rfl, rfl, rfl, fun _ => .refl _⟩

theorem Judges.trans {s t u : State} (h : Judges s t) (k : Judges t u) : Judges s u :=
  ⟨k.pending.trans h.pending, k.inputs.trans h.inputs, k.hold.trans h.hold, k.mode.trans h.mode,
    k.config.trans h.config, k.store.trans h.store, fun l => (h.port l).trans (k.port l)⟩

theorem Reacts.judges {s t : State} (h : Reacts s t) : Judges s t :=
  ⟨h.pending, h.inputs, h.hold, h.mode, h.config, h.store, h.port⟩

theorem judges_setAxis (s : State) (v : AxisUnit) : Judges s (s.setAxis v) :=
  ⟨rfl, rfl, rfl, rfl, rfl, rfl, fun _ => .refl _⟩
theorem judges_setPermit (s : State) (v : PermitMonitor) : Judges s (s.setPermit v) :=
  ⟨rfl, rfl, rfl, rfl, rfl, rfl, fun _ => .refl _⟩
theorem judges_setBeacon (s : State) (v : BeaconController) : Judges s (s.setBeacon v) :=
  ⟨rfl, rfl, rfl, rfl, rfl, rfl, fun _ => .refl _⟩
theorem judges_setFaultLog (s : State) (v : FaultLog) : Judges s (s.setFaultLog v) :=
  ⟨rfl, rfl, rfl, rfl, rfl, rfl, fun _ => .refl _⟩
theorem judges_setDrive (s : State) (v : DriveShaper) : Judges s (s.setDrive v) :=
  (reacts_setDrive s v).judges
theorem judges_setPanel (s : State) (v : PanelSequencer) : Judges s (s.setPanel v) :=
  (reacts_setPanel s v).judges
theorem judges_setNotice (s : State) (v : Notices) : Judges s (s.setNotice v) :=
  (reacts_setNotice s v).judges
theorem judges_raise (f : NoticeFlag) (s : State) : Judges s (raise f s) :=
  (reacts_raise f s).judges
theorem judges_judgeAttention (s : State) : Judges s (judgeAttention s) := judges_setNotice s _

theorem judges_takeDriveItems (s : State) : Judges s (takeDriveItems s) := judges_setDrive s _

/-! R112: bringing the drive items into force changes no other field of the state, and none of the drive
shaper but the two it takes. -/

@[simp] theorem takeDriveItems_grant (s : State) : (takeDriveItems s).grant = s.grant := rfl
@[simp] theorem takeDriveItems_axis (s : State) : (takeDriveItems s).axis = s.axis := rfl
@[simp] theorem takeDriveItems_panel (s : State) : (takeDriveItems s).panel = s.panel := rfl
@[simp] theorem takeDriveItems_port (s : State) : (takeDriveItems s).port = s.port := rfl
@[simp] theorem takeDriveItems_mode (s : State) : (takeDriveItems s).mode = s.mode := rfl
@[simp] theorem takeDriveItems_drive (s : State) : (takeDriveItems s).drive =
    { s.drive with
      hysteresisInForce := s.config.drive.hysteresis
      halfPeriodInForce := s.config.drive.ditherHalfPeriod } := rfl

/-- A fold of judgements is a judgement. -/
theorem judges_forEach {α : Type} {f : α → State → State} (hf : ∀ x s, Judges s (f x s))
    (l : List α) (s : State) : Judges s (forEach f l s) := by
  unfold forEach
  induction l generalizing s with
  | nil => exact .refl s
  | cons x xs ih => exact (hf x s).trans (ih _)

/-! ## Faults (R66, R177) -/

theorem judges_enterFault (r : FaultRecord) (s : State) : Judges s (enterFault r s) := by
  unfold enterFault
  split
  · exact (judges_setFaultLog _ _).trans (judges_raise _ _)
  · exact judges_setFaultLog _ _

theorem judges_setFault (a : Axis) (c : FaultCode) (k : Option Coil) (s : State) :
    Judges s (setFault a c k s) := by
  unfold setFault
  dsimp only
  split
  · exact (((judges_setAxis _ _).trans (reacts_reactFault _ _).judges).trans
      (judges_raise _ _)).trans (judges_enterFault _ _)
  · exact .refl s

theorem judges_coilWatchStep (c : Coil) (n : Nat) (s : State) :
    Judges s (coilWatchStep c n s) := by
  unfold coilWatchStep
  dsimp only
  split
  · split
    · split
      · exact (judges_setDrive _ _).trans (judges_setFault _ _ _ _)
      · exact judges_setDrive _ _
    · exact judges_setDrive _ _
  · exact .refl s

theorem judges_foldTravelFault (s : State) : Judges s (foldTravelFault s) :=
  (judges_setDrive _ _).trans (judges_setFault _ _ _ _)

theorem judges_foldTravelStep (s : State) : Judges s (foldTravelStep s) := by
  unfold foldTravelStep
  dsimp only
  split
  · split
    · exact judges_setDrive _ _
    · split
      · exact .refl s
      · split
        · exact (judges_setDrive _ _).trans (judges_foldTravelFault _)
        · exact judges_setDrive _ _
  · exact .refl s

theorem judges_putPanel (m : Motor) (p : PanelRecord) (s : State) : Judges s (putPanel m p s) :=
  judges_setPanel s _
theorem judges_putLatch (d : Door) (p : LatchRecord) (s : State) : Judges s (putLatch d p s) :=
  judges_setPanel s _

theorem judges_panelTravelFault (m : Motor) (s : State) : Judges s (panelTravelFault m s) :=
  (judges_putPanel _ _ _).trans (judges_setFault _ _ _ _)

theorem judges_travelStep (m : Motor) (s : State) : Judges s (travelStep m s) := by
  unfold travelStep
  dsimp only
  split
  · split
    · exact judges_putPanel _ _ _
    · split
      · exact .refl s
      · split
        · exact (judges_putPanel _ _ _).trans (judges_panelTravelFault _ _)
        · exact judges_putPanel _ _ _
  · exact .refl s

theorem judges_panelPeriod (m : Motor) (n : Nat) (s : State) : Judges s (panelPeriod m n s) :=
  (((reacts_endCheck m s).judges.trans (reacts_edgeCheck m _).judges).trans
    (reacts_obstructionStep m n _).judges).trans (judges_travelStep m _)

theorem judges_latchPulseExpired (d : Door) (s : State) : Judges s (latchPulseExpired d s) := by
  unfold latchPulseExpired
  split
  · exact (judges_putLatch _ _ _).trans (judges_setFault _ _ _ _)
  · exact .refl s

theorem judges_engageExpired (d : Door) (s : State) : Judges s (engageExpired d s) := by
  unfold engageExpired
  split
  · exact (judges_putLatch _ _ _).trans (judges_setFault _ _ _ _)
  · exact .refl s

/-! ## Permits (R73, R87) -/

theorem judges_recomputePermits (s : State) : Judges s (recomputePermits s) :=
  (judges_setPermit s _).trans (reacts_easeGrants _ _ _).judges

theorem judges_judgeDeployMove (s : State) : Judges s (judgeDeployMove s) := by
  unfold judgeDeployMove
  dsimp only
  split
  · exact (judges_setPermit _ _).trans (judges_raise _ _)
  · exact judges_setPermit _ _

theorem judges_permitEvent (s : State) : Judges s (permitEvent s) :=
  (judges_judgeDeployMove s).trans (judges_recomputePermits _)

theorem judges_recomputeSpeed (s : State) : Judges s (recomputeSpeed s) := by
  unfold recomputeSpeed
  split
  · exact judges_setPermit _ _
  · exact .refl s

theorem judges_samplePressure (s : State) : Judges s (samplePressure s) := by
  unfold samplePressure
  dsimp only
  split
  · exact judges_setPermit _ _
  · exact (judges_setPermit _ _).trans (judges_recomputePermits _)

theorem judges_afterSpeed {s t : State} (h : Judges s t) : Judges s (afterSpeed s t) := by
  unfold afterSpeed
  split
  · exact h
  · exact h.trans (judges_permitEvent _)

theorem judges_pulseArrival (p : Nat) (s : State) : Judges s (pulseArrival p s) := by
  unfold pulseArrival
  dsimp only
  split
  · exact .refl s
  · exact judges_afterSpeed (judges_setPermit _ _)

theorem judges_pulseTimerExpiry (s : State) : Judges s (pulseTimerExpiry s) := by
  unfold pulseTimerExpiry
  split
  · exact judges_afterSpeed (judges_setPermit _ _)
  · exact .refl s

/-! ## Samples (R52) -/

theorem judges_conditionFaultStep (a : Axis) (s : State) :
    Judges s (conditionFaultStep a s) := by
  unfold conditionFaultStep
  split
  · exact judges_setFault _ _ _ _
  · exact .refl s

theorem judges_stallStep (s : State) : Judges s (stallStep s) := by
  unfold stallStep
  dsimp only
  repeat' split
  all_goals first | exact judges_setAxis _ _ | exact judges_setFault _ _ _ _

theorem judges_evaluateSample (b : Bool) (s : State) : Judges s (evaluateSample b s) := by
  unfold evaluateSample
  dsimp only
  split
  · exact ((judges_setAxis _ _).trans (judges_forEach judges_conditionFaultStep _ _)).trans
      (judges_stallStep _)
  · exact (judges_setAxis _ _).trans (judges_forEach judges_conditionFaultStep _ _)

theorem judges_reportFlags {s t : State} (b : State) (h : Judges s t) :
    Judges s (reportFlags b t) := by
  unfold reportFlags
  split
  · exact h
  · exact h.trans (judges_permitEvent _)

theorem judges_takeSample (s : State) : Judges s (takeSample s) :=
  judges_reportFlags _ ((judges_setAxis _ _).trans (judges_evaluateSample _ _))

theorem judges_sampleHeld (s : State) : Judges s (sampleHeld s) :=
  judges_reportFlags _ (judges_evaluateSample _ _)

theorem judges_recomputeAxes (s : State) : Judges s (recomputeAxes s) :=
  judges_setAxis _ _

/-! ## Beacons (Chapter 7) -/

theorem judges_putLamp (c : Lamp) (r : LampRecord) (s : State) : Judges s (putLamp c r s) :=
  judges_setBeacon s _
theorem judges_putZone (z : Zone) (r : ZoneRecord) (s : State) : Judges s (putZone z r s) :=
  judges_setBeacon s _

theorem judges_driveLamp (z : Zone) (c : Lamp) (s : State) : Judges s (driveLamp z c s) := by
  unfold driveLamp
  dsimp only
  split <;> exact judges_putLamp _ _ _

theorem judges_driveZone (z : Zone) (s : State) : Judges s (driveZone z s) :=
  judges_forEach (judges_driveLamp z) _ s

theorem judges_fixWorkingSet (z : Zone) (s : State) : Judges s (fixWorkingSet z s) :=
  (judges_putZone _ _ _).trans (judges_forEach (fun _ _ => judges_putLamp _ _ _) _ _)

theorem judges_restartZone (z : Zone) (p : Pattern) (s : State) :
    Judges s (restartZone z p s) :=
  ((judges_putZone _ _ _).trans (judges_fixWorkingSet _ _)).trans (judges_driveZone _ _)

theorem judges_tickZone (z : Zone) (s : State) : Judges s (tickZone z s) := by
  unfold tickZone
  dsimp only
  split
  · exact .refl s
  · split
    · exact ((judges_fixWorkingSet _ _).trans (judges_putZone _ _ _)).trans (judges_driveZone _ _)
    · exact (judges_putZone _ _ _).trans (judges_driveZone _ _)

theorem judges_setDemand (z : Zone) (p : Pattern) (s : State) : Judges s (setDemand z p s) := by
  unfold setDemand
  split
  · exact .refl s
  · split
    · exact judges_putZone _ _ _
    · exact judges_restartZone _ _ _

theorem judges_judgeDemands (b s : State) : Judges s (judgeDemands b s) := by
  unfold judgeDemands
  split
  · refine judges_forEach (fun z t => ?_) _ s
    split
    · exact judges_setDemand _ _ _
    · exact .refl t
  · exact .refl s

theorem judges_restartAll (s : State) : Judges s (restartAll s) :=
  judges_forEach (fun _ _ => judges_restartZone _ _ _) _ s

theorem judges_judgeHealth (s : State) : Judges s (judgeHealth s) := by
  unfold judgeHealth
  dsimp only
  split
  · exact judges_setBeacon _ _
  · exact (judges_setBeacon _ _).trans (judges_recomputePermits _)

theorem judges_failLamp (st : LampState) (c : Lamp) (s : State) : Judges s (failLamp st c s) :=
  (judges_putLamp _ _ _).trans (judges_raise _ _)

theorem judges_measureLamp (c : Lamp) (n : Nat) (s : State) : Judges s (measureLamp c n s) := by
  unfold measureLamp
  dsimp only
  split
  · exact judges_putLamp _ _ _
  · split
    · exact judges_failLamp _ _ _
    · exact judges_putLamp _ _ _

theorem judges_measureZone (n : PerLamp Nat) (z : Zone) (s : State) :
    Judges s (measureZone n z s) := by
  unfold measureZone
  split
  · exact .refl s
  · refine judges_forEach (fun c t => ?_) _ s
    split
    · exact judges_measureLamp _ _ _
    · exact .refl t

theorem judges_beaconTick (n : PerLamp Nat) (s : State) : Judges s (beaconTick n s) := by
  unfold beaconTick
  split
  · exact ((judges_forEach judges_tickZone _ s).trans
      (judges_forEach (judges_measureZone n) _ _)).trans (judges_judgeHealth _)
  · exact .refl s

theorem judges_lampShort (c : Lamp) (s : State) : Judges s (lampShort c s) := by
  unfold lampShort
  split
  · exact (judges_failLamp _ _ _).trans (judges_judgeHealth _)
  · exact .refl s

theorem judges_rearm (x : PerLamp Bool) (s : State) : Judges s (rearm x s) := by
  refine (judges_forEach (fun c t => ?_) _ s).trans (judges_judgeHealth _)
  split
  · unfold rearmLamp
    dsimp only
    split
    all_goals first | exact judges_putLamp _ _ _ | exact .refl t
  · exact .refl t

theorem judges_clearExclusions (b : PerLamp (Option Zone)) (s : State) :
    Judges s (clearExclusions b s) := judges_setBeacon s _

theorem judges_startLampTest (s : State) : Judges s (startLampTest s) := judges_setBeacon s _

theorem judges_lampTestMeasure (n : PerLamp Nat) (s : State) :
    Judges s (lampTestMeasure n s) := by
  unfold lampTestMeasure
  dsimp only
  split
  · exact .refl s
  split
  · refine ((judges_setBeacon _ _).trans (judges_forEach (fun c t => ?_) _ _)).trans
      (judges_judgeHealth _)
    unfold testLamp
    dsimp only
    split
    · split
      · exact judges_putLamp _ _ _
      · exact judges_failLamp _ _ _
    · exact .refl t
  · exact .refl s

theorem judges_dropLampTest (s : State) : Judges s (dropLampTest s) :=
  (judges_setBeacon s _).trans (judges_setBeacon _ _)

theorem judges_lampTestEnd (s : State) : Judges s (lampTestEnd s) := by
  unfold lampTestEnd
  split
  · exact (judges_dropLampTest s).trans (judges_restartAll _)
  · exact .refl s

theorem judges_lampTestExpiry (s : State) : Judges s (lampTestExpiry s) := by
  unfold lampTestExpiry
  split
  · split
    · exact judges_lampTestEnd s
    · exact .refl s
  · exact .refl s

theorem judges_beaconsDark (s : State) : Judges s (beaconsDark s) :=
  (judges_dropLampTest s).trans (judges_setBeacon _ _)

theorem judges_beaconMode (m n : Mode) (s : State) : Judges s (beaconMode m n s) := by
  unfold beaconMode
  split
  · exact judges_beaconsDark s
  · exact judges_beaconsDark s
  · exact judges_startLampTest s
  · split
    · exact (judges_setBeacon _ _).trans (judges_restartAll _)
    · exact judges_lampTestEnd s
  all_goals exact judges_lampTestEnd s

/-! ## The control period before its pump watch (R91) -/

theorem judges_setCoil (c : Coil) (s : State) : Judges s (setCoil c s) := judges_setDrive s _

theorem judges_setActuator (a : Axis) (s : State) : Judges s (setActuator a s) := by
  unfold setActuator
  split
  · exact (judges_setCoil _ _).trans (judges_setCoil _ _)
  · exact judges_setCoil _ _
  · exact judges_setCoil _ _
  all_goals exact judges_setDrive _ _

theorem judges_driveAxis (g : Grant) (s : State) : Judges s (driveAxis g s) := by
  unfold driveAxis
  dsimp only
  split
  · exact (judges_setDrive _ _).trans (reacts_retire _ _ _).judges
  · exact judges_setDrive _ _

theorem judges_axisPeriod (a : Axis) (s : State) : Judges s (axisPeriod a s) := by
  unfold axisPeriod
  dsimp only
  split
  · exact judges_setDrive _ _
  · split
    · exact ((judges_driveAxis _ _).trans (judges_setActuator _ _)).trans (judges_foldTravelStep _)
    · exact (judges_driveAxis _ _).trans (judges_setActuator _ _)

theorem judges_forceOutputs (s : State) : Judges s (forceOutputs s) :=
  (judges_setDrive s _).trans (judges_setPanel _ _)

theorem judges_axesPeriod (s : State) : Judges s (axesPeriod s) := by
  unfold axesPeriod
  split
  · exact judges_forEach judges_axisPeriod _ s
  · exact judges_forceOutputs s

theorem judges_ditherFlip (s : State) : Judges s (ditherFlip s) := by
  unfold ditherFlip
  dsimp only
  split
  · exact (judges_setDrive _ _).trans (judges_forEach judges_setCoil _ _)
  · exact .refl s

end Sys2Proof.Machine
end

