-- ==== Sys2Proof/Laws/Ports.lean ====
section
/-! SUPPORT. What the port operations do to a port record (R145), and what they leave alone: a port
operation keeps every sound port sound, and changes no input, hold, configuration or stored copy. -/

namespace Sys2Proof.Machine

/-! ## Sound port records -/

theorem PortKept.ok {p q : Port} (k : PortKept p q) (h : PortOk p) : PortOk q := by
  have e := k.eq
  have st := k.state
  refine ⟨?_, ?_, ?_, ?_, ?_, ?_⟩
  · rw [e]; exact h.room
  · rw [e]; exact h.held
  · rw [e]; exact h.frame
  · intro n; rw [st] at n; exact k.quiet n (h.queue n)
  · intro n; rw [st] at n; rw [e]; exact h.close n
  · intro n; rw [st] at n; rw [e]; exact h.rest n

theorem portOk_rest (r : Nat) : PortOk (Port.rest r) :=
  ⟨by simp [Port.rest], by simp [Port.rest], (fun _ h => by cases h), fun _ => rfl, fun _ => rfl,
    fun _ => ⟨rfl, rfl, rfl, rfl, rfl⟩⟩

theorem portOk_opened (r : Nat) : PortOk (openedPort r) :=
  ⟨by simp [openedPort, Port.rest], by simp [openedPort, Port.rest], (fun _ h => by cases h),
    fun _ => rfl, fun _ => rfl, fun h => by simp [openedPort] at h⟩

theorem portOk_silenced (r : Nat) : PortOk (silencedPort r) :=
  ⟨by simp [silencedPort, Port.rest], by simp [silencedPort, Port.rest], (fun _ h => by cases h),
    fun _ => rfl, fun _ => rfl, fun _ => ⟨rfl, rfl, rfl, rfl, rfl⟩⟩

/-- R151: the credit returned stays within the buffer's places. -/
theorem returnCredit_room {p : Port} (h : p.buffer.length + p.creditGiven ≤ bufferPlaces) :
    (returnCredit p).buffer.length + (returnCredit p).creditGiven ≤ bufferPlaces := by
  unfold returnCredit
  split
  · exact h
  · simp only [placesOwed, creditUnit]
    omega

/-- R151: returning credit changes the credit given and what was last sent, nothing else. -/
theorem returnCredit_eq (p : Port) :
    returnCredit p = { p with
      creditGiven := (returnCredit p).creditGiven, idle := (returnCredit p).idle
      lastSent := (returnCredit p).lastSent } := by
  unfold returnCredit
  split <;> rfl

theorem addByte_length {b : Byte} {f : Option Frame}
    (h : ∀ g, f = some g → g.bytes.length ≤ frameBytes) :
    (addByte b f).bytes.length ≤ frameBytes := by
  unfold addByte
  split
  · simp [frameBytes]
  · next g =>
    have := h g rfl
    split
    · exact this
    · split
      · exact this
      · simp; omega

theorem portOk_takeFromBuffer {m : MsgSymbol} {rest : List MsgSymbol} {p : Port}
    (h : PortOk p) (e : p.buffer = m :: rest) (u : p.state = .up) :
    PortOk (takeFromBuffer m rest p) := by
  have r := returnCredit_eq { p with buffer := rest }
  have room := h.room
  rw [e] at room
  simp only [List.length_cons] at room
  have hr := returnCredit_room (p := { p with buffer := rest }) (by simp only; omega)
  refine ⟨hr, ?_, ?_, ?_, ?_, ?_⟩
  · unfold takeFromBuffer; dsimp only; rw [r]; exact h.held
  · intro f hf
    unfold takeFromBuffer frameAfter at hf
    dsimp only at hf
    split at hf
    · cases hf; exact addByte_length h.frame
    · cases hf
    · cases hf
  all_goals
    intro n
    exfalso
    unfold takeFromBuffer at n
    dsimp only at n
    rw [r] at n
    simp [u] at n

theorem portOk_bufferSymbol {m : MsgSymbol} {p : Port} (h : PortOk p) (u : p.state = .up)
    (c : p.creditGiven ≠ 0) : PortOk (bufferSymbol m p) := by
  have room := h.room
  refine ⟨?_, h.held, h.frame, h.queue, h.close, ?_⟩
  · simp only [bufferSymbol, List.length_append, List.length_cons, List.length_nil]
    omega
  · intro n; simp [bufferSymbol, u] at n

theorem portOk_takeCredit {p : Port} (h : PortOk p) (u : p.state = .up)
    (c : creditOverflow p = false) : PortOk (takeCredit p) := by
  refine ⟨h.room, ?_, h.frame, h.queue, h.close, ?_⟩
  · simpa [creditOverflow, takeCredit] using c
  · intro n; simp [takeCredit, u] at n

theorem portOk_heard {p : Port} (h : PortOk p) : PortOk (heard p) :=
  ⟨h.room, h.held, h.frame, h.queue, h.close, h.rest⟩

theorem portOk_sendWithinCredit {n : Nat} {m : OutMsg} {p : Port} (h : PortOk p)
    (u : p.state = .up) : PortOk (sendWithinCredit n m p) := by
  unfold sendWithinCredit
  dsimp only
  split
  · exact h
  · exact ⟨h.room, Nat.le_trans (Nat.sub_le _ _) h.held, h.frame, h.queue, h.close,
      fun n => by simp [u] at n⟩

theorem sendWithinCredit_state (n : Nat) (m : OutMsg) (p : Port) :
    (sendWithinCredit n m p).state = p.state := by
  unfold sendWithinCredit
  dsimp only
  split <;> rfl

theorem sendOldest_state (n : Nat) (p : Port) : (sendOldest n p).state = p.state := by
  unfold sendOldest
  dsimp only
  split
  · rfl
  · split <;> exact sendWithinCredit_state _ _ _

theorem portOk_sendOldest {n : Nat} {p : Port} (h : PortOk p) (u : p.state = .up) :
    PortOk (sendOldest n p) := by
  unfold sendOldest
  dsimp only
  split
  · exact h
  · next m rest e =>
    have k := portOk_sendWithinCredit (n := n) (m := m) h u
    have st : (sendWithinCredit n m p).state = .up := by rw [sendWithinCredit_state, u]
    split
    · exact ⟨k.room, k.held, k.frame, fun n => absurd st n, fun n => absurd st n,
        fun n => by simp [st] at n⟩
    · exact k

theorem portOk_sendQueue {p : Port} (h : PortOk p) (u : p.state = .up) :
    PortOk (sendQueue p) ∧ (sendQueue p).state = .up := by
  unfold sendQueue
  generalize p.queue = q
  induction q generalizing p with
  | nil => exact ⟨h, u⟩
  | cons x xs ih => exact ih (portOk_sendOldest h u) (by rw [sendOldest_state, u])

theorem portOk_setClose {p : Port} (h : PortOk p) (u : p.state = .up) (c : Option ClosePending) :
    PortOk { p with close := c } :=
  ⟨h.room, h.held, h.frame, h.queue, fun n => absurd u n, fun n => by simp [u] at n⟩

/-! ## Operations on the state -/

/-- What a port operation leaves alone. -/
structure Moves (s t : State) : Prop where
  pending : t.pending = s.pending
  inputs : t.inputs = s.inputs
  hold : t.hold = s.hold
  config : t.config = s.config
  saved : t.store = { s.store with resetWaits := t.store.resetWaits }
  port : PortsOk s → PortsOk t

theorem Moves.refl (s : State) : Moves s s := ⟨rfl, rfl, rfl, rfl, rfl, id⟩

theorem Moves.trans {s t u : State} (h : Moves s t) (k : Moves t u) : Moves s u :=
  ⟨k.pending.trans h.pending, k.inputs.trans h.inputs, k.hold.trans h.hold,
    k.config.trans h.config, by rw [k.saved, h.saved], fun o => k.port (h.port o)⟩

theorem Judges.portsOk {s t : State} (h : Judges s t) (o : PortsOk s) : PortsOk t :=
  fun l => (h.port l).ok (o l)

theorem Judges.moves {s t : State} (h : Judges s t) : Moves s t :=
  ⟨h.pending, h.inputs, h.hold, h.config, by rw [h.store], h.portsOk⟩

theorem Reacts.moves {s t : State} (h : Reacts s t) : Moves s t := h.judges.moves

theorem moves_setMode (s : State) (v : ModeController) : Moves s (s.setMode v) :=
  ⟨rfl, rfl, rfl, rfl, rfl, id⟩

/-- A sound port put in place of another. -/
theorem moves_putPort {l : Link} {p : Port} {s : State}
    (h : PortsOk s → PortOk p) : Moves s (putPort l p s) :=
  ⟨rfl, rfl, rfl, rfl, rfl, fun o k => by
    rw [portOf_putPort]
    split
    · exact h o
    · exact o k⟩

theorem moves_forEach {α : Type} {f : α → State → State} (hf : ∀ x s, Moves s (f x s))
    (l : List α) (s : State) : Moves s (forEach f l s) := by
  unfold forEach
  induction l generalizing s with
  | nil => exact .refl s
  | cons x xs ih => exact (hf x s).trans (ih _)

theorem moves_enterOpening (l : Link) (s : State) : Moves s (enterOpening l s) :=
  moves_putPort fun _ => portOk_opened _

theorem moves_dropResetReply (l : Link) (s : State) : Moves s (dropResetReply l s) := by
  unfold dropResetReply
  split
  · exact ⟨rfl, rfl, rfl, rfl, rfl, id⟩
  · exact .refl s

theorem moves_reportLoss (l : Link) (s : State) : Moves s (reportLoss l s) :=
  ((moves_dropResetReply l s).trans (reacts_reactLinkLoss l _).moves).trans (reacts_raise _ _).moves

theorem moves_leavePort {l : Link} {p : Port} (h : PortOk p) (s : State) :
    Moves s (leavePort l p s) := by
  unfold leavePort
  split
  · exact (moves_putPort fun _ => h).trans (moves_reportLoss _ _)
  · exact moves_putPort fun _ => h

theorem moves_enterSilenced (l : Link) (s : State) : Moves s (enterSilenced l s) :=
  moves_leavePort (portOk_silenced _) s

theorem moves_enterDisabled (l : Link) (s : State) : Moves s (enterDisabled l s) :=
  moves_leavePort (portOk_rest _) s

theorem moves_linkError (l : Link) (s : State) : Moves s (linkError l s) := moves_enterSilenced l s

theorem moves_enterTarget (t : CloseTarget) (l : Link) (s : State) :
    Moves s (enterTarget t l s) := by
  unfold enterTarget
  split
  · exact moves_enterSilenced _ _
  · exact moves_enterDisabled _ _

theorem moves_commandedClose (t : CloseTarget) (l : Link) (s : State)
    (u : (portOf l s).state = .up) : Moves s (commandedClose t l s) := by
  unfold commandedClose
  dsimp only
  split
  · exact moves_putPort fun o => portOk_setClose (o l) u _
  · split
    · exact moves_enterTarget _ _ _
    · exact moves_putPort fun o => portOk_setClose (o l) u _

theorem moves_stopEnabled (l : Link) (s : State) : Moves s (stopEnabled l s) := by
  unfold stopEnabled
  split
  · next h => exact moves_commandedClose _ _ _ h
  · exact moves_enterDisabled _ _
  · exact moves_enterDisabled _ _
  · exact .refl s

theorem moves_judgePorts (b s : State) : Moves s (judgePorts b s) := by
  refine moves_forEach (fun l t => ?_) _ s
  unfold judgePort startEnabled
  split
  · split
    · exact moves_enterOpening _ _
    · exact .refl t
  · exact moves_stopEnabled _ _
  · exact .refl t

theorem moves_modePorts (m : Mode) (b s : State) : Moves s (modePorts m b s) := by
  unfold modePorts closePorts
  split
  · exact moves_forEach moves_stopEnabled _ s
  · exact moves_judgePorts b s

/-- R147, R155: all that `stopEnabled` can do: nothing to a DISABLED port, an entry into DISABLED, or a
commanded close of an UP port. -/
theorem stopEnabled_cases (l : Link) (s : State) :
    stopEnabled l s = s ∧ (portOf l s).state = .disabled ∨
      stopEnabled l s = enterDisabled l s ∧
        ((portOf l s).state = .opening ∨ (portOf l s).state = .silenced) ∨
      stopEnabled l s = commandedClose .disabled l s ∧ (portOf l s).state = .up := by
  unfold stopEnabled
  split <;> simp_all

theorem moves_closeForReset (l : Link) (s : State) : Moves s (closeForReset l s) := by
  unfold closeForReset
  split
  · next h => exact moves_commandedClose _ _ _ h
  · exact moves_enterSilenced _ _
  · exact .refl s
  · exact .refl s

theorem moves_resetLink (l : Link) (s : State) : Moves s (resetLink l s) := by
  unfold resetLink
  dsimp only
  split
  · exact .refl s
  · exact moves_enterSilenced _ _
  · next h => exact moves_commandedClose _ _ _ h
  · exact moves_putPort fun o =>
      ⟨(o l).room, (o l).held, (o l).frame, (o l).queue, (o l).close, (o l).rest⟩

theorem moves_silenceExpiry (l : Link) (s : State) : Moves s (silenceExpiry l s) := by
  unfold silenceExpiry
  split
  · exact moves_linkError _ _
  · exact .refl s

theorem moves_heldLowExpiry (l : Link) (s : State) : Moves s (heldLowExpiry l s) := by
  unfold heldLowExpiry
  split
  · split
    · exact moves_enterOpening _ _
    · exact moves_enterDisabled _ _
  · exact .refl s

theorem moves_closeExpiry (l : Link) (s : State) : Moves s (closeExpiry l s) := by
  unfold closeExpiry
  split
  · split
    · exact moves_enterTarget _ _ _
    · exact .refl s
  · exact .refl s

theorem moves_closeIfEmpty (l : Link) (s : State) : Moves s (closeIfEmpty l s) := by
  unfold closeIfEmpty
  dsimp only
  split
  · split
    · exact moves_enterTarget _ _ _
    · exact .refl s
  · exact .refl s

end Sys2Proof.Machine
end

