-- ==== Sys2Proof/Laws/Holds.lean ====
section
/-! SUPPORT. Allocation of numbers (R3, R36) and what placing and retiring a hold does to the hold
table (R35 to R37). -/

namespace Sys2Proof.Machine

/-! ## Allocation -/

/-- The number an allocation counts from: 255 is followed by 1. -/
def allocBase (last : Nat) : Nat := if last ≥ 255 then 0 else last

theorem allocBase_lt (last : Nat) : allocBase last < 255 := by
  unfold allocBase; split <;> omega

theorem allocate_next (last : Nat) :
    (if last ≥ 255 then 1 else last + 1) = allocBase last + 1 := by
  unfold allocBase; split <;> rfl

/-- One round of an allocation. -/
theorem allocate_succ (live : List Nat) (fuel last : Nat) :
    allocate live (fuel + 1) last =
      if allocBase last + 1 ∈ live then allocate live fuel (allocBase last + 1)
      else allocBase last + 1 := by
  rw [allocate, allocate_next]
  simp only [List.contains_iff_mem]

theorem allocBase_next (last i : Nat) :
    (allocBase (allocBase last + 1) + i) % 255 = (allocBase last + (i + 1)) % 255 := by
  have b := allocBase_lt last
  generalize allocBase last = m at *
  unfold allocBase
  split <;> omega

theorem allocate_cases (live : List Nat) (fuel last : Nat) :
    (allocate live (fuel + 1) last ∉ live ∧ 1 ≤ allocate live (fuel + 1) last ∧
      allocate live (fuel + 1) last ≤ 255) ∨
    ∀ i, i < fuel + 1 → (allocBase last + i) % 255 + 1 ∈ live := by
  have b := allocBase_lt last
  induction fuel generalizing last with
  | zero =>
    rw [allocate_succ]
    by_cases h : allocBase last + 1 ∈ live
    · right
      intro i hi
      have : i = 0 := by omega
      subst this
      simpa [Nat.mod_eq_of_lt b] using h
    · left
      rw [if_neg h]
      exact ⟨h, by omega, by omega⟩
  | succ fuel ih =>
    rw [allocate_succ]
    by_cases h : allocBase last + 1 ∈ live
    · rw [if_pos h]
      rcases ih (allocBase last + 1) (allocBase_lt _) with g | g
      · exact .inl g
      · right
        intro i hi
        cases i with
        | zero => simpa [Nat.mod_eq_of_lt b] using h
        | succ i =>
          have := g i (by omega)
          rwa [allocBase_next] at this
    · left
      rw [if_neg h]
      exact ⟨h, by omega, by omega⟩

/-- R3, R36: with fewer than 255 numbers live, the number allocated is free and within 1..255. -/
theorem allocate_fresh (live : List Nat) (last : Nat) (h : live.length < 255) :
    allocate live 255 last ∉ live ∧ 1 ≤ allocate live 255 last ∧ allocate live 255 last ≤ 255 := by
  rcases allocate_cases live 254 last with g | g
  · exact g
  · exfalso
    have sub : List.range' 1 255 ⊆ live := by
      intro x hx
      rw [List.mem_range'_1] at hx
      have b := allocBase_lt last
      have := g ((x - 1 + 255 - allocBase last) % 255) (Nat.mod_lt _ (by decide))
      have k : (allocBase last + (x - 1 + 255 - allocBase last) % 255) % 255 + 1 = x := by omega
      rwa [k] at this
    have := (List.nodup_range' (s := 1) (n := 255)).subperm sub |>.length_le
    simp at this
    omega

/-! ## The hold table -/

@[simp] theorem raise_hold (f : NoticeFlag) (s : State) : (raise f s).hold = s.hold := rfl

/-- R37: placing a hold adds one record at the end, with a fresh id. -/
theorem placeHold_hold (k : HoldKind) (src : HoldSource) (x : PerAxis Bool) (s : State) :
    (placeHold k src x s).hold =
      { s.hold with
        table := s.hold.table ++ [⟨allocate (s.hold.table.map (·.id)) 255 s.hold.lastId, k, src, x⟩]
        lastId := allocate (s.hold.table.map (·.id)) 255 s.hold.lastId } := by
  unfold placeHold
  dsimp only
  rw [raise_hold]
  split
  · rw [(reacts_reactLockout _ _).hold]; rfl
  · rw [(reacts_reactStop _ _).hold]; rfl

/-- R37: placing a hold changes the hold table and, as a reaction, the grants; nothing else. -/
theorem placeHold_reacts (k : HoldKind) (src : HoldSource) (x : PerAxis Bool) (s : State) :
    Reacts (s.setHold (placeHold k src x s).hold) (placeHold k src x s) := by
  rw [placeHold_hold]
  unfold placeHold
  dsimp only
  split
  · exact (reacts_reactLockout _ _).trans (reacts_raise _ _)
  · exact (reacts_reactStop _ _).trans (reacts_raise _ _)

/-- R37: retiring a hold takes its record out and raises HOLD. -/
theorem retireHold_reacts (id : Nat) (s : State) :
    Reacts (s.setHold { s.hold with table := s.hold.table.filter fun h => h.id != id })
      (retireHold id s) := reacts_raise _ _

theorem table_length_of_holdsOk {s : State} (h : HoldsOk s) : s.hold.table.length ≤ 24 := by
  have k := List.length_eq_length_filter_add (l := s.hold.table) fromStation
  have := h.stations
  have := h.line
  simp only [stationHolds, maxStationHolds] at *
  omega

/-- A record from a free place keeps the table sound. -/
theorem holdsOk_append {s : State} (h : HoldsOk s) (k : HoldKind) (src : HoldSource)
    (x : PerAxis Bool)
    (room : (match src with
      | .station _ => stationHolds s < maxStationHolds
      | .line => lineStopLive s = false)) : HoldsOk (placeHold k src x s) := by
  have len : (s.hold.table.map (·.id)).length < 255 := by
    rw [List.length_map]; have := table_length_of_holdsOk h; omega
  have fresh := allocate_fresh _ s.hold.lastId len
  have e := congrArg HoldTable.table (placeHold_hold k src x s)
  refine ⟨?_, ?_, ?_, ?_⟩
  · unfold stationHolds
    rw [e]
    have := h.stations
    unfold stationHolds at this
    cases src with
    | station l =>
      simp only [stationHolds] at room
      simp only [List.filter_append, List.length_append]
      have : ∀ r : Hold, ([r].filter fromStation).length ≤ 1 := fun r =>
        Nat.le_trans (List.length_filter_le _ _) (by simp)
      have := this ⟨allocate (s.hold.table.map (·.id)) 255 s.hold.lastId, k, .station l, x⟩
      omega
    | line => simpa [List.filter_append, fromStation] using this
  · rw [e]
    have := h.line
    cases src with
    | station l => simpa [List.filter_append, fromStation] using this
    | line =>
      have z : (s.hold.table.filter fun h => !fromStation h) = [] := by
        simpa [lineStopLive, List.filter_eq_nil_iff] using room
      rw [List.filter_append, z]
      simp [fromStation]
  · rw [e, List.map_append]
    refine List.Nodup.append h.distinct (by simp) ?_
    intro a ha hb
    simp only [List.map_cons, List.map_nil, List.mem_singleton] at hb
    exact fresh.1 (hb ▸ ha)
  · rw [e]
    intro r hr
    rcases List.mem_append.mp hr with hr | hr
    · exact h.range r hr
    · simp only [List.mem_singleton] at hr
      subst hr
      exact fresh.2

/-- A record's retirement keeps the table sound. -/
theorem holdsOk_retire {s : State} (h : HoldsOk s) (id : Nat) : HoldsOk (retireHold id s) := by
  have e : (retireHold id s).hold.table = s.hold.table.filter fun r => r.id != id := rfl
  have sub : (s.hold.table.filter fun r => r.id != id).Sublist s.hold.table :=
    List.filter_sublist
  refine ⟨?_, ?_, ?_, ?_⟩
  · unfold stationHolds
    rw [e]
    exact Nat.le_trans (sub.filter _).length_le h.stations
  · rw [e]
    exact Nat.le_trans (sub.filter _).length_le h.line
  · rw [e]
    exact h.distinct.sublist (sub.map _)
  · rw [e]
    exact fun r hr => h.range r (sub.subset hr)

/-- The hold table's soundness rests on the table alone. -/
theorem holdsOk_of_table {s t : State} (e : t.hold.table = s.hold.table) (h : HoldsOk s) :
    HoldsOk t :=
  ⟨by unfold stationHolds; rw [e]; exact h.stations, by rw [e]; exact h.line,
    by rw [e]; exact h.distinct, by rw [e]; exact h.range⟩

end Sys2Proof.Machine
end

