-- ==== Sys2Proof/Laws/Modes.lean ====
section
/-! SUPPORT. What a mode change and the mode controller's events leave alone: a mode change changes
no hold, no input, no configuration and no stored copy and keeps every port sound; the other events
keep the queue of commands, the hold table's soundness and every port's. -/

namespace Sys2Proof.Machine

/-! ## Mode changes -/

theorem moves_forceFor (m : Mode) (s : State) : Moves s (forceFor m s) := by
  unfold forceFor
  split
  · exact .refl s
  · exact (judges_forceOutputs s).moves

theorem moves_noticeMode (m n : Mode) (s : State) : Moves s (noticeMode m n s) := by
  unfold noticeMode
  split
  · exact .refl s
  · exact (reacts_raise _ _).moves

/-- R169: what a mode change leaves alone. -/
theorem moves_changeMode (m : Mode) (t : Option Nat) (s : State) : Moves s (changeMode m t s) :=
  (((((moves_setMode s _).trans (reacts_reactMode _ _).moves).trans (moves_forceFor _ _)).trans
    (judges_recomputePermits _).moves).trans (judges_beaconMode _ _ _).moves).trans
    ((moves_modePorts _ _ _).trans (moves_noticeMode _ _ _))

theorem moves_stopDrive (s : State) : Moves s (stopDrive s) := (judges_setDrive s _).moves

theorem moves_offBlocks (s : State) : Moves s (offBlocks s) :=
  (((moves_stopDrive s).trans (judges_setAxis _ _).moves).trans
    (judges_setPermit _ _).moves).trans (moves_setMode _ _)

theorem moves_enterOff (s : State) : Moves s (enterOff s) :=
  ((moves_changeMode _ _ s).trans (moves_offBlocks _)).trans (judges_judgeAttention _).moves

theorem moves_enterClosedown (s : State) : Moves s (enterClosedown s) := by
  unfold enterClosedown
  dsimp only
  split
  · exact (moves_changeMode _ _ s).trans (moves_enterOff _)
  · exact moves_changeMode _ _ s

theorem moves_enterCheck (s : State) : Moves s (enterCheck s) := moves_changeMode _ _ s
theorem moves_enterRun (s : State) : Moves s (enterRun s) := moves_changeMode _ _ s
theorem moves_enterDefer (s : State) : Moves s (enterDefer s) := moves_changeMode _ _ s
theorem moves_enterRetry (s : State) : Moves s (enterRetry s) :=
  (moves_setMode s _).trans (moves_changeMode _ _ _)

theorem moves_enterBarred (s : State) : Moves s (enterBarred s) := by
  unfold enterBarred
  dsimp only
  split
  · exact moves_changeMode _ _ s
  · exact (moves_changeMode _ _ s).trans (moves_enterClosedown _)

theorem moves_leaveByWindow (s : State) : Moves s (leaveByWindow s) := by
  unfold leaveByWindow
  split
  · exact moves_enterClosedown s
  · split
    · exact moves_enterRun s
    · exact moves_enterDefer s

theorem moves_wakeExpiry (s : State) : Moves s (wakeExpiry s) := by
  unfold wakeExpiry; split
  · exact moves_enterCheck s
  · exact .refl s

theorem moves_checkExpiry (s : State) : Moves s (checkExpiry s) := by
  unfold checkExpiry; split
  · exact moves_leaveByWindow s
  · exact .refl s

theorem moves_retryExpiry (s : State) : Moves s (retryExpiry s) := by
  unfold retryExpiry; split
  · exact moves_leaveByWindow s
  · exact .refl s

theorem moves_closedownExpiry (s : State) : Moves s (closedownExpiry s) := by
  unfold closedownExpiry; split
  · exact moves_enterOff s
  · exact .refl s

theorem moves_enterPartFault (k : FaultKind) (s : State) : Moves s (enterPartFault k s) :=
  (judges_enterFault _ s).moves

theorem moves_pumpOvercurrent (s : State) : Moves s (pumpOvercurrent s) := by
  unfold pumpOvercurrent reportOvercurrent
  dsimp only
  split
  · split
    · exact ((judges_setDrive _ _).moves.trans (moves_enterPartFault _ _)).trans (moves_enterRetry _)
    · exact ((judges_setDrive _ _).moves.trans (moves_enterPartFault _ _)).trans
        (moves_enterBarred _)
  · exact .refl s

theorem moves_takeTrips (l : List FaultKind) (s : State) : Moves s (takeTrips l s) := by
  have h (s : State) : Moves s (if l = [] then s else enterDefer (forEach enterPartFault l s)) := by
    split
    · exact .refl s
    · exact (moves_forEach moves_enterPartFault _ _).trans (moves_enterDefer _)
  unfold takeTrips
  split
  · exact h s
  · exact h s
  all_goals exact .refl s

theorem moves_lowTrip (s : State) : Moves s (lowTrip s) :=
  (moves_setMode s _).trans (moves_takeTrips _ _)

theorem moves_highTrip (s : State) : Moves s (highTrip s) :=
  (moves_setMode s _).trans (moves_takeTrips _ _)

theorem moves_returnComplete (s : State) : Moves s (returnComplete s) := by
  unfold returnComplete
  dsimp only
  split
  · split
    · exact (moves_setMode s _).trans (moves_enterRun _)
    · exact (moves_setMode s _).trans (moves_enterClosedown _)
  · exact .refl s

theorem moves_supplySample (v : Nat) (t : Int) (s : State) : Moves s (supplySample v t s) := by
  unfold supplySample
  dsimp only
  split
  · split
    · exact (((moves_setMode _ _).trans (moves_setMode _ _)).trans (moves_takeTrips _ _)).trans
        (moves_returnComplete _)
    · exact ((moves_setMode _ _).trans (moves_setMode _ _)).trans (moves_takeTrips _ _)
  · exact .refl s

theorem moves_pumpWatch (n : Nat) (s : State) : Moves s (pumpWatch n s) := by
  unfold pumpWatch
  dsimp only
  split
  · split
    · exact moves_pumpOvercurrent s
    · exact (judges_setDrive _ _).moves
  · exact (judges_setDrive _ _).moves

/-- R91: what a control period leaves alone. -/
theorem moves_controlPeriod (c : PeriodCurrents) (s : State) : Moves s (controlPeriod c s) := by
  unfold controlPeriod reportLiftOutput
  dsimp only
  split
  · exact ((((judges_axesPeriod s).trans
      (judges_forEach (fun m s => judges_panelPeriod m _ s) _ _)).trans (judges_setAxis _ _)).trans
      (judges_forEach (fun k s => judges_coilWatchStep k _ s) _ _)).moves.trans
      ((moves_pumpWatch _ _).trans (judges_takeDriveItems _).moves)
  · exact .refl s

theorem moves_permitIgn (b : Bool) (s : State) : Moves s (permitIgn b s) := by
  unfold permitIgn
  split
  · exact .refl s
  · exact ((judges_setPermit _ _).trans (judges_recomputePermits _)).moves

theorem moves_modeIgnOff (s : State) : Moves s (modeIgnOff s) := by
  unfold modeIgnOff
  split
  all_goals first | exact .refl s | exact moves_enterClosedown s

theorem moves_ignOff (o : IgnOrder) (s : State) : Moves s (ignOff o s) := by
  unfold ignOff
  dsimp only
  split
  · split
    · exact ((moves_setMode s _).trans (moves_permitIgn _ _)).trans (moves_modeIgnOff _)
    · exact ((moves_setMode s _).trans (moves_modeIgnOff _)).trans (moves_permitIgn _ _)
  · exact .refl s

/-- R175, R134: what the close of an event leaves alone. -/
theorem moves_conclude (b s : State) : Moves s (conclude b s) := by
  unfold conclude
  split
  · exact (moves_enterOff s).trans (judges_judgeDemands _ _).moves
  · exact (judges_judgeDemands _ _).moves

/-! ## What every event keeps -/

/-- The queue of commands as it is, the hold table sound, every port sound. -/
structure Keeps (s t : State) : Prop where
  pending : t.pending = s.pending
  holds : HoldsOk s → HoldsOk t
  ports : PortsOk s → PortsOk t

theorem Keeps.refl (s : State) : Keeps s s := ⟨rfl, id, id⟩

theorem Keeps.trans {s t u : State} (h : Keeps s t) (k : Keeps t u) : Keeps s u :=
  ⟨k.pending.trans h.pending, fun o => k.holds (h.holds o), fun o => k.ports (h.ports o)⟩

theorem Moves.keeps {s t : State} (h : Moves s t) : Keeps s t :=
  ⟨h.pending, holdsOk_of_table (congrArg HoldTable.table h.hold), h.port⟩

theorem Judges.keeps {s t : State} (h : Judges s t) : Keeps s t := h.moves.keeps
theorem Reacts.keeps {s t : State} (h : Reacts s t) : Keeps s t := h.moves.keeps

theorem keeps_setInputs (s : State) (v : Inputs) : Keeps s (s.setInputs v) :=
  ⟨rfl, holdsOk_of_table rfl, fun o => o⟩
theorem keeps_setConfig (s : State) (v : WorkingConfig) : Keeps s (s.setConfig v) :=
  ⟨rfl, holdsOk_of_table rfl, fun o => o⟩
theorem keeps_setStore (s : State) (v : ConfigStore) : Keeps s (s.setStore v) :=
  ⟨rfl, holdsOk_of_table rfl, fun o => o⟩

theorem keeps_setLine (b : Bool) (s : State) : Keeps s (setLine b s) :=
  ⟨rfl, holdsOk_of_table rfl, fun o => o⟩

theorem keeps_placeHold (k : HoldKind) (src : HoldSource) (x : PerAxis Bool) (s : State)
    (room : HoldsOk s → (match src with
      | .station _ => stationHolds s < maxStationHolds
      | .line => lineStopLive s = false)) : Keeps s (placeHold k src x s) :=
  ⟨(placeHold_reacts k src x s).pending, fun o => holdsOk_append o k src x (room o),
    fun o => (placeHold_reacts k src x s).judges.portsOk o⟩

theorem keeps_retireHold (id : Nat) (s : State) : Keeps s (retireHold id s) :=
  ⟨rfl, fun o => holdsOk_retire o id, fun o => (retireHold_reacts id s).judges.portsOk o⟩

theorem keeps_placeLineStop (s : State) : Keeps s (placeLineStop s) := by
  unfold placeLineStop
  split
  · exact .refl s
  · next h => exact keeps_placeHold _ _ _ _ fun _ => by simpa using h

theorem keeps_estopAssert (s : State) : Keeps s (estopAssert s) := by
  unfold estopAssert
  dsimp only
  split
  · exact keeps_setInputs _ _
  · exact ((keeps_setInputs _ _).trans (keeps_setLine _ _)).trans (keeps_placeLineStop _)

theorem keeps_estopRelease (s : State) : Keeps s (estopRelease s) := by
  unfold estopRelease
  dsimp only
  split
  · exact keeps_setInputs _ _
  · exact (keeps_setInputs _ _).trans (keeps_setLine _ _)

/-! ## WAKE and resets -/

theorem keeps_wakeHolds (s : State) : Keeps s (wakeHolds s) := by
  unfold wakeHolds
  dsimp only
  split
  · exact (keeps_setLine _ _).trans (keeps_placeLineStop _)
  · exact keeps_setLine _ _

theorem judges_wakePanel (s : State) : Judges s (wakePanel s) := by
  have door (d : Door) (p : State → PanelRecord) (q : LatchRecord) (t : State) :
      Judges t (putLatch d q (putPanel (motorOfDoor d) (p t) t)) :=
    (judges_putPanel _ _ _).trans (judges_putLatch _ _ _)
  unfold wakePanel
  dsimp only
  exact (((judges_putPanel _ _ _).trans (judges_setPanel _ _)).trans
    ((judges_putPanel _ _ _).trans (judges_putLatch _ _ _))).trans
    ((judges_putPanel _ _ _).trans (judges_putLatch _ _ _))

theorem keeps_wakeBlocks (b : PerLamp (Option Zone)) (s : State) : Keeps s (wakeBlocks b s) := by
  unfold wakeBlocks wakeDrive wakePermits wakeAxes wakeBeacons
  dsimp only
  exact (((((((judges_setAxis s _).trans (judges_setPermit _ _)).keeps.trans
    (keeps_wakeHolds _)).trans (judges_wakePanel _).keeps).trans
    ((judges_setDrive _ _).trans (judges_takeDriveItems _)).keeps).trans
    (((judges_clearExclusions _ _).trans (judges_judgeHealth _)).trans
      ((judges_takeSample _).trans (judges_samplePressure _))).keeps).trans
    (judges_recomputePermits _).keeps).trans (judges_judgeAttention _).keeps

theorem keeps_loadConfig (s : State) : Keeps s (loadConfig s) := by
  unfold loadConfig
  split
  · exact keeps_setConfig _ _
  · exact (keeps_setConfig _ _).trans (reacts_raise _ _).keeps

theorem keeps_finishWake (s : State) : Keeps s (finishWake s) := by
  unfold finishWake
  dsimp only
  split
  · exact (((moves_setMode s _).keeps.trans (keeps_loadConfig _)).trans (keeps_wakeBlocks _ _)).trans
      (moves_setMode _ _).keeps
  · exact ((moves_setMode s _).keeps.trans (keeps_loadConfig _)).trans (keeps_wakeBlocks _ _)

theorem moves_readStraps (s : State) : Moves s (readStraps s) := by
  unfold readStraps
  dsimp only
  split
  · exact ((judges_setAxis _ _).moves.trans (moves_setMode _ _)).trans (reacts_raise _ _).moves
  · exact (judges_setAxis _ _).moves.trans (moves_setMode _ _)

theorem keeps_enterWake (s : State) : Keeps s (enterWake s) := by
  have h : Moves s (readStraps (wakeSupply (changeMode .wake none s))) :=
    ((moves_changeMode _ _ s).trans (moves_setMode _ _)).trans (moves_readStraps _)
  unfold enterWake
  dsimp only
  split
  · exact (h.trans (moves_setMode _ _)).keeps
  · exact h.keeps.trans (keeps_finishWake _)

theorem keeps_ignOn (p : Straps) (s : State) : Keeps s (ignOn p s) := by
  unfold ignOn modeIgnOn
  dsimp only
  split
  · exact keeps_setInputs _ _
  · have h := (keeps_setInputs s { s.inputs with straps := p }).trans
      ((moves_setMode _ { (s.setInputs { s.inputs with straps := p }).mode with ign := true }).trans
        (moves_permitIgn true _)).keeps
    split
    · exact h.trans (keeps_enterWake _)
    · exact h.trans (moves_enterCheck _).keeps
    all_goals exact h

theorem moves_resetGrants (s : State) : Moves s (resetGrants s) :=
  (((reacts_cutGrants _ _ s).judges.trans (judges_setDrive _ _)).trans (judges_setAxis _ _)).moves

theorem keeps_resetConfig (s : State) : Keeps s (resetConfig s) := by
  unfold resetConfig
  dsimp only
  have h := (keeps_loadConfig s).trans
    ((judges_recomputeAxes _).trans (judges_recomputeSpeed _)).keeps
  split
  · exact (h.trans ((judges_judgeDeployMove _).trans (judges_recomputePermits _)).keeps).trans
      (moves_judgePorts _ _).keeps
  · exact (h.trans (judges_recomputePermits _).keeps).trans (moves_judgePorts _ _).keeps

theorem moves_resetClear (b : PerLamp (Option Zone)) (s : State) : Moves s (resetClear b s) := by
  unfold resetClear clearFaults
  dsimp only
  exact (((((judges_clearExclusions _ _).trans (judges_judgeHealth _)).trans
    (judges_setAxis _ _)).moves.trans (moves_setMode _ _)).trans (judges_setNotice _ _).moves).trans
    (judges_judgeAttention _).moves

theorem keeps_resetLevel1 (s : State) : Keeps s (resetLevel1 s) :=
  ((((moves_resetGrants s).keeps.trans (keeps_resetConfig _)).trans
    (moves_forEach moves_closeForReset _ _).keeps).trans (moves_resetClear _ _).keeps).trans
    (moves_enterCheck _).keeps

theorem moves_resetLevel2 (s : State) : Moves s (resetLevel2 s) :=
  (moves_resetGrants s).trans (judges_setAxis _ _).moves

end Sys2Proof.Machine
end

