-- ==== Sys2Proof/Laws/Messages.lean ====
section
/-! SUPPORT. What the station messages, framing and transmission keep: whatever a message is, the
queue of commands stays as it is, the hold table stays sound, and every port stays sound. A query or
a refusal changes nothing. -/

namespace Sys2Proof.Machine

/-! ## Handlers -/

theorem reacts_takeRequest (l : Link) (a : Axis) (n : Sense) (k : RunKind) (d : Nat) (s : State) :
    Reacts s (takeRequest l a n k d s).1 := by
  unfold takeRequest
  dsimp only
  split
  · exact .refl s
  · exact reacts_holdSlot _ _
  · exact reacts_queueGrant _ _
  · exact (reacts_queueGrant _ _).trans (reacts_ease _ _ _)
  · exact (reacts_retire _ _ _).trans (reacts_queueGrant _ _)

/-- R5: RQGRANT acts as a reaction. -/
theorem reacts_handleRqgrant (l : Link) (a : Axis) (n : Sense) (k : RunKind) (d : Nat)
    (s : State) : Reacts s (handleRqgrant l a n k d s).1 := by
  unfold handleRqgrant
  split
  · exact .refl s
  · exact reacts_takeRequest _ _ _ _ _ s

theorem reacts_handleKeep (l : Link) (h : Nat) (a : Axis) (n : Sense) (d : Nat) (s : State) :
    Reacts s (handleKeep l h a n d s).1 := by
  unfold handleKeep keepGrant refuse
  dsimp only
  split
  · exact .refl s
  · split
    all_goals first | exact .refl s | exact reacts_putGrant _ _

theorem reacts_releaseGrant (g : Grant) (s : State) : Reacts s (releaseGrant g s).1 := by
  unfold releaseGrant refuse
  dsimp only
  split
  · exact .refl s
  · exact reacts_retire g .released s
  · exact reacts_ease g .released s
  · exact reacts_ease g .released s

theorem reacts_handleLtgrant (l : Link) (h : Nat) (a : Axis) (n : Sense) (s : State) :
    Reacts s (handleLtgrant l h a n s).1 := by
  unfold handleLtgrant refuse
  split
  · exact .refl s
  · exact reacts_releaseGrant _ s

theorem reacts_handleRsgrant (l : Link) (h : Nat) (a : Axis) (n : Sense) (s : State) :
    Reacts s (handleRsgrant l h a n s).1 := by
  unfold handleRsgrant resumePaused refuse
  dsimp only
  split
  · exact .refl s
  · split
    all_goals first | exact .refl s | exact reacts_resumeGrant _ _

/-- R19: QGRANTS changes no state. -/
theorem handleQgrants_state (n : Nat) (s : State) : (handleQgrants n s).1 = s := by
  unfold handleQgrants refuse; split <;> rfl

/-- R48: QHOLDS changes no state. -/
theorem handleQholds_state (n : Nat) (s : State) : (handleQholds n s).1 = s := by
  unfold handleQholds refuse; split <;> rfl

/-- R70: QAXES changes no state. -/
theorem handleQaxes_state (a : Axis) (s : State) : (handleQaxes a s).1 = s := by
  unfold handleQaxes refuse; split <;> rfl

/-- R165: CFGRD changes no state. -/
theorem handleCfgrd_state (i : Nat) (s : State) : (handleCfgrd i s).1 = s := by
  unfold handleCfgrd refuse; split <;> rfl

theorem keeps_placeForStation (k : HoldKind) (l : Link) (x : PerAxis Bool) (s : State)
    (h : stationHolds s < maxStationHolds) : Keeps s (placeForStation k l x s).1 :=
  keeps_placeHold _ _ _ _ fun _ => h

theorem keeps_handleStopz (l : Link) (z : PerZone Bool) (s : State) :
    Keeps s (handleStopz l z s).1 := by
  unfold handleStopz refuse
  split
  · exact .refl s
  · split
    · exact .refl s
    · split
      · exact .refl s
      · next h => exact keeps_placeForStation _ _ _ _ (by omega)

theorem keeps_handleClrstop (l : Link) (id : Nat) (s : State) :
    Keeps s (handleClrstop l id s).1 := by
  unfold handleClrstop clearStop retireForStation refuse
  repeat' split
  all_goals first | exact .refl s | exact keeps_retireHold _ _

theorem keeps_handleLockt (l : Link) (t : Nat) (x : PerAxis Bool) (s : State) :
    Keeps s (handleLockt l t x s).1 := by
  unfold handleLockt refuse
  split
  · exact .refl s
  · split
    · exact .refl s
    · split
      · exact .refl s
      · split
        · exact .refl s
        · split
          · exact .refl s
          · next h => exact keeps_placeForStation _ _ _ _ (by omega)

theorem keeps_handleUlockt (l : Link) (id t : Nat) (s : State) :
    Keeps s (handleUlockt l id t s).1 := by
  unfold handleUlockt retireForStation refuse
  repeat' split
  all_goals first | exact .refl s | exact keeps_retireHold _ _

theorem keeps_handleFreelock (id : Nat) (s : State) : Keeps s (handleFreelock id s).1 := by
  unfold handleFreelock refuse
  repeat' split
  all_goals first | exact .refl s | exact keeps_retireHold _ _

theorem judges_handleAckflt (l : Link) (a : Axis) (s : State) :
    Judges s (handleAckflt l a s).1 := by
  unfold handleAckflt refuse refuseWith
  repeat' split
  all_goals first | exact .refl s | exact judges_setAxis _ _

theorem keeps_writeLampZone (c : Lamp) (z : Option Zone) (s : State) :
    Keeps s (writeLampZone c z s) := by
  unfold writeLampZone
  dsimp only
  exact (keeps_setConfig _ _).trans ((judges_putLamp _ _ _).trans (judges_judgeHealth _)).keeps

theorem keeps_takeWrite (i : Item) (v : Int) (s : State) : Keeps s (takeWrite i v s) := by
  unfold takeWrite
  dsimp only
  split
  · exact keeps_writeLampZone _ _ _
  · exact (keeps_setConfig _ _).trans (moves_judgePorts _ _).keeps
  · have k := keeps_setConfig s (writeItem s.config .pulsesPerKm v)
    unfold afterSpeed
    split
    · exact k.trans ((judges_recomputeSpeed _).trans (judges_recomputePermits _)).keeps
    · exact k.trans (((judges_recomputeSpeed _).trans (judges_permitEvent _)).trans
        (judges_recomputePermits _)).keeps
  · exact (keeps_setConfig _ _).trans (judges_permitEvent _).keeps
  · split
    · exact (keeps_setConfig _ _).trans (judges_sampleHeld _).keeps
    · split
      · exact (keeps_setConfig _ _).trans (judges_recomputePermits _).keeps
      · exact keeps_setConfig _ _

theorem keeps_handleCfgwr (i : Nat) (v : Int) (s : State) : Keeps s (handleCfgwr i v s).1 := by
  unfold handleCfgwr refuse
  dsimp only
  repeat' split
  all_goals first | exact .refl s | exact keeps_takeWrite _ _ _

theorem keeps_takeBands (l : List Band) (s : State) : Keeps s (takeBands l s) := by
  unfold takeBands
  exact (keeps_setConfig _ _).trans
    ((judges_sampleHeld _).trans (judges_recomputePermits _)).keeps

theorem keeps_handleCfgband (l : List Band) (s : State) : Keeps s (handleCfgband l s).1 := by
  unfold handleCfgband
  split
  · exact .refl s
  · split
    · exact .refl s
    · split
      · exact .refl s
      · dsimp only
        exact keeps_takeBands l s

theorem keeps_handleCfgsave (s : State) : Keeps s (handleCfgsave s).1 := by
  unfold handleCfgsave refuse
  split
  · exact .refl s
  · exact keeps_setStore _ _

theorem keeps_handleRstlvl (n : Nat) (s : State) : Keeps s (handleRstlvl n s).1 := by
  unfold handleRstlvl handleRstlvl1 handleRstlvl2 refuse
  repeat' split
  all_goals first
    | exact .refl s
    | exact keeps_setStore _ _
    | exact keeps_resetLevel1 s
    | exact (moves_resetLevel2 s).keeps

theorem moves_handleRstlink (n : Nat) (s : State) : Moves s (handleRstlink n s).1 := by
  unfold handleRstlink refuse
  split
  · exact .refl s
  · exact .refl s
  · exact moves_resetLink _ _

/-- R162, R164: what every message keeps. -/
theorem keeps_handleMsg (l : Link) (m : Msg) (s : State) : Keeps s (handleMsg l m s).1 := by
  unfold handleMsg
  split
  · exact (reacts_handleRqgrant _ _ _ _ _ s).keeps
  · exact (reacts_handleKeep _ _ _ _ _ s).keeps
  · exact (reacts_handleLtgrant _ _ _ _ s).keeps
  · exact (reacts_handleRsgrant _ _ _ _ s).keeps
  · exact keeps_handleStopz _ _ s
  · exact keeps_handleClrstop _ _ s
  · exact keeps_handleLockt _ _ _ s
  · exact keeps_handleUlockt _ _ _ s
  · exact (judges_handleAckflt _ _ s).keeps
  · rw [handleQgrants_state]; exact .refl s
  · rw [handleQholds_state]; exact .refl s
  · rw [handleQaxes_state]; exact .refl s
  · rw [handleCfgrd_state]; exact .refl s
  · exact keeps_handleCfgwr _ _ s
  · exact keeps_handleCfgband _ s
  · exact keeps_handleCfgsave s
  · exact keeps_handleRstlvl _ s
  · exact (moves_handleRstlink _ s).keeps
  · exact keeps_handleFreelock _ s
  · exact ((judges_setNotice _ _).trans (judges_judgeAttention _)).keeps
  · exact ((judges_setNotice _ _).trans (judges_judgeAttention _)).keeps
  · exact (judges_rearm _ s).keeps
  · exact (judges_setFaultLog _ _).keeps

theorem keeps_handleFrame (l : Link) (f : Frame) (s : State) : Keeps s (handleFrame l f s).1 := by
  unfold handleFrame refuse
  split
  · exact .refl s
  · exact keeps_handleMsg _ _ s

/-! ## Framing and transmission -/

theorem keeps_deliver (l : Link) (f : Frame) (s : State) : Keeps s (deliver l f s) := by
  unfold deliver
  dsimp only
  split
  · exact (keeps_handleFrame _ _ s).trans (reacts_orderGends _ _).keeps
  · exact ((keeps_handleFrame _ _ s).trans (reacts_orderGends _ _).keeps).trans
      (reacts_placeMessage _ _ _).keeps

theorem keeps_putPort {l : Link} {p : Port} {s : State} (h : PortsOk s → PortOk p) :
    Keeps s (putPort l p s) := (moves_putPort h).keeps

/-- R153: what framing keeps. -/
theorem keeps_drain (l : Link) (n : Nat) (s : State) : Keeps s (drain l n s) := by
  induction n generalizing s with
  | zero => exact .refl s
  | succ n ih =>
    unfold drain
    dsimp only
    split
    · exact .refl s
    · next m rest e =>
      split
      · next t =>
        have u : (portOf l s).state = .up := by
          simp only [framingTakes, Bool.and_eq_true, decide_eq_true_eq] at t
          exact t.1.1
        have h : Keeps s (putPort l (takeFromBuffer m rest (portOf l s)) s) :=
          keeps_putPort fun o => portOk_takeFromBuffer (o l) e u
        split
        · exact h.trans (ih _)
        · exact (h.trans (keeps_deliver _ _ _)).trans (ih _)
      · exact .refl s

theorem keeps_frameBuffer (l : Link) (s : State) : Keeps s (frameBuffer l s) := keeps_drain l _ s

theorem keeps_takeSymbol (l : Link) (x : Symbol) (s : State) (u : (portOf l s).state = .up) :
    Keeps s (takeSymbol l x s) := by
  have hu : (heard (portOf l s)).state = .up := u
  cases x with
  | fill => exact keeps_putPort fun o => portOk_heard (o l)
  | credit =>
    unfold takeSymbol
    dsimp only
    split
    · exact (moves_linkError l s).keeps
    · next c =>
      exact keeps_putPort fun o => portOk_takeCredit (portOk_heard (o l)) hu (by simpa using c)
  | msg m =>
    unfold takeSymbol
    dsimp only
    split
    · exact (moves_linkError l s).keeps
    · next c =>
      exact Keeps.trans (t := putPort l (bufferSymbol m (heard (portOf l s))) s)
        (keeps_putPort fun o => portOk_bufferSymbol (portOk_heard (o l)) hu c)
        (keeps_frameBuffer _ _)

theorem keeps_enterUp (l : Link) (s : State) : Keeps s (enterUp l s) :=
  keeps_putPort fun o => ⟨(o l).room, (o l).held, (o l).frame, fun n => absurd rfl n,
    fun n => absurd rfl n, fun n => by simp at n⟩

theorem keeps_receiveSymbol (l : Link) (x : Symbol) (s : State) :
    Keeps s (receiveSymbol l x s) := by
  unfold receiveSymbol
  split
  · exact .refl s
  · exact .refl s
  · exact (keeps_enterUp l s).trans (keeps_takeSymbol _ _ _ (by simp [enterUp]))
  · next h => exact keeps_takeSymbol _ _ _ h

theorem keeps_receiveError (l : Link) (s : State) : Keeps s (receiveError l s) := by
  unfold receiveError
  split
  · exact (moves_linkError l s).keeps
  · exact .refl s

theorem keeps_receiveLine (l : Link) (x : LineSymbol) (s : State) :
    Keeps s (receiveLine l x s) := by
  unfold receiveLine
  split
  · exact keeps_receiveSymbol _ _ s
  · exact keeps_receiveError _ s

theorem keeps_forEach {α : Type} {f : α → State → State} (hf : ∀ x s, Keeps s (f x s))
    (l : List α) (s : State) : Keeps s (forEach f l s) := by
  unfold forEach
  induction l generalizing s with
  | nil => exact .refl s
  | cons x xs ih => exact (hf x s).trans (ih _)

theorem keeps_receiveFrame (l : Link) (b : List Byte) (s : State) :
    Keeps s (receiveFrame l b s) := keeps_forEach (fun _ _ => keeps_receiveLine _ _ _) _ s

theorem keeps_receiveDropped (l : Link) (b : List Byte) (s : State) :
    Keeps s (receiveDropped l b s) := keeps_forEach (fun _ _ => keeps_receiveLine _ _ _) _ s

theorem keeps_afterSending {l : Link} {p : Port} {s : State} (h : PortsOk s → PortOk p) :
    Keeps s (afterSending l p s) :=
  ((keeps_putPort h).trans (moves_closeIfEmpty _ _).keeps).trans (keeps_frameBuffer _ _)

theorem keeps_messageTransmitted (l : Link) (s : State) : Keeps s (messageTransmitted l s) := by
  unfold messageTransmitted
  dsimp only
  split
  · next u => exact keeps_afterSending fun o => portOk_sendOldest (o l) u
  · exact .refl s

theorem keeps_idleExpiry (l : Link) (s : State) : Keeps s (idleExpiry l s) := by
  have fill : Keeps s (putPort l (sendFill (portOf l s)) s) := keeps_putPort fun o =>
    ⟨(o l).room, (o l).held, (o l).frame, (o l).queue, (o l).close, (o l).rest⟩
  unfold idleExpiry
  dsimp only
  split
  · split
    · exact fill
    · next u =>
      split
      · exact keeps_afterSending fun o => portOk_sendOldest (o l) u
      · exact fill
    · exact .refl s
    · exact .refl s
  · exact .refl s

theorem keeps_closeQueueEmpty (l : Link) (s : State) : Keeps s (closeQueueEmpty l s) := by
  unfold closeQueueEmpty
  dsimp only
  split
  · next c =>
    refine keeps_afterSending fun o => (portOk_sendQueue (o l) ?_).1
    by_contra n
    rw [(o l).close n] at c
    cases c
  · exact .refl s

theorem keeps_resumeWake (s : State) : Keeps s (resumeWake s) := by
  unfold resumeWake
  split
  · exact keeps_finishWake s
  · exact .refl s

theorem keeps_waitingReset (s : State) : Keeps s (waitingReset s).1 := by
  unfold waitingReset
  dsimp only
  split
  · exact keeps_setStore _ _
  · exact keeps_setStore _ _
  all_goals exact (keeps_setStore _ _).trans (keeps_resetLevel1 _)

theorem keeps_placeResetReply (w : ReplyWait) (r : Option Reply) (s : State) :
    Keeps s (placeResetReply w r s) := by
  unfold placeResetReply
  split
  · exact (reacts_placeMessage _ _ _).keeps
  · exact .refl s

theorem keeps_finishSave (v : Save) (s : State) : Keeps s (finishSave v s) := by
  have h : Keeps s (resumeWake (storeSaved v s)) :=
    (keeps_setStore _ _).trans (keeps_resumeWake _)
  unfold finishSave
  dsimp only
  split
  · exact h.trans (reacts_orderGends _ _).keeps
  · exact ((h.trans (keeps_waitingReset _)).trans (reacts_orderGends _ _).keeps).trans
      (keeps_placeResetReply _ _ _)

theorem keeps_saveCompletion (s : State) : Keeps s (saveCompletion s) := by
  unfold saveCompletion
  split
  · exact .refl s
  · split
    · exact keeps_finishSave _ s
    · exact .refl s

/-! ## Events -/

/-- What an event keeps, if its own effect does. -/
theorem keeps_event {f : State → State} {s : State} (h : Keeps s (f s)) : Keeps s (event f s) :=
  (h.trans (reacts_orderGends _ _).keeps).trans (moves_conclude _ _).keeps

/-- What a port's event keeps, if its own effect does. -/
theorem keeps_portEvent {f : State → State} {s : State} (h : Keeps s (f s)) :
    Keeps s (portEvent f s) := h.trans (moves_conclude _ _).keeps

end Sys2Proof.Machine
end

