-- ==== Sys2Proof/Laws/HandOver.lean ====
section
/-! SUPPORT. How the symbols of a message reach the message handler (R151, R153): on a ready link each
symbol is taken as it enters, and the EOM hands the frame over. These lemmas say once what framing
does with a whole message, so that no later proof unfolds the port. -/

namespace Sys2Proof.Machine

theorem decodeSymbol_encodeSymbol (x : Symbol) : decodeSymbol (encodeSymbol x) = some x := by
  cases x with
  | credit => rfl
  | fill => rfl
  | msg m =>
    cases m with
    | data b =>
      simp only [encodeSymbol, lineSymbol, decodeSymbol]
      cases oddOnes b <;> rfl
    | eom => rfl
    | drop => rfl

theorem receiveLine_encodeSymbol (l : Link) (x : Symbol) (s : State) :
    receiveLine l (encodeSymbol x) s = receiveSymbol l x s := by
  unfold receiveLine; rw [decodeSymbol_encodeSymbol]

/-- R153: framing over an empty buffer does nothing. -/
theorem drain_of_empty {l : Link} {s : State} (h : (portOf l s).buffer = []) (n : Nat) :
    drain l n s = s := by
  cases n with
  | zero => rfl
  | succ n => unfold drain; simp only [h]

/-- R151, R153: a port that has heard a message symbol, buffered it and given it to framing. -/
def symbolTaken (m : MsgSymbol) (p : Port) : Port :=
  takeFromBuffer m [] (bufferSymbol m (heard p))

/-- What a symbol taken at once leaves in a port. -/
theorem symbolTaken_eq (m : MsgSymbol) (p : Port) : symbolTaken m p = { p with
    buffer := [], creditGiven := (symbolTaken m p).creditGiven, frame := frameAfter m p.frame
    inHand := (frameHanded m p.frame).isSome || p.inHand, silence := some 0
    idle := (symbolTaken m p).idle, lastSent := (symbolTaken m p).lastSent } := by
  unfold symbolTaken takeFromBuffer
  dsimp only
  rw [returnCredit_eq]
  rfl

theorem putPort_putPort (l : Link) (p q : Port) (s : State) :
    putPort l p (putPort l q s) = putPort l p s := by
  unfold putPort; cases l <;> rfl

/-- A port that takes a symbol at once: UP, no message in hand, no close pending, nothing buffered,
credit given for it. -/
structure Takes (p : Port) : Prop where
  up : p.state = .up
  hand : p.inHand = false
  close : p.close = none
  buffer : p.buffer = []
  credit : p.creditGiven ≠ 0

/-- R153: framing takes the one symbol of a buffer. -/
theorem drain_one {l : Link} {m : MsgSymbol} {q : Port} (s : State) (b : q.buffer = [m])
    (f : framingTakes q m = true) (n : Nat) :
    drain l (n + 1) (putPort l q s) =
      match frameHanded m q.frame with
      | none => drain l n (putPort l (takeFromBuffer m [] q) s)
      | some f => drain l n (deliver l f (putPort l (takeFromBuffer m [] q) s)) := by
  rw [drain]
  cases e : frameHanded m q.frame <;>
    simp only [portOf_putPort_same, b, f, if_true, putPort_putPort, e]

/-- R153: a symbol received on a port that takes it at once. -/
theorem receiveSymbol_takes {l : Link} {s : State} (m : MsgSymbol) (t : Takes (portOf l s)) :
    receiveLine l (encodeSymbol (.msg m)) s =
      match frameHanded m (portOf l s).frame with
      | none => putPort l (symbolTaken m (portOf l s)) s
      | some f => drain l 1 (deliver l f (putPort l (symbolTaken m (portOf l s)) s)) := by
  have c : ¬ (heard (portOf l s)).creditGiven = 0 := t.credit
  have b : (bufferSymbol m (heard (portOf l s))).buffer = [m] := by
    simp [bufferSymbol, heard, t.buffer]
  have r : receiveLine l (encodeSymbol (.msg m)) s =
      frameBuffer l (putPort l (bufferSymbol m (heard (portOf l s))) s) := by
    rw [receiveLine_encodeSymbol]
    unfold receiveSymbol
    rw [t.up]
    unfold takeSymbol
    dsimp only
    rw [if_neg c]
  rw [r]
  unfold frameBuffer
  rw [portOf_putPort_same, drain_one s b (by simp [framingTakes, bufferSymbol, heard, t.up, t.hand, t.close]), b]
  have e : takeFromBuffer m [] (bufferSymbol m (heard (portOf l s))) =
      symbolTaken m (portOf l s) := rfl
  have f : (bufferSymbol m (heard (portOf l s))).frame = (portOf l s).frame := rfl
  rw [e, f]
  cases frameHanded m (portOf l s).frame with
  | none => exact drain_of_empty (by rw [portOf_putPort_same, symbolTaken_eq]) 1
  | some g => rfl

/-! ## Credit given over a message -/

/-- R151: after a symbol is taken at once, fewer than eight places are owed, so credit is given. -/
theorem symbolTaken_credit (m : MsgSymbol) (p : Port) : (symbolTaken m p).creditGiven ≠ 0 := by
  have h (q : Port) (e : q.buffer = []) : (returnCredit q).creditGiven ≠ 0 := by
    have o : placesOwed q = 32 - q.creditGiven := by simp [placesOwed, e, bufferPlaces]
    unfold returnCredit
    rw [o]
    split
    · next c => simp only [creditUnit] at c; omega
    · next c => simp only [creditUnit] at c ⊢; omega
  exact h { bufferSymbol m (heard p) with buffer := [] } rfl

/-- A port after data bytes taken one by one. -/
def dataTaken (bytes : List Byte) (p : Port) : Port :=
  bytes.foldl (fun p b => symbolTaken (.data b) p) p

/-- The frame after data bytes. -/
def frameOf (bytes : List Byte) (f : Option Frame) : Option Frame :=
  bytes.foldl (fun f b => some (addByte b f)) f

theorem dataTaken_eq (bytes : List Byte) (p : Port) (e : p.buffer = []) (h : p.silence = some 0) :
    dataTaken bytes p = { p with
      creditGiven := (dataTaken bytes p).creditGiven, frame := frameOf bytes p.frame
      idle := (dataTaken bytes p).idle, lastSent := (dataTaken bytes p).lastSent } := by
  induction bytes generalizing p with
  | nil => rfl
  | cons b bs ih =>
    have q := symbolTaken_eq (.data b) p
    have k := ih (symbolTaken (.data b) p) (by rw [q]) (by rw [q])
    simp only [dataTaken, frameOf, List.foldl_cons] at k ⊢
    rw [k]
    generalize (List.foldl (fun p b => symbolTaken (.data b) p) (symbolTaken (.data b) p) bs) = r
    rw [q]
    cases p
    simp only [frameAfter, frameHanded, Option.isSome_none, Bool.false_or] at *
    subst e; subst h
    rfl

/-- The frame of up to forty bytes is the bytes themselves. -/
theorem frameOf_bytes (pre bytes : List Byte) (h : pre.length + bytes.length ≤ frameBytes)
    (n : pre ≠ []) : frameOf bytes (some ⟨pre, false⟩) = some ⟨pre ++ bytes, false⟩ := by
  induction bytes generalizing pre with
  | nil => simp [frameOf]
  | cons b bs ih =>
    simp only [List.length_cons] at h
    have lt : ¬ frameBytes ≤ pre.length := by omega
    have k := ih (pre ++ [b]) (by simp; omega) (by simp)
    simp only [frameOf, List.foldl_cons, addByte, Bool.false_eq_true, if_false, lt] at k ⊢
    rw [k]; simp

theorem frameOf_none (bytes : List Byte) (h : bytes.length ≤ frameBytes) :
    (frameOf bytes none).getD ⟨[], false⟩ = ⟨bytes, false⟩ := by
  cases bytes with
  | nil => rfl
  | cons b bs =>
    have k := frameOf_bytes [b] bs (by simpa [Nat.add_comm] using h) (by simp)
    simp only [frameOf, List.foldl_cons, addByte] at k ⊢
    rw [k]; rfl

/-- The data bytes of a message received on a port that takes them at once. -/
theorem receive_data {l : Link} (bytes : List Byte) (s : State) (t : Takes (portOf l s)) :
    forEach (fun x => receiveLine l (encodeSymbol (.msg x))) (bytes.map .data) s =
        putPort l (dataTaken bytes (portOf l s)) s ∧
      Takes (dataTaken bytes (portOf l s)) := by
  induction bytes generalizing s with
  | nil =>
    refine ⟨?_, t⟩
    simp only [List.map_nil, forEach, List.foldl_nil, dataTaken, putPort, portOf]
    cases l <;> rfl
  | cons b bs ih =>
    have q := symbolTaken_eq (.data b) (portOf l s)
    have c := symbolTaken_credit (.data b) (portOf l s)
    have t' : Takes (symbolTaken (.data b) (portOf l s)) := by
      refine ⟨?_, ?_, ?_, ?_, ?_⟩
      · rw [q]; exact t.up
      · rw [q]; exact t.hand
      · rw [q]; exact t.close
      · rw [q]
      · exact c
    have k := ih (putPort l (symbolTaken (.data b) (portOf l s)) s)
      (by rw [portOf_putPort_same]; exact t')
    rw [portOf_putPort_same, putPort_putPort] at k
    refine ⟨?_, k.2⟩
    have r := receiveSymbol_takes (.data b) t
    simp only [frameHanded] at r
    simp only [List.map_cons, forEach, List.foldl_cons, r] at k ⊢
    exact k.1

/-- R153: the port of a link with a message of these bytes in hand. -/
def handedPort (bytes : List Byte) (p : Port) : Port := symbolTaken .eom (dataTaken bytes p)

/-- What a message taken from a ready link leaves in its port. -/
theorem handedPort_eq {bytes : List Byte} {p : Port} (e : p.buffer = []) :
    handedPort bytes p = { p with
      creditGiven := (handedPort bytes p).creditGiven, frame := none, inHand := true
      silence := some 0, idle := (handedPort bytes p).idle
      lastSent := (handedPort bytes p).lastSent } := by
  unfold handedPort
  rw [symbolTaken_eq]
  cases bytes with
  | nil =>
    cases p
    simp only [dataTaken, List.foldl_nil, frameAfter, frameHanded, Option.isSome_some,
      Bool.true_or] at *
    subst e; rfl
  | cons b bs =>
    have q := symbolTaken_eq (.data b) p
    have k := dataTaken_eq bs (symbolTaken (.data b) p) (by rw [q]) (by rw [q])
    have u : dataTaken (b :: bs) p = dataTaken bs (symbolTaken (.data b) p) := rfl
    rw [u, k]
    generalize dataTaken bs (symbolTaken (.data b) p) = r
    rw [q]
    cases p
    simp only [frameAfter, frameHanded, Option.isSome_some, Bool.true_or] at *
    subst e; rfl

/-- R153: a message of up to forty bytes received on a ready link is handed over whole. -/
theorem receiveFrame_ready {l : Link} {bytes : List Byte} {s : State}
    (h : Ready l s) (n : bytes.length ≤ frameBytes) :
    receiveFrame l bytes s =
      drain l 1 (deliver l ⟨bytes, false⟩ (putPort l (handedPort bytes (portOf l s)) s)) := by
  have t : Takes (portOf l s) := ⟨h.up, h.hand, h.close, h.buffer, h.credit⟩
  obtain ⟨d, t'⟩ := receive_data bytes s t
  unfold receiveFrame receiveSymbols
  simp only [forEach, List.foldl_append, List.foldl_cons, List.foldl_nil] at d ⊢
  rw [d, receiveSymbol_takes .eom (by rw [portOf_putPort_same]; exact t')]
  have f : (dataTaken bytes (portOf l s)).frame = frameOf bytes none := by
    cases bytes with
    | nil => exact h.frame
    | cons b bs =>
      have q := symbolTaken_eq (.data b) (portOf l s)
      have k := dataTaken_eq bs (symbolTaken (.data b) (portOf l s)) (by rw [q]) (by rw [q])
      have u : dataTaken (b :: bs) (portOf l s) =
        dataTaken bs (symbolTaken (.data b) (portOf l s)) := rfl
      rw [u, k, q]
      simp only [frameAfter, frameOf, List.foldl_cons, h.frame]
  simp only [frameHanded, portOf_putPort_same, putPort_putPort, f, frameOf_none bytes n]
  rfl

/-- R153: the same, where the handler leaves the link's buffer empty. -/
theorem receiveFrame_delivers {l : Link} {bytes : List Byte} {s : State}
    (h : Ready l s) (n : bytes.length ≤ frameBytes)
    (e : (portOf l (deliver l ⟨bytes, false⟩
      (putPort l (handedPort bytes (portOf l s)) s))).buffer = []) :
    receiveFrame l bytes s =
      deliver l ⟨bytes, false⟩ (putPort l (handedPort bytes (portOf l s)) s) := by
  rw [receiveFrame_ready h n, drain_of_empty e]

/-- R153: a message abandoned by DROP on a ready link is discarded. -/
theorem receiveDropped_ready {l : Link} {bytes : List Byte} {s : State}
    (h : Ready l s) :
    receiveDropped l bytes s =
      putPort l (symbolTaken .drop (dataTaken bytes (portOf l s))) s := by
  have t : Takes (portOf l s) := ⟨h.up, h.hand, h.close, h.buffer, h.credit⟩
  obtain ⟨d, t'⟩ := receive_data bytes s t
  unfold receiveDropped receiveSymbols
  simp only [forEach, List.foldl_append, List.foldl_cons, List.foldl_nil] at d ⊢
  rw [d, receiveSymbol_takes .drop (by rw [portOf_putPort_same]; exact t')]
  simp only [frameHanded, portOf_putPort_same, putPort_putPort]

end Sys2Proof.Machine
end

