-- ==== Sys2Proof/WellFormed.lean ====
section
/-! DEFINITION. The commands whose operands lie in the ranges the spec gives: handles 1..255 (R1),
sensor counts 0..4095 (R51, R83), strap codes 0..15 (R171), a pulse period of at least 1 µs within
the one-second timer (R77, R78), at most nine bands in a frame of 40 bytes (R153, R164). The machine
gives every command a meaning whether or not it is well formed. -/

namespace Sys2Proof

/-- R51, R83: a sensor count. -/
def countOk (n : Nat) : Bool := decide (n ≤ 4095)

/-- R52: the readings of a sample. -/
def AxisInputs.wf (i : AxisInputs) : Bool := countOk i.lift && countOk i.tilt

/-- R171: a strap code, or missing. -/
def strapOk : Option Nat → Bool
  | none => true
  | some n => decide (n ≤ 15)

/-- R171: both straps. -/
def Straps.wf (p : Straps) : Bool := strapOk p.variant && strapOk p.stations

/-- The lines and sensors as read. -/
def Inputs.wf (i : Inputs) : Bool := i.straps.wf && i.axes.wf && countOk i.pressure

/-- R1: a handle. -/
def handleOk (n : Nat) : Bool := decide (1 ≤ n ∧ n ≤ 255)

/-- The operands of a command lie in their ranges. -/
def Instr.wf : Instr → Bool
  | .cfgband _ bands => decide (bands.length ≤ 9)
  | .deadmanExpiry h => handleOk h
  | .pauseWindowExpiry h => handleOk h
  | .axisSample i => i.wf
  | .pressureSample n => countOk n
  | .pulseArrival p => decide (1 ≤ p ∧ p ≤ 1000000)
  | .ignOn p => p.wf
  | .powerOnReset _ i => i.wf
  | .rqgrant .. | .keep .. | .ltgrant .. | .rsgrant .. | .stopz .. | .clrstop .. | .lockt ..
  | .ulockt .. | .ackflt .. | .qgrants .. | .qholds .. | .qaxes .. | .cfgrd .. | .cfgwr ..
  | .cfgsave .. | .saveCompletion | .rstlvl1 .. | .rstlvl2 .. | .rstlink .. | .freelock ..
  | .notrd .. | .notmsk .. | .lampra .. | .fltrd .. | .malformedFrame .. | .creditReceived ..
  | .fillReceived .. | .dropReceived .. | .checkError .. | .overrun .. | .silenceExpiry ..
  | .heldLowExpiry .. | .idleTimerExpiry .. | .messageTransmitted .. | .closeQueueEmpty ..
  | .closePendingExpiry .. | .startDelayExpiry | .controlPeriod .. | .ditherFlip
  | .pumpOvercurrent | .foldTravelLimit | .stall | .pulseTimerExpiry | .pbrkChange .. | .ignOff ..
  | .estopAssertion | .estopRelease | .doorSwitchChange .. | .shutterSwitchChange ..
  | .safetyEdgeChange .. | .latchPulseExpiry .. | .engageExpiry .. | .obstructionOvertime ..
  | .panelTravelLimit .. | .beaconTick .. | .lampShort .. | .lampTestMeasurement .. | .lampTestEnd
  | .supplySample .. | .supplylowTrip | .supplyhighTrip | .returnCountExpiry | .wakeTimerExpiry
  | .checkTimerExpiry | .retryTimerExpiry | .closedownTimerExpiry | .retryEntryAgeing => true

end Sys2Proof
end

