-- ==== Sys2Proof/Tests/Slice0.lean ====
section
/-! SUPPORT. Tests of our own: ill-formed commands refused, the spec's worked examples, one step of
a few commands, and for each statement with hypotheses a witness that meets them. -/

namespace Sys2Proof.Tests

open Sys2Proof.Machine

/-! ## Ill-formed commands -/

theorem test_wf_refuses_ten_bands : (Instr.cfgband .sl0 (List.replicate 10 0#32)).wf = false := by
  decide
theorem test_wf_refuses_deadman_of_handle_0 : (Instr.deadmanExpiry 0).wf = false := by decide
theorem test_wf_refuses_pause_of_handle_256 : (Instr.pauseWindowExpiry 256).wf = false := by decide
theorem test_wf_refuses_lift_count : (Instr.axisSample ⟨4096, 0, false, false⟩).wf = false := by
  decide
theorem test_wf_refuses_tilt_count : (Instr.axisSample ⟨0, 4096, false, false⟩).wf = false := by
  decide
theorem test_wf_refuses_pressure_count : (Instr.pressureSample 4096).wf = false := by decide
theorem test_wf_refuses_period_0 : (Instr.pulseArrival 0).wf = false := by decide
theorem test_wf_refuses_period_over_a_second : (Instr.pulseArrival 1000001).wf = false := by decide
theorem test_wf_refuses_strap_16 : (Instr.ignOn ⟨some 16, none⟩).wf = false := by decide
theorem test_wf_refuses_stations_16 : (Instr.ignOn ⟨none, some 16⟩).wf = false := by decide
theorem test_wf_refuses_reset_inputs :
    (Instr.powerOnReset true { lowInputs with pressure := 4096 }).wf = false := by decide
theorem test_wf_takes_bounds :
    (Instr.cfgband .sl0 (List.replicate 9 0#32)).wf = true ∧ (Instr.deadmanExpiry 255).wf = true ∧
      (Instr.axisSample ⟨4095, 4095, true, true⟩).wf = true ∧
      (Instr.pulseArrival 1000000).wf = true ∧ (Instr.ignOn ⟨some 15, none⟩).wf = true := by
  decide

/-- The table gives no row bits, so no word spells a command. -/
theorem test_no_word_spells_a_command : decodeTableWord 8 1 = none := by decide

/-! ## Worked examples of the spec -/

/-- R3: last allocated 254, live 255 and 1: the new handle is 2. -/
theorem test_handle_allocation : allocate [255, 1] 255 254 = 2 := by decide

/-- R36: last allocated 254, live 255, 1 and 2: the new id is 3. -/
theorem test_id_allocation : allocate [255, 1, 2] 255 254 = 3 := by decide

/-- Worked example "LIFT scaling". -/
def liftExample : Calibration := { defaultCalibration with ground := 400, bed := 3600, bedHeight := 1250 }

theorem test_lift_scaling :
    [200, 428, 429, 783, 784, 3100, 3574, 3575, 3800].map (liftPosition liftExample) =
      [0, 10, 11, 149, 150, 1054, 1239, 1240, 1250] := by decide

theorem test_lift_condition :
    [150, 200, 3800, 3801].map (liftCondition liftExample) = [.standing, .gone, .gone, .standing] := by
  decide

/-- Worked example "TILT scaling". -/
theorem test_tilt_scaling :
    [2048, 2090, 2100, 2368, 1567, 2700, 2851].map (tiltAngle defaultCalibration) =
      [0, 10, 13, 80, -120, 150, 150] ∧
    [2851, 2852, 1244].map (tiltCondition defaultCalibration) = [.gone, .standing, .standing] := by
  decide

/-- Worked example "LIFT scaling": the bands. -/
theorem test_band_choice : [0, 149, 150, 1049, 1054].map (bandAt defaultBands) = [1, 1, 2, 2, 3] := by
  decide

/-- Worked example "band writes": the four tables refused and the one taken. -/
theorem test_band_writes :
    [[⟨0, 600, 300, true⟩, ⟨150, 1000, 1000, false⟩, ⟨1050, 400, 600, false⟩,
        ⟨1300, 200, 200, false⟩],
      [⟨20, 600, 300, true⟩, ⟨150, 1000, 1000, false⟩],
      [⟨0, 600, 300, true⟩, ⟨400, 900, 900, false⟩, ⟨400, 500, 500, false⟩],
      [⟨0, 600, 1200, true⟩],
      [⟨0, 500, 300, true⟩, ⟨200, 1000, 900, false⟩, ⟨800, 700, 700, false⟩,
        ⟨1100, 300, 500, false⟩]].map (bandsValid 1250) = [false, false, false, false, true] := by
  decide

/-- Worked example "road speed". -/
theorem test_road_speed :
    [speedOf 6000 20000, speedOf 6000 200000, speedOf 6000 200001, speedOf 6000 120001,
      speedOf 6000 2400, speedOf 6000 60, speedOf 1000 1000000, speedOf 30000 1000000] =
      [300, 30, 29, 49, 2500, 2500, 36, 1] := by decide

/-- Worked example "the demand filter". -/
theorem test_demand_filter :
    [filterDemand 10 500 505, filterDemand 10 500 509, filterDemand 10 500 510,
      filterDemand 10 510 1003, filterDemand 10 1000 995, filterDemand 10 1000 4,
      filterDemand 10 4 0, filterDemand 10 0 6] = [500, 500, 510, 1000, 1000, 4, 0, 0] := by decide

/-- Worked example "ramp arithmetic": the first and last steps of the two wind-downs. -/
theorem test_ramp_steps :
    [rampTo .lift 0 600 defaultDrive, rampTo .lift 0 22 defaultDrive] = [566, 0] ∧
    ([200, 175, 28, 7, 1].map fun o =>
      rampTo .tilt 0 o { defaultDrive with profile := .all .eased }) = [175, 153, 24, 6, 0] := by
  decide

/-- Worked example "coil current". -/
theorem test_coil_current :
    [1, 150, 999, 1000].map (baseCurrent 300 1300) = [301, 450, 1299, 1300] ∧
    baseCurrent 0 900 7 = 6 ∧
    [ditherCommand .plus 40 1300 1299, ditherCommand .minus 40 1300 1299,
      ditherCommand .minus 40 900 6, ditherCommand .plus 40 900 6, ditherCommand .plus 40 900 0] =
      [1300, 1259, 0, 46, 0] := by decide

/-! ## A part in RUN -/

/-- A port UP with nothing on it and credit given. -/
def upPort : Port := { openingPort 1250 with state := .up, silence := some 0, creditHeld := 32 }

/-- RUN, every link UP, the platform unfolded, level and stowed at the ground, no permit cause
absent but what R81 gives. -/
def running : State :=
  let s := State.reset
  let s := s.setMode { s.mode with mode := .run, ign := true, supply := 240, temperature := 20 }
  let s := s.setAxis { s.axis with
    ends := { s.axis.ends with fold := ⟨false, true⟩ }
    level := true }
  let s := s.setPort (.all upPort)
  let s := s.setPermit { s.permit with ign := true, pbrk := true, speed := .stopped }
  s.setPermit { s.permit with map := permitMap s }

/-- The running part in another mode. -/
def runningIn (m : Mode) (timer : Option Nat) (ign : Bool) : State :=
  running.setMode { running.mode with mode := m, timer := timer, ign := ign }

/-- A grant of station 1 or another with the fields its state and kind give it. -/
def sample (h : Nat) (l : Link) (a : Axis) (n : Sense) (k : RunKind) (st : GrantState) : Grant :=
  { handle := h, station := l, axis := a, sense := n, kind := k, demand := 1000, state := st
    reason := if st = .easing then some .held else none
    deadman := if k = .hold ∧ (st = .waiting ∨ st = .driving) then some 200 else none
    pause := if st = .paused then some 500 else none }

/-- A state with a grant table and the slots it gives. -/
def withGrants (t : List Grant) (s : State) : State :=
  let slot (r : Resource) : Slot :=
    ⟨(t.find? fun g => decide (resourceOf g.axis = r ∧ g.state ≠ .waiting)).map (·.handle),
      (t.find? fun g => decide (resourceOf g.axis = r ∧ g.state = .waiting)).map (·.handle)⟩
  s.setGrant { s.grant with table := t, slots := ⟨slot .hyd, slot .shut, slot .ndor, slot .odor⟩ }

/-- A state with an output on an axis. -/
def withOutput (a : Axis) (v : Nat) (s : State) : State :=
  s.setDrive { s.drive with output := s.drive.output.set a v }

/-- A LIFT grant of station 1 in a state, with output 300. -/
def lifting (k : RunKind) (st : GrantState) : State :=
  withOutput .lift 300 (withGrants [sample 7 .sl1 .lift .raise k st] running)

/-- A grant whose deadman and pause window have run out. -/
def lapsed (g : Grant) : Grant :=
  { g with deadman := g.deadman.map fun _ => 0, pause := g.pause.map fun _ => 0 }

/-- A LIFT grant of station 1 in a state whose timer has run out, with output 300. -/
def lapsing (st : GrantState) : State :=
  withOutput .lift 300 (withGrants [lapsed (sample 7 .sl1 .lift .raise .hold st)] running)

/-- CLOSEDOWN with an EASING LIFT grant of station 1 and nothing deployed. -/
def leaving : State :=
  let s := withOutput .lift 300 (withGrants [sample 7 .sl1 .lift .raise .hold .easing] running)
  s.setMode { s.mode with mode := .closedown, timer := some 1000, ign := false }

/-- An EASING holder of station 1 with station 4 waiting behind it. -/
def queued : State :=
  withOutput .lift 300 (withGrants
    [sample 7 .sl4 .lift .raise .hold .easing, sample 8 .sl0 .tilt .up .hold .waiting] running)

/-- A SHUT grant of station 0 with its sequence in a state. -/
def shutting (k : RunKind) (st : PanelState) (n : Sense) : State :=
  let s := withOutput .shut 300 (withGrants [sample 7 .sl0 .shut n k .driving] running)
  let s := s.setPanel { s.panel with axis := { s.panel.axis with
    shut := { s.panel.axis.shut with state := st, seq := some ⟨7, .sl0, n, k⟩, travel := some 0 } } }
  s.setDrive { s.drive with duty := { s.drive.duty with shut := 300 } }

/-- An ODOR grant of station 3 with its sequence in a state, its latch as given. -/
def swinging (st : PanelState) (n : Sense) (latched : Bool) : State :=
  let s := withGrants [sample 7 .sl3 .odor n .hold .driving] running
  s.setPanel { s.panel with
    axis := { s.panel.axis with
      odor := { s.panel.axis.odor with
        state := st, seq := some ⟨7, .sl3, n, .hold⟩, travel := some 0, closedSwitch := latched } }
    latch := { s.panel.latch with odor := { s.panel.latch.odor with latched := latched } } }

/-- A running part with holds. -/
def holding (t : List Hold) (line : Bool) : State :=
  running.setHold { table := t, lastId := 40, line := line }

/-- Lockouts of station 1 that cover no axis in use, as many as asked, with ids from 1. -/
def manyHolds (n : Nat) : List Hold :=
  (List.range n).map fun i => ⟨i + 1, .lockout (i + 100), .station .sl1, axisSetOf 32⟩

/-- The state after a command, read by a test. -/
def after {α : Type} (c : Instr) (s : State) (f : State → α) : Option α :=
  match exec c s with
  | .next t => some (f t)
  | .fault e => nomatch e
  | .refused _ => none

/-! ## One step of a few commands -/

/-- R7, R161: an RQGRANT granted is answered OK, handle 1, DRIVING; the record joins the table. -/
theorem test_rqgrant_granted :
    after (.rqgrant .sl1 0#8 0#8 0#8 2000#16) running (fun t =>
      (queueOf .sl1 t, t.grant.table.map fun g => (g.handle, g.demand, g.deadman))) =
    some ([.rply 1#8 .ok [1#8, 1#8]], [(1, 1000, some 200)]) := by decide

/-- R101: TILT UP is a pump sense: the contactor closes and the start delay is loaded. -/
theorem test_rqgrant_starts_pump :
    after (.rqgrant .sl1 1#8 0#8 0#8 500#16) running (fun t =>
      (t.drive.pumpClosed, t.drive.startDelay.tilt, t.drive.d1)) =
    some (true, some 150, some .sense0) := by decide

/-- R16: KEEP 505 over a held demand of 1000 moves it by more than the hysteresis. -/
theorem test_keep_reply :
    after (.keep .sl1 7#8 0#8 0#8 505#16) (lifting .hold .driving) (queueOf .sl1) =
    some [.rply 2#8 .ok [7#8, 1#8, 0xF9#8]] := by decide

/-- R112, R93: LIFT driven with a hysteresis of 50 written since the last period, 10 in force. -/
def rewritten : State :=
  let s := lifting .hold .driving
  s.setConfig { s.config with drive := { s.config.drive with hysteresis := 50 } }

/-- R112: a KEEP before the next period moves the demand by 20 under the hysteresis of 10; the period
brings the 50 into force. -/
theorem test_hysteresis_from_next_period :
    after (.keep .sl1 7#8 0#8 0#8 980#16) rewritten (queueOf .sl1) =
      some [.rply 2#8 .ok [7#8, 0x03#8, 0xD4#8]] ∧
    after (.controlPeriod ⟨.all 0, 0, .all 0⟩) rewritten (fun t => t.drive.hysteresisInForce) =
      some 50 := by decide

/-- R17: LTGRANT of a grant with output 300 is answered EASING. -/
theorem test_ltgrant_eases :
    after (.ltgrant .sl1 7#8 0#8 0#8 0#16) (lifting .hold .driving) (queueOf .sl1) =
    some [.rply 3#8 .ok [7#8, 2#8]] := by decide

/-- R18: RSGRANT of a PAUSED grant. -/
theorem test_rsgrant_resumes :
    after (.rsgrant .sl1 7#8 0#8 0#8 0#16) (lifting .hold .paused) (fun t =>
      (queueOf .sl1 t, t.grant.table.map fun g => (g.deadman, g.pause))) =
    some ([.rply 4#8 .ok [7#8, 1#8]], [(some 200, none)]) := by decide

/-- R25, R23: a STOP of REAR from station 2 cuts the LIFT grant of station 1 with a GEND. -/
theorem test_stopz_cuts :
    after (.stopz .sl2 1#8) (lifting .hold .driving) (fun t =>
      (queueOf .sl1 t, queueOf .sl2 t, t.drive.output.lift)) =
    some ([.gend 7 .lift .stopped], [.rply 5#8 .ok [1#8, 0#8]], 0) := by decide

/-- R24: a LOCKOUT of LIFT eases the grant on it. -/
theorem test_lockt_eases :
    after (.lockt .sl1 99#32 1#8) (lifting .hold .driving) (fun t =>
      (t.grant.table.map fun g => (g.state, g.reason), queueOf .sl1 t)) =
    some ([(.easing, some .held)], [.rply 7#8 .ok [1#8, 0#8]]) := by decide

/-- R40: the tag of another lockout is answered TAGMISMATCH. -/
theorem test_ulockt_mismatch :
    after (.ulockt .sl1 1#8 5#32) (holding (manyHolds 1) false) (queueOf .sl1) =
    some [.rply 8#8 .tagmismatch []] := by decide

/-- R45: CLRSTOP of the LINE stop with the line ASSERTED. -/
theorem test_clrstop_line :
    after (.clrstop .sl2 4#8)
      (holding [⟨4, .stop ⟨false, false, false, true⟩, .line, .all true⟩] true) (queueOf .sl2) =
    some [.rply 6#8 .lineactive []] := by decide

/-- R46: the ESTOP line cuts every grant. -/
theorem test_estop_cuts :
    after .estopAssertion (lifting .latch .driving) (fun t =>
      (t.grant.table, t.hold.line, t.hold.table.map (·.source))) =
    some ([], true, [.line]) := by decide

/-- R61, R165: CFGRD of item 3 reads the bed height, 1200 mm. -/
theorem test_cfgrd_bed_height :
    after (.cfgrd .sl0 3#8) running (queueOf .sl0) =
    some [.rply 32#8 .ok [3#8, 0#8, 0#8, 4#8, 0xB0#8]] := by decide

/-- R12: 55 ms is off the step of the deadman period. -/
theorem test_cfgwr_off_step :
    after (.cfgwr .sl0 104#8 55#32) running (queueOf .sl0) =
    some [.rply 33#8 .badvalue []] := by decide

/-- R160: a supervisor message from link 2. -/
theorem test_notsuper :
    after (.cfgsave .sl2) running (queueOf .sl2) = some [.rply 35#8 .notsuper []] := by decide

/-- R160 check 1: an unknown first byte. -/
theorem test_unknown_kind :
    after (.malformedFrame .sl3 [200#8]) running (queueOf .sl3) =
    some [.rply 200#8 .badmsg []] := by decide

set_option maxRecDepth 8000 in
/-- R153: a frame of 41 bytes. -/
theorem test_overlong_frame :
    after (.malformedFrame .sl3 (List.replicate 41 9#8)) running (queueOf .sl3) =
    some [.rply 9#8 .badmsg []] := by decide

/-- R149: a check error takes an UP link to SILENCED. -/
theorem test_check_error :
    after (.checkError .sl3) running (fun t => ((portOf .sl3 t).state, t.notice.flags.link)) =
    some (.silenced, true) := by decide

/-- R30, R11: a TOLERANT station's grant is PAUSED at the loss of its link. -/
theorem test_tolerant_loss_pauses :
    after (.silenceExpiry .sl4)
      (putPort .sl4 { upPort with silence := some 4 }
        (withOutput .lift 300 (withGrants [sample 7 .sl4 .lift .raise .hold .driving] running)))
      (fun t => t.grant.table.map fun g => (g.state, g.deadman, g.pause)) =
    some [(.paused, none, some 500)] := by decide

/-- R13: the deadman expiry of a WAITING grant retires it. -/
theorem test_deadman_waiting :
    after (.deadmanExpiry 8)
      (withGrants (queued.grant.table.map lapsed) queued)
      (fun t => (t.grant.table.map (·.handle), queueOf .sl0 t)) =
    some ([7], [.gend 8 .tilt .deadman]) := by decide

/-- R13: a KEEP taken first loads the deadman again, and the expiry does not happen. -/
theorem test_keep_before_deadman_expiry :
    (after (.keep .sl1 7#8 0#8 0#8 1000#16) (lapsing .driving) id).bind (fun t =>
      after (.deadmanExpiry 7) t fun u => u.grant.table.map fun g => (g.state, g.deadman)) =
    some [(.driving, some 200)] := by decide

/-- R78: an arrival taken first starts the timer again, and the expiry does not happen. -/
theorem test_pulse_before_timer_expiry :
    (after (.pulseArrival 20000) (running.setPermit { running.permit with pulseTimer := some 0 })
      id).bind (fun t => after .pulseTimerExpiry t fun u => (u.permit.speed, u.permit.pulseTimer)) =
    some (.starting, some 1000) := by decide

/-- R152: at the symbol boundary a queued message goes before FILL. -/
theorem test_idle_sends_message :
    after (.idleTimerExpiry .sl1)
      (putPort .sl1 { upPort with queue := [.gend 7 .lift .held], idle := some 1 } running)
      (fun t => ((portOf .sl1 t).position, (portOf .sl1 t).lastSent)) =
    some (1, some (.data 129#8)) := by decide

/-- R142: a measurement before its 50 ms, as behind a new start of the test, does not happen. -/
theorem test_measurement_not_before_50_ms :
    after (.lampTestMeasurement (.all 0))
      (running.setBeacon { running.beacon with test := some ⟨49, false⟩ })
      (fun t => t.beacon.test) = some (some ⟨49, false⟩) := by decide

/-- R171: the CLOSEDOWN timer of a WAKE left while its load waits does not run. -/
theorem test_mode_timer_stands_while_load_waits :
    modeTimerTick { running.mode with mode := .closedown, timer := some 1, loadWaits := true } =
        some 1 ∧
      modeTimerTick { running.mode with mode := .closedown, timer := some 1 } = some 0 := by decide

/-- R151: each of the three symbols of a STOPZ uses one of 10 credits; the places owed reach 24 at the
first, and 24 are returned. -/
theorem test_credit_returned :
    after (.stopz .sl2 1#8) (putPort .sl2 { upPort with creditGiven := 10 } running)
      (fun t => (portOf .sl2 t).creditGiven) =
    some 31 := by decide

/-- R22: the retirement of the holder promotes the grant that waits. -/
theorem test_cut_promotes :
    after .stall ((queued.setAxis { queued.axis with stall := some ⟨0, 1990⟩ }))
      (fun t => t.grant.table.map fun g => (g.handle, g.state)) =
    some [(8, .driving)] := by decide

/-- R100, R99: one control period from 0: LIFT rises by one step, 10000 ÷ 400 = 25. -/
theorem test_control_period_ramps :
    after (.controlPeriod ⟨.all 0, 0, .all 0⟩)
      (withGrants [sample 7 .sl1 .lift .raise .hold .driving] running)
      (fun t => (t.drive.output.lift, t.drive.coil.c1)) = some (25, 365) := by decide

/-- R54, R66: a reading below the margin sets SENSOR on LIFT. -/
theorem test_sample_sets_sensor :
    after (.axisSample ⟨99, 2048, false, true⟩) running (fun t => t.axis.fault.lift) =
    some (some .sensor) := by decide

/-- R83, R84: 1900 counts is 183 bar, above the overload level of 180. -/
theorem test_pressure_overload :
    after (.pressureSample 1900) running (fun t => (t.permit.pressure, t.permit.overload)) =
    some (some 183, true) := by decide

/-- R74, R26: release of the parking brake eases a LIFT grant with reason PERMIT. -/
theorem test_brake_release_eases :
    after (.pbrkChange false) (lifting .hold .driving)
      (fun t => t.grant.table.map fun g => (g.state, g.reason)) =
    some [(.easing, some .permit)] := by decide

/-- R117: a latch released moves the opening on. -/
theorem test_latch_release_opens :
    after (.doorSwitchChange .odor .latched false) (swinging .unlatching .opening true)
      (fun t => ((panelOf .odor t).state, (panelOf .odor t).gate)) =
    some (.opening, .pass) := by decide

/-- R123: the safety edge cuts a closing shutter and leaves it PARTIAL. -/
theorem test_safety_edge_cuts :
    after (.safetyEdgeChange true) (shutting .hold .closing .closing)
      (fun t => ((panelOf .shut t).state, queueOf .sl0 t)) =
    some (.partway, [.gend 7 .shut .obstructed]) := by decide

/-- R138: a short on a driven channel. -/
theorem test_lamp_short :
    after (.lampShort .ch1)
      (running.setBeacon { running.beacon with
        lamp := { running.beacon.lamp with ch1 := ⟨.ok, some 0, some 0, true⟩ } })
      (fun t => ((lampOf .ch1 t).state, (zoneRecord .rear t).health, t.notice.flags.lamp)) =
    some (.short, .degraded, true) := by decide

/-- R140: a channel set with bit 12 is refused. -/
theorem test_lampra_range :
    after (.lampra .sl0 4096#16) running (queueOf .sl0) = some [.rply 41#8 .badvalue []] := by decide

/-- R171: IGN on from OFF enters WAKE for 50 ms, with the fitted axes the strap gives. -/
theorem test_ign_on_wakes :
    after (.ignOn ⟨some 1, some 4⟩) State.reset (fun t => (t.mode.mode, t.mode.timer)) =
    some (.wake, some 50) := by decide

/-- R174: the third overcurrent within the history bars the part. -/
theorem test_pump_overcurrent_bars :
    after .pumpOvercurrent
      ((running.setMode { running.mode with history := [5, 6] }).setDrive
        { running.drive with pumpClosed := true })
      (fun t => (t.mode.mode, t.faultLog.record.map (·.kind))) =
    some (.barred, some .pumpoc) := by decide

/-- R172: the CHECK timer leaves for RUN inside the supply window. -/
theorem test_check_enters_run :
    after .checkTimerExpiry (runningIn .check (some 0) true) (fun t => t.mode.mode) = some .run := by
  decide

/-- R176: RSTLVL 2 cuts the grants and answers after their GENDs. -/
theorem test_rstlvl2_order :
    after (.rstlvl2 .sl0) (shutting .hold .closing .closing) (queueOf .sl0) =
    some [.gend 7 .shut .reset, .rply 36#8 .ok [2#8]] := by decide

/-- R170: power-on reset with IGN on enters WAKE with the inputs as read. -/
theorem test_power_on_with_ign :
    after (.powerOnReset true lowInputs) running (fun t => (t.mode.mode, t.grant.lastHandle)) =
    some (.wake, 0) := by decide

/-! ## How the witnesses meet the invariants -/

theorem portOk_of {p : Port}
    (h : p.buffer.length + p.creditGiven ≤ 32 ∧ p.creditHeld ≤ 32 ∧ p.frame = none ∧
      (p.state = .up ∨ p.queue = [] ∧ p.close = none ∧ p.buffer = [] ∧ p.inHand = false ∧
        (p.creditGiven = 0 ∧ p.creditHeld = 0 ∨ p.state = .opening))) : PortOk p := by
  obtain ⟨h1, h2, h3, h4⟩ := h
  refine ⟨h1, h2, fun f hf => by simp [h3] at hf, fun hs => ?_, fun hs => ?_, fun hs => ?_⟩ <;>
    rcases h4 with h4 | ⟨ha, hb, hc, hd, he⟩
  · exact absurd h4 hs
  · exact ha
  · exact absurd h4 hs
  · exact hb
  · rw [h4] at hs; simp at hs
  · rcases he with ⟨hx, hy⟩ | he
    · exact ⟨hc, hx, hy, h3, hd⟩
    · rw [he] at hs; simp at hs

/-- R1: the ranges and the presence of a record's fields, in a form that evaluates. -/
abbrev Fields (g : Grant) : Prop :=
  (1 ≤ g.handle ∧ g.handle ≤ 255) ∧ g.demand ≤ 1000 ∧
    (takesDemand g.axis = false → g.demand = 1000) ∧
    (g.reason.isSome = true ↔ g.state = .easing) ∧
    (g.deadman.isSome = true ↔ g.kind = .hold ∧ (g.state = .waiting ∨ g.state = .driving)) ∧
    (g.pause.isSome = true ↔ g.state = .paused)

theorem grantsOk_of {s : State}
    (h : (∀ g ∈ s.grant.table, Fields g) ∧ s.grant.table.length ≤ 12 ∧
      (s.grant.table.map (·.handle)).Nodup ∧
      ∀ g ∈ s.grant.table, ∀ k ∈ s.grant.table,
        g.station = k.station → resourceOf g.axis = resourceOf k.axis → g = k) : GrantsOk s :=
  ⟨fun g hg =>
      let ⟨h1, h2, h3, h4, h5, h6⟩ := h.1 g hg
      ⟨h1, h2, h3, h4, h5, h6⟩,
    h.2.1, h.2.2.1, h.2.2.2⟩

theorem slotsOk_of {s : State}
    (h : ∀ r,
      (slotOf r s).holder.toList = (s.grant.table.filter fun g =>
        decide (resourceOf g.axis = r ∧ g.state ≠ .waiting)).map (·.handle) ∧
      (slotOf r s).waiting.toList = (s.grant.table.filter fun g =>
        decide (resourceOf g.axis = r ∧ g.state = .waiting)).map (·.handle) ∧
      ((slotOf r s).waiting = none ∨ (s.grant.table.any fun g =>
        decide ((slotOf r s).holder = some g.handle ∧ g.state = .easing)) = true)) : SlotsOk s := by
  refine ⟨fun r x => ?_, fun r x => ?_, fun r hw => ?_⟩
  · rw [← Option.mem_toList, (h r).1]
    simp only [List.mem_map, List.mem_filter, decide_eq_true_eq]
    exact ⟨fun ⟨g, ⟨hg, hr, hs⟩, hx⟩ => ⟨g, hg, hx, hr, hs⟩,
      fun ⟨g, hg, hx, hr, hs⟩ => ⟨g, ⟨hg, hr, hs⟩, hx⟩⟩
  · rw [← Option.mem_toList, (h r).2.1]
    simp only [List.mem_map, List.mem_filter, decide_eq_true_eq]
    exact ⟨fun ⟨g, ⟨hg, hr, hs⟩, hx⟩ => ⟨g, hg, hx, hr, hs⟩,
      fun ⟨g, hg, hx, hr, hs⟩ => ⟨g, ⟨hg, hr, hs⟩, hx⟩⟩
  · rcases (h r).2.2 with hn | hy
    · exact absurd hn hw
    · obtain ⟨g, hg, hd⟩ := List.any_eq_true.mp hy
      exact ⟨g, hg, (decide_eq_true_eq.mp hd).1, (decide_eq_true_eq.mp hd).2⟩

/-- The credit of `upPort`. -/
theorem credit_given : (32 : Nat) ≠ 0 := by decide

theorem one_credit : (1 : Nat) ≠ 0 := by decide

/-- A timer with time left. -/
theorem time_left : some 1 ≠ some 0 := by decide

/-- The mode of `running`. -/
theorem run_not_off : Mode.run ≠ .off := by decide

/-- The mode of `running`. -/
theorem run_settled : Mode.run ≠ .closedown := by decide

theorem running_grants : GrantsOk running := grantsOk_of (by decide)

theorem running_slots : SlotsOk running := slotsOk_of fun r => by cases r <;> decide

theorem running_holds : HoldsOk running := ⟨by decide, by decide, by decide, by decide⟩

theorem running_judged : JudgedOk running := ⟨by decide, fun z => by cases z <;> decide⟩

theorem running_ready (l : Link) : Ready l running := by
  cases l <;> exact ⟨by decide, by decide, by decide, by decide, by decide, by decide⟩

theorem lifting_grants (k : RunKind) (st : GrantState) : GrantsOk (lifting k st) :=
  grantsOk_of (by cases k <;> cases st <;> decide)

theorem lapsing_grants (st : GrantState) : GrantsOk (lapsing st) :=
  grantsOk_of (by cases st <;> decide)

theorem lapsing_slots (st : GrantState) (h : st ≠ .waiting) : SlotsOk (lapsing st) :=
  slotsOk_of fun r => by cases st <;> cases r <;> first | exact absurd rfl h | decide

theorem leaving_grants : GrantsOk leaving := grantsOk_of (by decide)

theorem leaving_slots : SlotsOk leaving := slotsOk_of fun r => by cases r <;> decide

theorem leaving_holds : HoldsOk leaving := ⟨by decide, by decide, by decide, by decide⟩

theorem leaving_ready (l : Link) : Ready l leaving := by
  cases l <;> exact ⟨rfl, rfl, rfl, rfl, rfl, credit_given⟩

theorem leaving_eases : ∀ g ∈ leaving.grant.table, g.state = .easing := by decide

theorem leaving_serving : Serving leaving := ⟨by decide, fun _ => leaving_eases⟩

/-- A state in RUN serves its links. -/
theorem serving_run {s : State} (h : s.mode.mode = .run) : Serving s :=
  ⟨by rw [h]; rfl, fun c => absurd (h.symm.trans c) run_settled⟩

theorem leaving_allowed : AllowedOk leaving := fun g h n => absurd (leaving_eases g h) n

/-- CLOSEDOWN with an EASING LIFT grant, on a port record for SL1. -/
def leavingOn (p : Port) : State := putPort .sl1 p leaving

theorem leavingOn_sound (p : Port) :
    Serving (leavingOn p) ∧ GrantsOk (leavingOn p) ∧ SlotsOk (leavingOn p) ∧
      (leavingOn p).mode.mode = .closedown :=
  ⟨⟨leaving_serving.1, leaving_serving.2⟩,
    ⟨leaving_grants.1, leaving_grants.2, leaving_grants.3, leaving_grants.4⟩,
    ⟨leaving_slots.1, leaving_slots.2, leaving_slots.3⟩, rfl⟩

theorem lifting_live (k : RunKind) (st : GrantState) :
    sample 7 .sl1 .lift .raise k st ∈ (lifting k st).grant.table := by
  cases k <;> cases st <;> decide

theorem lifting_slots (k : RunKind) (st : GrantState) (h : st ≠ .waiting) :
    SlotsOk (lifting k st) :=
  slotsOk_of fun r => by cases k <;> cases st <;> cases r <;> first | exact absurd rfl h | decide

theorem lifting_ready (k : RunKind) (st : GrantState) (l : Link) : Ready l (lifting k st) := by
  cases l <;> exact ⟨rfl, rfl, rfl, rfl, rfl, credit_given⟩

theorem queued_grants : GrantsOk queued := grantsOk_of (by decide)

theorem queued_slots : SlotsOk queued := slotsOk_of fun r => by cases r <;> decide

theorem queued_ready (l : Link) : Ready l queued := by
  cases l <;> exact ⟨rfl, rfl, rfl, rfl, rfl, credit_given⟩

/-! ## A witness for each statement with hypotheses -/

theorem witness_StepRunsFrontCommand :
    (running.setPending [.ditherFlip, .estopRelease]).pending = [.ditherFlip, .estopRelease] ∧
      running.pending = [] := ⟨rfl, rfl⟩

theorem witness_StepKeepsHoldTable :
    HoldsOk ((holding (manyHolds 23) false).setPending [.estopAssertion]) ∧
      ∃ t, step ((holding (manyHolds 23) false).setPending [.estopAssertion]) = .next t :=
  ⟨⟨by decide, by decide, by decide, by decide⟩, _, rfl⟩

theorem witness_StepKeepsPorts :
    PortsOk (running.setPending [.checkError .sl1]) ∧
      ∃ t, step (running.setPending [.checkError .sl1]) = .next t :=
  ⟨fun l => by cases l <;> exact portOk_of (by decide), _, rfl⟩

theorem witness_StepKeepsQuiet :
    Quiet (State.reset.setPending [.ignOn ⟨some 1, some 4⟩]) ∧
      shapedMode (State.reset.setPending [.ignOn ⟨some 1, some 4⟩]).mode.mode = false ∧
      ∃ t, step (State.reset.setPending [.ignOn ⟨some 1, some 4⟩]) = .next t :=
  ⟨fun _ => ⟨rfl, rfl, rfl, rfl, rfl, rfl, rfl, rfl, rfl⟩, by decide, _, rfl⟩

theorem witness_StepKeepsGrantTable :
    GrantsOk (queued.setPending [.stall]) ∧ SlotsOk (queued.setPending [.stall]) ∧
      ∃ t, step (queued.setPending [.stall]) = .next t :=
  ⟨⟨queued_grants.1, queued_grants.2, queued_grants.3, queued_grants.4⟩,
    ⟨queued_slots.1, queued_slots.2, queued_slots.3⟩, _, rfl⟩

theorem witness_StepKeepsSlots :
    GrantsOk (queued.setPending [.deadmanExpiry 8]) ∧ SlotsOk (queued.setPending [.deadmanExpiry 8]) ∧
      ∃ t, step (queued.setPending [.deadmanExpiry 8]) = .next t :=
  ⟨⟨queued_grants.1, queued_grants.2, queued_grants.3, queued_grants.4⟩,
    ⟨queued_slots.1, queued_slots.2, queued_slots.3⟩, _, rfl⟩

theorem witness_StepKeepsGrantsAllowed :
    let s := (lifting .hold .driving).setPending [.pbrkChange false]
    GrantsOk s ∧ SlotsOk s ∧ AllowedOk s ∧ s.grant.table ≠ [] ∧ ∃ t, step s = .next t :=
  ⟨⟨(lifting_grants _ _).1, (lifting_grants _ _).2, (lifting_grants _ _).3,
      (lifting_grants _ _).4⟩,
    ⟨(lifting_slots _ _ (by decide)).1, (lifting_slots _ _ (by decide)).2,
      (lifting_slots _ _ (by decide)).3⟩,
    by unfold AllowedOk; decide, by decide, _, rfl⟩

theorem witness_StepKeepsJudgements :
    JudgedOk (running.setPending [.pbrkChange false]) ∧
      ∃ t, step (running.setPending [.pbrkChange false]) = .next t :=
  ⟨⟨running_judged.1, running_judged.2⟩, _, rfl⟩

theorem witness_StepKeepsOutputsInRange :
    let s := (withOutput .lift 1000 (lifting .hold .driving)).setPending
      [.controlPeriod ⟨.all 0, 0, .all 0⟩]
    GrantsOk s ∧ SlotsOk s ∧ OutputsOk s ∧ ∃ t, step s = .next t :=
  ⟨⟨(lifting_grants .hold .driving).1, (lifting_grants .hold .driving).2,
      (lifting_grants .hold .driving).3, (lifting_grants .hold .driving).4⟩,
    ⟨(lifting_slots .hold .driving (by decide)).1, (lifting_slots .hold .driving (by decide)).2,
      (lifting_slots .hold .driving (by decide)).3⟩,
    ⟨fun a => by cases a <;> decide, fun m => by cases m <;> decide⟩, _, rfl⟩

/-- Messages at the bounds of their fields, an operator's and a supervisor's. -/
theorem witness_FrameNamesItsMessage :
    MsgOk (.keep 255 .odor .sense1 65535) ∧ MsgOk (.qgrants 1) ∧ MsgOk (.qholds 255) ∧
      MsgOk (.cfgwr 0 (-2147483648)) ∧ MsgOk (.cfgband (List.replicate 9 ⟨2047, 1023, 1023, true⟩)) ∧
      Link.sl5 ≠ .sl0 := by
  refine ⟨?_, ?_, ?_, ?_, ?_, ?_⟩ <;> simp [MsgOk]

/-- Each check fails by one, and a frame at the bound of every check passes. -/
theorem witness_FrameChecksInOrder :
    msgKindOf (byteAt [13#8] 0) = none ∧
    (msgKindOf (byteAt [35#8] 0) = some .cfgsave ∧ 32 ≤ byteAt [35#8] 0 ∧ Link.sl1 ≠ .sl0) ∧
    (msgKindOf (byteAt [5#8] 0) = some .stopz ∧ byteAt [5#8] 0 < 32 ∧
      [5#8].length ≠ frameLength [5#8] .stopz) ∧
    ([5#8, 15#8].length = frameLength [5#8, 15#8] .stopz ∧
      codedFieldBad [5#8, 16#8] .stopz = true ∧ codedFieldBad [5#8, 15#8] .stopz = false) := by
  decide

theorem witness_ItemsReadBackWritten :
    validValue defaultConfig .deadman 50 = true ∧ validValue defaultConfig .deadman 1000 = true ∧
      validValue defaultConfig .downLimit (-150) = true ∧ Item.deadman ≠ .pauseWindow := by decide

theorem witness_NumbersAllocatedInOrder : [255, 1].length ≤ 24 ∧ 255 ≤ 255 := by decide

/-- An EASING grant; a DRIVING grant with the gate PASS and no start delay. -/
theorem witness_OutputStaysUnderLimit :
    (sample 7 .sl1 .lift .raise .hold .easing).state ≠ .driving ∧
    gateOf (sample 7 .sl1 .lift .raise .hold .driving).axis running = .pass ∧
      running.drive.startDelay.get (sample 7 .sl1 .lift .raise .hold .driving).axis = none := by
  decide

set_option maxRecDepth 8000 in
/-- A frame of 40 bytes that a check refuses, and one of 41. -/
theorem witness_RefusedFramesChangeNothing :
    Ready .sl1 running ∧
      ((List.replicate 40 9#8).length ≤ 40 ∧
        parseFrame .sl1 ⟨List.replicate 40 9#8, false⟩ = .reject .badmsg) ∧
      40 < (List.replicate 41 9#8).length :=
  ⟨running_ready _, by decide, by decide⟩

/-- The first check fails for station 1 in CHECK, the ninth for station 4 against station 1. -/
theorem witness_RqgrantAnsweredByFirstCheck :
    Ready .sl4 (lifting .hold .driving) ∧ GrantsOk (lifting .hold .driving) ∧
      SlotsOk (lifting .hold .driving) ∧
      (requestChecks .sl4 .lift .raise .hold (lifting .hold .driving)).find? (fun r => r.1) =
        some (true, .busy, []) ∧
      (requestChecks .sl1 .lift .raise .hold (runningIn .check (some 1) true)).find?
        (fun r => r.1) = some (true, .mode, []) :=
  ⟨lifting_ready _ _ _, lifting_grants _ _, lifting_slots _ _ (by decide), by decide, by decide⟩

theorem witness_RqgrantTakesFreeSlot :
    Accepted .sl1 .tilt .up .hold running ∧ holderOn (resourceOf .tilt) running = none :=
  ⟨⟨running_ready _, running_grants, running_slots, by decide⟩, by decide⟩

/-- With no grant waiting, and with one of rank 1 waiting. -/
theorem witness_RqgrantWaitsBehindEasing :
    (Accepted .sl4 .lift .lower .hold (lifting .hold .easing) ∧
      (holderOn (resourceOf .lift) (lifting .hold .easing)).map (·.state) = some .easing ∧
      waiterOn (resourceOf .lift) (lifting .hold .easing) = none) ∧
    (Accepted .sl1 .lift .lower .hold queued ∧
      (holderOn (resourceOf .lift) queued).map (·.state) = some .easing ∧
      (waiterOn (resourceOf .lift) queued).map (·.handle) = some 8) :=
  ⟨⟨⟨lifting_ready _ _ _, lifting_grants _ _, lifting_slots _ _ (by decide), by decide⟩,
      by decide, by decide⟩,
    ⟨queued_ready _, queued_grants, queued_slots, by decide⟩, by decide, by decide⟩

/-- A DRIVING holder of station 4, its output as given. -/
def lowRank (high : Bool) : State :=
  withOutput .lift (if high then 300 else 0) (withGrants [sample 7 .sl4 .lift .raise .hold .driving] running)

theorem lowRank_accepts (b : Bool) : Accepted .sl1 .lift .lower .hold (lowRank b) :=
  ⟨⟨rfl, rfl, rfl, rfl, rfl, credit_given⟩, grantsOk_of (by cases b <;> decide),
    slotsOk_of fun r => by cases b <;> cases r <;> decide, by cases b <;> decide⟩

/-- The holder's output above 0, and 0. -/
theorem witness_RqgrantPreemptsLowerRank :
    (Accepted .sl1 .lift .lower .hold (lowRank true) ∧
      (holderOn (resourceOf .lift) (lowRank true)).map (·.state) = some .driving ∧
      runsDown .lift (lowRank true) = true) ∧
    (Accepted .sl1 .lift .lower .hold (lowRank false) ∧
      (holderOn (resourceOf .lift) (lowRank false)).map (·.state) = some .driving ∧
      runsDown .lift (lowRank false) = false) :=
  ⟨⟨lowRank_accepts _, by decide, by decide⟩,
    lowRank_accepts _, by decide, by decide⟩

/-- No grant of the handle, another station's, another axis. -/
theorem witness_GrantReferencesChecked :
    Ready .sl1 (lifting .hold .driving) ∧
    ((lifting .hold .driving).grant.table.find? fun g => decide (g.handle = (8#8).toNat)) = none ∧
    (((lifting .hold .driving).grant.table.find? fun g => decide (g.handle = (7#8).toNat)).map
      fun g => (g.station, g.axis)) = some (.sl1, .lift) :=
  ⟨lifting_ready _ _ _, by decide, by decide⟩

/-- A grant in each of the states and kinds the clauses name. -/
theorem witness_KeepRefreshesGrant :
    ∀ k st, GrantsOk (lifting k st) ∧
      sample 7 .sl1 .lift .raise k st ∈ (lifting k st).grant.table ∧ Ready .sl1 (lifting k st) :=
  fun k st => ⟨lifting_grants k st, lifting_live k st, lifting_ready _ _ _⟩

/-- A WAITING, an EASING, a DRIVING and a PAUSED grant in RUN; an EASING one in CLOSEDOWN. -/
theorem witness_LtgrantReleasesGrant :
    (GrantsOk queued ∧ SlotsOk queued ∧ queued.mode.mode = .run ∧ Ready .sl0 queued ∧
      sample 8 .sl0 .tilt .up .hold .waiting ∈ queued.grant.table) ∧
    (GrantsOk leaving ∧ SlotsOk leaving ∧ AllowedOk leaving ∧ Ready .sl1 leaving ∧
      leaving.mode.mode ≠ .run ∧
      sample 7 .sl1 .lift .raise .hold .easing ∈ leaving.grant.table) ∧
    ∀ st, st ≠ .waiting → SlotsOk (lifting .hold st) ∧ GrantsOk (lifting .hold st) ∧
      (lifting .hold st).mode.mode = .run ∧ Ready .sl1 (lifting .hold st) ∧
      sample 7 .sl1 .lift .raise .hold st ∈ (lifting .hold st).grant.table :=
  ⟨⟨queued_grants, queued_slots, by decide, queued_ready _, by decide⟩,
    ⟨leaving_grants, leaving_slots, leaving_allowed, leaving_ready _, by decide, by decide⟩,
    fun st h => ⟨lifting_slots _ _ h, lifting_grants _ _, rfl, lifting_ready _ _ _,
      lifting_live _ _⟩⟩

/-- A LIFT grant in each state, and a door's PAUSED grant. -/
theorem witness_RsgrantResumesGrant :
    (∀ st, GrantsOk (lifting .hold st) ∧ Ready .sl1 (lifting .hold st) ∧
      sample 7 .sl1 .lift .raise .hold st ∈ (lifting .hold st).grant.table) ∧
    (let s := withGrants [sample 7 .sl3 .odor .opening .hold .paused]
      (swinging .unlatching .opening true)
    GrantsOk s ∧ Ready .sl3 s ∧ sample 7 .sl3 .odor .opening .hold .paused ∈ s.grant.table ∧
      Axis.odor = axisOfMotor (motorOfDoor .odor)) :=
  ⟨fun _ => ⟨lifting_grants _ _, lifting_ready _ _ _, lifting_live _ _⟩,
    grantsOk_of (by decide), ⟨rfl, rfl, rfl, rfl, rfl, credit_given⟩, by decide, by decide⟩

/-- The deadman run out of a WAITING and of a DRIVING grant, the window of a PAUSED one; handles whose
timer runs still or is absent. -/
theorem witness_GrantTimersEndGrants :
    (let s := withGrants (queued.grant.table.map lapsed) queued
    GrantsOk s ∧ SlotsOk s ∧ s.mode.mode = .run ∧
      lapsed (sample 8 .sl0 .tilt .up .hold .waiting) ∈ s.grant.table) ∧
    (∀ st, st ≠ .waiting → GrantsOk (lapsing st) ∧ SlotsOk (lapsing st) ∧
      (lapsing st).mode.mode = .run ∧
      lapsed (sample 7 .sl1 .lift .raise .hold st) ∈ (lapsing st).grant.table) ∧
    (lapsed (sample 7 .sl1 .lift .raise .hold .driving)).deadman = some 0 ∧
    (lapsed (sample 7 .sl1 .lift .raise .hold .paused)).pause = some 0 ∧
    (∀ g ∈ (lifting .hold .driving).grant.table, g.handle = 7 → g.deadman ≠ some 0) ∧
    (∀ g ∈ (lifting .hold .paused).grant.table, g.handle = 7 →
      g.state ≠ .paused ∨ g.pause ≠ some 0) ∧
    (GrantsOk leaving ∧ AllowedOk leaving ∧ leaving.mode.mode ≠ .run) :=
  ⟨⟨grantsOk_of (by decide), slotsOk_of fun r => by cases r <;> decide, rfl, by decide⟩,
    fun st h => ⟨lapsing_grants st, lapsing_slots st h, rfl, by cases st <;> decide⟩,
    by decide, by decide, by decide, by decide, leaving_grants, leaving_allowed, by decide⟩

theorem witness_QueriesReportAndChangeNothing : Ready .sl0 queued ∧ 5 < (6#8).toNat :=
  ⟨queued_ready _, by decide⟩

/-- A running part with some lockouts meets the premises of a placement. -/
theorem holding_sound (n : Nat) (h : n = 0 ∨ n = 1 ∨ n = 22 ∨ n = 23) :
    Ready .sl1 (holding (manyHolds n) false) ∧ Settled (holding (manyHolds n) false) ∧
      GrantsOk (holding (manyHolds n) false) ∧ SlotsOk (holding (manyHolds n) false) ∧
      HoldsOk (holding (manyHolds n) false) :=
  ⟨⟨rfl, rfl, rfl, rfl, rfl, credit_given⟩, ⟨rfl, run_settled⟩,
    ⟨running_grants.1, running_grants.2, running_grants.3, running_grants.4⟩,
    ⟨running_slots.1, running_slots.2, running_slots.3⟩,
    by rcases h with h | h | h | h <;> subst h <;>
      exact ⟨by decide, by decide, by decide, by decide⟩⟩

/-- 22 station holds with room for one more, 23 with none, the sender's own stop repeated, and a stop
that ends a CLOSEDOWN. -/
theorem witness_StopzPlacesStop :
    (15#8).toNat < 16 ∧
    (HoldsOk (holding (manyHolds 22) false) ∧ stationHolds (holding (manyHolds 22) false) < 23 ∧
      leavesOff [] (holding (manyHolds 22) false) = false) ∧
    (HoldsOk (holding (manyHolds 23) false) ∧ 23 ≤ stationHolds (holding (manyHolds 23) false)) ∧
    (([⟨9, .stop (zoneSetOf 15), .station .sl1, .all true⟩] : List Hold).find? fun h =>
      decide (h.source = .station .sl1 ∧ h.kind = .stop (zoneSetOf (15#8).toNat))).map (·.id) =
        some 9 ∧
    (Ready .sl2 leaving ∧ GrantsOk leaving ∧ SlotsOk leaving ∧ HoldsOk leaving ∧
      linkMode leaving.mode.mode = true ∧ leavesOff [] leaving = true) :=
  ⟨by decide, ⟨(holding_sound 22 (by simp)).2.2.2.2, by decide, by decide⟩,
    ⟨(holding_sound 23 (by simp)).2.2.2.2, by decide⟩, by decide,
    leaving_ready _, leaving_grants, leaving_slots, leaving_holds, by decide, by decide⟩

/-- Station 2 has no tag reader, station 1 has; the same lockout repeated; room for one, for none. -/
theorem witness_LocktPlacesLockout :
    (63#8).toNat < 64 ∧ (running.config.profile.get .sl2).tagReader = false ∧
    ((holding (manyHolds 22) false).config.profile.get .sl1).tagReader = true ∧
    (Ready .sl1 (holding (manyHolds 22) false) ∧ Settled (holding (manyHolds 22) false) ∧
      GrantsOk (holding (manyHolds 22) false) ∧ SlotsOk (holding (manyHolds 22) false) ∧
      HoldsOk (holding (manyHolds 22) false)) ∧
    stationHolds (holding (manyHolds 22) false) < 23 ∧
    23 ≤ stationHolds (holding (manyHolds 23) false) ∧
    (leaving.mode.mode = .closedown ∧ ∀ g ∈ leaving.grant.table, g.state = .easing) ∧
    (((manyHolds 1).find? fun h => decide (h.kind = .lockout (100#32).toNat ∧
      h.axes = axisSetOf (32#8).toNat)).map (·.id)) = some 1 :=
  ⟨by decide, by decide, by decide, holding_sound 22 (by simp), by decide, by decide,
    ⟨rfl, leaving_eases⟩, by decide⟩

/-- A lockout, the LINE stop and a station's stop, for the clauses of CLRSTOP. -/
def mixedHolds (line : Bool) : State :=
  holding [⟨1, .lockout 7, .station .sl1, axisSetOf 1⟩,
    ⟨2, .stop ⟨false, false, false, true⟩, .line, .all true⟩,
    ⟨3, .stop (zoneSetOf 2), .station .sl3, axisSetOf 16⟩] line

theorem witness_ClrstopRetiresStop :
    ∀ line, Ready .sl3 (mixedHolds line) ∧ linkMode (mixedHolds line).mode.mode = true ∧
      (mixedHolds line).hold.line = line ∧
      ([4, 1, 2, 3].map fun n => ((mixedHolds line).hold.table.find? fun h =>
        decide (h.id = n)).map (·.source)) =
        [none, some (.station .sl1), some .line, some (.station .sl3)] :=
  fun line => ⟨⟨rfl, rfl, rfl, rfl, rfl, credit_given⟩, rfl, rfl, by cases line <;> decide⟩

theorem witness_LockoutRetiredByTagOrSupervisor :
    Ready .sl1 (mixedHolds false) ∧ linkMode (mixedHolds false).mode.mode = true ∧
      ((mixedHolds false).config.profile.get .sl1).tagReader = true ∧
      ([1, 2].map fun n => (((mixedHolds false).hold.table.find? fun h =>
        decide (h.id = n)).filter isLockout).map (·.kind)) = [some (.lockout 7), none] :=
  ⟨⟨rfl, rfl, rfl, rfl, rfl, credit_given⟩, rfl, by decide, by decide⟩

/-- No LINE stop with 23 station holds; in CLOSEDOWN; in WAKE; a LINE stop live; OFF. -/
theorem witness_EstopLineStopsEverything :
    (Settled (holding (manyHolds 23) false) ∧ GrantsOk (holding (manyHolds 23) false) ∧
      SlotsOk (holding (manyHolds 23) false) ∧ HoldsOk (holding (manyHolds 23) false) ∧
      lineStopLive (holding (manyHolds 23) false) = false ∧
      leavesOff [] (holding (manyHolds 23) false) = false) ∧
    (linkMode leaving.mode.mode = true ∧ GrantsOk leaving ∧ SlotsOk leaving ∧ HoldsOk leaving ∧
      lineStopLive leaving = false ∧ leavesOff [] leaving = true) ∧
    ((runningIn .wake (some 1) true).mode.mode = .wake ∧
      (runningIn .wake (some 1) true).grant.table = [] ∧
      lineStopLive (runningIn .wake (some 1) true) = false) ∧
    ((mixedHolds false).mode.mode ≠ .off ∧ lineStopLive (mixedHolds false) = true) ∧
    State.reset.mode.mode = .off :=
  ⟨⟨(holding_sound 23 (by simp)).2.1, (holding_sound 23 (by simp)).2.2.1,
      (holding_sound 23 (by simp)).2.2.2.1, (holding_sound 23 (by simp)).2.2.2.2, by decide,
      by decide⟩,
    ⟨by decide, leaving_grants, leaving_slots, leaving_holds, by decide, by decide⟩,
    ⟨rfl, rfl, rfl⟩, by decide, by decide⟩

/-- A stall window over the part with a LIFT output last reported. -/
def stalling (w : Option StallWindow) (out : Nat) : State :=
  running.setAxis { running.axis with stall := w, liftOutput := out }

/-- R65: a sample at position 0, against a reference of 5 and of 4 mm, at 1980 and at 1990 ms, with no
window, with an output of 199, and outside the margin. -/
theorem test_stall_watch :
    ([(300, some ⟨5, 1990⟩, 200), (300, some ⟨4, 1980⟩, 200), (300, some ⟨4, 1990⟩, 200),
      (300, none, 200), (300, some ⟨4, 0⟩, 199), (99, some ⟨4, 0⟩, 200)].map fun
        (x : Nat × Option StallWindow × Nat) =>
      after (.axisSample ⟨x.1, 2048, false, true⟩) (stalling x.2.1 x.2.2)
        (fun t => (t.axis.stall, t.axis.fault.lift))) =
    [some (some ⟨0, 0⟩, none), some (some ⟨4, 1990⟩, none), some (none, some .stall),
      some (some ⟨0, 0⟩, none), some (none, none), some (none, some .sensor)] := by decide

/-- LIFT readings at the margins: 99 and 3901 outside, 100 and 3900 inside; an output of 200 on a LIFT that
is not FAULTED, a FAULTED one with no window, and the mode kept by a sample. -/
theorem witness_SampleFollowsLift :
    working running = true ∧ running.axis.fitted.lift = true ∧
      lowsValid running.config.calibration.bedHeight running.config.bands = true ∧
      ([99, 100, 3900, 3901].map fun n : Nat => decide ((n : Int) < 300 - 200 ∨ n > 3700 + 200)) =
        [true, false, false, true] ∧
      (∀ w, (stalling w 200).axis.fault.lift = none ∧ 200 ≤ (stalling w 200).axis.liftOutput) ∧
      (stalling none 199).axis.liftOutput < 200 ∧
      ((stalling none 200).setAxis { (stalling none 200).axis with
        fault := .all (some .travel) }).axis.fault.lift ≠ none ∧
      after (.axisSample ⟨300, 2048, false, true⟩) (stalling none 200)
        (fun t => (t.mode.mode, t.axis.condition.lift)) = some (running.mode.mode, .gone) :=
  ⟨by decide, by decide, by decide, by decide, fun _ => ⟨rfl, le_refl 200⟩, by decide, by decide,
    by decide⟩

/-- TILT readings at raw 200 and 201; both FOLD switches; a motor axis; an axis not fitted. -/
theorem witness_SampleFollowsOtherAxes :
    working running = true ∧ running.axis.fitted.tilt = true ∧ running.axis.fitted.fold = true ∧
      ([2851, 2852, 1244, 1245].map (tiltRaw defaultCalibration)) = [200, 201, -201, -200] ∧
      (∀ m : Motor, m = .shut → running.axis.fitted.get (axisOfMotor m) = true ∧
        running.panel.condition ≠ .standing) ∧
      (running.setAxis { running.axis with
        fitted := { running.axis.fitted with odor := false } }).axis.fitted.get .odor = false := by
  refine ⟨by decide, by decide, by decide, by decide, fun m h => ?_, by decide⟩
  subst h; decide

/-- Coil currents of a period, each channel the same. -/
def coilCurrents (n : Nat) : PeriodCurrents := ⟨.all n, 0, .all 0⟩

/-- A FOLD grant driving with a travel time. -/
def folding (n : Nat) : State :=
  let s := withOutput .fold 300 (withGrants [sample 7 .sl0 .fold .stow .hold .driving] running)
  s.setDrive { s.drive with foldTravel := some n, pumpClosed := true, pumpOver := 290 }

theorem folding_grants (n : Nat) : GrantsOk (folding n) :=
  ⟨(grantsOk_of (s := folding 0) (by decide)).1, (grantsOk_of (s := folding 0) (by decide)).2,
    (grantsOk_of (s := folding 0) (by decide)).3, (grantsOk_of (s := folding 0) (by decide)).4⟩

theorem folding_slots (n : Nat) : SlotsOk (folding n) :=
  have h : SlotsOk (folding 0) := slotsOk_of fun r => by cases r <;> decide
  ⟨h.1, h.2, h.3⟩

/-- A part in which every timer that reports a fault runs. -/
def timing : State :=
  let s := running.setAxis { running.axis with stall := some ⟨0, 1990⟩ }
  let s := s.setDrive { s.drive with foldTravel := some 9990 }
  let latch : LatchRecord := ⟨true, some 0, some 0, false⟩
  let p : PanelRecord := { PanelRecord.powerOn with travel := some 7990 }
  s.setPanel { s.panel with axis := .all p, latch := ⟨latch, latch⟩ }

/-- Each report's timer; a faulted axis; coil currents at the bound and over it, fitted and not; the FOLD
travel time at its bound and over it, with an output and at the end; a FAULTED axis under a coil current,
the pump within its limit. -/
theorem witness_FaultReportsSetFirstCode :
    ((∀ e ∈ faultEvents, limitRuns e.1 timing = true ∧ timing.axis.fitted.get e.2.1 = true ∧
      timing.axis.fault.get e.2.1 = none) ∧
    Settled timing ∧ GrantsOk timing ∧ SlotsOk timing ∧
    (timing.setAxis { timing.axis with fault := .all (some .stall) }).axis.fault.get .lift ≠ none) ∧
    (working (folding 9990) = true ∧ GrantsOk (folding 9990) ∧ SlotsOk (folding 9990) ∧
      (∀ k, (folding 9990).drive.coilWatch.get k = .armed ∧
        (folding 9990).axis.fitted.get (axisOfCoil k) = true ∧
        overCoil (coilCurrents 1701) .c4 (folding 9990) =
          decide ((folding 9990).config.drive.imax.c4 + 500 < 1701)) ∧
      overCoil ⟨⟨0, 0, 0, (folding 0).config.drive.imax.c4 + 501⟩, 0, .all 0⟩ .c4 (folding 0) = true ∧
      overCoil ⟨⟨0, 0, 0, (folding 0).config.drive.imax.c4 + 500⟩, 0, .all 0⟩ .c4 (folding 0) =
        false) ∧
    (∀ n, (drivingGrant .fold (folding n)).map (·.handle) = some 7 ∧
      (folding n).drive.foldTravel = some n) ∧
    (let s := (folding 0).setAxis { (folding 0).axis with fault := .all (some .stall) }
    working s = true ∧ GrantsOk s ∧ SlotsOk s ∧ s.axis.fault.get .fold ≠ none ∧
      overCoil (coilCurrents 1801) .c4 s = true ∧
      (coilCurrents 1801).pump ≤ s.config.drive.pumpLimit) ∧
    (shapedMode (folding 9991).mode.mode = true ∧ endFlag .fold .stow (folding 9991) = false ∧
      nextOutput (sample 7 .sl0 .fold .stow .hold .driving) (folding 9991) ≠ 0 ∧
      endFlag .fold .deploy (folding 9991) = true) :=
  ⟨⟨by decide, ⟨rfl, run_settled⟩,
      ⟨running_grants.1, running_grants.2, running_grants.3, running_grants.4⟩,
      ⟨running_slots.1, running_slots.2, running_slots.3⟩, by decide⟩,
    ⟨rfl, folding_grants _, folding_slots _,
      fun k => by cases k <;> exact ⟨rfl, rfl, rfl⟩, by decide, by decide⟩,
    fun _ => ⟨rfl, rfl⟩,
    ⟨rfl, ⟨(folding_grants 0).1, (folding_grants 0).2, (folding_grants 0).3, (folding_grants 0).4⟩,
      ⟨(folding_slots 0).1, (folding_slots 0).2, (folding_slots 0).3⟩, by decide, by decide,
      by decide⟩,
    by decide, by decide, by decide, by decide⟩

theorem witness_AckfltClearsFault :
    Ready .sl1 running ∧ linkMode running.mode.mode = true ∧
      ((running.config.profile.get .sl1).allowed.get .ndor).sense0 = false ∧
      ((running.config.profile.get .sl1).allowed.get .lift).sense0 = true :=
  ⟨running_ready _, by decide, by decide, by decide⟩

/-- No save and no HYD grant with a good table; a save; a HYD grant; another link. -/
theorem witness_CfgbandReplacesBandTable :
    (Ready .sl0 running ∧ running.store.save = none ∧
      (∀ g ∈ running.grant.table, resourceOf g.axis ≠ .hyd) ∧
      bandsValid 1200 [⟨0, 1000, 1000, true⟩, ⟨1199, 0, 0, false⟩] = true ∧
      bandsValid 1200 [⟨0, 1000, 1000, true⟩, ⟨1200, 0, 0, false⟩] = false) ∧
    (∃ g ∈ queued.grant.table, resourceOf g.axis = .hyd) ∧
    (Link.sl1 ≠ .sl0 ∧ Ready .sl1 running ∧ (List.replicate 9 0#32).length ≤ 9) :=
  ⟨⟨running_ready _, by decide, by decide, by decide, by decide⟩, by decide, by decide,
    running_ready _, by decide⟩

theorem witness_BrakeAndPressureJudgePermits :
    (GrantsOk running ∧ SlotsOk running ∧ JudgedOk running ∧ running.mode.mode ≠ .closedown ∧
      running.mode.mode ≠ .off ∧ working running = true) ∧
    (leaving.mode.mode = .closedown ∧ EasingOnly leaving) ∧
    State.reset.mode.mode = .off ∧ working State.reset = false :=
  ⟨⟨running_grants, running_slots, running_judged, by decide, by decide, by decide⟩,
    ⟨rfl, leaving_serving.2⟩, by decide, by decide⟩

/-- Speed STOPPED without its timer, and RUNNING with it run out. -/
theorem witness_PulsesMeasureRoadSpeed :
    (GrantsOk running ∧ SlotsOk running ∧ JudgedOk running ∧ running.mode.mode ≠ .off ∧
      running.mode.mode ≠ .closedown) ∧
    running.permit.speed = .stopped ∧ running.permit.pulseTimer = none ∧
    (running.setPermit { running.permit with
      speed := .running, pulseTimer := some 0 }).permit.pulseTimer = some 0 :=
  ⟨⟨running_grants, running_slots, running_judged, by decide, by decide⟩, by decide, by decide,
    by decide⟩

/-- A driving grant in RUN, and CHECK with nothing out. -/
theorem witness_ControlPeriodDrivesAxes :
    (working (lifting .hold .driving) = true ∧ GrantsOk (lifting .hold .driving) ∧
      SlotsOk (lifting .hold .driving) ∧ Quiet (lifting .hold .driving) ∧
      (drivingGrant .lift (lifting .hold .driving)).isSome = true ∧
      drivingGrant .tilt (lifting .hold .driving) = none) ∧
    (Quiet (runningIn .check (some 1) true) ∧
      shapedMode (runningIn .check (some 1) true).mode.mode = false) :=
  ⟨⟨by decide, lifting_grants _ _, lifting_slots _ _ (by decide), fun h => absurd h (by decide),
      by decide, by decide⟩,
    fun _ => ⟨rfl, rfl, rfl, rfl, rfl, rfl, rfl, rfl, rfl⟩, by decide⟩

theorem witness_DitherAndStartDelayRunOut :
    (lifting .hold .driving).drive.ditherTimer ≠ some 0 ∧
      ((lifting .hold .driving).setDrive { (lifting .hold .driving).drive with
        ditherTimer := some 0 }).drive.ditherTimer = some 0 ∧
      channelBase .c1 (lifting .hold .driving) ≠ 0 ∧ channelBase .c2 (lifting .hold .driving) = 0 := by
  decide

/-- A pump running with one and with two entries in the history; a period with the current at the limit
and over it, the over-time at 280 and 290 ms. -/
theorem witness_PumpOvercurrentRetriesOrBars :
    (let s := fun h : List Nat => (lifting .hold .driving).setMode
      { (lifting .hold .driving).mode with history := h }
    let p := fun h : List Nat => (s h).setDrive { (s h).drive with pumpClosed := true }
    (∀ h, GrantsOk (p h) ∧ SlotsOk (p h) ∧ (p h).drive.pumpClosed = true ∧
      shapedMode (p h).mode.mode = true ∧ (p h).mode.mode = .run ∧ (p h).mode.ign = true) ∧
    (p [5]).mode.history.length < 2 ∧ 2 ≤ (p [5, 6]).mode.history.length) ∧
    (working (folding 9990) = true ∧ GrantsOk (folding 9990) ∧ SlotsOk (folding 9990) ∧
      Quiet (folding 9990) ∧ (folding 9990).config.drive.pumpLimit = 300 ∧
      (folding 9990).drive.pumpOver = 290 ∧ (folding 9990).mode.mode = .run ∧
      (folding 9990).drive.pumpClosed = true ∧
      (∀ g ∈ (folding 9990).grant.table, resourceOf g.axis = .hyd → g.state = .driving) ∧
      (∀ k, overCoil (coilCurrents 0) k (folding 9990) = false) ∧
      (folding 9990).drive.foldTravel = some 9990) :=
  ⟨⟨fun _ => ⟨⟨(lifting_grants .hold .driving).1, (lifting_grants .hold .driving).2,
      (lifting_grants .hold .driving).3, (lifting_grants .hold .driving).4⟩,
    ⟨(lifting_slots .hold .driving (by decide)).1, (lifting_slots .hold .driving (by decide)).2,
      (lifting_slots .hold .driving (by decide)).3⟩, rfl, rfl, rfl, rfl⟩, by decide, by decide⟩,
    rfl, folding_grants _, folding_slots _, fun h => absurd h (by decide), by decide, rfl, rfl, rfl,
    by decide, fun k => by cases k <;> decide, rfl⟩

/-- A door at rest; OFF and a level that is no change; a sequence in each state the clauses name, its
grant DRIVING and EASING; the shutter with its switch condition gone and standing. -/
theorem witness_PanelSwitchesMoveSequences :
    (State.reset.mode.mode = .off ∧ doorSwitchLevel .odor .closed running = false ∧
      shutterSwitchLevel .opened running = false) ∧
    (running.mode.mode ≠ .off ∧ doorSwitchLevel .odor .closed running ≠ true ∧
      (panelOf .odor running).seq = none ∧ shutterSwitchLevel .opened running ≠ true) ∧
    (∀ st ∈ [PanelState.unlatching, .opening, .opened, .closing, .latching, .closed],
      ∀ n ∈ [Sense.opening, .closing], ∀ b ∈ [true, false],
        (panelOf .odor (swinging st n b)).seq = some ⟨7, .sl3, n, .hold⟩ ∧
        (panelOf .odor (swinging st n b)).state = st ∧
        seqDriving .odor (swinging st n b) = true ∧
        seqDriving .odor (withGrants [sample 7 .sl3 .odor n .hold .easing] (swinging st n b)) =
          false ∧
        doorSwitchLevel .odor .opened (swinging st n b) = false ∧
        doorSwitchLevel .odor .closed (swinging st n b) = b ∧
        doorSwitchLevel .odor .latched (swinging st n b) = b) ∧
    (∀ st ∈ [PanelState.opening, .opened, .closing, .closed], ∀ n ∈ [Sense.opening, .closing],
      (panelOf .shut (shutting .hold st n)).seq = some ⟨7, .sl0, n, .hold⟩ ∧
      (panelOf .shut (shutting .hold st n)).state = st ∧
      (shutting .hold st n).panel.condition = .gone) ∧
    (running.setPanel { running.panel with condition := .standing }).panel.condition =
      .standing := by
  refine ⟨by decide, by decide, ?_, by decide, rfl⟩
  intro st h
  fin_cases h <;> decide

theorem witness_RequestStartsPanelSequence :
    Accepted .sl3 (axisOfMotor .odor) .opening .hold running ∧
      holderOn (resourceOf (axisOfMotor .odor)) running = none ∧
      (panelOf .odor running).state = .closed :=
  ⟨⟨running_ready _, running_grants, running_slots, by decide⟩, by decide, by decide⟩

/-- A closing shutter with its sequence grant, with a grant that waits and without; a driven motor with no
grant; a period with an output, the sequence under way, at its end and at the edge. -/
theorem witness_ObstructionCutsSequenceGrant :
    (let s := shutting .hold .closing .closing
    Settled s ∧ GrantsOk s ∧ SlotsOk s ∧ s.drive.duty.get .shut ≠ 0 ∧ s.panel.contact = false ∧
      sequenceOf (sample 7 .sl0 .shut .closing .hold .driving) .shut s = true ∧
      sample 7 .sl0 .shut .closing .hold .driving ∈ s.grant.table ∧
      waiterOn .shut s = none) ∧
    (let s := withGrants [sample 7 .sl0 .shut .closing .hold .easing,
        sample 8 .sl1 .shut .opening .hold .waiting] (shutting .hold .closing .closing)
    GrantsOk s ∧ SlotsOk s ∧ (waiterOn .shut s).map (·.handle) = some 8 ∧
      sequenceOf (sample 7 .sl0 .shut .closing .hold .easing) .shut s = true) ∧
    (panelOf .shut (running.setDrive { running.drive with duty := .all 1 })).seq = none ∧
    (∀ k st, (drivingGrant .shut (shutting k st .closing)).map (·.handle) = some 7 ∧
      (panelOf .shut (shutting k st .closing)).travel = some 0) ∧
    (let s := shutting .latch .closed .closing
    let g := sample 7 .sl0 .shut .closing .latch .driving
    working s = true ∧ shapedMode s.mode.mode = true ∧ GrantsOk s ∧ SlotsOk s ∧
      sequenceOf g .shut s = true ∧ staysOn g s = true ∧ nextOutput g s ≠ 0 ∧
      nextOutput g (s.setPanel { s.panel with axis := { s.panel.axis with
        shut := { s.panel.axis.shut with gate := .held } } }) = 0 ∧
      (panelOf .shut s).endReported = false) := by
  exact ⟨⟨⟨rfl, run_settled⟩, grantsOk_of (by decide),
      slotsOk_of fun r => by cases r <;> decide, by decide, by decide, by decide, by decide,
      by decide⟩,
    ⟨grantsOk_of (by decide), slotsOk_of fun r => by cases r <;> decide, by decide, by decide⟩,
    by decide, fun k st => by cases k <;> cases st <;> exact ⟨rfl, rfl⟩, rfl, rfl,
    grantsOk_of (by decide), slotsOk_of fun r => by cases r <;> decide, by decide, by decide,
    by decide, by decide, by decide⟩

/-- The running part with the beacons of REAR on SLOW. -/
def flashing (test : Option LampTest) : State :=
  let b := running.beacon
  running.setBeacon { b with
    timebase := true, test := test
    zone := { b.zone with rear := { b.zone.rear with demand := .slow } }
    lamp := { b.lamp with ch1 := ⟨.ok, some 0, some 0, true⟩ } }

/-- REAR on SLOW at a counter, with an open count on channel 1. -/
def counting (counter n : Nat) : State :=
  let b := (flashing none).beacon
  (flashing none).setBeacon { b with
    zone := { b.zone with rear := { b.zone.rear with counter := counter } }
    lamp := { b.lamp with ch1 := ⟨.ok, some n, some 0, true⟩ } }

/-- R137: the sixth tick at 150 mA, at 149 mA with counts 1 and 2, and the fifth tick at 149 mA. -/
theorem test_open_count :
    ([(4, 1, 150), (4, 1, 149), (4, 2, 149), (3, 2, 149)].map fun (x : Nat × Nat × Nat) =>
      after (.beaconTick (.all x.2.2)) (counting x.1 x.2.1)
        (fun t => ((lampOf .ch1 t).state, (lampOf .ch1 t).openCount, t.notice.flags.lamp))) =
    [some (.ok, some 0, false), some (.ok, some 2, false), some (.failedOpen, none, true),
      some (.ok, some 2, false)] := by decide

/-- Channel 1 at its sixth tick and before it, each count, and both sides of the threshold. -/
theorem witness_BeaconTickRunsPatterns :
    (∀ c n, Serving (counting c n) ∧ (counting c n).beacon.timebase = true ∧
      (counting c n).beacon.test = none ∧ (zoneRecord .rear (counting c n)).demand ≠ .none ∧
      (lampOf .ch1 (counting c n)).openCount = some n) ∧
    ([0, 1, 2].map fun n => (measuredAt .rear .ch1 (counting 4 n),
      measuredAt .rear .ch1 (counting 3 n))) = [(true, false), (true, false), (true, false)] ∧
    Lamp.ch1 ∈ lampsOf .rear (counting 4 0) ∧
    149 < (counting 4 0).config.lamp.openThreshold ∧
    (counting 4 0).config.lamp.openThreshold ≤ 150 :=
  ⟨fun _ _ => ⟨serving_run rfl, rfl, rfl, nofun, rfl⟩,
    by decide, by decide, by decide, by decide⟩

/-- A driven and an undriven channel; a test not yet measured at 50 and at 49 ms; 149 and 150 mA at the
threshold. -/
theorem witness_LampFailuresExcludeChannels :
    (∀ x, Serving (flashing x) ∧ GrantsOk (flashing x) ∧ SlotsOk (flashing x) ∧
      JudgedOk (flashing x) ∧ (lampOf .ch1 (flashing x)).driven = true ∧
      (lampOf .ch2 (flashing x)).driven = false) ∧
    (∀ n, (flashing (some ⟨n, false⟩)).beacon.test = some ⟨n, false⟩) ∧ 49 < 50 ∧
    149 < (flashing none).config.lamp.openThreshold ∧
    (flashing none).config.lamp.openThreshold ≤ 150 :=
  ⟨fun x => ⟨serving_run rfl,
    ⟨running_grants.1, running_grants.2, running_grants.3, running_grants.4⟩,
    ⟨running_slots.1, running_slots.2, running_slots.3⟩,
    ⟨running_judged.1, fun z => by cases z <;> rfl⟩, rfl, rfl⟩, fun _ => rfl, by decide,
    by decide, by decide⟩

theorem witness_LampTestEndsAndLampraRearms :
    (flashing (some ⟨200, true⟩)).beacon.test = some ⟨200, true⟩ ∧
    ((flashing none).beacon.test = none ∧
      (flashing (some ⟨199, true⟩)).beacon.test = some ⟨199, true⟩) ∧
    (Link.sl1 ≠ .sl0 ∧ Ready .sl1 running) ∧
    (Ready .sl0 (flashing none) ∧ linkMode (flashing none).mode.mode = true ∧
      JudgedOk (flashing none)) ∧
    linkMode leaving.mode.mode = true ∧
    4096 ≤ (4096#16).toNat ∧ (4095#16).toNat < 4096 :=
  ⟨rfl, ⟨rfl, rfl⟩, ⟨by decide, running_ready _⟩,
    ⟨⟨rfl, rfl, rfl, rfl, rfl, credit_given⟩, rfl, running_judged.1, fun z => by cases z <;> rfl⟩,
    rfl, by decide, by decide⟩

/-- A port in each state, with 24 and with 25 credits held; idle for 0 and for 1 ms, with a message at its
start and before its EOM; the held-low time run out and not. -/
theorem witness_CreditFillAndHeldLowTaken :
    (portOf .sl1 (putPort .sl1 { upPort with creditHeld := 24 } running)).creditHeld ≤ 24 ∧
    24 < (portOf .sl1 (putPort .sl1 { upPort with creditHeld := 25 } running)).creditHeld ∧
    (∀ p, Serving (putPort .sl1 p running) ∧ Serving (leavingOn p)) ∧
    (portOf .sl1 (putPort .sl1 (openingPort 1250) running)).state = .opening ∧
    (portOf .sl1 (putPort .sl1 (restingPort 1250 false) running)).state = .disabled ∧
    (portOf .sl1 (putPort .sl1 (restingPort 1250 true) running)).state = .silenced ∧
    (portOf .sl1 (putPort .sl1 (restingPort 1250 true) running)).heldLow ≠ some 0 ∧
    ({ restingPort 1250 true with heldLow := some 0 } : Port).heldLow = some 0 ∧
    (∀ n k, let p := { upPort with
        idle := some n, position := k, queue := [.gend 7 .lift .held], creditHeld := 1 }
      p.idle = some n ∧ p.state = .up ∧ p.close = none ∧ p.buffer = [] ∧ p.creditHeld ≠ 0 ∧
        p.queue = .gend 7 .lift .held :: []) ∧
    (outBytes (.gend 7 .lift .held))[0]? = some 129#8 ∧
    4 = (outBytes (.gend 7 .lift .held)).length ∧ upPort.idle = some 0 :=
  ⟨by decide, by decide, fun p => ⟨serving_run rfl, (leavingOn_sound p).1⟩, rfl, rfl, rfl, by decide,
    rfl,
    fun _ _ => ⟨rfl, rfl, rfl, rfl, one_credit, rfl⟩, rfl, rfl, rfl⟩

/-- R155: a GEND of five symbols queued on a closing port, with some credit held. -/
def closing (n : Nat) : Port :=
  { upPort with
    queue := [.gend 7 .lift .held], creditHeld := n, close := some ⟨.silenced, 4⟩ }

/-- R155, R30: with credit for all of it the queue goes out and the close is taken; one short, the port
stays UP. -/
theorem test_close_with_queue :
    ([5, 4].map fun n => after (.closeQueueEmpty .sl1) (putPort .sl1 (closing n) running)
      (fun t => ((portOf .sl1 t).state, (portOf .sl1 t).creditHeld, t.notice.flags.link))) =
    [some (.silenced, 0, true), some (.up, 0, false)] := by decide

/-- An UP port with no credit given, 4 ms of silence and its close run out; 3 ms of silence and a close
with time left; a port not UP; a closing port with credit for its queue, and one short. -/
theorem witness_LinkErrorsAndClosesLoseLink :
    (let s := putPort .sl1 { upPort with
      creditGiven := 0, close := some ⟨.silenced, 0⟩, silence := some 4 } running
    (portOf .sl1 s).state = .up ∧ Serving s ∧ GrantsOk s ∧ SlotsOk s ∧
      (portOf .sl1 s).creditGiven = 0 ∧ (portOf .sl1 s).close = some ⟨.silenced, 0⟩ ∧
      (portOf .sl1 s).silence = some 4 ∧ (portOf .sl1 s).queue = []) ∧
    (let p : Port := { upPort with silence := some 3, close := some ⟨.silenced, 4⟩ }
    (∀ n, p.silence = some n → n < 4) ∧ ∀ x, p.close = some x → x.remaining ≠ 0) ∧
    (portOf .sl1 State.reset).state ≠ .up ∧
    (∀ p, Serving (leavingOn p) ∧ GrantsOk (leavingOn p) ∧ SlotsOk (leavingOn p) ∧
      (leavingOn p).mode.mode = .closedown) ∧
    (∀ n, (closing n).queue = .gend 7 .lift .held :: [] ∧ (closing n).buffer = [] ∧
      (closing n).position ≤ (outBytes (.gend 7 .lift .held)).length) ∧
    symbolsIn (closing 5).queue ≤ (closing 5).position + (closing 5).creditHeld ∧
    (closing 4).position + (closing 4).creditHeld < symbolsIn (closing 4).queue :=
  ⟨⟨rfl, serving_run rfl,
    ⟨running_grants.1, running_grants.2, running_grants.3, running_grants.4⟩,
    ⟨running_slots.1, running_slots.2, running_slots.3⟩, rfl, rfl, rfl, rfl⟩,
    ⟨fun n h => by cases h; decide, fun x h => by cases h; decide⟩, by decide, leavingOn_sound,
    fun _ => ⟨rfl, rfl, Nat.zero_le _⟩, by decide, by decide⟩

/-- A GEND of five symbols with just enough credit, and with one too few; an RPLY with the next message in
the buffer. -/
theorem witness_TransmissionUsesCredit :
    (∀ n : Nat, let p := { upPort with queue := [.gend 7 .lift .held], creditHeld := n }
    (portOf .sl1 (putPort .sl1 p running)).state = .up ∧
      (portOf .sl1 (putPort .sl1 p running)).queue = .gend 7 .lift .held :: [] ∧
      p.position ≤ (outBytes (.gend 7 .lift .held)).length ∧
      (n = 5 → (outBytes (.gend 7 .lift .held)).length + 1 - p.position ≤ p.creditHeld) ∧
      (n = 4 → p.creditHeld < (outBytes (.gend 7 .lift .held)).length + 1 - p.position)) ∧
    let p := { upPort with
      queue := [.rply 5#8 .ok []], creditHeld := 4, inHand := true, creditGiven := 24
      buffer := [.data 5#8, .data 1#8, .eom] }
    p.close = none ∧ (outBytes (.rply 5#8 .ok [])).length + 1 - p.position ≤ p.creditHeld ∧
      byteAt (outBytes (.rply 5#8 .ok [])) 0 = 128 ∧ p.frame = none ∧
      p.buffer = [5#8, 1#8].map MsgSymbol.data ++ [.eom] :=
  ⟨fun n => ⟨rfl, rfl, Nat.zero_le _, fun h => by subst h; decide, fun h => by subst h; decide⟩,
    rfl, by decide, by decide, rfl, rfl⟩

theorem witness_RstlinkResetsPort :
    Ready .sl0 running ∧ Link.sl2 ≠ .sl0 ∧ 5 < (6#8).toNat ∧ 5#8 = byteOf (linkNum .sl5) ∧
      (portOf .sl5 running).queue = [] ∧ (portOf .sl5 running).close = none ∧
      Serving running ∧ Serving leaving ∧
      (portOf .sl5 (putPort .sl5 { upPort with close := some ⟨.disabled, 4⟩ }
        running)).close.isSome = true :=
  ⟨running_ready _, by decide, by decide, by decide, rfl, rfl, serving_run rfl, leaving_serving, rfl⟩

/-- No save, in RUN and in CLOSEDOWN; an unknown item; a value at its bound and one over it; a busy item;
an item of each kind; another link. -/
theorem witness_CfgwrWritesItem :
    (Ready .sl0 running ∧ running.mode.mode ≠ .closedown ∧ running.store.save = none) ∧
    (Ready .sl0 leaving ∧ leaving.mode.mode = .closedown ∧ EasingOnly leaving ∧ EasingOnly running ∧
      leaving.store.save = none) ∧
    (itemOf 0 = none ∧ itemOf 104 = some .deadman ∧ itemBusy .deadman 1000 running = false ∧
    validValue running.config .deadman 1000 = true ∧
    validValue running.config .deadman 1010 = false ∧
    itemBusy .hysteresis 5 queued = true) ∧
    (itemOf 3 = some .bedHeight ∧ isCalibration .bedHeight = true ∧
      validValue running.config .bedHeight 2000 = true) ∧
    (itemOf 16 = some .pulsesPerKm ∧ isPermitItem .pulsesPerKm = true ∧
      isPermitItem .stationary = true ∧ validValue running.config .pulsesPerKm 1000 = true) ∧
    (itemOf 80 = some (.lampZone .ch1) ∧ itemBusy (.lampZone .ch1) 4 running = false ∧
      validValue running.config (.lampZone .ch1) 4 = true) ∧
    (itemOf 153 = some (.enabled .sl1) ∧ validValue running.config (.enabled .sl1) 0 = true ∧
      portEnabled .sl1 running = true ∧
      portEnabled .sl1 (running.setConfig (writeItem running.config (.enabled .sl1) 0)) = false) ∧
    (GrantsOk running ∧ SlotsOk running ∧ JudgedOk running ∧ Link.sl1 ≠ .sl0 ∧
      Ready .sl1 running) :=
  ⟨⟨running_ready _, by decide, by decide⟩,
    ⟨leaving_ready _, rfl, leaving_serving.2, (serving_run rfl).2, by decide⟩,
    by decide, by decide, by decide, by decide, by decide, running_grants, running_slots, running_judged,
    by decide, running_ready _⟩

/-- No save; a save run out with an RSTLVL 1 waiting, in RUN and in CLOSEDOWN, and with a WAKE waiting; a
save with time left; another link. -/
theorem witness_SaveWritesStore :
    (Ready .sl0 running ∧ running.store.save = none ∧ Link.sl1 ≠ .sl0 ∧ Ready .sl1 running) ∧
    (∀ n w, let s := running.setStore { running.store with
        save := some ⟨n, defaultConfig⟩, resetWaits := w }
      s.store.save = some ⟨n, defaultConfig⟩ ∧ s.store.resetWaits = w ∧
        s.mode.loadWaits = false ∧ s.mode.mode ≠ .off ∧ s.mode.mode ≠ .closedown) ∧
    leaving.mode.mode = .closedown ∧
    (running.setMode { running.mode with mode := .wake, loadWaits := true }).mode.loadWaits = true :=
  ⟨⟨running_ready _, by decide, by decide, running_ready _⟩,
    fun _ _ => ⟨rfl, rfl, rfl, run_not_off, run_settled⟩, rfl, rfl⟩

theorem witness_NoticesAndFaultRecordRead :
    Ready .sl0 running ∧ Link.sl1 ≠ .sl0 ∧ Ready .sl1 running :=
  ⟨running_ready _, by decide, running_ready _⟩

/-- IGN off in OFF, without and with a save; in CLOSEDOWN; on in RUN with a closedown time of 30 s. -/
theorem witness_IgnitionStartsAndStops :
    (GrantsOk State.reset ∧ SlotsOk State.reset ∧ State.reset.mode.ign = false ∧
      State.reset.mode.mode = .off ∧ State.reset.store.save = none) ∧
    (State.reset.setStore { State.reset.store with
      save := some ⟨40, defaultConfig⟩ }).store.save.isSome = true ∧
    ((runningIn .closedown (some 1) false).mode.ign = false ∧
      (runningIn .closedown (some 1) false).mode.mode = .closedown) ∧
    (running.mode.ign = true ∧ running.mode.mode ≠ .off ∧ running.mode.mode ≠ .closedown) :=
  ⟨⟨grantsOk_of (by decide),
      slotsOk_of fun r => by cases r <;> decide, rfl, rfl, rfl⟩, rfl, ⟨rfl, rfl⟩, rfl, by decide,
    by decide⟩

/-- RUN, DEFER with IGN on and off, and the bounds of the trips. -/
theorem witness_SupplyTripsDefer :
    (GrantsOk running ∧ SlotsOk running ∧ running.mode.mode = .run ∧ working running = true) ∧
    (Instr.supplylowTrip, FaultKind.supplylow) ∈
      [(Instr.supplylowTrip, FaultKind.supplylow), (.supplyhighTrip, .supplyhigh)] ∧
    (∀ b, (runningIn .defer none b).mode.mode = .defer ∧ (runningIn .defer none b).mode.ign = b) ∧
    (running.setMode { running.mode with lowCount := 490 }).mode.lowCount = 490 :=
  ⟨⟨running_grants, running_slots, by decide, by decide⟩, by decide, fun _ => ⟨rfl, rfl⟩, rfl⟩

/-- R155, R158: CLOSEDOWN times out with link 5, which no strap enables, SILENCED, link 4 OPENING and link 1
with a message queued. -/
def timedOut : State :=
  putPort .sl1 { upPort with queue := [.gend 7 .lift .held] }
    (putPort .sl4 (openingPort 1250) (putPort .sl5 (restingPort 1250 true)
      (runningIn .closedown (some 0) false)))

/-- R155, R158: entry into OFF leaves links 4 and 5 DISABLED within the event, and link 1 UP and closing. -/
theorem test_off_closes_every_port :
    portEnabled .sl5 timedOut = false ∧
    after .closedownTimerExpiry timedOut (fun t => (portOf .sl5 t, portOf .sl4 t,
        (portOf .sl1 t).state, (portOf .sl1 t).close)) =
      some (restingPort 1250 false, restingPort 1250 false, .up, some ⟨.disabled, 4⟩) := by decide

/-- Each mode with its timer run out, and with time left, IGN on and off; an entry into CLOSEDOWN with a
grant EASING; a sample of a CLOSEDOWN with no grant; a history entry 60 s old and one 1 ms younger. -/
theorem witness_ModeTimersLeaveModes :
    (∀ m b, GrantsOk (runningIn m (some 0) b) ∧ SlotsOk (runningIn m (some 0) b) ∧
      (runningIn m (some 0) b).mode.mode = m ∧ (runningIn m (some 0) b).mode.timer = some 0 ∧
      (runningIn m (some 0) b).mode.ign = b ∧ (runningIn m (some 1) b).mode.timer ≠ some 0) ∧
    (after (.ignOff .permitFirst) (lifting .hold .driving) (fun t => t.mode.mode) =
        some .closedown ∧ (lifting .hold .driving).mode.mode ≠ .closedown) ∧
    ((runningIn .closedown (some 9) false).mode.mode = .closedown ∧
      (runningIn .closedown (some 9) false).mode.loadWaits = false ∧
      (runningIn .closedown (some 9) false).grant.table = []) ∧
    60000 ≤ 60000 ∧ 59999 < 60000 :=
  ⟨fun _ _ => ⟨⟨running_grants.1, running_grants.2, running_grants.3, running_grants.4⟩,
    ⟨running_slots.1, running_slots.2, running_slots.3⟩, rfl, rfl, rfl, time_left⟩, by decide,
    ⟨rfl, rfl, rfl⟩, by decide, by decide⟩

/-- RUN with a grant and operator ports UP, with one OPENING and one SILENCED; a CLOSEDOWN that ends and
one that does not; BARRED; a save in progress; another link. -/
theorem witness_ResetLevelsCutGrants :
    (Ready .sl0 queued ∧ GrantsOk queued ∧ SlotsOk queued ∧ linkMode queued.mode.mode = true ∧
      queued.mode.mode ≠ .closedown ∧ queued.store.save = none) ∧
    (linkMode (runningIn .closedown (some 1) false).mode.mode = true ∧
      leavesOff [] (runningIn .closedown (some 1) false) = false) ∧
    (Ready .sl0 leaving ∧ GrantsOk leaving ∧ SlotsOk leaving ∧ leaving.mode.mode ≠ .barred ∧
      leavesOff [] leaving = true) ∧
    (Link.sl1 ≠ .sl0 ∧ Ready .sl1 queued) ∧
    linkMode (runningIn .barred none true).mode.mode = true ∧
    ((portOf .sl1 queued).state = .up ∧
      (portOf .sl1 (putPort .sl1 (openingPort 1250) queued)).state = .opening ∧
      (portOf .sl1 (putPort .sl1 (restingPort 1250 true) queued)).state = .silenced) ∧
    (running.setStore { running.store with save := some ⟨1, defaultConfig⟩ }).store.save.isSome =
      true :=
  ⟨⟨queued_ready _, queued_grants, queued_slots, by decide, by decide, by decide⟩,
    by decide, ⟨leaving_ready _, leaving_grants, leaving_slots, by decide, by decide⟩,
    ⟨by decide, queued_ready _⟩, by decide, ⟨rfl, rfl, rfl⟩, rfl⟩

end Sys2Proof.Tests
end

section
/-! What R32 is judged on (the grant table and slots, the holds, the fault codes, the permit map and the
mode), and the operations of the other blocks that leave all of it alone. -/

namespace Sys2Proof.Machine.Motion

/-! ## What R32 is judged on -/

/-- R32: the parts of the state a grant's permission to move is judged on, the grants with them. -/
structure GrantView where
  grant : GrantEngine
  holds : List Hold
  fault : PerAxis (Option FaultCode)
  map : PerAxis (PerSense CauseSet)
  mode : Mode

/-- R32: those parts of a state. -/
def view (s : State) : GrantView :=
  ⟨s.grant, s.hold.table, s.axis.fault, s.permit.map, s.mode.mode⟩

theorem grant_of_view {s t : State} (e : view t = view s) : t.grant = s.grant :=
  congrArg GrantView.grant e

/-! ## Field updates -/

section
variable (s : State)

@[simp] theorem view_setPending (v : List Instr) : view (s.setPending v) = view s := rfl
@[simp] theorem view_setInputs (v : Inputs) : view (s.setInputs v) = view s := rfl
@[simp] theorem view_setDrive (v : DriveShaper) : view (s.setDrive v) = view s := rfl
@[simp] theorem view_setPanel (v : PanelSequencer) : view (s.setPanel v) = view s := rfl
@[simp] theorem view_setBeacon (v : BeaconController) : view (s.setBeacon v) = view s := rfl
@[simp] theorem view_setPort (v : PerLink Port) : view (s.setPort v) = view s := rfl
@[simp] theorem view_setNotice (v : Notices) : view (s.setNotice v) = view s := rfl
@[simp] theorem view_setFaultLog (v : FaultLog) : view (s.setFaultLog v) = view s := rfl
@[simp] theorem view_setConfig (v : WorkingConfig) : view (s.setConfig v) = view s := rfl
@[simp] theorem view_setStore (v : ConfigStore) : view (s.setStore v) = view s := rfl

end

/-- The axis status unit matters by its fault codes alone. -/
theorem view_setAxis (s : State) {v : AxisUnit} (h : v.fault = s.axis.fault) :
    view (s.setAxis v) = view s := by
  simp [view, h]

/-- The permit monitor matters by its map alone. -/
theorem view_setPermit (s : State) {v : PermitMonitor} (h : v.map = s.permit.map) :
    view (s.setPermit v) = view s := by
  simp [view, h]

/-- The mode controller matters by the mode alone. -/
theorem view_setMode (s : State) {v : ModeController} (h : v.mode = s.mode.mode) :
    view (s.setMode v) = view s := by
  simp [view, h]

/-- A fold of steps that leave the view alone leaves it alone. -/
theorem view_forEach {α : Type} {f : α → State → State} (hf : ∀ x s, view (f x s) = view s)
    (l : List α) (s : State) : view (forEach f l s) = view s := by
  unfold forEach
  induction l generalizing s with
  | nil => rfl
  | cons x xs ih => exact (ih _).trans (hf x s)

/-! ## Notices, messages, the fault record -/

@[simp] theorem view_judgeAttention (s : State) : view (judgeAttention s) = view s := rfl
@[simp] theorem view_raise (f : NoticeFlag) (s : State) : view (raise f s) = view s := rfl
@[simp] theorem view_putPort (l : Link) (p : Port) (s : State) : view (putPort l p s) = view s :=
  rfl

@[simp] theorem view_placeMessage (l : Link) (m : OutMsg) (s : State) :
    view (placeMessage l m s) = view s := by
  unfold placeMessage
  dsimp only
  split <;> simp

@[simp] theorem view_gendDue (g : Grant) (r : Reason) (s : State) :
    view (gendDue g r s) = view s := by
  unfold gendDue
  split <;> simp

@[simp] theorem view_orderGends (b s : State) : view (orderGends b s) = view s :=
  view_forEach (fun l t => view_putPort l _ t) _ s

@[simp] theorem view_enterFault (r : FaultRecord) (s : State) : view (enterFault r s) = view s := by
  unfold enterFault
  split <;> simp

/-! ## Drive shaper -/

@[simp] theorem view_driveEnd (a : Axis) (s : State) : view (driveEnd a s) = view s := rfl

@[simp] theorem view_gatedStop (a : Axis) (s : State) : view (gatedStop a s) = view s := by
  unfold gatedStop
  split
  · rfl
  · split <;> simp

@[simp] theorem view_forceOutputs (s : State) : view (forceOutputs s) = view s := rfl
@[simp] theorem view_stopDrive (s : State) : view (stopDrive s) = view s := rfl
@[simp] theorem view_takeDriveItems (s : State) : view (takeDriveItems s) = view s := rfl
@[simp] theorem view_reportLiftOutput (s : State) : view (reportLiftOutput s) = view s := rfl

@[simp] theorem view_setActuator (a : Axis) (s : State) : view (setActuator a s) = view s := by
  cases a <;> rfl

@[simp] theorem view_ditherFlip (s : State) : view (ditherFlip s) = view s := by
  unfold ditherFlip
  dsimp only
  split
  · exact (view_forEach (fun c t => view_setDrive t _) _ _).trans (view_setDrive s _)
  · rfl

/-! ## Panel sequencer -/

@[simp] theorem view_putPanel (m : Motor) (p : PanelRecord) (s : State) :
    view (putPanel m p s) = view s := rfl
@[simp] theorem view_putLatch (d : Door) (p : LatchRecord) (s : State) :
    view (putLatch d p s) = view s := rfl
@[simp] theorem view_startUnlatching (d : Door) (p : PanelRecord) (s : State) :
    view (startUnlatching d p s) = view s := rfl
@[simp] theorem view_startLatching (d : Door) (p : PanelRecord) (s : State) :
    view (startLatching d p s) = view s := rfl

@[simp] theorem view_startDoor (d : Door) (g : Grant) (s : State) :
    view (startDoor d g s) = view s := by
  unfold startDoor
  dsimp only
  repeat' split
  all_goals simp

@[simp] theorem view_panelStart (g : Grant) (s : State) : view (panelStart g s) = view s := by
  unfold panelStart
  split
  · rfl
  all_goals simp

/-- R8: the start of a grant's drive and sequence touches no grant. -/
@[simp] theorem view_startGrant (g : Grant) (s : State) : view (startGrant g s) = view s :=
  view_panelStart g _

@[simp] theorem view_panelWindDown (a : Axis) (s : State) : view (panelWindDown a s) = view s := by
  unfold panelWindDown
  dsimp only
  repeat' split
  all_goals simp

@[simp] theorem view_meetFrame (d : Door) (p : PanelRecord) (s : State) :
    view (meetFrame d p s) = view s := by
  unfold meetFrame
  split <;> simp

@[simp] theorem view_resumeDoor (d : Door) (s : State) : view (resumeDoor d s) = view s := by
  unfold resumeDoor
  dsimp only
  repeat' split
  all_goals simp

@[simp] theorem view_panelResume (a : Axis) (s : State) : view (panelResume a s) = view s := by
  cases a <;> simp [panelResume]

@[simp] theorem view_panelStop (a : Axis) (s : State) : view (panelStop a s) = view s := by
  unfold panelStop
  dsimp only
  repeat' split
  all_goals simp

@[simp] theorem view_setDoorSwitch (d : Door) (w : DoorSwitch) (b : Bool) (s : State) :
    view (setDoorSwitch d w b s) = view s := by
  cases w <;> rfl

@[simp] theorem view_doorOpenSwitch (d : Door) (b : Bool) (s : State) :
    view (doorOpenSwitch d b s) = view s := by
  unfold doorOpenSwitch
  dsimp only
  repeat' split
  all_goals simp

@[simp] theorem view_doorClosedSwitch (d : Door) (b : Bool) (s : State) :
    view (doorClosedSwitch d b s) = view s := by
  unfold doorClosedSwitch
  dsimp only
  repeat' split
  all_goals simp

@[simp] theorem view_doorLatchSwitch (d : Door) (b : Bool) (s : State) :
    view (doorLatchSwitch d b s) = view s := by
  unfold doorLatchSwitch
  dsimp only
  repeat' split
  all_goals simp

@[simp] theorem view_doorSwitchChange (d : Door) (w : DoorSwitch) (b : Bool) (s : State) :
    view (doorSwitchChange d w b s) = view s := by
  unfold doorSwitchChange
  dsimp only
  split
  · rfl
  · split
    · exact view_setDoorSwitch d w b s
    · cases w <;> simp

@[simp] theorem view_shutterSwitchChange (w : ShutterSwitch) (b : Bool) (s : State) :
    view (shutterSwitchChange w b s) = view s := by
  unfold shutterSwitchChange
  dsimp only
  split <;> simp

@[simp] theorem view_wakePanel (s : State) : view (wakePanel s) = view s := by
  simp only [wakePanel, view_putLatch, view_putPanel, view_setPanel]

/-! ## Beacon controller -/

@[simp] theorem view_putLamp (c : Lamp) (r : LampRecord) (s : State) :
    view (putLamp c r s) = view s := rfl
@[simp] theorem view_putZone (z : Zone) (r : ZoneRecord) (s : State) :
    view (putZone z r s) = view s := rfl

@[simp] theorem view_driveZone (z : Zone) (s : State) : view (driveZone z s) = view s :=
  view_forEach (fun c s => by unfold driveLamp; dsimp only; split <;> simp) _ s

@[simp] theorem view_fixWorkingSet (z : Zone) (s : State) : view (fixWorkingSet z s) = view s :=
  (view_forEach (fun c t => view_putLamp c _ t) _ _).trans (view_putZone z _ s)

@[simp] theorem view_restartZone (z : Zone) (p : Pattern) (s : State) :
    view (restartZone z p s) = view s := by
  simp [restartZone]

@[simp] theorem view_tickZone (z : Zone) (s : State) : view (tickZone z s) = view s := by
  unfold tickZone periodStart
  dsimp only
  repeat' split
  all_goals simp

@[simp] theorem view_setDemand (z : Zone) (p : Pattern) (s : State) :
    view (setDemand z p s) = view s := by
  unfold setDemand
  repeat' split
  all_goals simp

@[simp] theorem view_judgeDemands (b s : State) : view (judgeDemands b s) = view s := by
  unfold judgeDemands
  split
  · exact view_forEach (fun z t => by split <;> simp) _ s
  · rfl

@[simp] theorem view_restartAll (s : State) : view (restartAll s) = view s :=
  view_forEach (fun _ _ => view_restartZone _ _ _) _ s

@[simp] theorem view_failLamp (st : LampState) (c : Lamp) (s : State) :
    view (failLamp st c s) = view s := rfl

@[simp] theorem view_measureLamp (c : Lamp) (n : Nat) (s : State) :
    view (measureLamp c n s) = view s := by
  unfold measureLamp
  dsimp only
  repeat' split
  all_goals simp

@[simp] theorem view_measureZone (n : PerLamp Nat) (z : Zone) (s : State) :
    view (measureZone n z s) = view s := by
  unfold measureZone
  split
  · rfl
  · exact view_forEach (fun c t => by split <;> simp) _ s

@[simp] theorem view_rearmLamp (c : Lamp) (s : State) : view (rearmLamp c s) = view s := by
  unfold rearmLamp
  dsimp only
  split <;> simp

@[simp] theorem view_clearExclusions (b : PerLamp (Option Zone)) (s : State) :
    view (clearExclusions b s) = view s := rfl
@[simp] theorem view_startLampTest (s : State) : view (startLampTest s) = view s := rfl

@[simp] theorem view_testLamp (n : PerLamp Nat) (c : Lamp) (s : State) :
    view (testLamp n c s) = view s := by
  unfold testLamp
  dsimp only
  repeat' split
  all_goals simp

@[simp] theorem view_dropLampTest (s : State) : view (dropLampTest s) = view s := rfl

@[simp] theorem view_lampTestEnd (s : State) : view (lampTestEnd s) = view s := by
  unfold lampTestEnd
  split <;> simp

@[simp] theorem view_lampTestExpiry (s : State) : view (lampTestExpiry s) = view s := by
  unfold lampTestExpiry
  repeat' split
  all_goals simp

@[simp] theorem view_beaconsDark (s : State) : view (beaconsDark s) = view s := rfl

@[simp] theorem view_beaconMode (m n : Mode) (s : State) : view (beaconMode m n s) = view s := by
  unfold beaconMode
  repeat' split
  all_goals simp

/-! ## Axis status unit and permit monitor -/

theorem computeLift_fault (c : WorkingConfig) (u : AxisUnit) : (computeLift c u).fault = u.fault := by
  unfold computeLift
  dsimp only
  split <;> rfl

theorem computeTilt_fault (c : WorkingConfig) (u : AxisUnit) : (computeTilt c u).fault = u.fault := by
  unfold computeTilt
  dsimp only
  split <;> rfl

theorem fault_ite {b : Bool} {f : AxisUnit → AxisUnit} {u : AxisUnit} (h : (f u).fault = u.fault) :
    (if b then f u else u).fault = u.fault := by
  split
  · exact h
  · rfl

/-- R52: computing the axes sets and clears no fault. -/
@[simp] theorem computeAxes_fault (c : WorkingConfig) (u : AxisUnit) :
    (computeAxes c u).fault = u.fault := by
  unfold computeAxes
  extract_lets lift tilt fold shut near
  have hlift : lift.fault = u.fault := fault_ite (computeLift_fault c u)
  have htilt : tilt.fault = lift.fault := fault_ite (computeTilt_fault c lift)
  have hfold : fold.fault = tilt.fault := fault_ite rfl
  have hshut : shut.fault = fold.fault := fault_ite rfl
  have hnear : near.fault = shut.fault := fault_ite rfl
  calc _ = near.fault := fault_ite rfl
    _ = u.fault := by rw [hnear, hshut, hfold, htilt, hlift]

@[simp] theorem view_takeReadings (s : State) : view (takeReadings s) = view s := rfl

@[simp] theorem view_recomputeAxes (s : State) : view (recomputeAxes s) = view s :=
  view_setAxis s (computeAxes_fault _ _)

@[simp] theorem view_judgeDeployMove (s : State) : view (judgeDeployMove s) = view s := by
  unfold judgeDeployMove
  dsimp only
  split <;> rfl

@[simp] theorem view_recomputeSpeed (s : State) : view (recomputeSpeed s) = view s := by
  unfold recomputeSpeed
  split <;> rfl

end Sys2Proof.Machine.Motion
end

section
/-! R32 within one reaction of the grant engine: a grant that may move comes from one that might move
before, so no reaction lets an EASING grant move again. -/

namespace Sys2Proof.Machine.Motion

/-! ## Slots and handles -/

/-- R2, R4: the part of the table's and the slots' soundness that the permission to move rests on: the
handles are distinct, and the waiting grant of a slot is a WAITING grant of its resource. -/
structure Slotted (s : State) : Prop where
  distinct : (s.grant.table.map (·.handle)).Nodup
  waiting : ∀ r w, (slotOf r s).waiting = some w →
    ∃ g ∈ s.grant.table, g.handle = w ∧ resourceOf g.axis = r ∧ g.state = .waiting

theorem slotted_of_ok {s : State} (hg : GrantsOk s) (hs : SlotsOk s) : Slotted s :=
  ⟨hg.distinct, fun r w h => (hs.waiting r w).mp h⟩

theorem Slotted.of_grant {s t : State} (h : Slotted s) (e : t.grant = s.grant) : Slotted t :=
  ⟨by rw [e]; exact h.distinct, by unfold slotOf; rw [e]; exact h.waiting⟩

/-- R1: two live grants with one handle are one. -/
theorem Slotted.eq_of_handle {s : State} (h : Slotted s) {g k : Grant} (hg : g ∈ s.grant.table)
    (hk : k ∈ s.grant.table) (e : g.handle = k.handle) : g = k :=
  List.inj_on_of_nodup_map h.distinct hg hk e

/-- R4: a live grant that a slot keeps waiting is WAITING, and the slot is its resource's. -/
theorem Slotted.waits {s : State} (h : Slotted s) {k : Grant} {r : Resource}
    (hk : k ∈ s.grant.table) (hw : (slotOf r s).waiting = some k.handle) :
    k.state = .waiting ∧ resourceOf k.axis = r := by
  obtain ⟨g, hg, he, hr, hst⟩ := h.waiting r _ hw
  obtain rfl := h.eq_of_handle hg hk he
  exact ⟨hst, hr⟩

theorem findGrant_some {h : Nat} {s : State} {g : Grant} (e : findGrant h s = some g) :
    g ∈ s.grant.table ∧ g.handle = h :=
  ⟨List.mem_of_find?_eq_some e, by simpa using List.find?_some e⟩

/-- A live grant with this handle is on this axis. -/
def Live (g : Grant) (s : State) : Prop :=
  ∃ k ∈ s.grant.table, k.handle = g.handle ∧ k.axis = g.axis

theorem live_of_mem {g : Grant} {s : State} (h : g ∈ s.grant.table) : Live g s := ⟨g, h, rfl, rfl⟩

/-! ## Calm changes -/

/-- The grant `g` after a change is the grant `k` before it, and both may move. -/
structure SameMover (k g : Grant) : Prop where
  mover : k.state ≠ .easing
  handle : k.handle = g.handle
  axis : k.axis = g.axis
  sense : k.sense = g.sense

/-- A change of the grants after which the slots are sound and every grant that is not EASING was live
and not EASING before. -/
structure Calms (s t : State) : Prop where
  slotted : Slotted t
  origin : ∀ g ∈ t.grant.table, g.state ≠ .easing → ∃ k ∈ s.grant.table, SameMover k g

theorem Calms.refl {s : State} (h : Slotted s) : Calms s s :=
  ⟨h, fun g hg hm => ⟨g, hg, hm, rfl, rfl, rfl⟩⟩

theorem Calms.trans {s t u : State} (h : Calms s t) (k : Calms t u) : Calms s u := by
  refine ⟨k.slotted, fun g hg hm => ?_⟩
  obtain ⟨x, hx, hxg⟩ := k.origin g hg hm
  obtain ⟨y, hy, hyx⟩ := h.origin x hx hxg.mover
  exact ⟨y, hy, hyx.mover, hyx.handle.trans hxg.handle, hyx.axis.trans hxg.axis,
    hyx.sense.trans hxg.sense⟩

theorem Calms.of_grant {s t u : State} (h : Calms s t) (e : u.grant = t.grant) : Calms s u :=
  ⟨h.slotted.of_grant e, by rw [e]; exact h.origin⟩

/-- No grant of this handle may move. -/
def Calmed (h : Nat) (s : State) : Prop := ∀ g ∈ s.grant.table, g.handle = h → g.state = .easing

/-- What may not move stays so through a calm change. -/
theorem Calmed.calms {h : Nat} {s t : State} (n : Calmed h s) (c : Calms s t) : Calmed h t := by
  intro g hg he
  by_contra hm
  obtain ⟨k, hk, hkg⟩ := c.origin g hg hm
  exact hkg.mover (n k hk (hkg.handle.trans he))

theorem Calmed.of_grant {h : Nat} {s t : State} (n : Calmed h s) (e : t.grant = s.grant) :
    Calmed h t := by unfold Calmed; rw [e]; exact n

/-! ## Changed records -/

@[simp] theorem putGrant_table (g : Grant) (s : State) : (putGrant g s).grant.table =
    s.grant.table.map fun x => if x.handle = g.handle then g else x := rfl

@[simp] theorem slotOf_putGrant (r : Resource) (g : Grant) (s : State) :
    slotOf r (putGrant g s) = slotOf r s := rfl

/-- Putting a record back in its place changes no handle. -/
theorem putGrant_handles (g : Grant) (s : State) :
    (putGrant g s).grant.table.map (·.handle) = s.grant.table.map (·.handle) := by
  rw [putGrant_table, List.map_map]
  refine List.map_congr_left fun x _ => ?_
  simp only [Function.comp_apply]
  split
  · next e => exact e.symm
  · rfl

theorem mem_putGrant {g x : Grant} {s : State} (h : x ∈ (putGrant g s).grant.table) :
    x = g ∨ (x ∈ s.grant.table ∧ x.handle ≠ g.handle) := by
  rw [putGrant_table, List.mem_map] at h
  obtain ⟨y, hy, rfl⟩ := h
  split
  · exact .inl rfl
  · next n => exact .inr ⟨hy, n⟩

theorem mem_putGrant_of_ne {g x : Grant} {s : State} (h : x ∈ s.grant.table)
    (n : x.handle ≠ g.handle) : x ∈ (putGrant g s).grant.table := by
  rw [putGrant_table, List.mem_map]
  exact ⟨x, h, if_neg n⟩

theorem mem_putGrant_self {g k : Grant} {s : State} (h : k ∈ s.grant.table)
    (e : k.handle = g.handle) : g ∈ (putGrant g s).grant.table := by
  rw [putGrant_table, List.mem_map]
  exact ⟨k, h, if_pos e⟩

/-- A live grant's record changed, on its axis and in its sense: calm where a grant that a slot keeps
waiting is WAITING afterwards, and an EASING one EASING. -/
theorem calms_putGrant_of_slots {s : State} (h : Slotted s) {g k : Grant} (hk : k ∈ s.grant.table)
    (hh : k.handle = g.handle) (ha : k.axis = g.axis) (hn : k.sense = g.sense)
    (hw : ∀ r, (slotOf r s).waiting = some k.handle → g.state = .waiting)
    (he : k.state = .easing → g.state = .easing) : Calms s (putGrant g s) := by
  refine ⟨⟨by rw [putGrant_handles]; exact h.distinct, fun r w hr => ?_⟩, fun x hx hm => ?_⟩
  · obtain ⟨x, hx, rfl, hxr, hxs⟩ := h.waiting r w hr
    by_cases e : x.handle = g.handle
    · obtain rfl := h.eq_of_handle hx hk (e.trans hh.symm)
      exact ⟨g, mem_putGrant_self hx e, e.symm, by rw [← ha]; exact hxr, hw r hr⟩
    · exact ⟨x, mem_putGrant_of_ne hx e, rfl, hxr, hxs⟩
  · rcases mem_putGrant hx with rfl | ⟨hx, -⟩
    · exact ⟨k, hk, fun e => hm (he e), hh, ha, hn⟩
    · exact ⟨x, hx, hm, rfl, rfl, rfl⟩

/-- The same, where a WAITING grant stays WAITING. -/
theorem calms_putGrant {s : State} (h : Slotted s) {g k : Grant} (hk : k ∈ s.grant.table)
    (hh : k.handle = g.handle) (ha : k.axis = g.axis) (hn : k.sense = g.sense)
    (hw : k.state = .waiting → g.state = .waiting) (he : k.state = .easing → g.state = .easing) :
    Calms s (putGrant g s) :=
  calms_putGrant_of_slots h hk hh ha hn (fun _ hr => hw (h.waits hk hr).1) he

/-! ## Retirement (R22) -/

@[simp] theorem dropGrant_table (h : Nat) (s : State) :
    (dropGrant h s).grant.table = s.grant.table.filter fun x => x.handle != h := rfl

@[simp] theorem slotOf_dropGrant (r : Resource) (h : Nat) (s : State) :
    slotOf r (dropGrant h s) = slotOf r s := rfl

theorem mem_dropGrant {h : Nat} {s : State} {g : Grant} :
    g ∈ (dropGrant h s).grant.table ↔ g ∈ s.grant.table ∧ g.handle ≠ h := by
  rw [dropGrant_table, List.mem_filter, bne_iff_ne]

theorem slotOf_setSlot (r q : Resource) (v : Slot) (s : State) :
    slotOf q (setSlot r v s) = if q = r then v else slotOf q s :=
  PerResource.get_set _ _ _ _

@[simp] theorem setSlot_table (r : Resource) (v : Slot) (s : State) :
    (setSlot r v s).grant.table = s.grant.table := rfl

/-- R22 steps 3 and 4: the slot of a resource passes to the live grant that waits, which is then the
DRIVING holder, or becomes FREE; no other slot changes. -/
theorem passSlot_cases (r : Resource) (s : State) :
    (passSlot r s).grant = (setSlot r ⟨none, none⟩ s).grant ∨
      ∃ k ∈ s.grant.table, (slotOf r s).waiting = some k.handle ∧
        (passSlot r s).grant =
          (putGrant { k with state := .driving } (setSlot r ⟨some k.handle, none⟩ s)).grant := by
  unfold passSlot
  split
  · exact .inl rfl
  · next w hw =>
    split
    · exact .inl rfl
    · next k hf =>
      obtain ⟨hk, rfl⟩ := findGrant_some hf
      exact .inr ⟨k, hk, hw, grant_of_view (view_startGrant _ _)⟩

/-- R22: what leaving a slot does to the grants: the slot passes on, or it waits for nothing any more, or
the grant had no place in it. -/
theorem leaveSlot_cases (g : Grant) (s : State) :
    (leaveSlot g s).grant = (passSlot (resourceOf g.axis) s).grant ∨
      (leaveSlot g s).grant =
        (setSlot (resourceOf g.axis) { slotOf (resourceOf g.axis) s with waiting := none } s).grant ∨
      ((slotOf (resourceOf g.axis) s).waiting ≠ some g.handle ∧ (leaveSlot g s).grant = s.grant) := by
  have pass (r : Resource) (t : State) (e : t.grant = s.grant) :
      (passSlot r t).grant = (passSlot r s).grant := by
    have grant_start (k : Grant) (u : State) : (startGrant k u).grant = u.grant :=
      grant_of_view (view_startGrant k u)
    simp only [passSlot, slotOf, findGrant, e]
    split
    · simp only [setSlot, e, State.setGrant_grant]
    · split <;> simp only [setSlot, putGrant, e, State.setGrant_grant, grant_start]
  unfold leaveSlot
  dsimp only
  split
  · exact .inl (pass _ _ (grant_of_view ((view_panelStop _ _).trans (view_driveEnd _ _))))
  · split
    · exact .inr (.inl rfl)
    · next n => exact .inr (.inr ⟨n, rfl⟩)

/-- A grant out of the table, with its slot not waiting for it: the slots stay sound. -/
theorem slotted_drop {s t : State} (h : Slotted s) {g : Grant} (l : Live g s)
    (ht : t.grant.table = (dropGrant g.handle s).grant.table)
    (hw : ∀ r w, (slotOf r t).waiting = some w →
      (slotOf r s).waiting = some w ∧ (r = resourceOf g.axis → w ≠ g.handle)) : Slotted t := by
  refine ⟨?_, fun r w hr => ?_⟩
  · rw [ht, dropGrant_table]
    exact h.distinct.sublist (List.filter_sublist.map _)
  · obtain ⟨hr, hne⟩ := hw r w hr
    obtain ⟨x, hx, rfl, hxr, hxs⟩ := h.waiting r w hr
    refine ⟨x, ?_, rfl, hxr, hxs⟩
    rw [ht, mem_dropGrant]
    refine ⟨hx, fun e => ?_⟩
    obtain ⟨k, hk, hkh, hka⟩ := l
    obtain rfl := h.eq_of_handle hx hk (e.trans hkh.symm)
    exact hne (by rw [← hxr, hka]) e

theorem calms_of_drop {s t : State} (h : Slotted t) {x : Nat}
    (ht : t.grant.table = (dropGrant x s).grant.table) : Calms s t := by
  refine ⟨h, fun g hg hm => ⟨g, ?_, hm, rfl, rfl, rfl⟩⟩
  rw [ht, mem_dropGrant] at hg
  exact hg.1

/-- R22: the retirement of a live grant is calm: the grant it promotes was WAITING. -/
theorem calms_leave {s : State} (h : Slotted s) {g : Grant} (l : Live g s) :
    Calms s (leaveSlot g (dropGrant g.handle s)) := by
  have freed (v : Slot) (hv : v.waiting = none) :
      Slotted (setSlot (resourceOf g.axis) v (dropGrant g.handle s)) := by
    refine slotted_drop h l rfl fun r w hr => ?_
    rw [slotOf_setSlot] at hr
    split at hr
    · rw [hv] at hr; cases hr
    · next n => exact ⟨hr, fun e => absurd e n⟩
  rcases leaveSlot_cases g (dropGrant g.handle s) with e | e | ⟨n, e⟩
  · rcases passSlot_cases (resourceOf g.axis) (dropGrant g.handle s) with p | ⟨k, hk, hw, p⟩
    · exact (calms_of_drop (freed _ rfl) (by rfl)).of_grant (e.trans p)
    · have hks := (mem_dropGrant.mp hk).1
      have hwait := (h.waits hks hw).1
      have hs := freed ⟨some k.handle, none⟩ rfl
      have base : Calms s (setSlot (resourceOf g.axis) ⟨some k.handle, none⟩
          (dropGrant g.handle s)) := calms_of_drop hs (by rfl)
      have free : ∀ r, (slotOf r (setSlot (resourceOf g.axis) ⟨some k.handle, none⟩
          (dropGrant g.handle s))).waiting ≠ some k.handle := by
        intro r hr
        obtain rfl := (hs.waits hk hr).2
        have hr' := (h.waits hks hw).2
        rw [slotOf_setSlot, if_pos hr'] at hr
        cases hr
      have put := calms_putGrant_of_slots (g := { k with state := .driving }) hs hk rfl rfl rfl
        (fun r hr => absurd hr (free r)) (by simp [hwait])
      exact (base.trans put).of_grant (e.trans p)
  · exact (calms_of_drop (freed _ rfl) (by rfl)).of_grant e
  · refine calms_of_drop (slotted_drop h l (by rw [e]) fun r w hr => ?_) (x := g.handle) (by rw [e])
    have hr' : (slotOf r s).waiting = some w := by
      unfold slotOf at hr ⊢; rw [e] at hr; exact hr
    exact ⟨hr', fun er ew => n (by subst er ew; exact hr')⟩

theorem retire_grant (g : Grant) (r : Reason) (s : State) :
    (retire g r s).grant = (leaveSlot g (dropGrant g.handle s)).grant :=
  grant_of_view (view_gendDue g r _)

theorem calms_retire {s : State} (h : Slotted s) {g : Grant} (l : Live g s) (r : Reason) :
    Calms s (retire g r s) := (calms_leave h l).of_grant (retire_grant g r s)

/-- R22: no grant of a retired grant's handle is live. -/
theorem retire_gone (g : Grant) (r : Reason) (s : State) :
    ∀ x ∈ (retire g r s).grant.table, x.handle ≠ g.handle := by
  have dropped : ∀ x ∈ (dropGrant g.handle s).grant.table, x.handle ≠ g.handle :=
    fun x hx => (mem_dropGrant.mp hx).2
  rw [retire_grant]
  rcases leaveSlot_cases g (dropGrant g.handle s) with e | e | ⟨-, e⟩
  · rw [e]
    rcases passSlot_cases (resourceOf g.axis) (dropGrant g.handle s) with p | ⟨k, hk, -, p⟩
    · rw [p]; exact dropped
    · rw [p]
      intro x hx
      rcases mem_putGrant hx with rfl | ⟨hx, -⟩
      · exact dropped k hk
      · exact dropped x hx
  · rw [e]; exact dropped
  · rw [e]; exact dropped

theorem calmed_retire (g : Grant) (r : Reason) (s : State) : Calmed g.handle (retire g r s) :=
  fun x hx e => absurd e (retire_gone g r s x hx)

/-! ## Ramped endings, pauses, resumptions (R10, R11, R18, R20) -/

/-- R10: what entry into EASING does to the grants: the record is EASING, and retired where the output
is 0. -/
theorem ease_cases (g : Grant) (r : Reason) (s : State) :
    ∃ u : State, u.grant = (putGrant (eased g r) s).grant ∧
      (ease g r s = u ∨ ease g r s = retire g r u) := by
  refine ⟨panelWindDown g.axis (gatedStop g.axis (putGrant (eased g r) s)), ?_, ?_⟩
  · exact grant_of_view ((view_panelWindDown _ _).trans (view_gatedStop _ _))
  · unfold ease eased
    dsimp only
    split
    · exact .inr rfl
    · exact .inl rfl

/-- R10: entry into EASING of a live grant that does not wait is calm, and the grant then does not move. -/
theorem calms_ease {s : State} (h : Slotted s) {g : Grant} (hg : g ∈ s.grant.table)
    (hw : g.state ≠ .waiting) (r : Reason) :
    Calms s (ease g r s) ∧ Calmed g.handle (ease g r s) := by
  obtain ⟨u, hu, e⟩ := ease_cases g r s
  have c : Calms s u := (calms_putGrant (g := eased g r) h hg rfl rfl rfl (fun e => absurd e hw)
    fun _ => rfl).of_grant hu
  have hput : eased g r ∈ u.grant.table := by rw [hu]; exact mem_putGrant_self hg rfl
  have n : Calmed g.handle u := by
    refine Calmed.of_grant (fun x hx he => ?_) hu
    rcases mem_putGrant hx with rfl | ⟨-, ne⟩
    · rfl
    · exact absurd he ne
  rcases e with e | e <;> rw [e]
  · exact ⟨c, n⟩
  · exact ⟨c.trans (calms_retire c.slotted ⟨_, hput, rfl, rfl⟩ r), calmed_retire g r u⟩

theorem calms_pauseGrant {s : State} (h : Slotted s) {g : Grant} (hg : g ∈ s.grant.table)
    (hd : g.state = .driving) : Calms s (pauseGrant g s) := by
  refine Calms.of_grant (t := putGrant { g with
    state := .paused, deadman := none, pause := some s.config.pauseWindow } s) ?_
    (grant_of_view ((view_panelWindDown _ _).trans (view_gatedStop _ _)))
  exact calms_putGrant h hg rfl rfl rfl (by simp [hd]) (by simp [hd])

theorem calms_resumeGrant {s : State} (h : Slotted s) {g : Grant} (hg : g ∈ s.grant.table)
    (hp : g.state = .paused) : Calms s (resumeGrant g s) := by
  refine Calms.of_grant (t := putGrant { g with
    state := .driving, pause := none, deadman := fullDeadman g.kind s } s) ?_
    (grant_of_view (view_panelResume _ _))
  exact calms_putGrant h hg rfl rfl rfl (by simp [hp]) (by simp [hp])

/-- R20: a ramped ending of a live grant is calm, and the grant then does not move. -/
theorem calms_windDown {s : State} (h : Slotted s) {g : Grant} (hg : g ∈ s.grant.table)
    (r : Reason) : Calms s (windDown r g s) ∧ Calmed g.handle (windDown r g s) := by
  unfold windDown
  split
  · exact ⟨calms_retire h (live_of_mem hg) r, calmed_retire g r s⟩
  · next e => exact calms_ease h hg (by simp [e]) r
  · next e => exact calms_ease h hg (by simp [e]) r
  · next e =>
    refine ⟨.refl h, fun x hx he => ?_⟩
    obtain rfl := h.eq_of_handle hx hg he
    exact e

theorem calms_cut {s : State} (h : Slotted s) {g : Grant} (hg : g ∈ s.grant.table) (r : Reason) :
    Calms s (cut g r s) ∧ Calmed g.handle (cut g r s) :=
  ⟨calms_retire h (live_of_mem hg) r, calmed_retire g r s⟩

theorem calms_loseLink {s : State} (h : Slotted s) {g : Grant} (hg : g ∈ s.grant.table)
    (m : LinkMode) : Calms s (loseLink m g s) := by
  unfold loseLink
  split
  · next e => exact calms_pauseGrant h hg e
  · exact .refl h
  · exact (calms_windDown h hg .linkLost).1

/-! ## Several grants in one event (R32) -/

section
variable {f : Grant → State → State}

theorem calms_onGrant (hf : ∀ {g : Grant} {s : State}, Slotted s → g ∈ s.grant.table → Calms s (f g s))
    {s : State} (h : Slotted s) (x : Nat) : Calms s (onGrant x f s) := by
  unfold onGrant
  split
  · exact .refl h
  · next e => exact hf h (findGrant_some e).1

theorem calms_onGrants (hf : ∀ {g : Grant} {s : State}, Slotted s → g ∈ s.grant.table → Calms s (f g s))
    (hs : List Nat) {s : State} (h : Slotted s) : Calms s (forEach (fun x => onGrant x f) hs s) := by
  unfold forEach
  induction hs generalizing s with
  | nil => exact .refl h
  | cons x xs ih =>
    have c := calms_onGrant hf h x
    exact c.trans (ih c.slotted)

/-- The handles an event reaches, WAITING grants first. -/
def reached (sel : Grant → Bool) (s : State) : List Nat :=
  ((s.grant.table.filter sel).filter fun g => decide (g.state = .waiting)).map (·.handle) ++
    ((s.grant.table.filter sel).filter fun g => decide (g.state ≠ .waiting)).map (·.handle)

theorem forGrants_eq (sel : Grant → Bool) (s : State) :
    forGrants sel f s = forEach (fun x => onGrant x f) (reached sel s) s := by
  simp only [forGrants, reached, forEach, List.foldl_append]

theorem mem_reached {sel : Grant → Bool} {s : State} {g : Grant} (hg : g ∈ s.grant.table)
    (hs : sel g = true) : g.handle ∈ reached sel s := by
  have hm : g ∈ s.grant.table.filter sel := List.mem_filter.mpr ⟨hg, hs⟩
  rw [reached, List.mem_append]
  by_cases e : g.state = .waiting
  · exact .inl (List.mem_map_of_mem (List.mem_filter.mpr ⟨hm, by simpa using e⟩))
  · exact .inr (List.mem_map_of_mem (List.mem_filter.mpr ⟨hm, by simpa using e⟩))

theorem calms_forGrants (hf : ∀ {g : Grant} {s : State}, Slotted s → g ∈ s.grant.table → Calms s (f g s))
    (sel : Grant → Bool) {s : State} (h : Slotted s) : Calms s (forGrants sel f s) := by
  rw [forGrants_eq]
  exact calms_onGrants hf _ h

theorem calmed_onGrants
    (hf : ∀ {g : Grant} {s : State}, Slotted s → g ∈ s.grant.table →
      Calms s (f g s) ∧ Calmed g.handle (f g s))
    {hs : List Nat} {s : State} (h : Slotted s) {x : Nat} (hx : x ∈ hs) :
    Calmed x (forEach (fun x => onGrant x f) hs s) := by
  have calm {s : State} (h : Slotted s) (y : Nat) : Calms s (onGrant y f s) :=
    calms_onGrant (fun h hg => (hf h hg).1) h y
  induction hs generalizing s with
  | nil => cases hx
  | cons y ys ih =>
    rcases List.mem_cons.mp hx with rfl | hy
    · have n : Calmed x (onGrant x f s) := by
        unfold onGrant
        split
        · next e =>
          intro g hg he
          simpa [he] using List.find?_eq_none.mp e g hg
        · next e =>
          obtain ⟨hg, rfl⟩ := findGrant_some e
          exact (hf h hg).2
      exact n.calms (calms_onGrants (fun h hg => (hf h hg).1) ys (calm h x).slotted)
    · exact ih (calm h y).slotted hy

/-- R32: after an event that ends the selected grants, a grant that may move was not selected. -/
theorem forGrants_spares
    (hf : ∀ {g : Grant} {s : State}, Slotted s → g ∈ s.grant.table →
      Calms s (f g s) ∧ Calmed g.handle (f g s))
    (sel : Grant → Bool) {s : State} (h : Slotted s) :
    ∀ g ∈ (forGrants sel f s).grant.table, g.state ≠ .easing →
      ∃ k ∈ s.grant.table, SameMover k g ∧ sel k = false := by
  intro g hg hm
  obtain ⟨k, hk, hkg⟩ := (calms_forGrants (fun h hg => (hf h hg).1) sel h).origin g hg hm
  refine ⟨k, hk, hkg, ?_⟩
  by_contra hs
  have hs : sel k = true := by simpa using hs
  have n := calmed_onGrants hf h (mem_reached hk hs)
  rw [← forGrants_eq] at n
  exact hm (n g hg hkg.handle.symm)

end

theorem calms_cutGrants {s : State} (h : Slotted s) (r : Reason) (sel : Grant → Bool) :
    Calms s (cutGrants r sel s) := calms_forGrants (fun h hg => (calms_cut h hg r).1) sel h

theorem calms_easeGrants {s : State} (h : Slotted s) (r : Reason) (sel : Grant → Bool) :
    Calms s (easeGrants r sel s) := calms_forGrants (fun h hg => (calms_windDown h hg r).1) sel h

/-- R21: what may move after a cut of the selected grants was not selected. -/
theorem cutGrants_spares {s : State} (h : Slotted s) (r : Reason) (sel : Grant → Bool) :
    ∀ g ∈ (cutGrants r sel s).grant.table, g.state ≠ .easing →
      ∃ k ∈ s.grant.table, SameMover k g ∧ sel k = false :=
  forGrants_spares (fun h hg => calms_cut h hg r) sel h

/-- R20: what may move after a ramped ending of the selected grants was not selected. -/
theorem easeGrants_spares {s : State} (h : Slotted s) (r : Reason) (sel : Grant → Bool) :
    ∀ g ∈ (easeGrants r sel s).grant.table, g.state ≠ .easing →
      ∃ k ∈ s.grant.table, SameMover k g ∧ sel k = false :=
  forGrants_spares (fun h hg => calms_windDown h hg r) sel h

theorem calms_reactLinkLoss {s : State} (h : Slotted s) (l : Link) : Calms s (reactLinkLoss l s) :=
  calms_forGrants (fun h hg => calms_loseLink h hg _) _ h

/-! ## Reports on a sequence grant (R22, R28) -/

theorem reportedGrant_some {a : Axis} {q : SeqGrant} {s : State} {g : Grant}
    (e : reportedGrant a q s = some g) : g ∈ s.grant.table := by
  unfold reportedGrant at e
  split at e
  · cases e
  · next k hf =>
    split at e
    · cases e; exact (findGrant_some hf).1
    · cases e

theorem calms_reportObstructed {s : State} (h : Slotted s) (m : Motor) :
    Calms s (reportObstructed m s) := by
  unfold reportObstructed
  split
  · exact .refl h
  · split
    · exact .refl h
    · next e => exact (calms_cut h (reportedGrant_some e) _).1

theorem calms_reportEnd {s : State} (h : Slotted s) (m : Motor) (q : SeqGrant) :
    Calms s (reportEnd m q s) := by
  unfold reportEnd
  split
  · exact .refl h
  · next e =>
    split
    · exact calms_retire h (live_of_mem (reportedGrant_some e)) _
    · exact .refl h

/-! ## A new grant (R7) -/

theorem slotted_addGrant {s : State} (h : Slotted s) {g : Grant}
    (fresh : ∀ k ∈ s.grant.table, k.handle ≠ g.handle) : Slotted (addGrant g s) := by
  refine ⟨?_, fun r w hr => ?_⟩
  · show ((s.grant.table ++ [g]).map (·.handle)).Nodup
    rw [List.map_append]
    refine List.Nodup.append h.distinct (by simp) fun x hx hy => ?_
    obtain ⟨k, hk, rfl⟩ := List.mem_map.mp hx
    exact fresh k hk (by simpa using hy)
  · obtain ⟨x, hx, hrest⟩ := h.waiting r w hr
    exact ⟨x, List.mem_append_left _ hx, hrest⟩

theorem slotted_setSlot {s : State} (h : Slotted s) (r : Resource) {v : Slot}
    (hv : ∀ w, v.waiting = some w →
      ∃ g ∈ s.grant.table, g.handle = w ∧ resourceOf g.axis = r ∧ g.state = .waiting) :
    Slotted (setSlot r v s) := by
  refine ⟨h.distinct, fun q w hq => ?_⟩
  rw [slotOf_setSlot] at hq
  split at hq
  · next e => subst e; exact hv w hq
  · exact h.waiting q w hq

/-- R3: with room in the table a new grant's handle is no live grant's. -/
theorem newGrant_fresh {s : State} (room : s.grant.table.length < 255) (l : Link) (a : Axis)
    (n : Sense) (k : RunKind) (d : Nat) (st : GrantState) :
    ∀ x ∈ s.grant.table, x.handle ≠ (newGrant l a n k d st s).handle := by
  intro x hx e
  have := (allocate_fresh (s.grant.table.map (·.handle)) s.grant.lastHandle (by simpa using room)).1
  exact this (List.mem_map.mpr ⟨x, hx, e⟩)

theorem slotted_queueGrant {s : State} (h : Slotted s) {g : Grant}
    (fresh : ∀ k ∈ s.grant.table, k.handle ≠ g.handle) (hw : g.state = .waiting) :
    Slotted (queueGrant g s) := by
  refine slotted_setSlot (slotted_addGrant h fresh) _ fun w e => ⟨g, ?_, ?_, rfl, hw⟩
  · exact List.mem_append_right _ (List.mem_singleton_self g)
  · exact Option.some.inj e

theorem slotted_holdSlot {s : State} (h : Slotted s) {g : Grant}
    (fresh : ∀ k ∈ s.grant.table, k.handle ≠ g.handle) : Slotted (holdSlot g s) :=
  (slotted_setSlot (slotted_addGrant h fresh) (resourceOf g.axis) (v := ⟨some g.handle, none⟩)
    (fun _ e => by cases e)).of_grant (grant_of_view (view_startGrant _ _))

end Sys2Proof.Machine.Motion
end

section
/-! R32 through every operation of the part: whatever changes what a grant's permission rests on, a fault,
a hold, the permit map or the mode, ends within the same event each grant it leaves without permission. -/

namespace Sys2Proof.Machine.Motion

/-! ## The rule and how it is kept -/

/-- R32: a grant that is not EASING may stand on this axis in this sense. -/
def MayMove (s : State) (a : Axis) (n : Sense) : Prop :=
  s.mode.mode = .run ∧ s.axis.fault.get a = none ∧
    (∀ h ∈ s.hold.table, h.axes.get a = false) ∧ (s.permit.map.get a).get n = .empty

/-- R32 holds, and the slots agree with the table as far as it needs. -/
structure Lawful (s : State) : Prop where
  slotted : Slotted s
  allowed : ∀ g ∈ s.grant.table, g.state ≠ .easing → MayMove s g.axis g.sense

theorem lawful_of_ok {s : State} (hg : GrantsOk s) (hs : SlotsOk s) (ha : AllowedOk s) : Lawful s :=
  ⟨slotted_of_ok hg hs, ha⟩

theorem Lawful.allowedOk {s : State} (h : Lawful s) : AllowedOk s := h.allowed

/-- R32 rests on the view alone. -/
theorem Lawful.of_view {s t : State} (h : Lawful s) (e : view t = view s) : Lawful t := by
  have hg := grant_of_view e
  have hh : t.hold.table = s.hold.table := congrArg GrantView.holds e
  have hf : t.axis.fault = s.axis.fault := congrArg GrantView.fault e
  have hm : t.permit.map = s.permit.map := congrArg GrantView.map e
  have hmode : t.mode.mode = s.mode.mode := congrArg GrantView.mode e
  refine ⟨h.slotted.of_grant hg, ?_⟩
  unfold MayMove
  rw [hg, hh, hf, hm, hmode]
  exact h.allowed

theorem mayMove_of_reacts {s t : State} (r : Reacts s t) {a : Axis} {n : Sense}
    (h : MayMove s a n) : MayMove t a n := by
  unfold MayMove
  rw [r.mode, r.axis, r.hold, r.permit]
  exact h

/-- R32: a calm reaction keeps the rule. -/
theorem Lawful.react {s t : State} (h : Lawful s) (c : Calms s t) (r : Reacts s t) : Lawful t := by
  refine ⟨c.slotted, fun g hg hm => ?_⟩
  obtain ⟨k, hk, hkg⟩ := c.origin g hg hm
  have p := mayMove_of_reacts r (h.allowed k hk hkg.mover)
  rwa [hkg.axis, hkg.sense] at p

/-- R32: the selected grants end, and the others may move as things now stand. -/
theorem lawful_of_spares {s t : State} {sel : Grant → Bool} (h : Slotted t)
    (spares : ∀ g ∈ t.grant.table, g.state ≠ .easing →
      ∃ k ∈ s.grant.table, SameMover k g ∧ sel k = false)
    (may : ∀ k ∈ s.grant.table, k.state ≠ .easing → sel k = false → MayMove t k.axis k.sense) :
    Lawful t := by
  refine ⟨h, fun g hg hm => ?_⟩
  obtain ⟨k, hk, hkg, hs⟩ := spares g hg hm
  have p := may k hk hkg.mover hs
  rwa [hkg.axis, hkg.sense] at p

theorem lawful_forEach {α : Type} {f : α → State → State}
    (hf : ∀ x {s : State}, Lawful s → Lawful (f x s)) (l : List α) {s : State} (h : Lawful s) :
    Lawful (forEach f l s) := by
  unfold forEach
  induction l generalizing s with
  | nil => exact h
  | cons x xs ih => exact ih (hf x h)

section
variable {s : State} (h : Lawful s)
include h

/-! ## Reactions -/

theorem lawful_retire {g : Grant} (hg : g ∈ s.grant.table) (r : Reason) : Lawful (retire g r s) :=
  h.react (calms_retire h.slotted (live_of_mem hg) r) (reacts_retire g r s)

theorem lawful_ease {g : Grant} (hg : g ∈ s.grant.table) (hw : g.state ≠ .waiting) (r : Reason) :
    Lawful (ease g r s) := h.react (calms_ease h.slotted hg hw r).1 (reacts_ease g r s)

theorem lawful_windDown {g : Grant} (hg : g ∈ s.grant.table) (r : Reason) :
    Lawful (windDown r g s) := h.react (calms_windDown h.slotted hg r).1 (reacts_windDown r g s)

theorem lawful_resumeGrant {g : Grant} (hg : g ∈ s.grant.table) (hp : g.state = .paused) :
    Lawful (resumeGrant g s) := h.react (calms_resumeGrant h.slotted hg hp) (reacts_resumeGrant g s)

theorem lawful_cutGrants (r : Reason) (sel : Grant → Bool) : Lawful (cutGrants r sel s) :=
  h.react (calms_cutGrants h.slotted r sel) (reacts_cutGrants r sel s)

theorem lawful_reactLinkLoss (l : Link) : Lawful (reactLinkLoss l s) :=
  h.react (calms_reactLinkLoss h.slotted l) (reacts_reactLinkLoss l s)

theorem lawful_reportObstructed (m : Motor) : Lawful (reportObstructed m s) :=
  h.react (calms_reportObstructed h.slotted m) (reacts_reportObstructed m s)

theorem lawful_reportEnd (m : Motor) (q : SeqGrant) : Lawful (reportEnd m q s) :=
  h.react (calms_reportEnd h.slotted m q) (reacts_reportEnd m q s)

/-! ## What R32 forbids, as it comes about -/

/-- R27, R32: an axis becomes FAULTED and every grant on it is cut. -/
theorem lawful_setFault (a : Axis) (c : FaultCode) (k : Option Coil) : Lawful (setFault a c k s) := by
  unfold setFault
  dsimp only
  split
  · refine Lawful.of_view ?_ (view_enterFault _ _)
    refine Lawful.of_view ?_ (view_raise _ _)
    have hsl : Slotted (s.setAxis { s.axis with
        fault := s.axis.fault.set a (some c), stall := if a = .lift then none else s.axis.stall }) :=
      h.slotted.of_grant rfl
    refine lawful_of_spares (calms_cutGrants hsl _ _).slotted (cutGrants_spares hsl _ _)
      fun x hx hm hsel => mayMove_of_reacts (reacts_reactFault _ _) ?_
    obtain ⟨hmode, hfault, hhold, hmap⟩ := h.allowed x hx hm
    have ne : x.axis ≠ a := by simpa using hsel
    exact ⟨hmode, by simpa [ne] using hfault, hhold, hmap⟩
  · exact h

/-- R24, R25, R32: a hold is placed and every grant on an axis it covers ends. -/
theorem lawful_placeHold (kind : HoldKind) (src : HoldSource) (x : PerAxis Bool) :
    Lawful (placeHold kind src x s) := by
  unfold placeHold
  dsimp only
  refine Lawful.of_view ?_ (view_raise _ _)
  have may (u : State) (hu : u = s.setHold { s.hold with
        table := s.hold.table ++
          [⟨allocate (s.hold.table.map (·.id)) 255 s.hold.lastId, kind, src, x⟩]
        lastId := allocate (s.hold.table.map (·.id)) 255 s.hold.lastId }) (g : Grant)
      (hg : g ∈ u.grant.table) (hm : g.state ≠ .easing) (hx : x.get g.axis = false) :
      MayMove u g.axis g.sense := by
    subst hu
    obtain ⟨hmode, hfault, hhold, hmap⟩ := h.allowed g hg hm
    refine ⟨hmode, hfault, fun r hr => ?_, hmap⟩
    rcases List.mem_append.mp hr with hr | hr
    · exact hhold r hr
    · rw [List.mem_singleton.mp hr]; exact hx
  have slotted (v : HoldTable) : Slotted (s.setHold v) := h.slotted.of_grant rfl
  split
  · exact lawful_of_spares (calms_easeGrants (slotted _) _ _).slotted
      (easeGrants_spares (slotted _) _ _)
      fun g hg hm hx => mayMove_of_reacts (reacts_reactLockout _ _) (may _ rfl g hg hm hx)
  · exact lawful_of_spares (calms_cutGrants (slotted _) _ _).slotted
      (cutGrants_spares (slotted _) _ _)
      fun g hg hm hx => mayMove_of_reacts (reacts_reactStop _ _) (may _ rfl g hg hm hx)

/-- R37: fewer holds forbid less. -/
theorem lawful_retireHold (id : Nat) : Lawful (retireHold id s) := by
  refine ⟨h.slotted.of_grant rfl, fun g hg hm => ?_⟩
  obtain ⟨hmode, hfault, hhold, hmap⟩ := h.allowed g hg hm
  exact ⟨hmode, hfault, fun r hr => hhold r (List.mem_filter.mp hr).1, hmap⟩

/-- Fewer fault codes forbid less. -/
theorem lawful_setAxis_of_clears {v : AxisUnit}
    (hv : ∀ a, s.axis.fault.get a = none → v.fault.get a = none) : Lawful (s.setAxis v) := by
  refine ⟨h.slotted.of_grant rfl, fun g hg hm => ?_⟩
  obtain ⟨hmode, hfault, hhold, hmap⟩ := h.allowed g hg hm
  exact ⟨hmode, hv _ hfault, hhold, hmap⟩

/-- R26, R73, R74: the permit map is recomputed and every grant with a newly absent cause ends; in RUN no
cause MODE is absent. -/
theorem lawful_recomputePermits : Lawful (recomputePermits s) := by
  unfold recomputePermits
  have hsl (v : PermitMonitor) : Slotted (s.setPermit v) := h.slotted.of_grant rfl
  refine lawful_of_spares (calms_easeGrants (hsl _) _ _).slotted (easeGrants_spares (hsl _) _ _)
    fun g hg hm hnew => mayMove_of_reacts (reacts_easeGrants _ _ _) ?_
  obtain ⟨hmode, hfault, hhold, hmap⟩ := h.allowed g hg hm
  refine ⟨hmode, hfault, hhold, ?_⟩
  have hrun : (((permitMap s).get g.axis).get g.sense).mode = false := by
    have e : ((permitMap s).get g.axis).get g.sense = absentCauses g.axis g.sense s := by
      rw [permitMap, PerAxis.get_mk']
      cases g.sense <;> rfl
    rw [e]
    simp [absentCauses, hmode]
  rw [hmap] at hnew
  change ((permitMap s).get g.axis).get g.sense = CauseSet.empty
  generalize ((permitMap s).get g.axis).get g.sense = after at hnew hrun
  obtain ⟨mode, chassis, interlock, zone, load⟩ := after
  simp only [newlyAbsent, CauseSet.empty, Bool.not_false, Bool.and_true, Bool.or_eq_false_iff] at *
  obtain ⟨⟨⟨hc, hi⟩, hz⟩, hl⟩ := hnew
  rw [hrun, hc, hi, hz, hl]

/-- R29, R32: a new mode but RUN and WAKE ends every grant; WAKE is entered from modes but RUN alone. -/
theorem lawful_newMode (m : Mode) (t : Option Nat) (hm : m = .wake → s.mode.mode ≠ .run) :
    Lawful (reactMode m (setModeTimer m t s)) := by
  have hsl : Slotted (setModeTimer m t s) := h.slotted.of_grant rfl
  have ended {u : State} (hu : Slotted u)
      (none : ∀ g ∈ u.grant.table, g.state ≠ .easing →
        ∃ k ∈ (setModeTimer m t s).grant.table, SameMover k g ∧ (fun _ => true) k = false) :
      Lawful u := lawful_of_spares hu none fun _ _ _ e => by cases e
  have same (hrun : m = .run ∨ m = .wake) : Lawful (setModeTimer m t s) := by
    refine ⟨hsl, fun g hg hmv => ?_⟩
    obtain ⟨hmode, hfault, hhold, hmap⟩ := h.allowed g hg hmv
    rcases hrun with rfl | rfl
    · exact ⟨rfl, hfault, hhold, hmap⟩
    · exact absurd hmode (hm rfl)
  cases m with
  | run => exact same (.inl rfl)
  | wake => exact same (.inr rfl)
  | closedown => exact ended (calms_easeGrants hsl _ _).slotted (easeGrants_spares hsl _ _)
  | defer | retry | barred | check | off =>
    exact ended (calms_cutGrants hsl _ _).slotted (cutGrants_spares hsl _ _)

/-! ## Faults and watches -/

theorem lawful_coilWatchStep (c : Coil) (n : Nat) : Lawful (coilWatchStep c n s) := by
  unfold coilWatchStep
  dsimp only
  split
  · split
    · split
      · exact lawful_setFault (h.of_view (view_setDrive s _)) _ _ _
      · exact h.of_view (view_setDrive s _)
    · exact h.of_view (view_setDrive s _)
  · exact h

theorem lawful_foldTravelFault : Lawful (foldTravelFault s) :=
  lawful_setFault (h.of_view (view_setDrive s _)) _ _ _

theorem lawful_foldTravelStep : Lawful (foldTravelStep s) := by
  unfold foldTravelStep
  dsimp only
  split
  · split
    · exact h.of_view (view_setDrive s _)
    · split
      · exact h
      · split
        · exact lawful_foldTravelFault (h.of_view (view_setDrive s _))
        · exact h.of_view (view_setDrive s _)
  · exact h

theorem lawful_endCheck (m : Motor) : Lawful (endCheck m s) := by
  unfold endCheck
  dsimp only
  split
  · exact h
  · split
    · exact lawful_reportEnd (h.of_view (view_putPanel m _ s)) _ _
    · exact h

theorem lawful_edgeStop : Lawful (edgeStop s) :=
  lawful_reportObstructed (h.of_view (view_putPanel _ _ s)) _

theorem lawful_edgeCheck (m : Motor) : Lawful (edgeCheck m s) := by
  unfold edgeCheck
  split
  · exact lawful_edgeStop h
  · exact h

theorem lawful_obstructionReport (m : Motor) : Lawful (obstructionReport m s) :=
  lawful_reportObstructed (h.of_view (view_putPanel _ _ s)) _

theorem lawful_obstructionStep (m : Motor) (n : Nat) : Lawful (obstructionStep m n s) := by
  unfold obstructionStep
  dsimp only
  split
  · exact h.of_view (view_putPanel _ _ s)
  · split
    · exact lawful_obstructionReport h _
    · exact h.of_view (view_putPanel _ _ s)

theorem lawful_panelTravelFault (m : Motor) : Lawful (panelTravelFault m s) :=
  lawful_setFault (h.of_view (view_putPanel _ _ s)) _ _ _

theorem lawful_travelStep (m : Motor) : Lawful (travelStep m s) := by
  unfold travelStep
  dsimp only
  split
  · split
    · exact h.of_view (view_putPanel _ _ s)
    · split
      · exact h
      · split
        · exact lawful_panelTravelFault (h.of_view (view_putPanel _ _ s)) _
        · exact h.of_view (view_putPanel _ _ s)
  · exact h

theorem lawful_panelPeriod (m : Motor) (n : Nat) : Lawful (panelPeriod m n s) :=
  lawful_travelStep (lawful_obstructionStep (lawful_edgeCheck (lawful_endCheck h m) m) m n) m

theorem lawful_latchPulseExpired (d : Door) : Lawful (latchPulseExpired d s) := by
  unfold latchPulseExpired
  split
  · exact lawful_setFault (h.of_view (view_putLatch _ _ s)) _ _ _
  · exact h

theorem lawful_engageExpired (d : Door) : Lawful (engageExpired d s) := by
  unfold engageExpired
  split
  · exact lawful_setFault (h.of_view (view_putLatch _ _ s)) _ _ _
  · exact h

theorem lawful_foldTravelEvent : Lawful (foldTravelEvent s) := by
  unfold foldTravelEvent
  split
  · exact lawful_foldTravelFault h
  · exact h

theorem lawful_obstructionEvent (m : Motor) : Lawful (obstructionEvent m s) := by
  unfold obstructionEvent
  split
  · exact h
  · exact lawful_obstructionReport h _

theorem lawful_panelTravelEvent (m : Motor) : Lawful (panelTravelEvent m s) := by
  unfold panelTravelEvent
  split
  · exact lawful_panelTravelFault h _
  · exact h

theorem lawful_doorEvent (d : Door) (w : DoorSwitch) (b : Bool) : Lawful (doorEvent d w b s) := by
  have taken (i : Inputs) : Lawful (if (s.setInputs i).mode.mode = .off then s.setInputs i
      else doorSwitchChange d w b (s.setInputs i)) := by
    split
    · exact h.of_view (view_setInputs s i)
    · exact h.of_view ((view_doorSwitchChange d w b _).trans (view_setInputs s i))
  exact taken _

theorem lawful_shutterEvent (w : ShutterSwitch) (b : Bool) : Lawful (shutterEvent w b s) := by
  have taken (i : Inputs) : Lawful (if (s.setInputs i).mode.mode = .off then s.setInputs i
      else shutterSwitchChange w b (s.setInputs i)) := by
    split
    · exact h.of_view (view_setInputs s i)
    · exact h.of_view ((view_shutterSwitchChange w b _).trans (view_setInputs s i))
  exact taken _

theorem lawful_edgeEvent (b : Bool) : Lawful (edgeEvent b s) := by
  unfold edgeEvent
  dsimp only
  split
  · exact h.of_view (view_setInputs s _)
  · split
    · exact lawful_edgeStop (h.of_view ((view_setPanel _ _).trans (view_setInputs s _)))
    · exact h.of_view ((view_setPanel _ _).trans (view_setInputs s _))

/-! ## Holds -/

theorem lawful_placeLineStop : Lawful (placeLineStop s) := by
  unfold placeLineStop
  split
  · exact h
  · exact lawful_placeHold h _ _ _

theorem lawful_setLine (b : Bool) : Lawful (setLine b s) := h.of_view rfl

theorem lawful_estopAssert : Lawful (estopAssert s) := by
  have hi : Lawful (s.setInputs { s.inputs with estop := true }) := h.of_view rfl
  unfold estopAssert
  dsimp only
  split
  · exact hi
  · exact lawful_placeLineStop (lawful_setLine hi true)

theorem lawful_estopRelease : Lawful (estopRelease s) := by
  have hi : Lawful (s.setInputs { s.inputs with estop := false }) := h.of_view rfl
  unfold estopRelease
  dsimp only
  split
  · exact hi
  · exact lawful_setLine hi false

theorem lawful_wakeHolds : Lawful (wakeHolds s) := by
  unfold wakeHolds
  dsimp only
  split
  · exact lawful_placeLineStop (lawful_setLine h _)
  · exact lawful_setLine h _

/-! ## Permits -/

theorem lawful_permitEvent : Lawful (permitEvent s) :=
  lawful_recomputePermits (h.of_view (view_judgeDeployMove s))

theorem lawful_permitIgn (b : Bool) : Lawful (permitIgn b s) := by
  unfold permitIgn
  split
  · exact h
  · exact lawful_recomputePermits (h.of_view rfl)

theorem lawful_pbrkEvent (b : Bool) : Lawful (pbrkEvent b s) := by
  unfold pbrkEvent
  dsimp only
  split
  · exact h.of_view rfl
  · exact lawful_recomputePermits (h.of_view rfl)

theorem lawful_afterSpeed (b : State) : Lawful (afterSpeed b s) := by
  unfold afterSpeed
  split
  · exact h
  · exact lawful_permitEvent h

theorem lawful_pulseArrival (n : Nat) : Lawful (pulseArrival n s) := by
  unfold pulseArrival
  dsimp only
  split
  · exact h
  · exact lawful_afterSpeed (h.of_view (view_setPermit s (by split <;> rfl))) s

theorem lawful_pulseTimerExpiry : Lawful (pulseTimerExpiry s) := by
  unfold pulseTimerExpiry
  split
  · exact lawful_afterSpeed (h.of_view (view_setPermit s (by rfl))) s
  · exact h

theorem lawful_samplePressure : Lawful (samplePressure s) := by
  unfold samplePressure
  dsimp only
  split
  · exact h.of_view rfl
  · exact lawful_recomputePermits (h.of_view rfl)

theorem lawful_pressureEvent (n : Nat) : Lawful (pressureEvent n s) := by
  unfold pressureEvent
  dsimp only
  split
  · exact lawful_samplePressure (h.of_view rfl)
  · exact h.of_view rfl

/-! ## Axis samples -/

theorem lawful_conditionFaultStep (a : Axis) : Lawful (conditionFaultStep a s) := by
  unfold conditionFaultStep
  split
  · exact lawful_setFault h _ _ _
  · exact h

theorem lawful_stallStep : Lawful (stallStep s) := by
  unfold stallStep
  dsimp only
  split
  · exact h.of_view rfl
  · split
    · exact h.of_view rfl
    · split
      · exact h.of_view rfl
      · split
        · exact lawful_setFault h _ _ _
        · exact h.of_view rfl

theorem lawful_evaluateSample (b : Bool) : Lawful (evaluateSample b s) := by
  have hc : Lawful (forEach conditionFaultStep Axis.list (s.setAxis (computeAxes s.config s.axis))) :=
    lawful_forEach (fun a _ h => lawful_conditionFaultStep h a) _
      (h.of_view (view_setAxis s (computeAxes_fault _ _)))
  unfold evaluateSample
  dsimp only
  split
  · exact lawful_stallStep hc
  · exact hc

theorem lawful_reportFlags (b : State) : Lawful (reportFlags b s) := by
  unfold reportFlags
  split
  · exact h
  · exact lawful_permitEvent h

theorem lawful_takeSample : Lawful (takeSample s) :=
  lawful_reportFlags (lawful_evaluateSample (h.of_view (view_takeReadings s)) true) s

theorem lawful_sampleHeld : Lawful (sampleHeld s) :=
  lawful_reportFlags (lawful_evaluateSample h false) s

theorem lawful_axisSampleEvent (i : AxisInputs) : Lawful (axisSampleEvent i s) := by
  unfold axisSampleEvent
  dsimp only
  split
  · exact lawful_takeSample (h.of_view rfl)
  · exact h.of_view rfl

theorem lawful_stallEvent : Lawful (stallEvent s) := by
  unfold stallEvent
  split
  · exact h
  · exact lawful_setFault h _ _ _

/-! ## Beacons -/

theorem lawful_judgeHealth : Lawful (judgeHealth s) := by
  unfold judgeHealth
  dsimp only
  split
  · exact h.of_view (view_setBeacon s _)
  · exact lawful_recomputePermits (h.of_view (view_setBeacon s _))

theorem lawful_beaconTick (n : PerLamp Nat) : Lawful (beaconTick n s) := by
  unfold beaconTick
  split
  · exact lawful_judgeHealth (h.of_view ((view_forEach (view_measureZone n) _ _).trans
      (view_forEach view_tickZone _ s)))
  · exact h

theorem lawful_lampShort (c : Lamp) : Lawful (lampShort c s) := by
  unfold lampShort
  split
  · exact lawful_judgeHealth (h.of_view (view_failLamp _ c s))
  · exact h

theorem lawful_rearm (x : PerLamp Bool) : Lawful (rearm x s) :=
  lawful_judgeHealth (h.of_view (view_forEach (fun c t => by split <;> simp) _ s))

theorem lawful_writeLampZone (c : Lamp) (z : Option Zone) : Lawful (writeLampZone c z s) :=
  lawful_judgeHealth (h.of_view rfl)

theorem lawful_lampTestMeasure (n : PerLamp Nat) : Lawful (lampTestMeasure n s) := by
  unfold lampTestMeasure
  dsimp only
  split
  · exact h
  · split
    · exact lawful_judgeHealth (h.of_view
        ((view_forEach (view_testLamp n) _ _).trans (view_setBeacon s _)))
    · exact h

/-! ## Ports -/

theorem lawful_putPort (l : Link) (p : Port) : Lawful (putPort l p s) := h.of_view rfl

theorem lawful_reportLoss (l : Link) : Lawful (reportLoss l s) := by
  have hd : Lawful (dropResetReply l s) := by
    unfold dropResetReply
    split
    · exact h.of_view rfl
    · exact h
  exact (lawful_reactLinkLoss hd l).of_view (view_raise _ _)

theorem lawful_leavePort (l : Link) (p : Port) : Lawful (leavePort l p s) := by
  unfold leavePort
  split
  · exact lawful_reportLoss (lawful_putPort h l p) l
  · exact lawful_putPort h l p

theorem lawful_enterSilenced (l : Link) : Lawful (enterSilenced l s) := lawful_leavePort h l _
theorem lawful_enterDisabled (l : Link) : Lawful (enterDisabled l s) := lawful_leavePort h l _
theorem lawful_enterOpening (l : Link) : Lawful (enterOpening l s) := lawful_putPort h l _

theorem lawful_enterTarget (t : CloseTarget) (l : Link) : Lawful (enterTarget t l s) := by
  cases t with
  | silenced => exact lawful_enterSilenced h l
  | disabled => exact lawful_enterDisabled h l

theorem lawful_commandedClose (t : CloseTarget) (l : Link) : Lawful (commandedClose t l s) := by
  unfold commandedClose
  dsimp only
  split
  · exact lawful_putPort h l _
  · split
    · exact lawful_enterTarget h t l
    · exact lawful_putPort h l _

theorem lawful_stopEnabled (l : Link) : Lawful (stopEnabled l s) := by
  unfold stopEnabled
  split
  · exact lawful_commandedClose h _ l
  · exact lawful_enterDisabled h l
  · exact lawful_enterDisabled h l
  · exact h

theorem lawful_judgePorts (b : State) : Lawful (judgePorts b s) := by
  refine lawful_forEach (fun l t ht => ?_) _ h
  unfold judgePort startEnabled
  split
  · split
    · exact lawful_enterOpening ht l
    · exact ht
  · exact lawful_stopEnabled ht l
  · exact ht

theorem lawful_modePorts (m : Mode) (b : State) : Lawful (modePorts m b s) := by
  unfold modePorts
  split
  · exact lawful_forEach (fun l _ ht => lawful_stopEnabled ht l) _ h
  · exact lawful_judgePorts h b

theorem lawful_closeForReset (l : Link) : Lawful (closeForReset l s) := by
  unfold closeForReset
  split
  · exact lawful_commandedClose h _ l
  · exact lawful_enterSilenced h l
  · exact h
  · exact h

theorem lawful_resetLink (l : Link) : Lawful (resetLink l s) := by
  unfold resetLink
  dsimp only
  split
  · exact h
  · exact lawful_enterSilenced h l
  · exact lawful_commandedClose h _ l
  · exact lawful_putPort h l _

theorem lawful_silenceExpiry (l : Link) : Lawful (silenceExpiry l s) := by
  unfold silenceExpiry
  split
  · exact lawful_enterSilenced h l
  · exact h

theorem lawful_heldLowExpiry (l : Link) : Lawful (heldLowExpiry l s) := by
  unfold heldLowExpiry
  split
  · split
    · exact lawful_enterOpening h l
    · exact lawful_enterDisabled h l
  · exact h

theorem lawful_closeExpiry (l : Link) : Lawful (closeExpiry l s) := by
  unfold closeExpiry
  split
  · split
    · exact lawful_enterTarget h _ l
    · exact h
  · exact h

theorem lawful_closeIfEmpty (l : Link) : Lawful (closeIfEmpty l s) := by
  unfold closeIfEmpty
  dsimp only
  split
  · split
    · exact lawful_enterTarget h _ l
    · exact h
  · exact h

end

end Sys2Proof.Machine.Motion
end

section
/-! R32 through the mode controller's events, the messages, the control period and the framing, and so
through every step. -/

namespace Sys2Proof.Machine.Motion

section
variable {s : State} (h : Lawful s)
include h

/-! ## Modes -/

/-- R169: a mode change keeps R32; WAKE is entered from modes but RUN alone. -/
theorem lawful_changeMode (m : Mode) (t : Option Nat) (hm : m = .wake → s.mode.mode ≠ .run) :
    Lawful (changeMode m t s) := by
  have forced {u : State} (hu : Lawful u) : Lawful (forceFor m u) := by
    unfold forceFor
    split
    · exact hu
    · exact hu.of_view (view_forceOutputs u)
  have noticed {u : State} (o : Mode) (hu : Lawful u) : Lawful (noticeMode o m u) := by
    unfold noticeMode
    split
    · exact hu
    · exact hu.of_view (view_raise _ u)
  exact noticed _ (lawful_modePorts ((lawful_recomputePermits
    (forced (lawful_newMode h m t hm))).of_view (view_beaconMode _ _ _)) m s)

theorem lawful_enterOff : Lawful (enterOff s) :=
  (lawful_changeMode h .off none nofun).of_view rfl

theorem lawful_enterClosedown : Lawful (enterClosedown s) := by
  have hc := lawful_changeMode h .closedown (some (closedownMs s)) nofun
  unfold enterClosedown
  dsimp only
  split
  · exact lawful_enterOff hc
  · exact hc

theorem lawful_enterCheck : Lawful (enterCheck s) := lawful_changeMode h _ _ nofun
theorem lawful_enterRun : Lawful (enterRun s) := lawful_changeMode h _ _ nofun
theorem lawful_enterDefer : Lawful (enterDefer s) := lawful_changeMode h _ _ nofun
theorem lawful_enterRetry : Lawful (enterRetry s) :=
  lawful_changeMode (h.of_view (view_setMode s (by rfl))) _ _ nofun

theorem lawful_enterBarred : Lawful (enterBarred s) := by
  have hb := lawful_changeMode h .barred none nofun
  unfold enterBarred
  dsimp only
  split
  · exact hb
  · exact lawful_enterClosedown hb

theorem lawful_leaveByWindow : Lawful (leaveByWindow s) := by
  unfold leaveByWindow
  split
  · exact lawful_enterClosedown h
  · split
    · exact lawful_enterRun h
    · exact lawful_enterDefer h

theorem lawful_wakeExpiry : Lawful (wakeExpiry s) := by
  unfold wakeExpiry
  split
  · exact lawful_enterCheck h
  · exact h

theorem lawful_checkExpiry : Lawful (checkExpiry s) := by
  unfold checkExpiry
  split
  · exact lawful_leaveByWindow h
  · exact h

theorem lawful_retryExpiry : Lawful (retryExpiry s) := by
  unfold retryExpiry
  split
  · exact lawful_leaveByWindow h
  · exact h

theorem lawful_closedownExpiry : Lawful (closedownExpiry s) := by
  unfold closedownExpiry
  split
  · exact lawful_enterOff h
  · exact h

theorem lawful_ageHistory : Lawful (ageHistory s) := by
  unfold ageHistory
  split
  · exact h
  · split
    · exact h.of_view (view_setMode s (by rfl))
    · exact h

theorem lawful_enterPartFault (k : FaultKind) : Lawful (enterPartFault k s) :=
  h.of_view (view_enterFault _ s)

theorem lawful_pumpOvercurrent : Lawful (pumpOvercurrent s) := by
  have hf := lawful_enterPartFault (h.of_view (view_setDrive s { s.drive with pumpOver := 0 })) .pumpoc
  unfold pumpOvercurrent reportOvercurrent
  dsimp only
  split
  · split
    · exact lawful_enterRetry hf
    · exact lawful_enterBarred hf
  · exact h

theorem lawful_takeTrips (l : List FaultKind) : Lawful (takeTrips l s) := by
  have trip : Lawful (if l = [] then s else enterDefer (forEach enterPartFault l s)) := by
    split
    · exact h
    · exact lawful_enterDefer (lawful_forEach (fun k _ hk => lawful_enterPartFault hk k) l h)
  unfold takeTrips
  split
  · exact trip
  · exact trip
  all_goals exact h

theorem lawful_lowTrip : Lawful (lowTrip s) :=
  lawful_takeTrips (h.of_view (view_setMode s (by rfl))) _

theorem lawful_highTrip : Lawful (highTrip s) :=
  lawful_takeTrips (h.of_view (view_setMode s (by rfl))) _

theorem lawful_returnComplete : Lawful (returnComplete s) := by
  have hr : Lawful (s.setMode { s.mode with returnCount := 0 }) := h.of_view (view_setMode s rfl)
  unfold returnComplete
  dsimp only
  split
  · split
    · exact lawful_enterRun hr
    · exact lawful_enterClosedown hr
  · exact h

theorem lawful_supplySample (v : Nat) (t : Int) : Lawful (supplySample v t s) := by
  unfold supplySample
  dsimp only
  split
  · split
    · exact lawful_returnComplete (lawful_takeTrips (h.of_view (view_setMode s (by rfl))) _)
    · exact lawful_takeTrips (h.of_view (view_setMode s (by rfl))) _
  · exact h

/-! ## WAKE and ignition -/

theorem lawful_readStraps : Lawful (readStraps s) := by
  unfold readStraps
  dsimp only
  split <;> exact h.of_view rfl

theorem lawful_loadConfig : Lawful (loadConfig s) := by
  unfold loadConfig
  split <;> exact h.of_view rfl

end

theorem unfittedAxis_fault (a b : Axis) (u : AxisUnit) (h : u.fault.get b = none) :
    (unfittedAxis a u).fault.get b = none := by
  have e : (unfittedAxis a u).fault = u.fault.set a none := by cases a <;> rfl
  rw [e, PerAxis.get_set]
  split
  · rfl
  · exact h

/-- R60: an unfitted axis has no fault; no other axis gets one. -/
theorem applyFitted_fault (b : Axis) (u : AxisUnit) (h : u.fault.get b = none) :
    (applyFitted u).fault.get b = none := by
  unfold applyFitted
  generalize Axis.list = l
  induction l generalizing u with
  | nil => exact h
  | cons a as ih =>
    refine ih _ ?_
    show (if u.fitted.get a then u else unfittedAxis a u).fault.get b = none
    split
    · exact h
    · exact unfittedAxis_fault a b u h

section
variable {s : State} (h : Lawful s)
include h

omit h in
theorem view_wakeDrive (s : State) : view (wakeDrive s) = view s := rfl

theorem lawful_wakeBlocks (b : PerLamp (Option Zone)) : Lawful (wakeBlocks b s) := by
  have hx : Lawful (wakeAxes s) := lawful_setAxis_of_clears h fun a ha => applyFitted_fault a _ ha
  have hp : Lawful (wakePanel (wakeHolds (wakePermits (wakeAxes s)))) :=
    (lawful_wakeHolds (hx.of_view (view_setPermit _ (by rfl)))).of_view (view_wakePanel _)
  have hb := lawful_judgeHealth ((hp.of_view (view_wakeDrive _)).of_view (view_clearExclusions b _))
  exact (lawful_recomputePermits (lawful_samplePressure (lawful_takeSample hb))).of_view
    (view_judgeAttention _)

theorem lawful_finishWake : Lawful (finishWake s) := by
  have timed {u : State} (hu : Lawful u) :
      Lawful (if u.mode.mode = .wake then u.setMode { u.mode with timer := some wakeMs } else u) := by
    split
    · exact hu.of_view (view_setMode u rfl)
    · exact hu
  have woken := lawful_wakeBlocks (lawful_loadConfig (h.of_view
    (view_setMode s (v := { s.mode with loadWaits := false }) rfl))) s.config.lamp.zone
  unfold finishWake
  extract_lets before u
  exact timed woken

theorem lawful_enterWake (hm : s.mode.mode ≠ .run) : Lawful (enterWake s) := by
  have loaded {u : State} (hu : Lawful u) :
      Lawful (if u.store.save.isSome then u.setMode { u.mode with loadWaits := true }
        else finishWake u) := by
    split
    · exact hu.of_view (view_setMode u rfl)
    · exact lawful_finishWake hu
  have woken {u : State} (hu : Lawful u) : Lawful (wakeSupply u) := hu.of_view (view_setMode u rfl)
  exact loaded (lawful_readStraps (woken (lawful_changeMode h .wake none fun _ => hm)))

theorem lawful_modeIgnOn : Lawful (modeIgnOn s) := by
  unfold modeIgnOn
  split
  · next e => exact lawful_enterWake h (by rw [e]; decide)
  · exact lawful_enterCheck h
  all_goals exact h

theorem lawful_modeIgnOff : Lawful (modeIgnOff s) := by
  unfold modeIgnOff
  split
  · exact h
  · exact h
  all_goals exact lawful_enterClosedown h

theorem lawful_ignOn (p : Straps) : Lawful (ignOn p s) := by
  have taken {u : State} (hu : Lawful u) : Lawful (if u.mode.ign then u
      else modeIgnOn (permitIgn true (u.setMode { u.mode with ign := true }))) := by
    split
    · exact hu
    · exact lawful_modeIgnOn (lawful_permitIgn (hu.of_view (view_setMode u (by rfl))) true)
  exact taken (h.of_view (view_setInputs s { s.inputs with straps := p }))

theorem lawful_ignOff (o : IgnOrder) : Lawful (ignOff o s) := by
  have hi : Lawful (s.setMode { s.mode with ign := false }) := h.of_view (view_setMode s rfl)
  unfold ignOff
  dsimp only
  split
  · cases o with
    | permitFirst => exact lawful_modeIgnOff (lawful_permitIgn hi false)
    | modeFirst => exact lawful_permitIgn (lawful_modeIgnOff hi) false
  · exact h

omit h in
/-- R170: after power-on reset no grant is live. -/
theorem lawful_powerOnReset (ign : Bool) (i : Inputs) (s : State) :
    Lawful (Machine.powerOnReset ign i s) := by
  have hp : Lawful (State.powerOn s.store i s.pending) := by
    refine ⟨⟨List.nodup_nil, fun r w hr => ?_⟩, fun g hg => by cases hg⟩
    cases r <;> cases hr
  unfold Machine.powerOnReset
  dsimp only
  split
  · exact lawful_enterWake (hp.of_view (view_setMode _ (by rfl))) nofun
  · exact hp

/-! ## Resets -/

theorem lawful_resetGrants : Lawful (resetGrants s) :=
  (lawful_cutGrants h .reset fun _ => true).of_view rfl

theorem lawful_resetConfig : Lawful (resetConfig s) := by
  have hu : Lawful (recomputeSpeed (recomputeAxes (loadConfig s))) :=
    (lawful_loadConfig h).of_view ((view_recomputeSpeed _).trans (view_recomputeAxes _))
  unfold resetConfig
  dsimp only
  split
  · exact lawful_judgePorts (lawful_recomputePermits (hu.of_view (view_judgeDeployMove _))) _
  · exact lawful_judgePorts (lawful_recomputePermits hu) _

theorem lawful_resetClear (b : PerLamp (Option Zone)) : Lawful (resetClear b s) := by
  have hh := lawful_judgeHealth (h.of_view (view_clearExclusions b s))
  have hc : Lawful (clearFaults (judgeHealth (clearExclusions b s))) :=
    lawful_setAxis_of_clears hh fun a _ => PerAxis.get_all a none
  exact hc.of_view rfl

theorem lawful_resetLevel1 : Lawful (resetLevel1 s) := by
  have hl : Lawful (resetLinks (resetConfig (resetGrants s))) :=
    lawful_forEach (fun l _ hl => lawful_closeForReset hl l) _
      (lawful_resetConfig (lawful_resetGrants h))
  exact lawful_enterCheck (lawful_resetClear hl _)

theorem lawful_resetLevel2 : Lawful (resetLevel2 s) := (lawful_resetGrants h).of_view rfl

end

/-! ## Grant messages -/

/-- R5: a request refused by none of the first eight checks asks for what may move, and there is room. -/
theorem mayMove_of_requestRefusal {s : State} {l : Link} {a : Axis} {n : Sense} {k : RunKind}
    (e : requestRefusal l a n k s = none) : MayMove s a n ∧ s.grant.table.length < 12 := by
  unfold requestRefusal at e
  split at e
  · cases e
  next hmode =>
  split at e
  · cases e
  split at e
  · cases e
  split at e
  · cases e
  next hfault =>
  split at e
  · cases e
  next hhold =>
  split at e
  · cases e
  next hmap =>
  split at e
  · cases e
  split at e
  · cases e
  next hroom =>
  refine ⟨⟨not_not.mp hmode, hfault, fun r hr => ?_, not_not.mp hmap⟩, Nat.lt_of_not_le hroom⟩
  simpa using List.find?_eq_none.mp hhold r hr

/-- R7: a grant added to the table keeps R32 where it may move. -/
theorem lawful_of_added {s t : State} (h : Lawful s) {g : Grant} (ht : Slotted t) (r : Reacts s t)
    (e : t.grant.table = s.grant.table ++ [g]) (m : MayMove s g.axis g.sense) : Lawful t := by
  refine ⟨ht, fun x hx hm => mayMove_of_reacts r ?_⟩
  rw [e] at hx
  rcases List.mem_append.mp hx with hx | hx
  · exact h.allowed x hx hm
  · obtain rfl := List.mem_singleton.mp hx
    exact m

/-- The table a queued grant joins. -/
theorem queueGrant_table (g : Grant) (s : State) :
    (queueGrant g s).grant.table = s.grant.table ++ [g] := rfl

theorem holdSlot_table (g : Grant) (s : State) :
    (holdSlot g s).grant.table = s.grant.table ++ [g] := by
  unfold holdSlot
  rw [grant_of_view (view_startGrant _ _)]
  rfl

/-- R22: a retirement adds no record. -/
theorem retire_length (g : Grant) (r : Reason) (s : State) :
    (retire g r s).grant.table.length ≤ s.grant.table.length := by
  have dropped : (dropGrant g.handle s).grant.table.length ≤ s.grant.table.length :=
    List.length_filter_le _ _
  have put (k : Grant) (u : State) :
      (putGrant k u).grant.table.length = u.grant.table.length := List.length_map _
  rw [retire_grant]
  rcases leaveSlot_cases g (dropGrant g.handle s) with e | e | ⟨-, e⟩
  · rw [e]
    rcases passSlot_cases (resourceOf g.axis) (dropGrant g.handle s) with p | ⟨k, -, -, p⟩
    · rw [p]; exact dropped
    · rw [p, put]; exact dropped
  · rw [e]; exact dropped
  · rw [e]; exact dropped

/-- R6: a grant chosen by the slot is live; one that is preempted does not wait. -/
theorem decideSlot_live {r : Resource} {rank : Nat} {s : State} {g : Grant} :
    (decideSlot r rank s = .displace g → g ∈ s.grant.table) ∧
      (decideSlot r rank s = .preempt g → g ∈ s.grant.table ∧ g.state ≠ .waiting) := by
  have live {o : Option Nat} {x : Grant} (e : o.bind (findGrant · s) = some x) :
      x ∈ s.grant.table := by
    obtain ⟨_, -, hf⟩ := Option.bind_eq_some_iff.mp e
    exact (findGrant_some hf).1
  unfold decideSlot
  split
  · next w hw =>
    split
    · refine ⟨fun e => ?_, fun e => by cases e⟩
      cases e
      exact live hw
    · exact ⟨fun e => by (cases e), fun e => by cases e⟩
  · split
    · exact ⟨fun e => by (cases e), fun e => by cases e⟩
    · next x hx =>
      split
      · exact ⟨fun e => by (cases e), fun e => by cases e⟩
      · exact ⟨fun e => by (cases e), fun e => by cases e⟩
      all_goals
        next hst =>
        split
        · refine ⟨fun e => by (cases e), fun e => ?_⟩
          cases e
          exact ⟨live hx, by rw [hst]; decide⟩
        · exact ⟨fun e => by (cases e), fun e => by cases e⟩

/-- R6: carrying out the slot's answer keeps R32 for a request that may move. -/
theorem lawful_takeRequest {s : State} (h : Lawful s) {a : Axis} {n : Sense} (m : MayMove s a n)
    (room : s.grant.table.length < 12) (l : Link) (k : RunKind) (d : Nat) :
    Lawful (takeRequest l a n k d s).1 := by
  have queued {u : State} (hu : Lawful u) (mu : MayMove u a n) (ru : u.grant.table.length < 12) :
      Lawful (queueGrant (newGrant l a n k d .waiting u) u) :=
    lawful_of_added hu
      (slotted_queueGrant hu.slotted (newGrant_fresh (by omega) l a n k d .waiting) rfl)
      (reacts_queueGrant _ _) (queueGrant_table _ _) mu
  unfold takeRequest
  dsimp only
  split
  · exact h
  · exact lawful_of_added h
      (slotted_holdSlot h.slotted (newGrant_fresh (by omega) l a n k d .driving))
      (reacts_holdSlot _ _) (holdSlot_table _ _) m
  · exact queued h m room
  · next x e =>
    obtain ⟨hx, hw⟩ := decideSlot_live.2 e
    exact lawful_ease (queued h m room)
      (by rw [queueGrant_table]; exact List.mem_append_left _ hx) hw _
  · next x e =>
    exact queued (lawful_retire h (decideSlot_live.1 e) _)
      (mayMove_of_reacts (reacts_retire _ _ _) m)
      (Nat.lt_of_le_of_lt (retire_length _ _ _) room)

theorem referTo_grant {l : Link} {x : Nat} {a : Axis} {n : Sense} {s : State} {g : Grant}
    (e : referTo l x a n s = .grant g) : g ∈ s.grant.table := by
  unfold referTo at e
  split at e
  · cases e
  · next k hf =>
    split at e
    · cases e
    · split at e
      · cases e; exact (findGrant_some hf).1
      · cases e

section
variable {s : State} (h : Lawful s)
include h

theorem lawful_handleRqgrant (l : Link) (a : Axis) (n : Sense) (k : RunKind) (d : Nat) :
    Lawful (handleRqgrant l a n k d s).1 := by
  unfold handleRqgrant
  split
  · exact h
  · next e =>
    obtain ⟨m, room⟩ := mayMove_of_requestRefusal e
    exact lawful_takeRequest h m room l k d

theorem lawful_keepGrant {g : Grant} (hg : g ∈ s.grant.table) (d : Nat) :
    Lawful (keepGrant g d s).1 := by
  have kept : Lawful (putGrant (keptGrant g d s) s) := by
    have same : (keptGrant g d s).handle = g.handle ∧ (keptGrant g d s).axis = g.axis ∧
        (keptGrant g d s).sense = g.sense ∧ (keptGrant g d s).state = g.state := by
      unfold keptGrant
      split <;> exact ⟨rfl, rfl, rfl, rfl⟩
    obtain ⟨hh, ha, hn, hst⟩ := same
    exact h.react (calms_putGrant h.slotted hg hh.symm ha.symm hn.symm hst.trans hst.trans)
      (reacts_putGrant _ s)
  unfold keepGrant
  split
  · exact h
  · exact h
  · exact kept
  · exact kept

theorem lawful_handleKeep (l : Link) (x : Nat) (a : Axis) (n : Sense) (d : Nat) :
    Lawful (handleKeep l x a n d s).1 := by
  unfold handleKeep
  split
  · exact h
  · next e => exact lawful_keepGrant h (referTo_grant e) d

theorem lawful_releaseGrant {g : Grant} (hg : g ∈ s.grant.table) : Lawful (releaseGrant g s).1 := by
  unfold releaseGrant
  split
  · exact h
  · exact lawful_retire h hg .released
  · next e => exact lawful_ease h hg (by rw [e]; decide) .released
  · next e => exact lawful_ease h hg (by rw [e]; decide) .released

theorem lawful_handleLtgrant (l : Link) (x : Nat) (a : Axis) (n : Sense) :
    Lawful (handleLtgrant l x a n s).1 := by
  unfold handleLtgrant
  split
  · exact h
  · next e => exact lawful_releaseGrant h (referTo_grant e)

theorem lawful_handleRsgrant (l : Link) (x : Nat) (a : Axis) (n : Sense) :
    Lawful (handleRsgrant l x a n s).1 := by
  unfold handleRsgrant
  split
  · exact h
  · next e =>
    unfold resumePaused
    split
    · next hp => exact lawful_resumeGrant h (referTo_grant e) hp
    all_goals exact h

/-! ## Other messages -/

theorem lawful_handleStopz (l : Link) (z : PerZone Bool) : Lawful (handleStopz l z s).1 := by
  unfold handleStopz
  split
  · exact h
  · split
    · exact h
    · split
      · exact h
      · exact lawful_placeHold h (.stop z) (.station l) (axesOfZones z)

theorem lawful_handleClrstop (l : Link) (id : Nat) : Lawful (handleClrstop l id s).1 := by
  unfold handleClrstop
  split
  · exact h
  · split
    · exact h
    · unfold clearStop
      split
      · split
        · exact h
        · exact lawful_retireHold h _
      · split
        · exact lawful_retireHold h _
        · exact h

theorem lawful_handleLockt (l : Link) (t : Nat) (x : PerAxis Bool) :
    Lawful (handleLockt l t x s).1 := by
  unfold handleLockt
  split
  · exact h
  · split
    · exact h
    · split
      · exact h
      · split
        · exact h
        · split
          · exact h
          · exact lawful_placeHold h (.lockout t) (.station l) x

theorem lawful_handleUlockt (l : Link) (id t : Nat) : Lawful (handleUlockt l id t s).1 := by
  unfold handleUlockt
  split
  · exact h
  · split
    · exact h
    · split
      · exact h
      · split
        · exact h
        · split
          · exact lawful_retireHold h _
          · exact h

theorem lawful_handleFreelock (id : Nat) : Lawful (handleFreelock id s).1 := by
  unfold handleFreelock
  split
  · exact h
  · split
    · exact h
    · exact lawful_retireHold h _

theorem lawful_handleAckflt (l : Link) (a : Axis) : Lawful (handleAckflt l a s).1 := by
  have cleared : Lawful (s.setAxis { s.axis with fault := s.axis.fault.set a none }) :=
    lawful_setAxis_of_clears h fun b hb => by
      show (s.axis.fault.set a none).get b = none
      rw [PerAxis.get_set]
      split
      · rfl
      · exact hb
  unfold handleAckflt
  split
  · exact h
  · split
    · exact h
    · split
      · exact h
      · split
        · exact h
        · exact cleared

theorem lawful_takeWrite (i : Item) (v : Int) : Lawful (takeWrite i v s) := by
  have hu : Lawful (s.setConfig (writeItem s.config i v)) := h.of_view (view_setConfig s _)
  unfold takeWrite
  dsimp only
  split
  · exact lawful_writeLampZone h _ _
  · exact lawful_judgePorts hu s
  · exact lawful_recomputePermits (lawful_afterSpeed (hu.of_view (view_recomputeSpeed _)) _)
  · exact lawful_permitEvent hu
  · split
    · exact lawful_sampleHeld hu
    · split
      · exact lawful_recomputePermits hu
      · exact hu

theorem lawful_handleCfgwr (i : Nat) (v : Int) : Lawful (handleCfgwr i v s).1 := by
  unfold handleCfgwr
  split
  · exact h
  · split
    · exact h
    · split
      · exact h
      · split
        · exact h
        · exact lawful_takeWrite h _ v

theorem lawful_handleCfgband (l : List Band) : Lawful (handleCfgband l s).1 := by
  have taken : Lawful (takeBands l s) :=
    lawful_recomputePermits (lawful_sampleHeld (h.of_view (view_setConfig s _)))
  unfold handleCfgband
  split
  · exact h
  · split
    · exact h
    · split
      · exact h
      · dsimp only
        exact taken

theorem lawful_handleCfgsave : Lawful (handleCfgsave s).1 := by
  unfold handleCfgsave
  split
  · exact h
  · exact h.of_view (view_setStore s _)

theorem lawful_handleRstlvl (n : Nat) : Lawful (handleRstlvl n s).1 := by
  unfold handleRstlvl
  split
  · unfold handleRstlvl1
    split
    · exact h
    · split
      · exact h.of_view (view_setStore s _)
      · exact lawful_resetLevel1 h
  · split
    · unfold handleRstlvl2
      split
      · exact h
      · exact lawful_resetLevel2 h
    · exact h

theorem lawful_handleRstlink (n : Nat) : Lawful (handleRstlink n s).1 := by
  unfold handleRstlink
  split
  · exact h
  · exact h
  · exact lawful_resetLink h _

/-- R162, R164: every message keeps R32. -/
theorem lawful_handleMsg (l : Link) (m : Msg) : Lawful (handleMsg l m s).1 := by
  cases m with
  | rqgrant a n k d => exact lawful_handleRqgrant h l a n k d
  | keep x a n d => exact lawful_handleKeep h l x a n d
  | ltgrant x a n _ => exact lawful_handleLtgrant h l x a n
  | rsgrant x a n _ => exact lawful_handleRsgrant h l x a n
  | stopz z => exact lawful_handleStopz h l z
  | clrstop id => exact lawful_handleClrstop h l id
  | lockt t x => exact lawful_handleLockt h l t x
  | ulockt id t => exact lawful_handleUlockt h l id t
  | ackflt a => exact lawful_handleAckflt h l a
  | qgrants n => exact (handleQgrants_state n s).symm ▸ h
  | qholds n => exact (handleQholds_state n s).symm ▸ h
  | qaxes a => exact (handleQaxes_state a s).symm ▸ h
  | cfgrd i => exact (handleCfgrd_state i s).symm ▸ h
  | cfgwr i v => exact lawful_handleCfgwr h i v
  | cfgband l => exact lawful_handleCfgband h l
  | cfgsave => exact lawful_handleCfgsave h
  | rstlvl n => exact lawful_handleRstlvl h n
  | rstlink n => exact lawful_handleRstlink h n
  | freelock id => exact lawful_handleFreelock h id
  | notrd | notmsk => exact h.of_view rfl
  | lampra c => exact lawful_rearm h _
  | fltrd => exact h.of_view (view_setFaultLog s _)

/-! ## Framing and transmission -/

theorem lawful_deliver (l : Link) (f : Frame) : Lawful (deliver l f s) := by
  have handled : Lawful (handleFrame l f s).1 := by
    unfold handleFrame
    split
    · exact h
    · exact lawful_handleMsg h l _
  have ordered := handled.of_view (view_orderGends s _)
  unfold deliver
  dsimp only
  split
  · exact ordered
  · exact ordered.of_view (view_placeMessage _ _ _)

omit h in
theorem lawful_drain (l : Link) (n : Nat) {s : State} (h : Lawful s) : Lawful (drain l n s) := by
  induction n generalizing s with
  | zero => exact h
  | succ n ih =>
    unfold drain
    dsimp only
    split
    · exact h
    · split
      · split
        · exact ih (lawful_putPort h l _)
        · exact ih (lawful_deliver (lawful_putPort h l _) l _)
      · exact h

theorem lawful_frameBuffer (l : Link) : Lawful (frameBuffer l s) := lawful_drain l _ h

theorem lawful_takeSymbol (l : Link) (x : Symbol) : Lawful (takeSymbol l x s) := by
  cases x with
  | fill => exact lawful_putPort h l _
  | credit =>
    unfold takeSymbol
    dsimp only
    split
    · exact lawful_enterSilenced h l
    · exact lawful_putPort h l _
  | msg m =>
    unfold takeSymbol
    dsimp only
    split
    · exact lawful_enterSilenced h l
    · exact lawful_frameBuffer (lawful_putPort h l _) l

theorem lawful_receiveSymbol (l : Link) (x : Symbol) : Lawful (receiveSymbol l x s) := by
  unfold receiveSymbol
  split
  · exact h
  · exact h
  · exact lawful_takeSymbol (lawful_putPort h l _) l x
  · exact lawful_takeSymbol h l x

theorem lawful_receiveError (l : Link) : Lawful (receiveError l s) := by
  unfold receiveError
  split
  · exact lawful_enterSilenced h l
  · exact h

theorem lawful_receiveLine (l : Link) (x : LineSymbol) : Lawful (receiveLine l x s) := by
  unfold receiveLine
  split
  · exact lawful_receiveSymbol h l _
  · exact lawful_receiveError h l

theorem lawful_receiveFrame (l : Link) (b : List Byte) : Lawful (receiveFrame l b s) :=
  lawful_forEach (fun _ _ ht => lawful_receiveLine ht l _) _ h

theorem lawful_receiveDropped (l : Link) (b : List Byte) : Lawful (receiveDropped l b s) :=
  lawful_forEach (fun _ _ ht => lawful_receiveLine ht l _) _ h

theorem lawful_afterSending (l : Link) (p : Port) : Lawful (afterSending l p s) :=
  lawful_frameBuffer (lawful_closeIfEmpty (lawful_putPort h l p) l) l

theorem lawful_messageTransmitted (l : Link) : Lawful (messageTransmitted l s) := by
  unfold messageTransmitted
  dsimp only
  split
  · exact lawful_afterSending h l _
  · exact h

theorem lawful_closeQueueEmpty (l : Link) : Lawful (closeQueueEmpty l s) := by
  unfold closeQueueEmpty
  dsimp only
  split
  · exact lawful_afterSending h l _
  · exact h

theorem lawful_idleExpiry (l : Link) : Lawful (idleExpiry l s) := by
  unfold idleExpiry
  dsimp only
  split
  · split
    · exact lawful_putPort h l _
    · split
      · exact lawful_afterSending h l _
      · exact lawful_putPort h l _
    · exact h
    · exact h
  · exact h

theorem lawful_waitingReset : Lawful (waitingReset s).1 := by
  have hs : Lawful (s.setStore { s.store with resetWaits := none }) := h.of_view (view_setStore s _)
  unfold waitingReset
  dsimp only
  split
  · exact hs
  · exact hs
  all_goals exact lawful_resetLevel1 hs

theorem lawful_finishSave (v : Save) : Lawful (finishSave v s) := by
  have hw : Lawful (resumeWake (storeSaved v s)) := by
    have hs : Lawful (storeSaved v s) := h.of_view (view_setStore s _)
    unfold resumeWake
    split
    · exact lawful_finishWake hs
    · exact hs
  unfold finishSave
  dsimp only
  split
  · exact hw.of_view (view_orderGends s _)
  · have hr := (lawful_waitingReset hw).of_view (view_orderGends s _)
    unfold placeResetReply
    split
    · exact hr.of_view (view_placeMessage _ _ _)
    · exact hr

theorem lawful_saveCompletion : Lawful (saveCompletion s) := by
  unfold saveCompletion
  split
  · exact h
  · split
    · exact lawful_finishSave h _
    · exact h

/-! ## Control periods and timers -/

theorem lawful_driveAxis {g : Grant} (hg : g ∈ s.grant.table) : Lawful (driveAxis g s) := by
  have hd (d : DriveShaper) : Lawful (s.setDrive d) := h.of_view (view_setDrive s d)
  have retired (d : DriveShaper) (r : Reason) : Lawful (retire g r (s.setDrive d)) :=
    lawful_retire (hd d) hg r
  unfold driveAxis
  dsimp only
  split
  · exact retired _ _
  · exact hd _

theorem lawful_axisPeriod (a : Axis) : Lawful (axisPeriod a s) := by
  unfold axisPeriod
  split
  · exact h.of_view (view_setDrive s _)
  · next g e =>
    have hg : g ∈ s.grant.table := by
      unfold drivingGrant at e
      split at e
      · cases e
      · split at e
        · cases e
        · next hf =>
          split at e
          · cases e; exact (findGrant_some hf).1
          · cases e
    have hu := (lawful_driveAxis h hg).of_view (view_setActuator a _)
    dsimp only
    split
    · exact lawful_foldTravelStep hu
    · exact hu

theorem lawful_axesPeriod : Lawful (axesPeriod s) := by
  unfold axesPeriod
  split
  · exact lawful_forEach (fun a _ ha => lawful_axisPeriod ha a) _ h
  · exact h.of_view (view_forceOutputs s)

theorem lawful_pumpWatch (n : Nat) : Lawful (pumpWatch n s) := by
  unfold pumpWatch
  dsimp only
  split
  · split
    · exact lawful_pumpOvercurrent h
    · exact h.of_view (view_setDrive s _)
  · exact h.of_view (view_setDrive s _)

theorem lawful_controlPeriod (c : PeriodCurrents) : Lawful (controlPeriod c s) := by
  have hm : Lawful (forEach (fun m => panelPeriod m (c.motor.get m)) Motor.list (axesPeriod s)) :=
    lawful_forEach (fun m _ hm => lawful_panelPeriod hm m _) _ (lawful_axesPeriod h)
  have hc := lawful_forEach (f := fun k => coilWatchStep k (c.coil.get k))
    (fun k _ hk => lawful_coilWatchStep hk k _) Coil.list (hm.of_view (view_reportLiftOutput _))
  unfold controlPeriod
  split
  · exact (lawful_pumpWatch hc c.pump).of_view (view_takeDriveItems _)
  · exact h

theorem lawful_deadmanExpiry (x : Nat) : Lawful (deadmanExpiry x s) := by
  unfold deadmanExpiry
  split
  · exact h
  · next e =>
    split
    · exact lawful_windDown h (findGrant_some e).1 _
    · exact h

theorem lawful_pauseExpiry (x : Nat) : Lawful (pauseExpiry x s) := by
  unfold pauseExpiry
  split
  · exact h
  · next e =>
    split
    · next hp => exact lawful_ease h (findGrant_some e).1 (by rw [hp.1]; decide) _
    · exact h

/-! ## Events, milliseconds and steps -/

theorem lawful_conclude (b : State) : Lawful (conclude b s) := by
  unfold conclude
  split
  · exact (lawful_enterOff h).of_view (view_judgeDemands _ _)
  · exact h.of_view (view_judgeDemands _ _)

omit h in
theorem lawful_event {f : State → State} {s : State} (h : Lawful (f s)) : Lawful (event f s) :=
  lawful_conclude (h.of_view (view_orderGends s _)) s

omit h in
theorem lawful_portEvent {f : State → State} {s : State} (h : Lawful (f s)) :
    Lawful (portEvent f s) := lawful_conclude h s

omit h in
theorem tick_table : (tick s).grant.table = s.grant.table.map fun g =>
    { g with deadman := countDown g.deadman, pause := countDown g.pause } := rfl

/-- A millisecond moves the timers of the grants alone. -/
theorem lawful_tick : Lawful (tick s) := by
  refine ⟨⟨?_, fun r w hr => ?_⟩, fun g hg hm => ?_⟩
  · rw [tick_table, List.map_map]
    exact h.slotted.distinct
  · obtain ⟨x, hx, hrest⟩ := h.slotted.waiting r w hr
    exact ⟨_, List.mem_map_of_mem hx, hrest⟩
  · obtain ⟨x, hx, rfl⟩ := List.mem_map.mp hg
    exact h.allowed x hx hm

/-- R32: every command has a next state, and keeps the rule. -/
theorem lawful_exec (i : Instr) : ∃ t, exec i s = .next t ∧ Lawful t := by
  cases i with
  | rqgrant | keep | ltgrant | rsgrant | stopz | clrstop | lockt | ulockt | ackflt | qgrants
  | qholds | qaxes | cfgrd | cfgwr | cfgband | cfgsave | rstlvl1 | rstlvl2 | rstlink | freelock
  | notrd | notmsk | lampra | fltrd | malformedFrame =>
    exact ⟨_, rfl, lawful_portEvent (lawful_receiveFrame h _ _)⟩
  | creditReceived | fillReceived | overrun =>
    exact ⟨_, rfl, lawful_portEvent (lawful_receiveLine h _ _)⟩
  | dropReceived l b => exact ⟨_, rfl, lawful_portEvent (lawful_receiveDropped h l b)⟩
  | checkError l => exact ⟨_, rfl, lawful_portEvent (lawful_receiveError h l)⟩
  | silenceExpiry l => exact ⟨_, rfl, lawful_portEvent (lawful_silenceExpiry h l)⟩
  | heldLowExpiry l => exact ⟨_, rfl, lawful_portEvent (lawful_heldLowExpiry h l)⟩
  | idleTimerExpiry l => exact ⟨_, rfl, lawful_portEvent (lawful_idleExpiry h l)⟩
  | messageTransmitted l => exact ⟨_, rfl, lawful_portEvent (lawful_messageTransmitted h l)⟩
  | closeQueueEmpty l => exact ⟨_, rfl, lawful_portEvent (lawful_closeQueueEmpty h l)⟩
  | closePendingExpiry l => exact ⟨_, rfl, lawful_portEvent (lawful_closeExpiry h l)⟩
  | saveCompletion => exact ⟨_, rfl, lawful_portEvent (lawful_saveCompletion h)⟩
  | deadmanExpiry x => exact ⟨_, rfl, lawful_event (lawful_deadmanExpiry h x)⟩
  | pauseWindowExpiry x => exact ⟨_, rfl, lawful_event (lawful_pauseExpiry h x)⟩
  | startDelayExpiry => exact ⟨_, rfl, lawful_event (h.of_view (view_setDrive s _))⟩
  | controlPeriod c => exact ⟨_, rfl, lawful_event (lawful_controlPeriod h c)⟩
  | ditherFlip => exact ⟨_, rfl, lawful_event (h.of_view (view_ditherFlip s))⟩
  | pumpOvercurrent => exact ⟨_, rfl, lawful_event (lawful_pumpOvercurrent h)⟩
  | foldTravelLimit => exact ⟨_, rfl, lawful_event (lawful_foldTravelEvent h)⟩
  | axisSample x => exact ⟨_, rfl, lawful_event (lawful_axisSampleEvent h x)⟩
  | stall => exact ⟨_, rfl, lawful_event (lawful_stallEvent h)⟩
  | pressureSample n => exact ⟨_, rfl, lawful_event (lawful_pressureEvent h n)⟩
  | pulseArrival n => exact ⟨_, rfl, lawful_event (lawful_pulseArrival h n)⟩
  | pulseTimerExpiry => exact ⟨_, rfl, lawful_event (lawful_pulseTimerExpiry h)⟩
  | pbrkChange b => exact ⟨_, rfl, lawful_event (lawful_pbrkEvent h b)⟩
  | ignOn p => exact ⟨_, rfl, lawful_event (lawful_ignOn h p)⟩
  | ignOff o => exact ⟨_, rfl, lawful_event (lawful_ignOff h o)⟩
  | estopAssertion => exact ⟨_, rfl, lawful_event (lawful_estopAssert h)⟩
  | estopRelease => exact ⟨_, rfl, lawful_event (lawful_estopRelease h)⟩
  | doorSwitchChange d w b => exact ⟨_, rfl, lawful_event (lawful_doorEvent h d w b)⟩
  | shutterSwitchChange w b => exact ⟨_, rfl, lawful_event (lawful_shutterEvent h w b)⟩
  | safetyEdgeChange b => exact ⟨_, rfl, lawful_event (lawful_edgeEvent h b)⟩
  | latchPulseExpiry d => exact ⟨_, rfl, lawful_event (lawful_latchPulseExpired h d)⟩
  | engageExpiry d => exact ⟨_, rfl, lawful_event (lawful_engageExpired h d)⟩
  | obstructionOvertime m => exact ⟨_, rfl, lawful_event (lawful_obstructionEvent h m)⟩
  | panelTravelLimit m => exact ⟨_, rfl, lawful_event (lawful_panelTravelEvent h m)⟩
  | beaconTick n => exact ⟨_, rfl, lawful_event (lawful_beaconTick h n)⟩
  | lampShort c => exact ⟨_, rfl, lawful_event (lawful_lampShort h c)⟩
  | lampTestMeasurement n => exact ⟨_, rfl, lawful_event (lawful_lampTestMeasure h n)⟩
  | lampTestEnd => exact ⟨_, rfl, lawful_event (h.of_view (view_lampTestExpiry s))⟩
  | supplySample v t => exact ⟨_, rfl, lawful_event (lawful_supplySample h v t)⟩
  | supplylowTrip => exact ⟨_, rfl, lawful_event (lawful_lowTrip h)⟩
  | supplyhighTrip => exact ⟨_, rfl, lawful_event (lawful_highTrip h)⟩
  | returnCountExpiry => exact ⟨_, rfl, lawful_event (lawful_returnComplete h)⟩
  | wakeTimerExpiry => exact ⟨_, rfl, lawful_event (lawful_wakeExpiry h)⟩
  | checkTimerExpiry => exact ⟨_, rfl, lawful_event (lawful_checkExpiry h)⟩
  | retryTimerExpiry => exact ⟨_, rfl, lawful_event (lawful_retryExpiry h)⟩
  | closedownTimerExpiry => exact ⟨_, rfl, lawful_event (lawful_closedownExpiry h)⟩
  | retryEntryAgeing => exact ⟨_, rfl, lawful_event (lawful_ageHistory h)⟩
  | powerOnReset b i => exact ⟨_, rfl, lawful_event (lawful_powerOnReset b i s)⟩

/-- R32: every step keeps the rule. -/
theorem lawful_step {t : State} (e : step s = .next t) : Lawful t := by
  unfold step at e
  split at e
  · cases e
    exact lawful_tick h
  · next c rest hp =>
    obtain ⟨u, hu, hl⟩ := lawful_exec (h.of_view (view_setPending s rest)) c
    rw [hu] at e
    cases e
    exact hl

end

/-- Settles O8: the rule is kept with the agreement of slots and table that it needs, by every operation in
turn. -/
theorem stepKeepsGrantsAllowed : Obligations.StepKeepsGrantsAllowed := by
  unfold Obligations.StepKeepsGrantsAllowed
  intro s t hg hs ha e
  exact (lawful_step (lawful_of_ok hg hs ha) e).allowedOk

end Sys2Proof.Machine.Motion
end

section
/-! A message on a ready link (R151, R153, R160): what its symbols leave in the port, the message its frame
names, and what a message that retires no grant leaves behind when it has been answered. -/

namespace Sys2Proof.Machine.Motion

/-! ## The port after a message's symbols (R151) -/

/-- R151: a place freed at once is promised again, eight places at a time. -/
theorem returnCredit_bufferSymbol (m : MsgSymbol) (p : Port) :
    returnCredit { bufferSymbol m (heard p) with buffer := [] } = { taken 1 p with buffer := [] } := by
  have owed : placesOwed { bufferSymbol m (heard p) with buffer := [] } = 32 - (p.creditGiven - 1) :=
    rfl
  unfold returnCredit
  rw [owed]
  simp only [bufferSymbol, heard, taken, creditAfter, creditSent, creditStep, Bool.or_false,
    decide_eq_true_eq]
  by_cases c : p.creditGiven ≤ 25
  · have n : ¬ 32 - (p.creditGiven - 1) < creditUnit := by unfold creditUnit; omega
    have k : p.creditGiven - 1 + creditUnit * ((32 - (p.creditGiven - 1)) / creditUnit) =
        p.creditGiven - 1 + 8 * ((33 - p.creditGiven) / 8) := by unfold creditUnit; omega
    simp only [if_neg n, if_pos c, k]
  · have n : 32 - (p.creditGiven - 1) < creditUnit := by unfold creditUnit; omega
    have k : p.creditGiven - 1 = p.creditGiven - 1 + 8 * ((33 - p.creditGiven) / 8) := by omega
    simp only [if_pos n, if_neg c, ← k]

/-- R151: one symbol taken at once is `taken 1`, with framing's own two fields. -/
theorem symbolTaken_eq_taken (m : MsgSymbol) {p : Port} (e : p.buffer = []) :
    symbolTaken m p = { taken 1 p with
      frame := frameAfter m p.frame, inHand := (frameHanded m p.frame).isSome || p.inHand } := by
  unfold symbolTaken takeFromBuffer
  dsimp only
  rw [returnCredit_bufferSymbol]
  simp [taken, bufferSymbol, heard, e]

/-- R151: symbols taken in two turns. -/
theorem taken_taken (n : Nat) (p : Port) : taken n (taken 1 p) = taken (n + 1) p := by
  simp only [taken, creditAfter, creditSent, Bool.or_false, Bool.or_eq_true, decide_eq_true_eq]
  by_cases c : p.creditGiven ≤ 25 <;> by_cases k : creditSent n (creditStep p.creditGiven) = true <;>
    simp [c, k]

/-- R151, R153: a port with a message in hand has taken its bytes and its EOM. -/
theorem handedPort_eq_taken (bytes : List Byte) {p : Port} (e : p.buffer = []) :
    handedPort bytes p = { taken (bytes.length + 1) p with frame := none, inHand := true } := by
  induction bytes generalizing p with
  | nil => exact symbolTaken_eq_taken .eom e
  | cons b bs ih =>
    have q := symbolTaken_eq_taken (.data b) e
    have k : handedPort (b :: bs) p = handedPort bs (symbolTaken (.data b) p) := rfl
    rw [k, ih (by rw [q]; exact e), q]
    calc
      _ = { taken (bs.length + 1) (taken 1 p) with frame := none, inHand := true } := rfl
      _ = _ := by rw [taken_taken, List.length_cons]

/-! ## The message a frame names (R160, R162) -/

theorem word16_bytes (d : Word16) : word16 (d.extractLsb' 8 8) (d.extractLsb' 0 8) = d := by
  unfold word16
  ext i hi
  simp only [BitVec.getElem_append, BitVec.getElem_extractLsb']
  split
  · simp [BitVec.getLsbD_eq_getElem hi]
  · have : 8 + (i - 8) = i := by omega
    simp [this, BitVec.getLsbD_eq_getElem hi]

@[simp] theorem axisOfCode_byteOf (a : Axis) : axisOfCode (byteOf (axisCode a)).toNat = some a := by
  cases a <;> rfl

@[simp] theorem senseOfCode_byteOf (n : Sense) :
    senseOfCode (byteOf (senseCode n)).toNat = some n := by
  cases n <;> rfl

@[simp] theorem kindOfCode_byteOf (k : RunKind) : kindOfCode (byteOf (kindCode k)).toNat = some k := by
  cases k <;> rfl

/-- R160, R162: an RQGRANT in range names the request. -/
theorem parseFrame_rqgrant (l : Link) (a : Axis) (n : Sense) (k : RunKind) (d : Word16) :
    parseFrame l ⟨rqgrantFrame (byteOf (axisCode a)) (byteOf (senseCode n)) (byteOf (kindCode k)) d,
      false⟩ = .msg (.rqgrant a n k d.toNat) := by
  have fields (x y z hi lo : Byte) : parseFrame l ⟨[1#8, x, y, z, hi, lo], false⟩ =
      match axisOfCode x.toNat, senseOfCode y.toNat, kindOfCode z.toNat with
      | some a, some n, some k => .msg (.rqgrant a n k (word16 hi lo).toNat)
      | _, _, _ => .reject .badvalue := rfl
  show parseFrame l ⟨[1#8, _, _, _, d.extractLsb' 8 8, d.extractLsb' 0 8], false⟩ = _
  rw [fields]
  simp only [axisOfCode_byteOf, senseOfCode_byteOf, kindOfCode_byteOf, word16_bytes]

section
variable (l : Link) (h : Byte) (a : Axis) (n : Sense) (d : Word16)

/-- R160, R162: a grant reference in range names its handle, axis and sense. -/
theorem referenceField_codes (f : Nat → Axis → Sense → Nat → Msg) :
    referenceField h (byteOf (axisCode a)) (byteOf (senseCode n))
      (word16 (d.extractLsb' 8 8) (d.extractLsb' 0 8)).toNat f = .msg (f h.toNat a n d.toNat) := by
  simp only [referenceField, axisOfCode_byteOf, senseOfCode_byteOf, word16_bytes]

theorem parseFrame_keep :
    parseFrame l ⟨keepFrame h (byteOf (axisCode a)) (byteOf (senseCode n)) d, false⟩ =
      .msg (.keep h.toNat a n d.toNat) := referenceField_codes h a n d .keep

theorem parseFrame_ltgrant :
    parseFrame l ⟨ltgrantFrame h (byteOf (axisCode a)) (byteOf (senseCode n)) d, false⟩ =
      .msg (.ltgrant h.toNat a n d.toNat) := referenceField_codes h a n d .ltgrant

theorem parseFrame_rsgrant :
    parseFrame l ⟨rsgrantFrame h (byteOf (axisCode a)) (byteOf (senseCode n)) d, false⟩ =
      .msg (.rsgrant h.toNat a n d.toNat) := referenceField_codes h a n d .rsgrant

end

/-! ## The close of an event that changes no judgement (R134, R175) -/

theorem putPort_self (l : Link) (s : State) : putPort l (portOf l s) s = s := by
  unfold putPort portOf
  rw [PerLink.set_get]
  rfl

theorem forEach_fixed {α : Type} {f : α → State → State} {s : State} (hf : ∀ x, f x s = s)
    (l : List α) : forEach f l s = s := by
  unfold forEach
  induction l with
  | nil => rfl
  | cons x xs ih => rw [List.foldl_cons, hf, ih]

/-- R23: an event that has placed no GEND has none to order. -/
theorem orderGends_of_port {b s : State} (e : s.port = b.port) : orderGends b s = s := by
  refine forEach_fixed (fun l => ?_) _
  have same : portOf l b = portOf l s := by unfold portOf; rw [e]
  unfold orderPort
  dsimp only
  rw [same, List.take_length, List.drop_length, sortGends_nil, List.append_nil]
  exact putPort_self l s

theorem grantOn_eq (s : State) (a : Axis) :
    grantOn s a = (s.grant.table.map (·.axis)).any fun x => decide (x = a) := by
  rw [List.any_map]; rfl

/-- R132, R133: the demands rest on holds, axis status, permits and the axes of the grants. -/
theorem zoneDemand_congr {s t : State} (hg : t.grant.table.map (·.axis) = s.grant.table.map (·.axis))
    (hh : t.hold = s.hold) (ha : t.axis = s.axis) (hp : t.permit = s.permit) (z : Zone) :
    zoneDemand z t = zoneDemand z s := by
  have alert : alertAxis t = alertAxis s := by
    funext a; unfold alertAxis faulted; rw [hh, ha, hp]
  have on : grantOn t = grantOn s := by
    funext a; rw [grantOn_eq, grantOn_eq, hg]
  have zone (z : Zone) : axisZoneDemand z t = axisZoneDemand z s := by
    unfold axisZoneDemand; rw [alert, on, ha]
  unfold zoneDemand
  cases z <;> simp only [zone]

/-- R134, R175: an event that leaves holds, axis status, permits and the axes of the grants as they were
closes with nothing more to do. -/
theorem conclude_of_unjudged {s t : State}
    (hg : t.grant.table.map (·.axis) = s.grant.table.map (·.axis)) (hh : t.hold = s.hold)
    (ha : t.axis = s.axis) (hp : t.permit = s.permit) : conclude s t = t := by
  have stays : closedownDone s t = false := by
    have empty : t.grant.table.isEmpty = s.grant.table.isEmpty := by
      rw [← List.isEmpty_map (f := Grant.axis), hg, List.isEmpty_map]
    unfold closedownDone nothingOut
    rw [ha, empty]
    cases s.grant.table.isEmpty <;> simp
  have same (z : Zone) : demandChanged s z t = false := by
    simp [demandChanged, zoneDemand_congr hg hh ha hp z]
  unfold conclude judgeDemands
  simp only [stays, Bool.false_eq_true, if_false, same]
  split
  · exact forEach_fixed (fun _ => rfl) _
  · rfl

/-! ## A message answered -/

/-- R153: a ready link's state with a message of these bytes in hand. -/
def handed (l : Link) (bytes : List Byte) (s : State) : State :=
  putPort l (handedPort bytes (portOf l s)) s

/-- R160: the state after a message whose handler leaves `v` and answers with `r`. -/
def replied (l : Link) (bytes : List Byte) (r : Reply) (v : State) : State :=
  placeMessage l (.rply (kindEcho ⟨bytes, false⟩) r.status r.fields) v

section
variable {l : Link} {bytes : List Byte} {s v : State} {r : Reply}

/-- R154: the reply joins the queue of a link that is still UP. -/
theorem replied_eq (h : Ready l s) (p : v.port = (handed l bytes s).port) :
    replied l bytes r v = putPort l { taken (bytes.length + 1) (portOf l s) with
      inHand := true
      queue := queueOf l s ++ [.rply (kindEcho ⟨bytes, false⟩) r.status r.fields] } v := by
  have q : portOf l v = { taken (bytes.length + 1) (portOf l s) with inHand := true } := by
    have e : portOf l v = portOf l (handed l bytes s) := by unfold portOf; rw [p]
    rw [e, handed, portOf_putPort_same, handedPort_eq_taken bytes h.buffer]
    simp [taken, h.frame]
  unfold replied placeMessage
  dsimp only
  rw [q, if_pos (by exact h.up)]
  rfl

/-- R151, R153, R160: the link has taken the message and queued its reply, and no other port is
touched. -/
theorem handled_replied (h : Ready l s) (p : v.port = (handed l bytes s).port) :
    Handled (bytes.length + 1) l [] (.rply (bytes.headD 0#8) r.status r.fields) s
      (replied l bytes r v) := by
  have other {k : Link} (n : k ≠ l) : portOf k (replied l bytes r v) = portOf k s := by
    have e : portOf k v = portOf k (handed l bytes s) := by unfold portOf; rw [p]
    rw [replied_eq h p, portOf_putPort_ne _ _ n, e, handed, portOf_putPort_ne _ _ n]
  have taker := congrArg (portOf l) (replied_eq (r := r) h p)
  rw [portOf_putPort_same] at taker
  refine ⟨fun k => ?_, ?_, fun k n => ?_⟩
  · by_cases e : k = l
    · subst e
      simp [queueOf, taker, gendsTo, kindEcho]
    · simp [queueOf, other e, gendsTo, e]
  · rw [queueOf, taker]
  · rw [queueOf, other n]

/-- R153, R160: a message whose handler retires no grant and changes nothing that the close of an event
judges is answered, and that is all. -/
theorem portEvent_answered (h : Ready l s) (n : bytes.length ≤ frameBytes)
    (e : handleFrame l ⟨bytes, false⟩ (handed l bytes s) = (v, some r))
    (p : v.port = (handed l bytes s).port)
    (hg : v.grant.table.map (·.axis) = s.grant.table.map (·.axis)) (hh : v.hold = s.hold)
    (ha : v.axis = s.axis) (hp : v.permit = s.permit) :
    portEvent (receiveFrame l bytes) s = replied l bytes r v := by
  have d : deliver l ⟨bytes, false⟩ (handed l bytes s) = replied l bytes r v := by
    unfold deliver
    rw [e]
    dsimp only
    rw [orderGends_of_port p]
    rfl
  have received : receiveFrame l bytes s = replied l bytes r v := by
    rw [← d]
    refine receiveFrame_delivers h n ?_
    show (portOf l (deliver l ⟨bytes, false⟩ (handed l bytes s))).buffer = []
    rw [d, replied_eq h p, portOf_putPort_same]
    exact h.buffer
  have eq := replied_eq (r := r) h p
  unfold portEvent
  rw [received]
  exact conclude_of_unjudged (by rw [eq]; exact hg) (by rw [eq]; exact hh) (by rw [eq]; exact ha)
    (by rw [eq]; exact hp)

/-- R160: a message whose handler changes nothing is answered, and nothing changes but its own port. -/
theorem answeredOnly_of_unchanged (h : Ready l s) (n : bytes.length ≤ frameBytes)
    (e : handleFrame l ⟨bytes, false⟩ (handed l bytes s) = (handed l bytes s, some r)) :
    AnsweredOnly (bytes.length + 1) l (.rply (bytes.headD 0#8) r.status r.fields) s
      (portEvent (receiveFrame l bytes) s) := by
  rw [portEvent_answered h n e rfl rfl rfl rfl rfl]
  refine ⟨?_, handled_replied h rfl⟩
  rw [replied_eq h rfl, portOf_putPort_same, handed, putPort_putPort]

end

end Sys2Proof.Machine.Motion
end

section
/-! The grant messages that are refused (R5, R6, R15): the model's checks are those the statements name. -/

namespace Sys2Proof.Machine.Motion

/-! ## Grant references (R15, R162) -/

/-- R15, R162: the three checks of a grant reference as the statements write them. -/
theorem referTo_eq (l : Link) (h : Nat) (a : Axis) (n : Sense) (s : State) {st : Status}
    (e : (match s.grant.table.find? (fun g => decide (g.handle = h)) with
      | none => some Status.nohandle
      | some g =>
        if g.station ≠ l then some Status.notowner
        else if g.axis ≠ a ∨ g.sense ≠ n then some Status.nohandle
        else none) = some st) : referTo l h a n s = .none st := by
  have found : findGrant h s = s.grant.table.find? fun g => decide (g.handle = h) := rfl
  unfold referTo
  rw [found]
  obtain hf | ⟨g, hf⟩ := Option.eq_none_or_eq_some
    (s.grant.table.find? fun g => decide (g.handle = h))
  · rw [hf] at e ⊢
    cases e
    rfl
  · rw [hf] at e ⊢
    dsimp only at e ⊢
    by_cases hs : g.station ≠ l
    · rw [if_pos hs] at e ⊢
      cases e
      rfl
    · rw [if_neg hs] at e ⊢
      split at e
      · next hd =>
        cases e
        rw [if_neg (by tauto)]
      · cases e

/-- R160: a frame that names a message is handled as that message is. -/
theorem handleFrame_eq {l : Link} {bytes : List Byte} {m : Msg} {s v : State} {r : Option Reply}
    (p : parseFrame l ⟨bytes, false⟩ = .msg m) (e : handleMsg l m s = (v, r)) :
    handleFrame l ⟨bytes, false⟩ s = (v, r) := by
  unfold handleFrame
  rw [p]
  exact e

/-- Settles O22: each of the three messages is answered by its reference's first failing check. -/
theorem grantReferencesChecked : Obligations.GrantReferencesChecked := by
  unfold Obligations.GrantReferencesChecked
  intro l h a n d s ready st e
  have refused (bytes : List Byte) : referTo l h.toNat a n (handed l bytes s) = .none st :=
    referTo_eq l h.toNat a n (handed l bytes s) e
  refine ⟨⟨_, rfl, ?_⟩, ⟨_, rfl, ?_⟩, ⟨_, rfl, ?_⟩⟩
  · refine answeredOnly_of_unchanged (r := ⟨st, []⟩) ready (Nat.le_of_ble_eq_true rfl)
      (handleFrame_eq (parseFrame_keep l h a n d) ?_)
    simp only [handleMsg, handleKeep, refused, refuse]
  · refine answeredOnly_of_unchanged (r := ⟨st, []⟩) ready (Nat.le_of_ble_eq_true rfl)
      (handleFrame_eq (parseFrame_ltgrant l h a n d) ?_)
    simp only [handleMsg, handleLtgrant, refused, refuse]
  · refine answeredOnly_of_unchanged (r := ⟨st, []⟩) ready (Nat.le_of_ble_eq_true rfl)
      (handleFrame_eq (parseFrame_rsgrant l h a n d) ?_)
    simp only [handleMsg, handleRsgrant, refused, refuse]

/-! ## Requests (R5, R6) -/

/-- R1: a live grant is the one its handle finds. -/
theorem findGrant_of_mem {s : State} (h : (s.grant.table.map (·.handle)).Nodup) {g : Grant}
    (hg : g ∈ s.grant.table) :
    findGrant g.handle s = some g := by
  cases e : findGrant g.handle s with
  | none => simpa using List.find?_eq_none.mp e g hg
  | some k =>
    obtain ⟨hk, hh⟩ := findGrant_some e
    rw [List.inj_on_of_nodup_map h hk hg hh]

/-- R4: the waiting grant that a slot names is the one the table lists. -/
theorem slot_waiting {s : State} (hg : GrantsOk s) (hs : SlotsOk s) (r : Resource) :
    (slotOf r s).waiting.bind (findGrant · s) = waiterOn r s := by
  cases e : waiterOn r s with
  | some w =>
    have hw := List.mem_of_find?_eq_some e
    obtain ⟨hr, hst⟩ : resourceOf w.axis = r ∧ w.state = .waiting := by
      simpa using List.find?_some e
    rw [(hs.waiting r w.handle).mpr ⟨w, hw, rfl, hr, hst⟩]
    exact findGrant_of_mem hg.distinct hw
  | none =>
    have none (w : Nat) : (slotOf r s).waiting ≠ some w := by
      intro hw
      obtain ⟨g, hgm, -, hr, hst⟩ := (hs.waiting r w).mp hw
      simpa [hr, hst] using List.find?_eq_none.mp e g hgm
    rw [Option.eq_none_iff_forall_ne_some.mpr none]
    rfl

/-- R4: the holder that a slot names is the one the table lists. -/
theorem slot_holder {s : State} (hg : GrantsOk s) (hs : SlotsOk s) (r : Resource) :
    (slotOf r s).holder.bind (findGrant · s) = holderOn r s := by
  cases e : holderOn r s with
  | some k =>
    have hk := List.mem_of_find?_eq_some e
    obtain ⟨hr, hst⟩ : resourceOf k.axis = r ∧ k.state ≠ .waiting := by
      simpa using List.find?_some e
    rw [(hs.holder r k.handle).mpr ⟨k, hk, rfl, hr, hst⟩]
    exact findGrant_of_mem hg.distinct hk
  | none =>
    have none (w : Nat) : (slotOf r s).holder ≠ some w := by
      intro hw
      obtain ⟨g, hgm, -, hr, hst⟩ := (hs.holder r w).mp hw
      simpa [hr, hst] using List.find?_eq_none.mp e g hgm
    rw [Option.eq_none_iff_forall_ne_some.mpr none]
    rfl

/-- R6: the slot refuses a request of no higher rank than the grant it would displace or preempt. -/
theorem decideSlot_refuse {s : State} (hg : GrantsOk s) (hs : SlotsOk s) {r : Resource} {rank : Nat}
    (e : slotRefuses r rank s = true) : decideSlot r rank s = .refuse := by
  unfold decideSlot
  rw [slot_waiting hg hs, slot_holder hg hs]
  unfold slotRefuses at e
  cases hw : waiterOn r s with
  | some w =>
    rw [hw] at e
    have lower : rank ≤ rankOf w.station s := of_decide_eq_true e
    exact if_neg (by omega)
  | none =>
    rw [hw] at e
    cases hk : holderOn r s with
    | none => rw [hk] at e; cases e
    | some k =>
      rw [hk] at e
      obtain ⟨hst, lower⟩ : k.state ≠ .easing ∧ rank ≤ rankOf k.station s := by
        simpa using e
      have waits : k.state ≠ .waiting := by
        have := List.find?_some hk
        simp only [decide_eq_true_eq] at this
        exact this.2
      have refused : (if rankOf k.station s < rank then SlotAnswer.preempt k else .refuse) =
          .refuse := if_neg (by omega)
      dsimp only
      cases st : k.state with
      | easing => exact absurd st hst
      | waiting => exact absurd st waits
      | driving => exact refused
      | paused => exact refused

/-- R5: the reply of a check's row. -/
def rowReply (row : Bool × Status × List Byte) : Reply := ⟨row.2.1, row.2.2⟩

/-- R5: the model's first eight checks are the first eight rows. -/
theorem requestRefusal_eq (l : Link) (a : Axis) (n : Sense) (k : RunKind) (s : State) :
    requestRefusal l a n k s =
      (((requestChecks l a n k s).take 8).find? (·.1)).map rowReply := by
  have allowed : (!((s.config.profile.get l).allowed.get a).get n ||
      (decide (k = .latch) && (!(s.config.profile.get l).latched || (motorOf a).isNone))) =
        !requestAllowed l a n k s := by
    unfold requestAllowed profileOf
    cases k <;> cases ((s.config.profile.get l).allowed.get a).get n <;> simp
  have held : (s.hold.table.any fun h => h.axes.get a) = (coveringHold a s).isSome :=
    List.isSome_find?.symm
  have holder : (s.hold.table.filter fun h => h.axes.get a).head? = coveringHold a s :=
    List.head?_filter
  have busy : (s.grant.table.any fun g =>
      decide (g.station = l ∧ resourceOf g.axis = resourceOf a)) =
        stationHasGrant l (resourceOf a) s := rfl
  unfold requestRefusal requestChecks
  simp only [List.take_succ_cons, List.take_zero, allowed, held, holder, busy]
  by_cases hmode : s.mode.mode = .run
  case neg => simp [hmode, rowReply]
  cases hfit : s.axis.fitted.get a
  case false => simp [hmode, rowReply]
  cases hall : requestAllowed l a n k s
  case false => simp [hmode, rowReply]
  cases hfault : s.axis.fault.get a
  case some c => simp [hmode, rowReply, faultOptNum]
  cases hhold : coveringHold a s
  case some r => simp [hmode, rowReply, faultOptNum]
  by_cases hmap : (s.permit.map.get a).get n = .empty
  case neg => simp [hmode, hmap, rowReply]
  cases hbusy : stationHasGrant l (resourceOf a) s
  case true => simp [hmode, hmap, rowReply]
  by_cases hroom : 12 ≤ s.grant.table.length
  · simp [hmode, hmap, hroom, maxGrants, rowReply]
  · simp [hmode, hmap, hroom, maxGrants]

/-- R5: a request that fails a check changes nothing and is answered by the first check it fails. -/
theorem handleRqgrant_refused {s : State} (hg : GrantsOk s) (hs : SlotsOk s) {l : Link} {a : Axis}
    {n : Sense} {k : RunKind} (d : Nat) {row : Bool × Status × List Byte}
    (e : (requestChecks l a n k s).find? (fun r => r.1) = some row) :
    handleRqgrant l a n k d s = (s, some (rowReply row)) := by
  have split : requestChecks l a n k s = (requestChecks l a n k s).take 8 ++
      [(slotRefuses (resourceOf a) (rankOf l s) s, .busy, [])] := rfl
  rw [split, List.find?_append] at e
  unfold handleRqgrant
  rw [requestRefusal_eq]
  cases first : ((requestChecks l a n k s).take 8).find? (·.1) with
  | some r =>
    rw [first] at e
    cases e
    rfl
  | none =>
    rw [first, Option.none_or] at e
    cases refused : slotRefuses (resourceOf a) (rankOf l s) s with
    | false =>
      rw [refused] at e
      cases e
    | true =>
      rw [refused] at e
      cases e
      show takeRequest l a n k d s = _
      unfold takeRequest
      rw [decideSlot_refuse hg hs refused]
      rfl

/-- Settles O18: the handler's checks are the nine rows, taken in order. -/
theorem rqgrantAnsweredByFirstCheck : Obligations.RqgrantAnsweredByFirstCheck := by
  unfold Obligations.RqgrantAnsweredByFirstCheck
  intro l a n k d s ready hg hs row e
  refine ⟨_, rfl, answeredOnly_of_unchanged (r := rowReply row) ready (Nat.le_of_ble_eq_true rfl)
    (handleFrame_eq (parseFrame_rqgrant l a n k d) ?_)⟩
  have hg' (p : Port) : GrantsOk (putPort l p s) := ⟨hg.records, hg.room, hg.distinct, hg.single⟩
  have hs' (p : Port) : SlotsOk (putPort l p s) := ⟨hs.holder, hs.waiting, hs.behind⟩
  exact handleRqgrant_refused (hg' _) (hs' _) d.toNat e

end Sys2Proof.Machine.Motion
end

section
/-! RSGRANT (R18, R120): a resumption changes the grant's record and its door's sequence alone. -/

namespace Sys2Proof.Machine.Motion

/-! ## RSGRANT (R18, R120) -/

theorem putPanel_self (m : Motor) (s : State) : putPanel m (panelOf m s) s = s := by
  unfold putPanel panelOf
  rw [PerMotor.set_get]
  rfl

theorem putLatch_self (d : Door) (s : State) : putLatch d (latchOf d s) s = s := by
  unfold putLatch latchOf
  rw [PerDoor.set_get]
  rfl

/-- R120: a resumption leaves a door's two records as its switches then give them. -/
theorem resumeDoor_eq (d : Door) (s : State) :
    resumeDoor d s =
      putLatch d (resumed (panelOf (motorOfDoor d) s) (latchOf d s)).2
        (putPanel (motorOfDoor d) (resumed (panelOf (motorOfDoor d) s) (latchOf d s)).1 s) := by
  have latchKept (p : PanelRecord) :
      putLatch d (latchOf d s) (putPanel (motorOfDoor d) p s) = putPanel (motorOfDoor d) p s :=
    putLatch_self d (putPanel (motorOfDoor d) p s)
  unfold resumeDoor resumed meetFrame startLatching
  dsimp only
  cases (panelOf (motorOfDoor d) s).state with
  | unlatching =>
    cases (latchOf d s).latched
    · exact (latchKept _).symm
    · simp only [if_true, putPanel_self]
      rfl
  | latching =>
    cases (latchOf d s).latched
    · cases (panelOf (motorOfDoor d) s).closedSwitch
      · exact (latchKept _).symm
      · rfl
    · exact (latchKept _).symm
  | closing =>
    cases (panelOf (motorOfDoor d) s).closedSwitch
    · simp [putPanel_self, putLatch_self]
    · cases (latchOf d s).latched
      · rfl
      · exact (latchKept _).symm
  | closed | opening | opened | partway => simp [putPanel_self, putLatch_self]

/-- R120: a resumption changes panel records alone, and those of a door alone. -/
theorem panelResume_eq (a : Axis) (s : State) :
    panelResume a s = s.setPanel (panelResume a s).panel := by
  have door (d : Door) : resumeDoor d s = s.setPanel (resumeDoor d s).panel := by
    rw [resumeDoor_eq]; rfl
  cases a with
  | ndor => exact door .ndor
  | odor => exact door .odor
  | lift | tilt | fold | shut => rfl

/-- R120: a resumption looks at panel records alone. -/
theorem panelResume_congr (a : Axis) {s u : State} (e : u.panel = s.panel) :
    (panelResume a u).panel = (panelResume a s).panel := by
  have door (d : Door) : (resumeDoor d u).panel = (resumeDoor d s).panel := by
    rw [resumeDoor_eq, resumeDoor_eq]
    simp [putLatch, putPanel, panelOf, latchOf, e]
  cases a with
  | ndor => exact door .ndor
  | odor => exact door .odor
  | lift | tilt | fold | shut => exact e

/-- R120: a door's resumption is that of its two records. -/
theorem panelResume_door (d : Door) (s : State) :
    (panelResume (axisOfMotor (motorOfDoor d)) s).panel = { s.panel with
      axis := s.panel.axis.set (motorOfDoor d)
        (resumed (panelOf (motorOfDoor d) s) (latchOf d s)).1
      latch := s.panel.latch.set d (resumed (panelOf (motorOfDoor d) s) (latchOf d s)).2 } := by
  have door : panelResume (axisOfMotor (motorOfDoor d)) s = resumeDoor d s := by cases d <;> rfl
  rw [door, resumeDoor_eq]
  rfl

/-- R120: the resumption of a grant on no motor axis, or on the shutter, changes no panel record. -/
theorem panelResume_still {a : Axis} (h : motorOf a = none ∨ a = .shut) (s : State) :
    panelResume a s = s := by
  cases a with
  | ndor | odor => rcases h with h | h <;> cases h
  | lift | tilt | fold | shut => rfl

/-- R18: the record of a grant that resumes. -/
def resumption (g : Grant) (s : State) : Grant :=
  { g with
    state := .driving, pause := none
    deadman := if g.kind = .hold then some s.config.deadman else none }

/-- R18: a resumption changes the grant's record and its panel's sequence. -/
theorem resumeGrant_eq (g : Grant) (s : State) :
    resumeGrant g s = { s with
      grant := { s.grant with table := tableWith (resumption g s) s }
      panel := (panelResume g.axis s).panel } := by
  have full : fullDeadman g.kind s = if g.kind = .hold then some s.config.deadman else none := by
    cases g.kind <;> rfl
  unfold resumeGrant
  rw [full, panelResume_eq, panelResume_congr g.axis (u := putGrant _ s) (s := s) rfl]
  rfl

theorem resumeGrant_port (g : Grant) (s : State) : (resumeGrant g s).port = s.port := by
  rw [resumeGrant_eq]

/-- R7, R18: the reply to a resumption carries the handle and DRIVING. -/
theorem grantReply_resumeGrant {s : State} (h : GrantsOk s) {g : Grant} (hg : g ∈ s.grant.table) :
    grantReply g.handle (resumeGrant g s) = some ⟨.ok, [byteOf g.handle, 1#8]⟩ := by
  have live : findGrant g.handle (resumeGrant g s) = some (resumption g s) := by
    rw [resumeGrant_eq]
    refine findGrant_of_mem (g := resumption g s) ?_ (mem_putGrant_self hg rfl)
    exact (putGrant_handles (resumption g s) s).symm ▸ h.distinct
  unfold grantReply grantCode
  rw [live]
  rfl

/-- R15, R162: a reference to a live grant by its station, axis and sense names it. -/
theorem referTo_of_mem {s : State} (h : GrantsOk s) {g : Grant} (hg : g ∈ s.grant.table) :
    referTo g.station (byteOf g.handle).toNat g.axis g.sense s = .grant g := by
  have handle : (byteOf g.handle).toNat = g.handle := by
    have range := (h.records g hg).handle
    unfold byteOf
    rw [BitVec.toNat_ofNat]
    omega
  unfold referTo
  rw [handle, findGrant_of_mem h.distinct hg]
  simp

theorem resumePaused_of_paused {g : Grant} (e : g.state = .paused) (s : State) :
    resumePaused g s = (resumeGrant g s, grantReply g.handle (resumeGrant g s)) := by
  unfold resumePaused
  rw [e]

theorem resumePaused_of_not_paused {g : Grant} (n : g.state ≠ .paused) (s : State) :
    resumePaused g s = (s, some ⟨.notpaused, []⟩) := by
  unfold resumePaused
  cases e : g.state with
  | paused => exact absurd e n
  | waiting | driving | easing => rfl

theorem tableWith_axes {s : State} (h : GrantsOk s) {g k : Grant} (hg : g ∈ s.grant.table)
    (hh : k.handle = g.handle) (ha : k.axis = g.axis) :
    (tableWith k s).map (·.axis) = s.grant.table.map (·.axis) := by
  unfold tableWith
  rw [List.map_map]
  refine List.map_congr_left fun x hx => ?_
  simp only [Function.comp_apply]
  split
  · next e => rw [ha, List.inj_on_of_nodup_map h.distinct hx hg (e.trans hh)]
  · rfl

/-- R18: what a resumption that is answered leaves in every part of the state but the ports. -/
theorem replied_resumeGrant {l : Link} {bytes : List Byte} {s : State} (ready : Ready l s) (g : Grant)
    (r : Reply) :
    replied l bytes r (resumeGrant g (handed l bytes s)) = { s with
      grant := { s.grant with table := tableWith (resumption g s) s }
      panel := (panelResume g.axis s).panel
      port := (replied l bytes r (resumeGrant g (handed l bytes s))).port } := by
  have resumes := resumeGrant_eq g (handed l bytes s)
  rw [panelResume_congr g.axis (u := handed l bytes s) (s := s) rfl] at resumes
  rw [replied_eq ready (resumeGrant_port g _), resumes]
  rfl

/-- R162: the RSGRANT that names a grant. -/
def resumeFrame (g : Grant) (d : Word16) : List Byte :=
  rsgrantFrame (byteOf g.handle) (byteOf (axisCode g.axis)) (byteOf (senseCode g.sense)) d

/-- R160: the RSGRANT that names a grant is handled as R18 says for that grant. -/
theorem handleFrame_resumeFrame {s : State} (ok : GrantsOk s) {g : Grant} (hg : g ∈ s.grant.table)
    (d : Word16) :
    handleFrame g.station ⟨resumeFrame g d, false⟩ (handed g.station (resumeFrame g d) s) =
      resumePaused g (handed g.station (resumeFrame g d) s) := by
  have ok' : GrantsOk (handed g.station (resumeFrame g d) s) :=
    ⟨ok.records, ok.room, ok.distinct, ok.single⟩
  refine handleFrame_eq (parseFrame_rsgrant g.station (byteOf g.handle) g.axis g.sense d) ?_
  show handleRsgrant g.station (byteOf g.handle).toNat g.axis g.sense _ = _
  unfold handleRsgrant
  rw [referTo_of_mem ok' hg]
  rfl

section
variable {s : State} (ok : GrantsOk s) {g : Grant} (hg : g ∈ s.grant.table)
  (ready : Ready g.station s) (d : Word16)
include ok hg ready

/-- R18: RSGRANT on a PAUSED grant of the station resumes it and is answered with its state. -/
theorem portEvent_resumeFrame_of_paused (paused : g.state = .paused) :
    portEvent (receiveFrame g.station (resumeFrame g d)) s =
      replied g.station (resumeFrame g d) ⟨.ok, [byteOf g.handle, 1#8]⟩
        (resumeGrant g (handed g.station (resumeFrame g d) s)) := by
  have ok' : GrantsOk (handed g.station (resumeFrame g d) s) :=
    ⟨ok.records, ok.room, ok.distinct, ok.single⟩
  have answers := handleFrame_resumeFrame ok hg d
  rw [resumePaused_of_paused paused, grantReply_resumeGrant ok' hg] at answers
  refine portEvent_answered ready (Nat.le_of_ble_eq_true rfl) answers ?port ?axes ?hold ?axis ?permit
    <;> rw [resumeGrant_eq]
  case axes => exact tableWith_axes ok hg rfl rfl
  all_goals rfl

/-- R18: RSGRANT on a grant of the station that is not PAUSED changes nothing. -/
theorem answeredOnly_resumeFrame_of_not_paused (n : g.state ≠ .paused) :
    AnsweredOnly 7 g.station (.rply 4#8 .notpaused []) s
      (portEvent (receiveFrame g.station (resumeFrame g d)) s) := by
  have answers := handleFrame_resumeFrame ok hg d
  rw [resumePaused_of_not_paused n] at answers
  exact answeredOnly_of_unchanged ready (Nat.le_of_ble_eq_true rfl) answers

end

/-- Settles O25: the reference names the grant, its handler is the refusal or `resumeGrant`, and the
close of the event finds nothing changed that it judges. -/
theorem rsgrantResumesGrant : Obligations.RsgrantResumesGrant := by
  unfold Obligations.RsgrantResumesGrant
  intro d s ok g hg ready
  refine ⟨portEvent (receiveFrame g.station (resumeFrame g d)) s, rfl,
    answeredOnly_resumeFrame_of_not_paused ok hg ready d, fun paused => ?_⟩
  rw [portEvent_resumeFrame_of_paused ok hg ready d paused]
  have state := replied_resumeGrant (bytes := resumeFrame g d) ready g ⟨.ok, [byteOf g.handle, 1#8]⟩
  have handled := handled_replied (bytes := resumeFrame g d) (r := ⟨.ok, [byteOf g.handle, 1#8]⟩) ready
    (resumeGrant_port g (handed g.station (resumeFrame g d) s))
  generalize replied _ _ _ _ = t at state handled ⊢
  have panel : t.panel = (panelResume g.axis s).panel := by rw [state]
  refine ⟨congrArg State.grant state, fun still => ?_, fun e door => ?_, by rw [state], handled⟩
  · rw [panel, panelResume_still still]
  · rw [door, panelResume_door] at panel
    have panelSet : panelOf (motorOfDoor e) t =
        (resumed (panelOf (motorOfDoor e) s) (latchOf e s)).1 := by
      unfold panelOf
      rw [panel]
      exact PerMotor.get_set_same ..
    have latchSet : latchOf e t = (resumed (panelOf (motorOfDoor e) s) (latchOf e s)).2 := by
      unfold latchOf
      rw [panel]
      exact PerDoor.get_set_same ..
    rw [panelSet, latchSet]
    exact ⟨rfl, panel⟩

end Sys2Proof.Machine.Motion
end

section
/-! What an event's change of the zone demands leaves in the beacon controller (R131 to R136, R142): each
zone whose demand moves is restarted or recorded, and everything else stays as it was. -/

namespace Sys2Proof.Machine.Holds

open Motion

/-! ## A zone's restart (R134 to R136) -/

/-- The channels of a list rewritten, each from its own record. -/
def writeLamps (l : List Lamp) (g : Lamp → LampRecord → LampRecord) (s : State) : State :=
  s.setBeacon { s.beacon with
    lamp := .mk' fun c => if c ∈ l then g c (lampOf c s) else lampOf c s }

theorem lampOf_writeLamps (l : List Lamp) (g : Lamp → LampRecord → LampRecord) (s : State)
    (c : Lamp) :
    lampOf c (writeLamps l g s) = if c ∈ l then g c (lampOf c s) else lampOf c s :=
  PerLamp.get_mk' ..

theorem lampsOf_writeLamps (z : Zone) (l : List Lamp) (g : Lamp → LampRecord → LampRecord)
    (s : State) : lampsOf z (writeLamps l g s) = lampsOf z s := rfl

theorem zoneRecord_writeLamps (z : Zone) (l : List Lamp) (g : Lamp → LampRecord → LampRecord)
    (s : State) : zoneRecord z (writeLamps l g s) = zoneRecord z s := rfl

theorem eq_writeLamps {l : List Lamp} {g : Lamp → LampRecord → LampRecord} {s t : State}
    (frame : t = s.setBeacon { s.beacon with lamp := t.beacon.lamp })
    (lamps : ∀ c, lampOf c t = if c ∈ l then g c (lampOf c s) else lampOf c s) :
    t = writeLamps l g s := by
  have same : t.beacon.lamp = (writeLamps l g s).beacon.lamp :=
    PerLamp.ext_get fun c => (lamps c).trans (lampOf_writeLamps l g s c).symm
  rw [frame, same]
  rfl

theorem writeLamps_writeLamps (l : List Lamp) (g h : Lamp → LampRecord → LampRecord) (s : State) :
    writeLamps l h (writeLamps l g s) = writeLamps l (fun c r => h c (g c r)) s := by
  refine eq_writeLamps rfl fun c => ?_
  rw [lampOf_writeLamps, lampOf_writeLamps]
  split <;> rfl

/-- Writing channel after channel: each channel of the list is written once, from its own record. -/
theorem forEach_putLamp {f : Lamp → State → State} {g : Lamp → LampRecord → LampRecord} {s : State}
    (hf : ∀ c t, t.beacon.zone = s.beacon.zone → f c t = putLamp c (g c (lampOf c t)) t)
    {l : List Lamp} (distinct : l.Nodup) : forEach f l s = writeLamps l g s := by
  unfold forEach
  induction l generalizing s with
  | nil => exact eq_writeLamps rfl fun c => rfl
  | cons x xs ih =>
    obtain ⟨new, distinct⟩ := List.nodup_cons.mp distinct
    have rest := ih (s := putLamp x (g x (lampOf x s)) s) (fun c t e => hf c t e) distinct
    rw [List.foldl_cons, hf x s rfl, rest]
    refine eq_writeLamps rfl fun c => ?_
    have written : lampOf c (putLamp x (g x (lampOf x s)) s) =
        if c = x then g x (lampOf x s) else lampOf c s := PerLamp.get_set ..
    rw [lampOf_writeLamps, written]
    by_cases e : c = x
    · subst e
      simp [new]
    · simp [e]

theorem lampsOf_nodup (z : Zone) (s : State) : (lampsOf z s).Nodup :=
  List.Nodup.filter _ (by decide)

theorem mem_lampsOf {z : Zone} {s : State} {c : Lamp} :
    c ∈ lampsOf z s ↔ s.config.lamp.zone.get c = some z := by
  have every : c ∈ Lamp.list := by cases c <;> decide
  simp [lampsOf, every]

theorem okLamps_length (z : Zone) (s : State) : (okLamps z s).length ≤ 12 :=
  (List.length_filter_le _ _).trans (List.length_filter_le _ _)

theorem patternPeriod_long {p : Pattern} (h : p ≠ .none) : 12 ≤ patternPeriod p := by
  cases p with
  | none => exact absurd rfl h
  | slow | fast | alert => decide

theorem patternOn_start {p : Pattern} (h : p ≠ .none) : patternOn p 0 = true := by
  cases p with
  | none => exact absurd rfl h
  | slow | fast | alert => rfl

/-- R135: at a restart a slot's channel is ON where the slot's offset is 0, the first slot's alone. -/
theorem slotOn_restart {r : ZoneRecord} (start : r.counter = 0) (first : r.firstPeriod = true)
    (few : r.workingSet.length ≤ 12) {k : Nat} (hk : k < r.workingSet.length) :
    slotOn r k = decide (r.demand ≠ .none ∧ k = 0) := by
  unfold slotOn
  dsimp only
  rw [start, first]
  by_cases dark : r.demand = .none
  · simp [dark]
  by_cases zero : k = 0
  · subst zero
    simp [dark, slotOffset, lampPosition, patternOn_start dark]
  · have later : 0 < slotOffset r.demand k r.workingSet.length := by
      refine Nat.div_pos ?_ (by omega)
      calc
        r.workingSet.length ≤ 1 * patternPeriod r.demand := by
          have := patternPeriod_long dark
          omega
        _ ≤ k * patternPeriod r.demand := Nat.mul_le_mul_right _ (by omega)
    simp [zero, later]

/-- R134, R136: the record of a zone at its restart with a demand. -/
def restartedZone (z : Zone) (p : Pattern) (s : State) : ZoneRecord :=
  { zoneRecord z s with
    demand := p, counter := 0, firstPeriod := true, workingSet := okLamps z s }

/-- R135, R136: the record of a channel of a zone at that restart. -/
def restartedLamp (z : Zone) (p : Pattern) (s : State) (c : Lamp) (r : LampRecord) : LampRecord :=
  { r with
    position := if c ∈ okLamps z s then some ((okLamps z s).idxOf c) else none
    driven := decide (p ≠ .none ∧ (okLamps z s).head? = some c) }

/-- R131: a channel is driven for its slot; one with no slot is OFF. -/
theorem driveLamp_eq (z : Zone) (c : Lamp) (s : State) :
    driveLamp z c s = putLamp c { lampOf c s with
      driven := (lampOf c s).position.any (slotOn (zoneRecord z s)) } s := by
  unfold driveLamp
  dsimp only
  split
  · next e => rw [e, Option.any_none]
  · next k e => rw [e, Option.any_some]

/-- R131: driving a zone writes what drives its channels and nothing else. -/
theorem driveZone_eq (z : Zone) (s : State) :
    driveZone z s = writeLamps (lampsOf z s)
      (fun _ r => { r with driven := r.position.any (slotOn (zoneRecord z s)) }) s := by
  refine forEach_putLamp (fun c t e => ?_) (lampsOf_nodup z s)
  have same : zoneRecord z t = zoneRecord z s := congrArg (PerZone.get · z) e
  rw [driveLamp_eq, same]

/-- R136: numbering a working set writes the slots of its zone's channels and nothing else. -/
theorem numberSlots_eq (z : Zone) (set : List Lamp) (s : State) :
    numberSlots z set s = writeLamps (lampsOf z s)
      (fun c r => { r with position := if c ∈ set then some (set.idxOf c) else none }) s :=
  forEach_putLamp (fun c t _ => by simp only [List.contains_iff_mem]) (lampsOf_nodup z s)

/-- R134 to R136: at a restart the first slot's channel alone is ON. -/
theorem slot_driven_restart (z : Zone) (p : Pattern) (s : State) (c : Lamp) (r : LampRecord) :
    (restartedLamp z p s c r).position.any (slotOn (restartedZone z p s)) =
      (restartedLamp z p s c r).driven := by
  unfold restartedLamp
  by_cases ok : c ∈ okLamps z s
  · have slot : slotOn (restartedZone z p s) ((okLamps z s).idxOf c) =
        decide (p ≠ .none ∧ (okLamps z s).idxOf c = 0) :=
      slotOn_restart rfl rfl (okLamps_length z s) (List.idxOf_lt_length_iff.mpr ok)
    have first : (okLamps z s).idxOf c = 0 ↔ (okLamps z s).head? = some c := by
      rw [List.idxOf_eq_zero_iff_eq_nil_or_head_eq, or_iff_right (List.ne_nil_of_mem ok)]
    simp only [ok, if_true, Option.any_some, slot, first]
  · have other : (okLamps z s).head? ≠ some c := fun e => ok (List.mem_of_head? e)
    simp [ok, other]

/-- R134 to R136: a restart writes its zone's record and those of its zone's channels. -/
theorem restartZone_eq (z : Zone) (p : Pattern) (s : State) :
    restartZone z p s = writeLamps (lampsOf z s) (restartedLamp z p s)
      (putZone z (restartedZone z p s) s) := by
  have steps : restartZone z p s =
      driveZone z (numberSlots z (okLamps z s) (putZone z (restartedZone z p s) s)) := by
    cases z <;> rfl
  have own : zoneRecord z (putZone z (restartedZone z p s) s) = restartedZone z p s :=
    PerZone.get_set_same ..
  rw [steps, numberSlots_eq, driveZone_eq, lampsOf_writeLamps, zoneRecord_writeLamps,
    writeLamps_writeLamps, own]
  congr 1
  funext c r
  exact congrArg (fun d => { restartedLamp z p s c r with driven := d })
    (slot_driven_restart z p s c r)

/-! ## Demands judged zone by zone (R132 to R134) -/

/-- Neither the record of a zone has changed nor its channels; with no zone named, no channel that has
none. -/
structure Untouched (o : Option Zone) (s t : State) : Prop where
  config : t.config = s.config
  timebase : t.beacon.timebase = s.beacon.timebase
  test : t.beacon.test = s.beacon.test
  zone : ∀ z, o = some z → zoneRecord z t = zoneRecord z s
  lamp : ∀ c, s.config.lamp.zone.get c = o → lampOf c t = lampOf c s

theorem Untouched.refl (o : Option Zone) (s : State) : Untouched o s s :=
  ⟨rfl, rfl, rfl, fun _ _ => rfl, fun _ _ => rfl⟩

theorem Untouched.trans {o : Option Zone} {s t u : State} (h : Untouched o s t)
    (k : Untouched o t u) : Untouched o s u where
  config := k.config.trans h.config
  timebase := k.timebase.trans h.timebase
  test := k.test.trans h.test
  zone := fun z e => (k.zone z e).trans (h.zone z e)
  lamp := fun c e => (k.lamp c (by rw [h.config]; exact e)).trans (h.lamp c e)

theorem untouched_of_beacon (o : Option Zone) {s t : State} (beacon : t.beacon = s.beacon)
    (config : t.config = s.config) : Untouched o s t :=
  ⟨config, congrArg _ beacon, congrArg _ beacon,
    fun z _ => congrArg (fun b : BeaconController => b.zone.get z) beacon,
    fun c _ => congrArg (fun b : BeaconController => b.lamp.get c) beacon⟩

theorem Untouched.lampsOf_eq {o : Option Zone} {s t : State} (h : Untouched o s t) (z : Zone) :
    lampsOf z t = lampsOf z s := by
  unfold lampsOf
  rw [h.config]

/-- R136: a zone left alone has the OK channels it had. -/
theorem Untouched.okLamps_eq {z : Zone} {s t : State} (h : Untouched (some z) s t) :
    okLamps z t = okLamps z s := by
  unfold okLamps
  rw [h.lampsOf_eq]
  refine List.filter_congr fun c hc => ?_
  have same := h.lamp c (mem_lampsOf.mp hc)
  unfold lampOf at same
  rw [same]

/-- R134: the demand of one zone judged leaves the rest alone. -/
theorem untouched_setDemand {o : Option Zone} {z : Zone} (other : o ≠ some z) (p : Pattern)
    (s : State) : Untouched o s (setDemand z p s) := by
  have zoned (r : ZoneRecord) : Untouched o s (putZone z r s) :=
    ⟨rfl, rfl, rfl, fun y e => PerZone.get_set_ne _ _ fun h => other (by rw [e, h]),
      fun _ _ => rfl⟩
  have lamped (g : Lamp → LampRecord → LampRecord) (t : State) :
      Untouched o t (writeLamps (lampsOf z t) g t) := by
    refine ⟨rfl, rfl, rfl, fun _ _ => rfl, fun c e => ?_⟩
    rw [lampOf_writeLamps, if_neg fun h => other (e.symm.trans (mem_lampsOf.mp h))]
  unfold setDemand
  split
  · exact .refl o s
  · split
    · exact zoned _
    · rw [restartZone_eq]
      exact (zoned _).trans (lamped _ _)

/-- Steps that each leave a place alone leave it alone together. -/
theorem untouched_forEach {α : Type} {o : Option Zone} {f : α → State → State} {l : List α}
    (hf : ∀ x ∈ l, ∀ s, Untouched o s (f x s)) (s : State) : Untouched o s (forEach f l s) := by
  unfold forEach
  induction l generalizing s with
  | nil => exact .refl o s
  | cons x xs ih =>
    exact (hf x List.mem_cons_self s).trans (ih (fun y hy => hf y (List.mem_cons_of_mem x hy)) _)

/-- Among steps of one zone each, a zone is as it was until its own step and as that left it after. -/
theorem forEach_zone {f : Zone → State → State} {l : List Zone} (distinct : l.Nodup) {z : Zone}
    (hz : z ∈ l) (hf : ∀ y, y ≠ z → ∀ s, Untouched (some z) s (f y s)) (s : State) :
    ∃ u, Untouched (some z) s u ∧ Untouched (some z) (f z u) (forEach f l s) := by
  induction l generalizing s with
  | nil => cases hz
  | cons x xs ih =>
    obtain ⟨new, distinct⟩ := List.nodup_cons.mp distinct
    obtain rfl | hz := List.mem_cons.mp hz
    · exact ⟨s, .refl _ s, untouched_forEach (fun y hy => hf y fun e => new (e ▸ hy)) _⟩
    · obtain ⟨u, before, after⟩ := ih distinct hz (f x s)
      exact ⟨u, (hf x (fun e => new (e ▸ hz)) s).trans before, after⟩

/-- R134 to R136: a zone restarted, and otherwise left alone. -/
theorem restarted_of_untouched {z : Zone} {p : Pattern} {s u t : State}
    (before : Untouched (some z) s u) (after : Untouched (some z) (restartZone z p u) t) :
    Restarted z p s t := by
  rw [restartZone_eq, before.lampsOf_eq] at after
  constructor
  · calc
      zoneRecord z t = restartedZone z p u := (after.zone z rfl).trans (PerZone.get_set_same ..)
      _ = restartedZone z p s := by
        unfold restartedZone
        rw [before.zone z rfl, before.okLamps_eq]
  · intro c hc
    have own := mem_lampsOf.mp hc
    calc
      lampOf c t = restartedLamp z p u c (lampOf c u) := by
        rw [after.lamp c (by rw [← own, ← before.config]; rfl), lampOf_writeLamps, if_pos hc]
        rfl
      _ = restartedLamp z p s c (lampOf c s) := by
        unfold restartedLamp
        rw [before.lamp c own, before.okLamps_eq]

/-- R142: a zone whose demand is recorded, and otherwise left alone. -/
theorem recorded_of_untouched {z : Zone} {p : Pattern} {s u t : State}
    (before : Untouched (some z) s u)
    (after : Untouched (some z) (putZone z { zoneRecord z u with demand := p } u) t) :
    zoneRecord z t = { zoneRecord z s with demand := p } ∧
      ∀ c ∈ lampsOf z s, lampOf c t = lampOf c s := by
  constructor
  · calc
      zoneRecord z t = { zoneRecord z u with demand := p } :=
        (after.zone z rfl).trans (PerZone.get_set_same ..)
      _ = { zoneRecord z s with demand := p } := by rw [before.zone z rfl]
  · intro c hc
    have own := mem_lampsOf.mp hc
    exact (after.lamp c (by rw [← own, ← before.config]; rfl)).trans (before.lamp c own)

/-- R134: a zone that shows a demand already is left as it is. -/
theorem setDemand_of_shown {z : Zone} {p : Pattern} {s : State} (h : (zoneRecord z s).demand = p) :
    setDemand z p s = s := if_pos h

theorem setDemand_of_test {z : Zone} {p : Pattern} {s : State} (h : (zoneRecord z s).demand ≠ p)
    (test : s.beacon.test.isSome = true) :
    setDemand z p s = putZone z { zoneRecord z s with demand := p } s :=
  (if_neg h).trans (if_pos test)

theorem setDemand_of_no_test {z : Zone} {p : Pattern} {s : State} (h : (zoneRecord z s).demand ≠ p)
    (test : s.beacon.test = none) : setDemand z p s = restartZone z p s :=
  (if_neg h).trans (if_neg (by simp [test]))

/-- R132 to R134: the judgement of one zone's demand that closes an event from `s` to `u`. -/
def judgeZone (s u : State) (z : Zone) (t : State) : State :=
  if demandChanged s z u then setDemand z (zoneDemand z u) t else t

theorem judgeDemands_eq {s u : State} (judged : demandJudged u = true) :
    judgeDemands s u = forEach (judgeZone s u) Zone.list u := if_pos judged

theorem untouched_judgeZone {o : Option Zone} {z : Zone} (other : o ≠ some z) (s u t : State) :
    Untouched o t (judgeZone s u z t) := by
  unfold judgeZone
  split
  · exact untouched_setDemand other _ t
  · exact .refl o t

/-- R134: a zone that an event does not move is left as it is. -/
theorem judgeZone_of_still {s u t v : State} {z : Zone} (shown : zoneRecord z v = zoneRecord z s)
    (same : zoneDemand z t = zoneDemand z u) (still : demandMoves z s t = false) :
    judgeZone s u z v = v := by
  unfold judgeZone
  split
  · next changed =>
    refine setDemand_of_shown ?_
    by_contra n
    rw [shown] at n
    have moves : demandMoves z s t = true := by
      simp only [demandMoves, same, Bool.and_eq_true, decide_eq_true_eq]
      exact ⟨Ne.symm (of_decide_eq_true changed), n⟩
    exact Bool.false_ne_true (still.symm.trans moves)
  · rfl

/-- R134: a zone that an event moves is judged, and shows another demand. -/
theorem judgeZone_of_moves {s u t v : State} {z : Zone} (shown : zoneRecord z v = zoneRecord z s)
    (same : zoneDemand z t = zoneDemand z u) (moves : demandMoves z s t = true) :
    judgeZone s u z v = setDemand z (zoneDemand z t) v ∧
      (zoneRecord z v).demand ≠ zoneDemand z t := by
  simp only [demandMoves, Bool.and_eq_true, decide_eq_true_eq] at moves
  obtain ⟨changed, n⟩ := moves
  rw [same] at changed n ⊢
  refine ⟨if_pos (decide_eq_true (Ne.symm changed)), ?_⟩
  rw [shown]
  exact n

theorem judgeZone_frame (s u : State) (z : Zone) (t : State) :
    judgeZone s u z t = t.setBeacon (judgeZone s u z t).beacon := by
  unfold judgeZone setDemand
  split
  · split
    · rfl
    · split
      · rfl
      · rw [restartZone_eq]
        rfl
  · rfl

/-- R132 to R134: the judgement of the demands changes the beacon controller alone. -/
theorem judgeDemands_frame (s u : State) :
    judgeDemands s u = u.setBeacon (judgeDemands s u).beacon := by
  have all (l : List Zone) (t : State) :
      forEach (judgeZone s u) l t = t.setBeacon (forEach (judgeZone s u) l t).beacon := by
    induction l generalizing t with
    | nil => rfl
    | cons z zs ih =>
      have rest := ih (judgeZone s u z t)
      have first := congrArg
        (State.setBeacon · (forEach (judgeZone s u) zs (judgeZone s u z t)).beacon)
        (judgeZone_frame s u z t)
      exact rest.trans first
  by_cases judged : demandJudged u = true
  · rw [judgeDemands_eq judged]
    exact all _ u
  · unfold judgeDemands
    rw [if_neg judged]
    rfl

/-- R132 to R134, R142: the judgement of the demands that closes an event which has left the beacon
controller and the configuration alone. -/
theorem demandsFollow_judgeDemands {s u : State} (judged : demandJudged u = true)
    (beacon : u.beacon = s.beacon) (config : u.config = s.config) :
    DemandsFollow s (judgeDemands s u) := by
  have same (z : Zone) : zoneDemand z (judgeDemands s u) = zoneDemand z u := by
    rw [judgeDemands_frame]
    exact zoneDemand_congr rfl rfl rfl rfl z
  have whole : Untouched none s (judgeDemands s u) := by
    rw [judgeDemands_eq judged]
    exact (untouched_of_beacon none beacon config).trans
      (untouched_forEach (fun z _ => untouched_judgeZone (Option.some_ne_none z).symm s u) u)
  have zones (z : Zone) : ∃ v, Untouched (some z) s v ∧
      Untouched (some z) (judgeZone s u z v) (judgeDemands s u) := by
    rw [judgeDemands_eq judged]
    have listed : z ∈ Zone.list := by cases z <;> decide
    obtain ⟨v, before, after⟩ := forEach_zone (f := judgeZone s u) (by decide) listed (fun y n =>
      untouched_judgeZone (fun e => n (Option.some.inj e).symm) s u) u
    exact ⟨v, (untouched_of_beacon _ beacon config).trans before, after⟩
  generalize judgeDemands s u = t at same whole zones
  refine ⟨fun z moves test => ?_, fun z moves test => ?_, fun z still => ?_, whole.lamp,
    whole.timebase, whole.test⟩ <;> obtain ⟨v, before, after⟩ := zones z
  · obtain ⟨step, new⟩ := judgeZone_of_moves (before.zone z rfl) (same z) moves
    rw [step, setDemand_of_no_test new (before.test.trans test)] at after
    exact restarted_of_untouched before after
  · obtain ⟨step, new⟩ := judgeZone_of_moves (before.zone z rfl) (same z) moves
    rw [step, setDemand_of_test new (by rw [before.test, test])] at after
    exact recorded_of_untouched before after
  · rw [judgeZone_of_still (before.zone z rfl) (same z) still] at after
    have left := before.trans after
    exact ⟨left.zone z rfl, fun c hc => left.lamp c (mem_lampsOf.mp hc)⟩

end Sys2Proof.Machine.Holds
end

section
/-! A hold's retirement by a message on a ready link (R37, R40, R41, R44, R45): the record leaves the
table, the HOLD notice is set, the demands are judged, and no grant is told. -/

namespace Sys2Proof.Machine.Holds

open Motion

/-! ## The messages (R160, R162) -/

theorem word32_bytes (w : Word32) : word32 (w.extractLsb' 24 8) (w.extractLsb' 16 8)
    (w.extractLsb' 8 8) (w.extractLsb' 0 8) = w := by
  unfold word32
  rw [BitVec.extractLsb'_append_extractLsb'_eq_extractLsb' (by rfl : 24 = 16 + 8),
    BitVec.extractLsb'_append_extractLsb'_eq_extractLsb' (by rfl : 16 = 8 + 8),
    BitVec.extractLsb'_append_extractLsb'_eq_extractLsb' (by rfl : 8 = 0 + 8)]
  exact BitVec.extractLsb'_eq_self

theorem byteOf_toNat (b : Byte) : byteOf b.toNat = b := by
  simp [byteOf]

theorem parseFrame_clrstop (l : Link) (id : Byte) :
    parseFrame l ⟨clrstopFrame id, false⟩ = .msg (.clrstop id.toNat) := rfl

theorem parseFrame_ulockt (l : Link) (id : Byte) (tag : Word32) :
    parseFrame l ⟨ulocktFrame id tag, false⟩ = .msg (.ulockt id.toNat tag.toNat) := by
  have fields (a b c d : Byte) : parseFrame l ⟨[8#8, id, a, b, c, d], false⟩ =
      .msg (.ulockt id.toNat (word32 a b c d).toNat) := rfl
  exact (fields ..).trans (by rw [word32_bytes])

theorem parseFrame_freelock (id : Byte) :
    parseFrame .sl0 ⟨freelockFrame id, false⟩ = .msg (.freelock id.toNat) := rfl

theorem parseFrame_freelock_notsuper {l : Link} (h : l ≠ .sl0) (id : Byte) :
    parseFrame l ⟨freelockFrame id, false⟩ = .reject .notsuper := if_pos ⟨rfl, h⟩

/-! ## The close of a retirement -/

/-- R175: an event that leaves the grants and the axes alone does not end CLOSEDOWN. -/
theorem conclude_of_kept {s t : State} (grant : t.grant = s.grant) (axis : t.axis = s.axis) :
    conclude s t = judgeDemands s t := by
  have stays : closedownDone s t = false := by
    unfold closedownDone nothingOut
    rw [grant, axis]
    cases s.grant.table.isEmpty <;> simp
  unfold conclude
  rw [stays]
  rfl

section
variable {l : Link} {bytes : List Byte} {s v : State} {r : Reply}

/-- R153, R160: a message whose handler leaves the ports alone is answered within its symbols. -/
theorem receiveFrame_replied (h : Ready l s) (n : bytes.length ≤ frameBytes)
    (e : handleFrame l ⟨bytes, false⟩ (handed l bytes s) = (v, some r))
    (p : v.port = (handed l bytes s).port) : receiveFrame l bytes s = replied l bytes r v := by
  have delivered : deliver l ⟨bytes, false⟩ (handed l bytes s) = replied l bytes r v := by
    unfold deliver
    rw [e]
    dsimp only
    rw [orderGends_of_port p]
    rfl
  refine (receiveFrame_delivers h n ?_).trans delivered
  have buffer : (portOf l (replied l bytes r v)).buffer = [] := by
    rw [replied_eq h p, portOf_putPort_same]
    exact h.buffer
  exact (congrArg (fun t => (portOf l t).buffer) delivered).trans buffer

/-- R151, R160: what a message leaves in the ports rests on the ports alone. -/
theorem handled_of_port {n : Nat} {ends : List (Grant × Reason)} {m : OutMsg} {t u : State}
    (h : Handled n l ends m s t) (e : u.port = t.port) : Handled n l ends m s u := by
  have port (k : Link) : portOf k u = portOf k t := congrArg (PerLink.get · k) e
  obtain ⟨queue, taker, others⟩ := h
  unfold queueOf at queue taker others
  refine ⟨fun k => ?_, ?_, fun k n => ?_⟩
  · unfold queueOf; rw [port]; exact queue k
  · unfold queueOf; rw [port]; exact taker
  · unfold queueOf; rw [port]; exact others k n

end

/-- R37: the hold table without the records of an id. -/
def tableWithoutHold (id : Nat) (s : State) : HoldTable :=
  { s.hold with table := s.hold.table.filter fun h => decide (h.id ≠ id) }

/-- R37, R134: the records of an id have left the hold table, which is noticed, the demands follow, and
nothing else has changed but the ports. -/
structure HoldGone (id : Nat) (s t : State) : Prop where
  frame : t = { s with
    hold := tableWithoutHold id s, port := t.port, notice := t.notice, beacon := t.beacon }
  noticed : Noticed { s.notice.flags with hold := true } s.notice.mask t
  demands : DemandsFollow s t

theorem retireHold_eq (id : Nat) (s : State) :
    retireHold id s = raise .hold (s.setHold (tableWithoutHold id s)) := by
  have others : (fun h : Hold => h.id != id) = fun h => decide (h.id ≠ id) :=
    funext fun _ => decide_not.symm
  unfold retireHold tableWithoutHold
  rw [others]

/-- R167: the notices with one more flag set. -/
theorem noticed_raise_hold {s t : State} (notice : t.notice = (raise .hold s).notice)
    (mode : t.mode = s.mode) : Noticed { s.notice.flags with hold := true } s.notice.mask t := by
  unfold Noticed
  rw [notice, mode]
  exact ⟨rfl, rfl, congrArg (· && _) decide_not.symm⟩

section
variable {l : Link} {bytes : List Byte} {s : State} {r : Reply} {id : Nat}

/-- R37, R154: the state once the reply to a retirement is queued. -/
theorem replied_retireHold (ready : Ready l s) :
    replied l bytes r (retireHold id (handed l bytes s)) = { s with
      hold := tableWithoutHold id s
      port := (replied l bytes r (retireHold id (handed l bytes s))).port
      notice := (raise .hold s).notice } := by
  rw [replied_eq (v := retireHold id (handed l bytes s)) ready rfl, retireHold_eq]
  rfl

/-- R37, R153, R160: a message that retires a hold is answered, and the event closes with the demands
judged. -/
theorem holdGone_of_retireHold (ready : Ready l s) (served : linkMode s.mode.mode = true)
    (n : bytes.length ≤ frameBytes)
    (e : handleFrame l ⟨bytes, false⟩ (handed l bytes s) =
      (retireHold id (handed l bytes s), some r)) :
    HoldGone id s (portEvent (receiveFrame l bytes) s) ∧
      Handled (bytes.length + 1) l [] (.rply (bytes.headD 0#8) r.status r.fields) s
        (portEvent (receiveFrame l bytes) s) := by
  have received := receiveFrame_replied ready n e rfl
  have left := replied_retireHold (bytes := bytes) (r := r) (id := id) ready
  have handled := handled_replied (r := r) (v := retireHold id (handed l bytes s)) ready rfl
  rw [portEvent, received]
  generalize replied l bytes r (retireHold id (handed l bytes s)) = u at left handled ⊢
  rw [conclude_of_kept (by rw [left]) (by rw [left])]
  have demands : DemandsFollow s (judgeDemands s u) :=
    demandsFollow_judgeDemands (by rw [demandJudged, left]; exact served) (by rw [left])
      (by rw [left])
  have frame := judgeDemands_frame s u
  generalize judgeDemands s u = t at demands frame ⊢
  refine ⟨⟨?_, noticed_raise_hold ?_ ?_, demands⟩, handled_of_port handled ?_⟩ <;> rw [frame]
  · rw [left]
    rfl
  · rw [left]
    rfl
  · rw [left]
    rfl
  · rfl

end

/-! ## The handlers' checks (R40, R41, R44, R45) -/

theorem isLockout_iff {h : Hold} : isLockout h = true ↔ ∃ n, h.kind = .lockout n := by
  unfold isLockout isStop
  cases h.kind <;> simp

/-- R44: a CLRSTOP is taken on a live STOP alone. -/
theorem handleClrstop_of_none {id : Nat} {s : State} (l : Link) (e : findHold id s = none) :
    handleClrstop l id s = refuse .nohold s := by
  rw [handleClrstop, e]

theorem handleClrstop_of_lockout {id : Nat} {s : State} {h : Hold} (l : Link)
    (e : findHold id s = some h) (lockout : isLockout h = true) :
    handleClrstop l id s = refuse .nohold s := by
  obtain ⟨n, kind⟩ := isLockout_iff.mp lockout
  rw [handleClrstop, e]
  dsimp only
  rw [kind]

theorem handleClrstop_of_stop {id : Nat} {s : State} {h : Hold} (l : Link)
    (e : findHold id s = some h) (stop : ¬ isLockout h = true) :
    handleClrstop l id s = clearStop l h s := by
  rw [handleClrstop, e]
  dsimp only
  split
  · next n kind => exact absurd (isLockout_iff.mpr ⟨n, kind⟩) stop
  · rfl

/-- R45: the LINE stop stays while the line is asserted. -/
theorem clearStop_of_line_active {h : Hold} {s : State} (l : Link)
    (line : h.source = .line ∧ s.hold.line = true) :
    clearStop l h s = refuse .lineactive s := by
  obtain ⟨source, active⟩ := line
  rw [clearStop, source]
  exact if_pos active

/-- R44: another station's stop is cleared from link 0 alone. -/
theorem clearStop_of_other_station {l : Link} {h : Hold} (s : State)
    (other : h.source ≠ .line ∧ h.source ≠ .station l ∧ l ≠ .sl0) :
    clearStop l h s = refuse .notowner s := by
  obtain ⟨station, owner, super⟩ := other
  unfold clearStop
  cases source : h.source with
  | line => exact absurd source station
  | station k =>
    have stranger : k ≠ l := fun e => owner (by rw [source, e])
    exact if_neg (not_or.mpr ⟨stranger, super⟩)

/-- R44, R45: every other stop is cleared. -/
theorem clearStop_of_allowed {l : Link} {h : Hold} {s : State}
    (line : ¬ (h.source = .line ∧ s.hold.line = true))
    (other : ¬ (h.source ≠ .line ∧ h.source ≠ .station l ∧ l ≠ .sl0)) :
    clearStop l h s = retireForStation h.id s := by
  unfold clearStop
  cases source : h.source with
  | line => exact if_neg fun active => line ⟨source, active⟩
  | station k =>
    refine if_pos ?_
    by_contra n
    obtain ⟨stranger, super⟩ := not_or.mp n
    exact other ⟨by simp [source], by simpa [source] using stranger, super⟩

/-- Settles O30: the handler's checks are the statement's, and past them the stop is retired. -/
theorem clrstopRetiresStop : Obligations.ClrstopRetiresStop := by
  unfold Obligations.ClrstopRetiresStop
  intro l id s ready served
  have short : (clrstopFrame id).length ≤ frameBytes := Nat.le_of_ble_eq_true rfl
  have refused {st : Status} (e : handleClrstop l id.toNat (handed l (clrstopFrame id) s) =
      refuse st (handed l (clrstopFrame id) s)) :
      AnsweredOnly 3 l (.rply 6#8 st []) s (portEvent (receiveFrame l (clrstopFrame id)) s) :=
    answeredOnly_of_unchanged ready short (handleFrame_eq (parseFrame_clrstop l id) e)
  refine ⟨_, rfl, ?_⟩
  split
  · next e => exact refused (handleClrstop_of_none l e)
  · next h e =>
    have found : findHold id.toNat (handed l (clrstopFrame id) s) = some h := e
    split_ifs with lockout line other
    · exact refused (handleClrstop_of_lockout l found lockout)
    all_goals have taken := handleClrstop_of_stop l found lockout
    · exact refused (taken.trans (clearStop_of_line_active l line))
    · exact refused (taken.trans (clearStop_of_other_station _ other))
    · have own : h.id = id.toNat := by simpa using List.find?_some e
      have retires := taken.trans (clearStop_of_allowed line other)
      rw [own, retireForStation, byteOf_toNat] at retires
      obtain ⟨⟨frame, noticed, demands⟩, handled⟩ := holdGone_of_retireHold ready served short
        (handleFrame_eq (parseFrame_clrstop l id) retires)
      exact ⟨frame, noticed, handled, demands⟩

/-! ## Lockouts (R40, R41) -/

/-- R40, R41: the live lockout an id names. -/
def findLockout (id : Nat) (s : State) : Option Hold := (findHold id s).filter isLockout

theorem findLockout_some {id : Nat} {s : State} {h : Hold} (e : findLockout id s = some h) :
    findHold id s = some h ∧ ∃ n, h.kind = .lockout n := by
  obtain ⟨found, lockout⟩ := Option.filter_eq_some_iff.mp e
  exact ⟨found, isLockout_iff.mp lockout⟩

theorem findLockout_none {id : Nat} {s : State} (e : findLockout id s = none) :
    findHold id s = none ∨ ∃ h z, findHold id s = some h ∧ h.kind = .stop z := by
  cases found : findHold id s with
  | none => exact .inl rfl
  | some h =>
    cases kind : h.kind with
    | stop z => exact .inr ⟨h, z, rfl, kind⟩
    | lockout n =>
      exact absurd (isLockout_iff.mpr ⟨n, kind⟩) (Option.filter_eq_none_iff.mp e h found)

/-- R41: a FREELOCK names a live lockout. -/
theorem handleFreelock_of_none {id : Nat} {s : State} (e : findLockout id s = none) :
    handleFreelock id s = refuse .nohold s := by
  unfold handleFreelock
  obtain absent | ⟨h, z, found, kind⟩ := findLockout_none e
  · rw [absent]
  · rw [found]
    dsimp only
    rw [kind]

theorem handleFreelock_of_lockout {id n : Nat} {s : State} {h : Hold}
    (found : findHold id s = some h) (kind : h.kind = .lockout n) :
    handleFreelock id s =
      (retireHold id s, okReply (byteOf id :: bytes32 (BitVec.ofNat 32 n))) := by
  rw [handleFreelock, found]
  dsimp only
  rw [kind]

section
variable {l : Link} {id tag : Nat} {s : State}

/-- R40: the first check, on the sender's profile. -/
theorem handleUlockt_of_no_reader (id tag : Nat) (reader : (profileOf l s).tagReader = false) :
    handleUlockt l id tag s = refuse .notallowed s := if_pos reader

variable (reader : ¬ (profileOf l s).tagReader = false)
include reader

/-- R40: the second check, that a tag is carried. -/
theorem handleUlockt_of_no_tag (id : Nat) (zero : tag = 0) :
    handleUlockt l id tag s = refuse .badmsg s :=
  (if_neg reader).trans (if_pos zero)

variable (carried : tag ≠ 0)
include carried

/-- R40: the third check, on the id. -/
theorem handleUlockt_of_none (e : findLockout id s = none) :
    handleUlockt l id tag s = refuse .nohold s := by
  rw [handleUlockt, if_neg reader, if_neg carried]
  obtain absent | ⟨h, z, found, kind⟩ := findLockout_none e
  · rw [absent]
  · rw [found]
    dsimp only
    rw [kind]

/-- R40: the fourth check, on the tag. -/
theorem handleUlockt_of_lockout {h : Hold} {n : Nat} (found : findHold id s = some h)
    (kind : h.kind = .lockout n) :
    handleUlockt l id tag s =
      if n = tag then retireForStation id s else refuse .tagmismatch s := by
  rw [handleUlockt, if_neg reader, if_neg carried, found]
  dsimp only
  rw [kind]

end

/-- Settles O31: the handlers' checks are the statement's, and past them the lockout is retired. -/
theorem lockoutRetiredByTagOrSupervisor : Obligations.LockoutRetiredByTagOrSupervisor := by
  unfold Obligations.LockoutRetiredByTagOrSupervisor
  intro l id tag s ready served found gone
  refine ⟨⟨_, rfl, ?_⟩, ⟨_, rfl, ?_⟩⟩
  · have short : (ulocktFrame id tag).length ≤ frameBytes := Nat.le_of_ble_eq_true rfl
    have answers {v : State} {r : Option Reply}
        (e : handleUlockt l id.toNat tag.toNat (handed l (ulocktFrame id tag) s) = (v, r)) :=
      handleFrame_eq (parseFrame_ulockt l id tag) e
    have refused {st : Status}
        (e : handleUlockt l id.toNat tag.toNat (handed l (ulocktFrame id tag) s) =
          refuse st (handed l (ulocktFrame id tag) s)) :=
      answeredOnly_of_unchanged ready short (answers e)
    split_ifs with deaf zero
    · exact refused (handleUlockt_of_no_reader _ _ deaf)
    all_goals
      have reader : ¬ (profileOf l (handed l (ulocktFrame id tag) s)).tagReader = false := deaf
    · exact refused (handleUlockt_of_no_tag reader _ (congrArg BitVec.toNat zero))
    have carried : tag.toNat ≠ 0 := fun e => zero (BitVec.eq_of_toNat_eq e)
    cases e : found with
    | none => exact refused (handleUlockt_of_none reader carried e)
    | some h =>
      obtain ⟨live, n, kind⟩ := findLockout_some (s := handed l (ulocktFrame id tag) s) e
      have taken := handleUlockt_of_lockout reader carried live kind
      dsimp only
      split_ifs with own
      · have same : n = tag.toNat := HoldKind.lockout.inj (kind.symm.trans own)
        rw [if_pos same, retireForStation, byteOf_toNat] at taken
        obtain ⟨⟨frame, noticed, demands⟩, handled⟩ :=
          holdGone_of_retireHold ready served short (answers taken)
        exact ⟨⟨frame, noticed, demands⟩, handled⟩
      · have other : n ≠ tag.toNat := fun e => own (by rw [kind, e])
        exact refused (taken.trans (if_neg other))
  · have short : (freelockFrame id).length ≤ frameBytes := Nat.le_of_ble_eq_true rfl
    split_ifs with station
    · exact answeredOnly_of_unchanged (r := ⟨.notsuper, []⟩) ready short
        (by rw [handleFrame, parseFrame_freelock_notsuper station]; rfl)
    obtain rfl := not_ne_iff.mp station
    cases e : found with
    | none =>
      exact answeredOnly_of_unchanged (r := ⟨.nohold, []⟩) ready short
        (handleFrame_eq (parseFrame_freelock id) (handleFreelock_of_none e))
    | some h =>
      obtain ⟨live, n, kind⟩ := findLockout_some (s := handed .sl0 (freelockFrame id) s) e
      have taken := handleFreelock_of_lockout live kind
      rw [byteOf_toNat] at taken
      dsimp only
      rw [kind]
      obtain ⟨⟨frame, noticed, demands⟩, handled⟩ := holdGone_of_retireHold ready served short
        (handleFrame_eq (parseFrame_freelock id) taken)
      exact ⟨⟨frame, noticed, demands⟩, handled⟩

end Sys2Proof.Machine.Holds
end

section
/-! The hold table and the ports over every step (R33, R35, R36, R145): a command is an event or a port event
of operations that keep both, a millisecond moves the timers of the ports alone. -/

namespace Sys2Proof.Machine.Steps

/-- A retry history entry leaves the mode record, or nothing does. -/
theorem moves_ageHistory (s : State) : Moves s (ageHistory s) := by
  unfold ageHistory
  split
  · exact .refl s
  · split
    · exact moves_setMode s _
    · exact .refl s

theorem moves_receiveError (l : Link) (s : State) : Moves s (receiveError l s) := by
  unfold receiveError
  split
  · exact moves_linkError l s
  · exact .refl s

theorem keeps_inputs_judges {s t : State} {v : Inputs} (h : Judges (s.setInputs v) t) : Keeps s t :=
  (keeps_setInputs s v).trans h.keeps

theorem keeps_pbrkEvent (b : Bool) (s : State) : Keeps s (pbrkEvent b s) := by
  unfold pbrkEvent
  dsimp only
  split
  · exact keeps_setInputs _ _
  · exact keeps_inputs_judges ((judges_setPermit _ _).trans (judges_recomputePermits _))

theorem keeps_pressureEvent (n : Nat) (s : State) : Keeps s (pressureEvent n s) := by
  unfold pressureEvent
  dsimp only
  split
  · exact keeps_inputs_judges (judges_samplePressure _)
  · exact keeps_setInputs _ _

theorem keeps_axisSampleEvent (i : AxisInputs) (s : State) : Keeps s (axisSampleEvent i s) := by
  unfold axisSampleEvent
  dsimp only
  split
  · exact keeps_inputs_judges (judges_takeSample _)
  · exact keeps_setInputs _ _

theorem judges_stallEvent (s : State) : Judges s (stallEvent s) := by
  unfold stallEvent
  split
  · exact .refl s
  · exact judges_setFault _ _ _ _

theorem judges_foldTravelEvent (s : State) : Judges s (foldTravelEvent s) := by
  unfold foldTravelEvent
  split
  · exact judges_foldTravelFault s
  · exact .refl s

theorem judges_panelTravelEvent (m : Motor) (s : State) : Judges s (panelTravelEvent m s) := by
  unfold panelTravelEvent
  split
  · exact judges_panelTravelFault m s
  · exact .refl s

theorem reacts_obstructionEvent (m : Motor) (s : State) : Reacts s (obstructionEvent m s) := by
  unfold obstructionEvent
  split
  · exact .refl s
  · exact reacts_obstructionReport m s

theorem reacts_deadmanExpiry (h : Nat) (s : State) : Reacts s (deadmanExpiry h s) := by
  unfold deadmanExpiry
  split
  · exact .refl s
  · split
    · exact reacts_windDown _ _ s
    · exact .refl s

theorem reacts_pauseExpiry (h : Nat) (s : State) : Reacts s (pauseExpiry h s) := by
  unfold pauseExpiry
  split
  · exact .refl s
  · split
    · exact reacts_ease _ _ s
    · exact .refl s

/-! ## Panel switches -/

theorem reacts_doorOpenSwitch (d : Door) (b : Bool) (s : State) :
    Reacts s (doorOpenSwitch d b s) := by
  unfold doorOpenSwitch
  dsimp only
  split
  · split
    · exact reacts_putPanel _ _ s
    · exact .refl s
  · split
    · exact reacts_putPanel _ _ s
    · exact .refl s
  · exact .refl s

theorem reacts_doorClosedSwitch (d : Door) (b : Bool) (s : State) :
    Reacts s (doorClosedSwitch d b s) := by
  unfold doorClosedSwitch
  dsimp only
  split
  · split
    · split
      · exact reacts_meetFrame _ _ s
      · exact reacts_putPanel _ _ s
    · split
      · exact reacts_putPanel _ _ s
      · exact .refl s
  · split
    · exact .refl s
    · exact (reacts_putPanel _ _ s).trans (reacts_putLatch _ _ _)
  · split
    · exact reacts_putPanel _ _ s
    · exact .refl s
  · exact .refl s

theorem reacts_doorLatchSwitch (d : Door) (b : Bool) (s : State) :
    Reacts s (doorLatchSwitch d b s) := by
  unfold doorLatchSwitch
  dsimp only
  split
  · split
    · exact (reacts_putPanel _ _ s).trans (reacts_putLatch _ _ _)
    · exact .refl s
  · split
    · exact (reacts_putPanel _ _ s).trans (reacts_putLatch _ _ _)
    · exact .refl s
  · split
    · split
      · exact reacts_startLatching _ _ s
      · exact reacts_putPanel _ _ s
    · exact .refl s
  · exact .refl s

theorem reacts_setDoorSwitch (d : Door) (w : DoorSwitch) (b : Bool) (s : State) :
    Reacts s (setDoorSwitch d w b s) := by
  cases w
  · exact reacts_putPanel _ _ s
  · exact reacts_putPanel _ _ s
  · exact reacts_putLatch _ _ s

theorem reacts_doorSwitchChange (d : Door) (w : DoorSwitch) (b : Bool) (s : State) :
    Reacts s (doorSwitchChange d w b s) := by
  have h := reacts_setDoorSwitch d w b s
  unfold doorSwitchChange
  dsimp only
  split
  · exact .refl s
  · split
    · exact h.trans (reacts_putPanel _ _ _)
    · cases w
      · exact h.trans (reacts_doorOpenSwitch _ _ _)
      · exact h.trans (reacts_doorClosedSwitch _ _ _)
      · exact h.trans (reacts_doorLatchSwitch _ _ _)

theorem reacts_shutterSwitchChange (w : ShutterSwitch) (b : Bool) (s : State) :
    Reacts s (shutterSwitchChange w b s) := by
  unfold shutterSwitchChange
  split
  · exact .refl s
  · exact (reacts_setPanel _ _).trans (reacts_putPanel _ _ _)

theorem keeps_doorEvent (d : Door) (w : DoorSwitch) (b : Bool) (s : State) :
    Keeps s (doorEvent d w b s) := by
  have h (v : Inputs) : Keeps s (if (s.setInputs v).mode.mode = .off then s.setInputs v
      else doorSwitchChange d w b (s.setInputs v)) := by
    split
    · exact keeps_setInputs _ _
    · exact (keeps_setInputs _ _).trans (reacts_doorSwitchChange _ _ _ _).keeps
  exact h _

theorem keeps_shutterEvent (w : ShutterSwitch) (b : Bool) (s : State) :
    Keeps s (shutterEvent w b s) := by
  have h (v : Inputs) : Keeps s (if (s.setInputs v).mode.mode = .off then s.setInputs v
      else shutterSwitchChange w b (s.setInputs v)) := by
    split
    · exact keeps_setInputs _ _
    · exact (keeps_setInputs _ _).trans (reacts_shutterSwitchChange _ _ _).keeps
  exact h _

theorem keeps_edgeEvent (b : Bool) (s : State) : Keeps s (edgeEvent b s) := by
  unfold edgeEvent
  dsimp only
  split
  · exact keeps_setInputs _ _
  · split
    · exact (keeps_setInputs _ _).trans ((reacts_setPanel _ _).trans (reacts_edgeStop _)).keeps
    · exact (keeps_setInputs _ _).trans (reacts_setPanel _ _).keeps

/-! ## Power-on reset -/

theorem holdsOk_powerOn (c : ConfigStore) (i : Inputs) (p : List Instr) :
    HoldsOk (State.powerOn c i p) :=
  ⟨Nat.zero_le _, Nat.zero_le _, List.nodup_nil, fun _ h => by cases h⟩

theorem portsOk_powerOn (c : ConfigStore) (i : Inputs) (p : List Instr) :
    PortsOk (State.powerOn c i p) := fun l => by cases l <;> exact portOk_rest 1250

theorem keeps_powerOnReset (b : Bool) (i : Inputs) (s : State) : Keeps s (powerOnReset b i s) := by
  have h : Keeps s (State.powerOn s.store i s.pending) :=
    ⟨rfl, fun _ => holdsOk_powerOn _ _ _, fun _ => portsOk_powerOn _ _ _⟩
  unfold powerOnReset
  dsimp only
  split
  · exact h.trans ((moves_setMode _ _).keeps.trans (keeps_enterWake _))
  · exact h

/-! ## Commands and milliseconds -/

/-- R145: a command leaves the hold table and every port sound. -/
theorem keeps_exec (i : Instr) (s : State) : ∃ t, exec i s = .next t ∧ Keeps s t := by
  cases i with
  | rqgrant | keep | ltgrant | rsgrant | stopz | clrstop | lockt | ulockt | ackflt | qgrants
  | qholds | qaxes | cfgrd | cfgwr | cfgband | cfgsave | rstlvl1 | rstlvl2 | rstlink | freelock
  | notrd | notmsk | lampra | fltrd | malformedFrame =>
    exact ⟨_, rfl, keeps_portEvent (keeps_receiveFrame _ _ s)⟩
  | creditReceived | fillReceived | overrun =>
    exact ⟨_, rfl, keeps_portEvent (keeps_receiveLine _ _ s)⟩
  | dropReceived l b => exact ⟨_, rfl, keeps_portEvent (keeps_receiveDropped l b s)⟩
  | checkError l => exact ⟨_, rfl, keeps_portEvent (moves_receiveError l s).keeps⟩
  | silenceExpiry l => exact ⟨_, rfl, keeps_portEvent (moves_silenceExpiry l s).keeps⟩
  | heldLowExpiry l => exact ⟨_, rfl, keeps_portEvent (moves_heldLowExpiry l s).keeps⟩
  | idleTimerExpiry l => exact ⟨_, rfl, keeps_portEvent (keeps_idleExpiry l s)⟩
  | messageTransmitted l => exact ⟨_, rfl, keeps_portEvent (keeps_messageTransmitted l s)⟩
  | closeQueueEmpty l => exact ⟨_, rfl, keeps_portEvent (keeps_closeQueueEmpty l s)⟩
  | closePendingExpiry l => exact ⟨_, rfl, keeps_portEvent (moves_closeExpiry l s).keeps⟩
  | saveCompletion => exact ⟨_, rfl, keeps_portEvent (keeps_saveCompletion s)⟩
  | deadmanExpiry x => exact ⟨_, rfl, keeps_event (reacts_deadmanExpiry x s).keeps⟩
  | pauseWindowExpiry x => exact ⟨_, rfl, keeps_event (reacts_pauseExpiry x s).keeps⟩
  | startDelayExpiry => exact ⟨_, rfl, keeps_event (reacts_setDrive s _).keeps⟩
  | controlPeriod c => exact ⟨_, rfl, keeps_event (moves_controlPeriod c s).keeps⟩
  | ditherFlip => exact ⟨_, rfl, keeps_event (judges_ditherFlip s).keeps⟩
  | pumpOvercurrent => exact ⟨_, rfl, keeps_event (moves_pumpOvercurrent s).keeps⟩
  | foldTravelLimit => exact ⟨_, rfl, keeps_event (judges_foldTravelEvent s).keeps⟩
  | axisSample x => exact ⟨_, rfl, keeps_event (keeps_axisSampleEvent x s)⟩
  | stall => exact ⟨_, rfl, keeps_event (judges_stallEvent s).keeps⟩
  | pressureSample n => exact ⟨_, rfl, keeps_event (keeps_pressureEvent n s)⟩
  | pulseArrival n => exact ⟨_, rfl, keeps_event (judges_pulseArrival n s).keeps⟩
  | pulseTimerExpiry => exact ⟨_, rfl, keeps_event (judges_pulseTimerExpiry s).keeps⟩
  | pbrkChange b => exact ⟨_, rfl, keeps_event (keeps_pbrkEvent b s)⟩
  | ignOn p => exact ⟨_, rfl, keeps_event (keeps_ignOn p s)⟩
  | ignOff o => exact ⟨_, rfl, keeps_event (moves_ignOff o s).keeps⟩
  | estopAssertion => exact ⟨_, rfl, keeps_event (keeps_estopAssert s)⟩
  | estopRelease => exact ⟨_, rfl, keeps_event (keeps_estopRelease s)⟩
  | doorSwitchChange d w b => exact ⟨_, rfl, keeps_event (keeps_doorEvent d w b s)⟩
  | shutterSwitchChange w b => exact ⟨_, rfl, keeps_event (keeps_shutterEvent w b s)⟩
  | safetyEdgeChange b => exact ⟨_, rfl, keeps_event (keeps_edgeEvent b s)⟩
  | latchPulseExpiry d => exact ⟨_, rfl, keeps_event (judges_latchPulseExpired d s).keeps⟩
  | engageExpiry d => exact ⟨_, rfl, keeps_event (judges_engageExpired d s).keeps⟩
  | obstructionOvertime m => exact ⟨_, rfl, keeps_event (reacts_obstructionEvent m s).keeps⟩
  | panelTravelLimit m => exact ⟨_, rfl, keeps_event (judges_panelTravelEvent m s).keeps⟩
  | beaconTick n => exact ⟨_, rfl, keeps_event (judges_beaconTick n s).keeps⟩
  | lampShort c => exact ⟨_, rfl, keeps_event (judges_lampShort c s).keeps⟩
  | lampTestMeasurement n => exact ⟨_, rfl, keeps_event (judges_lampTestMeasure n s).keeps⟩
  | lampTestEnd => exact ⟨_, rfl, keeps_event (judges_lampTestExpiry s).keeps⟩
  | supplySample v t => exact ⟨_, rfl, keeps_event (moves_supplySample v t s).keeps⟩
  | supplylowTrip => exact ⟨_, rfl, keeps_event (moves_lowTrip s).keeps⟩
  | supplyhighTrip => exact ⟨_, rfl, keeps_event (moves_highTrip s).keeps⟩
  | returnCountExpiry => exact ⟨_, rfl, keeps_event (moves_returnComplete s).keeps⟩
  | wakeTimerExpiry => exact ⟨_, rfl, keeps_event (moves_wakeExpiry s).keeps⟩
  | checkTimerExpiry => exact ⟨_, rfl, keeps_event (moves_checkExpiry s).keeps⟩
  | retryTimerExpiry => exact ⟨_, rfl, keeps_event (moves_retryExpiry s).keeps⟩
  | closedownTimerExpiry => exact ⟨_, rfl, keeps_event (moves_closedownExpiry s).keeps⟩
  | retryEntryAgeing => exact ⟨_, rfl, keeps_event (moves_ageHistory s).keeps⟩
  | powerOnReset b i => exact ⟨_, rfl, keeps_event (keeps_powerOnReset b i s)⟩

/-- A millisecond moves the silence, held-low, idle and close times of a port alone. -/
theorem portOk_portTick {p : Port} (h : PortOk p) : PortOk (portTick p) :=
  ⟨h.room, h.held, h.frame, h.queue, fun n => by rw [portTick, h.close n]; rfl, h.rest⟩

theorem portOf_tick (l : Link) (s : State) : portOf l (tick s) = portTick (portOf l s) := by
  cases l <;> rfl

/-- A step is a command on the queue's rest, or a millisecond. -/
theorem step_cases {s t : State} (h : step s = .next t) :
    (s.pending = [] ∧ t = tick s) ∨
      ∃ c rest, s.pending = c :: rest ∧ exec c (s.setPending rest) = .next t := by
  unfold step at h
  split at h
  · next hp => cases h; exact .inl ⟨hp, rfl⟩
  · next c rest hp => exact .inr ⟨c, rest, hp, h⟩

/-- The command of a step keeps what every command keeps. -/
theorem keeps_of_exec {c : Instr} {s t : State} (h : exec c s = .next t) : Keeps s t := by
  obtain ⟨u, hu, k⟩ := keeps_exec c s
  rw [hu] at h
  cases h
  exact k

/-- Settles O3: a millisecond leaves the hold table as it is, and every command keeps it sound. -/
theorem stepKeepsHoldTable : Obligations.StepKeepsHoldTable := by
  unfold Obligations.StepKeepsHoldTable
  intro s t o h
  rcases step_cases h with ⟨-, rfl⟩ | ⟨c, rest, -, h⟩
  · exact holdsOk_of_table (s := s) rfl o
  · exact (keeps_of_exec h).holds (holdsOk_of_table (s := s) rfl o)

/-- Settles O4: a millisecond moves port timers alone, and every command keeps every port sound. -/
theorem stepKeepsPorts : Obligations.StepKeepsPorts := by
  unfold Obligations.StepKeepsPorts
  intro s t o h
  rcases step_cases h with ⟨-, rfl⟩ | ⟨c, rest, -, h⟩
  · intro l
    rw [portOf_tick]
    exact portOk_portTick (o l)
  · exact (keeps_of_exec h).ports o

end Sys2Proof.Machine.Steps
end

section
/-! What a command can do to the grants and to what is driven (R1, R4, R29, R90, R111), said once: every
operation of the part is a chain of a few changes of live grants, of changes that drive nothing and touch no
grant, and of mode changes. -/

namespace Sys2Proof.Machine.Steps

open Motion

/-! ## Changes that touch no grant and drive nothing -/

/-- Nothing of the grants, the mode, the drive shaper or the latches has changed. -/
structure Rests (s t : State) : Prop where
  grant : t.grant = s.grant
  mode : t.mode.mode = s.mode.mode
  drive : t.drive = s.drive
  latch : t.panel.latch = s.panel.latch

/-- No grant and no mode has changed, what was off is off, and what was in range is. -/
structure Calm (s t : State) : Prop where
  grant : t.grant = s.grant
  mode : t.mode.mode = s.mode.mode
  off : OutputsOff s → OutputsOff t
  range : OutputsOk s → OutputsOk t

theorem Rests.refl (s : State) : Rests s s := ⟨rfl, rfl, rfl, rfl⟩

theorem Rests.trans {s t u : State} (h : Rests s t) (k : Rests t u) : Rests s u :=
  ⟨k.grant.trans h.grant, k.mode.trans h.mode, k.drive.trans h.drive, k.latch.trans h.latch⟩

theorem Rests.calm {s t : State} (h : Rests s t) : Calm s t where
  grant := h.grant
  mode := h.mode
  off := fun o => ⟨by rw [h.drive]; exact o.output, by rw [h.drive]; exact o.coil,
    by rw [h.drive]; exact o.duty, by rw [h.drive]; exact o.pump, by rw [h.drive]; exact o.d1,
    by rw [h.drive]; exact o.d2, by rw [h.latch]; exact o.near, by rw [h.latch]; exact o.off⟩
  range := fun o => ⟨by rw [h.drive]; exact o.output, by rw [h.drive]; exact o.duty⟩

/-- The beacon controller and the notices alone have changed. -/
def Lit (s t : State) : Prop := t = (s.setBeacon t.beacon).setNotice t.notice

theorem Lit.refl (s : State) : Lit s s := rfl

theorem Lit.trans {s t u : State} (h : Lit s t) (k : Lit t u) : Lit s u := by
  calc
    u = (t.setBeacon u.beacon).setNotice u.notice := k
    _ = (((s.setBeacon t.beacon).setNotice t.notice).setBeacon u.beacon).setNotice u.notice :=
      congrArg (fun x : State => (x.setBeacon u.beacon).setNotice u.notice) h
    _ = (s.setBeacon u.beacon).setNotice u.notice := rfl

theorem Lit.rests {s t : State} (h : Lit s t) : Rests s t :=
  ⟨(congrArg State.grant h :), (congrArg (fun x : State => x.mode.mode) h :),
    (congrArg State.drive h :), (congrArg (fun x : State => x.panel.latch) h :)⟩

theorem lit_forEach {α : Type} {f : α → State → State} (hf : ∀ x s, Lit s (f x s)) (l : List α)
    (s : State) : Lit s (forEach f l s) := by
  unfold forEach
  induction l generalizing s with
  | nil => exact .refl s
  | cons x xs ih => exact (hf x s).trans (ih _)

theorem lit_ite {c : Prop} [Decidable c] {s t u : State} (h : c → Lit s t) (k : ¬ c → Lit s u) :
    Lit s (if c then t else u) := by
  split
  · next e => exact h e
  · next e => exact k e

/-! ## The beacon controller (Chapter 7) -/

section
variable (s : State)

theorem lit_putLamp (c : Lamp) (r : LampRecord) : Lit s (putLamp c r s) := rfl
theorem lit_putZone (z : Zone) (r : ZoneRecord) : Lit s (putZone z r s) := rfl

theorem lit_driveZone (z : Zone) : Lit s (driveZone z s) := by
  rw [Holds.driveZone_eq]
  rfl

theorem lit_fixWorkingSet (z : Zone) : Lit s (fixWorkingSet z s) :=
  (lit_putZone s z _).trans (lit_forEach (fun c t => lit_putLamp t c _) _ _)

theorem lit_restartZone (z : Zone) (p : Pattern) : Lit s (restartZone z p s) := by
  rw [Holds.restartZone_eq]
  rfl

theorem lit_tickZone (z : Zone) : Lit s (tickZone z s) :=
  lit_ite (fun _ => .refl s) fun _ => lit_ite
    (fun _ => ((lit_fixWorkingSet s z).trans (lit_putZone _ z _)).trans (lit_driveZone _ z))
    fun _ => (lit_putZone s z _).trans (lit_driveZone _ z)

theorem lit_judgeDemands (b : State) : Lit s (judgeDemands b s) := by
  rw [Holds.judgeDemands_frame]
  rfl

theorem lit_restartAll : Lit s (restartAll s) :=
  lit_forEach (fun _ _ => lit_restartZone _ _ _) _ s

theorem lit_failLamp (st : LampState) (c : Lamp) : Lit s (failLamp st c s) := rfl

theorem lit_measureLamp (c : Lamp) (n : Nat) : Lit s (measureLamp c n s) :=
  lit_ite (fun _ => rfl) fun _ => lit_ite (fun _ => lit_failLamp s _ c) fun _ => rfl

theorem lit_measureZone (n : PerLamp Nat) (z : Zone) : Lit s (measureZone n z s) :=
  lit_ite (fun _ => .refl s) fun _ => lit_forEach
    (fun c t => lit_ite (fun _ => lit_measureLamp t c _) fun _ => .refl t) _ s

theorem lit_rearmLamp (c : Lamp) : Lit s (rearmLamp c s) := by
  unfold rearmLamp
  dsimp only
  split <;> rfl

theorem lit_testLamp (n : PerLamp Nat) (c : Lamp) : Lit s (testLamp n c s) :=
  lit_ite (fun _ => lit_ite (fun _ => rfl) fun _ => lit_failLamp s _ c) fun _ => .refl s

theorem lit_lampTestEnd : Lit s (lampTestEnd s) :=
  lit_ite (fun _ => (show Lit s (dropLampTest s) from rfl).trans (lit_restartAll _))
    fun _ => .refl s

theorem lit_lampTestExpiry : Lit s (lampTestExpiry s) := by
  unfold lampTestExpiry
  split
  · exact lit_ite (fun _ => lit_lampTestEnd s) fun _ => .refl s
  · exact .refl s

theorem lit_beaconMode (m n : Mode) : Lit s (beaconMode m n s) := by
  unfold beaconMode
  cases n with
  | off | wake | check => rfl
  | closedown =>
    exact lit_ite (c := m = .wake) (fun _ => (show Lit s (s.setBeacon _) from rfl).trans
      (lit_restartAll _)) fun _ => lit_lampTestEnd s
  | run | defer | retry | barred => exact lit_lampTestEnd s

end

/-! ## Chains of changes -/

/-- One chain of changes of the part: a live grant retired, ended, paused, resumed or kept; an accepted
request; the output of a period under a driving grant; a mode change, which outside RUN and CLOSEDOWN leaves
no grant live and forces the outputs; power-on; and whatever drives nothing and touches no grant. -/
inductive Does : State → State → Prop
  | refl (s : State) : Does s s
  | trans {s t u : State} : Does s t → Does t u → Does s u
  | calm {s t : State} : Calm s t → Does s t
  | retire {s : State} {g : Grant} (r : Reason) : g ∈ s.grant.table → Does s (retire g r s)
  | ease {s : State} {g : Grant} (r : Reason) : g ∈ s.grant.table →
      g.state = .driving ∨ g.state = .paused → Does s (ease g r s)
  | pause {s : State} {g : Grant} : g ∈ s.grant.table → g.state = .driving →
      Does s (pauseGrant g s)
  | resume {s : State} {g : Grant} : g ∈ s.grant.table → g.state = .paused →
      Does s (resumeGrant g s)
  | keep {s : State} {g : Grant} (d : Nat) : g ∈ s.grant.table →
      g.state = .waiting ∨ g.state = .driving → Does s (putGrant (keptGrant g d s) s)
  | request {s : State} {l : Link} {a : Axis} {n : Sense} {k : RunKind} (d : Nat) :
      requestRefusal l a n k s = none → Does s (takeRequest l a n k d s).1
  | period {s : State} {g : Grant} : g ∈ s.grant.table → shapedMode s.mode.mode = true →
      Does s (s.setDrive { s.drive with
        output := s.drive.output.set g.axis (nextOutput g s)
        startDelay := s.drive.startDelay.set g.axis (nextDelay (s.drive.startDelay.get g.axis)) })
  | mode {s u : State} (m : Mode) (t : Option Nat) : Does (setModeTimer m t s) u →
      u.mode.mode = m →
      (shapedMode m = false → u.grant.table = [] ∨
        (shapedMode s.mode.mode = false ∧ u.grant = s.grant)) → Does s (forceFor m u)
  | powerOn {s : State} (c : ConfigStore) (i : Inputs) (p : List Instr) :
      Does s (State.powerOn c i p)

theorem Rests.does {s t : State} (h : Rests s t) : Does s t := .calm h.calm
theorem Lit.does {s t : State} (h : Lit s t) : Does s t := h.rests.does

theorem does_ite {c : Prop} [Decidable c] {s t u : State} (h : c → Does s t) (k : ¬ c → Does s u) :
    Does s (if c then t else u) := by
  split
  · next e => exact h e
  · next e => exact k e

theorem does_forEach {α : Type} {f : α → State → State} (hf : ∀ x s, Does s (f x s)) (l : List α)
    (s : State) : Does s (forEach f l s) := by
  unfold forEach
  induction l generalizing s with
  | nil => exact .refl s
  | cons x xs ih => exact (hf x s).trans (ih _)

/-! ## Single field updates and notices -/

section
variable (s : State)

theorem does_setInputs (v : Inputs) : Does s (s.setInputs v) := Rests.does ⟨rfl, rfl, rfl, rfl⟩
theorem does_setHold (v : HoldTable) : Does s (s.setHold v) := Rests.does ⟨rfl, rfl, rfl, rfl⟩
theorem does_setAxis (v : AxisUnit) : Does s (s.setAxis v) := Rests.does ⟨rfl, rfl, rfl, rfl⟩
theorem does_setPermit (v : PermitMonitor) : Does s (s.setPermit v) :=
  Rests.does ⟨rfl, rfl, rfl, rfl⟩
theorem does_setBeacon (v : BeaconController) : Does s (s.setBeacon v) :=
  Rests.does ⟨rfl, rfl, rfl, rfl⟩
theorem does_setPort (v : PerLink Port) : Does s (s.setPort v) := Rests.does ⟨rfl, rfl, rfl, rfl⟩
theorem does_setNotice (v : Notices) : Does s (s.setNotice v) := Rests.does ⟨rfl, rfl, rfl, rfl⟩
theorem does_setFaultLog (v : FaultLog) : Does s (s.setFaultLog v) :=
  Rests.does ⟨rfl, rfl, rfl, rfl⟩
theorem does_setConfig (v : WorkingConfig) : Does s (s.setConfig v) :=
  Rests.does ⟨rfl, rfl, rfl, rfl⟩
theorem does_setStore (v : ConfigStore) : Does s (s.setStore v) := Rests.does ⟨rfl, rfl, rfl, rfl⟩

theorem does_setMode {v : ModeController} (h : v.mode = s.mode.mode) : Does s (s.setMode v) :=
  Rests.does ⟨rfl, h, rfl, rfl⟩

/-- R111: the drive shaper changed where it drives nothing. -/
theorem does_setDrive {v : DriveShaper} (output : v.output = s.drive.output)
    (coil : v.coil = s.drive.coil) (duty : v.duty = s.drive.duty)
    (pump : v.pumpClosed = s.drive.pumpClosed) (d1 : v.d1 = s.drive.d1) (d2 : v.d2 = s.drive.d2) :
    Does s (s.setDrive v) := .calm
  { grant := rfl
    mode := rfl
    off := fun o => ⟨output.trans o.output, coil.trans o.coil, duty.trans o.duty,
      pump.trans o.pump, d1.trans o.d1, d2.trans o.d2, o.near, o.off⟩
    range := fun o => ⟨fun a => by rw [State.setDrive_drive, output]; exact o.output a,
      fun m => by rw [State.setDrive_drive, duty]; exact o.duty m⟩ }

theorem does_raise (f : NoticeFlag) : Does s (raise f s) := Rests.does ⟨rfl, rfl, rfl, rfl⟩
theorem does_judgeAttention : Does s (judgeAttention s) := does_setNotice s _
theorem does_putPort (l : Link) (p : Port) : Does s (putPort l p s) := does_setPort s _
theorem does_putPanel (m : Motor) (p : PanelRecord) : Does s (putPanel m p s) :=
  Rests.does ⟨rfl, rfl, rfl, rfl⟩

/-- R128: a latch record whose solenoid is OFF, or stays as it is. -/
theorem does_putLatch {d : Door} {r : LatchRecord}
    (h : r.solenoid = false ∨ r.solenoid = (latchOf d s).solenoid) : Does s (putLatch d r s) := by
  have solenoid (e : Door) : (s.panel.latch.get e).solenoid = false →
      ((s.panel.latch.set d r).get e).solenoid = false := by
    intro o
    rw [PerDoor.get_set]
    split
    · next same => subst same; exact h.elim id fun k => k.trans o
    · exact o
  exact .calm ⟨rfl, rfl, fun o => ⟨o.output, o.coil, o.duty, o.pump, o.d1, o.d2,
    solenoid .ndor o.near, solenoid .odor o.off⟩, fun o => ⟨o.output, o.duty⟩⟩

theorem does_placeMessage (l : Link) (m : OutMsg) : Does s (placeMessage l m s) :=
  does_ite (fun _ => does_putPort s l _) fun _ => .refl s

theorem does_orderGends (b : State) : Does s (orderGends b s) :=
  does_forEach (fun l t => does_putPort t l _) _ s

theorem does_enterFault (r : FaultRecord) : Does s (enterFault r s) := by
  unfold enterFault
  split
  · exact (does_setFaultLog s _).trans (does_raise _ _)
  · exact does_setFaultLog s _

/-! ## The grant engine's reactions (R20, R21, R24 to R30) -/

theorem does_windDown {g : Grant} (hg : g ∈ s.grant.table) (r : Reason) :
    Does s (windDown r g s) := by
  unfold windDown
  split
  · exact .retire r hg
  · next e => exact .ease r hg (.inl e)
  · next e => exact .ease r hg (.inr e)
  · exact .refl s

theorem does_forGrants {f : Grant → State → State}
    (hf : ∀ g s, g ∈ s.grant.table → Does s (f g s)) (sel : Grant → Bool) :
    Does s (forGrants sel f s) := by
  rw [forGrants_eq]
  refine does_forEach (fun h t => ?_) _ s
  unfold onGrant
  split
  · exact .refl t
  · next e => exact hf _ t (findGrant_some e).1

theorem does_cutGrants (r : Reason) (sel : Grant → Bool) : Does s (cutGrants r sel s) :=
  does_forGrants s (fun _ _ hg => .retire r hg) sel

theorem does_easeGrants (r : Reason) (sel : Grant → Bool) : Does s (easeGrants r sel s) :=
  does_forGrants s (fun _ t hg => does_windDown t hg r) sel

theorem does_reactLinkLoss (l : Link) : Does s (reactLinkLoss l s) := by
  refine does_forGrants s (fun g t hg => ?_) _
  unfold loseLink
  split
  · next e _ => exact .pause hg e
  · exact .refl t
  · exact does_windDown t hg _

theorem does_reportObstructed (m : Motor) : Does s (reportObstructed m s) := by
  unfold reportObstructed
  split
  · exact .refl s
  · split
    · exact .refl s
    · next e => exact .retire _ (reportedGrant_some e)

theorem does_reportEnd (m : Motor) (q : SeqGrant) : Does s (reportEnd m q s) := by
  unfold reportEnd
  split
  · exact .refl s
  · next e => exact does_ite (fun _ => .retire _ (reportedGrant_some e)) fun _ => .refl s

/-! ## Faults and watches -/

theorem does_setFault (a : Axis) (c : FaultCode) (k : Option Coil) : Does s (setFault a c k s) :=
  does_ite (fun _ => (((does_setAxis s _).trans (does_cutGrants _ _ _)).trans
    (does_raise _ _)).trans (does_enterFault _ _)) fun _ => .refl s

theorem does_coilWatchStep (c : Coil) (n : Nat) : Does s (coilWatchStep c n s) := by
  have watch (v : PerCoil Watch) : Does s (s.setDrive { s.drive with coilWatch := v }) :=
    does_setDrive s rfl rfl rfl rfl rfl rfl
  unfold coilWatchStep
  exact does_ite (fun _ => does_ite
    (fun _ => does_ite (fun _ => (watch _).trans (does_setFault _ _ _ _)) fun _ => watch _)
    fun _ => watch _) fun _ => .refl s

theorem does_foldTravel (v : Option Nat) : Does s (s.setDrive { s.drive with foldTravel := v }) :=
  does_setDrive s rfl rfl rfl rfl rfl rfl

theorem does_foldTravelFault : Does s (foldTravelFault s) :=
  (does_foldTravel s none).trans (does_setFault _ _ _ _)

theorem does_foldTravelStep : Does s (foldTravelStep s) := by
  unfold foldTravelStep
  split
  · exact does_ite (fun _ => does_foldTravel s _) fun _ => does_ite (fun _ => .refl s) fun _ =>
      does_ite (fun _ => (does_foldTravel s _).trans (does_foldTravelFault _))
        fun _ => does_foldTravel s _
  · exact .refl s

theorem does_endCheck (m : Motor) : Does s (endCheck m s) := by
  unfold endCheck
  dsimp only
  split
  · exact .refl s
  · exact does_ite (fun _ => (does_putPanel s m _).trans (does_reportEnd _ m _)) fun _ => .refl s

theorem does_edgeStop : Does s (edgeStop s) :=
  (does_putPanel s _ _).trans (does_reportObstructed _ _)

theorem does_edgeCheck (m : Motor) : Does s (edgeCheck m s) :=
  does_ite (fun _ => does_edgeStop s) fun _ => .refl s

theorem does_obstructionReport (m : Motor) : Does s (obstructionReport m s) :=
  (does_putPanel s _ _).trans (does_reportObstructed _ _)

theorem does_obstructionStep (m : Motor) (n : Nat) : Does s (obstructionStep m n s) :=
  does_ite (fun _ => does_putPanel s m _) fun _ =>
    does_ite (fun _ => does_obstructionReport s m) fun _ => does_putPanel s m _

theorem does_panelTravelFault (m : Motor) : Does s (panelTravelFault m s) :=
  (does_putPanel s m _).trans (does_setFault _ _ _ _)

theorem does_travelStep (m : Motor) : Does s (travelStep m s) := by
  unfold travelStep
  dsimp only
  split
  · exact does_ite (fun _ => does_putPanel s m _) fun _ => does_ite (fun _ => .refl s) fun _ =>
      does_ite (fun _ => (does_putPanel s m _).trans (does_panelTravelFault _ m))
        fun _ => does_putPanel s m _
  · exact .refl s

theorem does_panelPeriod (m : Motor) (n : Nat) : Does s (panelPeriod m n s) :=
  (((does_endCheck s m).trans (does_edgeCheck _ m)).trans (does_obstructionStep _ m n)).trans
    (does_travelStep _ m)

theorem does_latchPulseExpired (d : Door) : Does s (latchPulseExpired d s) := by
  unfold latchPulseExpired
  split
  · have off : Does s (putLatch d { latchOf d s with solenoid := false, pulse := none } s) :=
      does_putLatch s (.inl rfl)
    exact off.trans (does_setFault _ _ _ _)
  · exact .refl s

theorem does_engageExpired (d : Door) : Does s (engageExpired d s) := by
  unfold engageExpired
  split
  · have gone : Does s (putLatch d { latchOf d s with engage := none } s) :=
      does_putLatch s (.inr rfl)
    exact gone.trans (does_setFault _ _ _ _)
  · exact .refl s

theorem does_foldTravelEvent : Does s (foldTravelEvent s) :=
  does_ite (fun _ => does_foldTravelFault s) fun _ => .refl s

theorem does_obstructionEvent (m : Motor) : Does s (obstructionEvent m s) :=
  does_ite (fun _ => .refl s) fun _ => does_obstructionReport s m

theorem does_panelTravelEvent (m : Motor) : Does s (panelTravelEvent m s) :=
  does_ite (fun _ => does_panelTravelFault s m) fun _ => .refl s

/-! ## Panel switches (R115 to R123) -/

theorem does_startLatching (d : Door) (p : PanelRecord) : Does s (startLatching d p s) :=
  (does_putPanel s _ _).trans (does_putLatch _ (.inr rfl))

theorem does_meetFrame (d : Door) (p : PanelRecord) : Does s (meetFrame d p s) :=
  does_ite (fun _ => does_putPanel s _ _) fun _ => does_startLatching s d p

theorem does_doorOpenSwitch (d : Door) (b : Bool) : Does s (doorOpenSwitch d b s) := by
  unfold doorOpenSwitch
  dsimp only
  split
  · exact does_ite (fun _ => does_putPanel s _ _) fun _ => .refl s
  · exact does_ite (fun _ => does_putPanel s _ _) fun _ => .refl s
  · exact .refl s

theorem does_doorClosedSwitch (d : Door) (b : Bool) : Does s (doorClosedSwitch d b s) := by
  unfold doorClosedSwitch
  dsimp only
  split
  · exact does_ite
      (fun _ => does_ite (fun _ => does_meetFrame s d _) fun _ => does_putPanel s _ _)
      fun _ => does_ite (fun _ => does_putPanel s _ _) fun _ => .refl s
  · exact does_ite (fun _ => .refl s)
      fun _ => (does_putPanel s _ _).trans (does_putLatch _ (.inr rfl))
  · exact does_ite (fun _ => does_putPanel s _ _) fun _ => .refl s
  · exact .refl s

theorem does_doorLatchSwitch (d : Door) (b : Bool) : Does s (doorLatchSwitch d b s) := by
  unfold doorLatchSwitch
  dsimp only
  split
  · exact does_ite (fun _ => (does_putPanel s _ _).trans (does_putLatch _ (.inl rfl)))
      fun _ => .refl s
  · exact does_ite (fun _ => (does_putPanel s _ _).trans (does_putLatch _ (.inr rfl)))
      fun _ => .refl s
  · exact does_ite
      (fun _ => does_ite (fun _ => does_startLatching s d _) fun _ => does_putPanel s _ _)
      fun _ => .refl s
  · exact .refl s

theorem does_doorSwitchChange (d : Door) (w : DoorSwitch) (b : Bool) :
    Does s (doorSwitchChange d w b s) := by
  have level : Does s (setDoorSwitch d w b s) := by
    cases w
    · exact does_putPanel s _ _
    · exact does_putPanel s _ _
    · exact does_putLatch s (.inr rfl)
  refine does_ite (fun _ => .refl s) fun _ => does_ite
    (fun _ => level.trans (does_putPanel _ _ _)) fun _ => ?_
  cases w
  · exact level.trans (does_doorOpenSwitch _ d b)
  · exact level.trans (does_doorClosedSwitch _ d b)
  · exact level.trans (does_doorLatchSwitch _ d b)

theorem does_shutterSwitchChange (w : ShutterSwitch) (b : Bool) :
    Does s (shutterSwitchChange w b s) :=
  does_ite (fun _ => .refl s) fun _ => Rests.does ⟨rfl, rfl, rfl, rfl⟩

theorem does_doorEvent (d : Door) (w : DoorSwitch) (b : Bool) : Does s (doorEvent d w b s) :=
  does_ite (fun _ => does_setInputs s _)
    fun _ => (does_setInputs s _).trans (does_doorSwitchChange _ d w b)

theorem does_shutterEvent (w : ShutterSwitch) (b : Bool) : Does s (shutterEvent w b s) :=
  does_ite (fun _ => does_setInputs s _)
    fun _ => (does_setInputs s _).trans (does_shutterSwitchChange _ w b)

theorem does_edgeEvent (b : Bool) : Does s (edgeEvent b s) := by
  have contact : Does s (((s.setInputs { s.inputs with
      shutter := { s.inputs.shutter with contact := b } }).setPanel
        { s.panel with contact := b })) := Rests.does ⟨rfl, rfl, rfl, rfl⟩
  exact does_ite (fun _ => does_setInputs s _)
    fun _ => does_ite (fun _ => contact.trans (does_edgeStop _)) fun _ => contact

/-! ## Holds (Chapter 2) -/

theorem does_placeHold (kind : HoldKind) (src : HoldSource) (x : PerAxis Bool) :
    Does s (placeHold kind src x s) := by
  cases kind with
  | lockout t => exact ((does_setHold s _).trans (does_easeGrants _ _ _)).trans (does_raise _ _)
  | stop z => exact ((does_setHold s _).trans (does_cutGrants _ _ _)).trans (does_raise _ _)

theorem does_retireHold (id : Nat) : Does s (retireHold id s) :=
  (does_setHold s _).trans (does_raise _ _)

theorem does_placeLineStop : Does s (placeLineStop s) :=
  does_ite (fun _ => .refl s) fun _ => does_placeHold s _ _ _

theorem does_setLine (b : Bool) : Does s (setLine b s) := does_setHold s _

theorem does_estopAssert : Does s (estopAssert s) :=
  does_ite (fun _ => does_setInputs s _) fun _ =>
    ((does_setInputs s _).trans (does_setLine _ true)).trans (does_placeLineStop _)

theorem does_estopRelease : Does s (estopRelease s) :=
  does_ite (fun _ => does_setInputs s _)
    fun _ => (does_setInputs s _).trans (does_setLine _ false)

theorem does_wakeHolds : Does s (wakeHolds s) :=
  does_ite (fun _ => (does_setLine s _).trans (does_placeLineStop _)) fun _ => does_setLine s _

/-! ## Permits (Chapter 4) -/

theorem does_recomputePermits : Does s (recomputePermits s) :=
  (does_setPermit s _).trans (does_easeGrants _ _ _)

theorem does_judgeDeployMove : Does s (judgeDeployMove s) :=
  does_ite (fun _ => (does_setPermit s _).trans (does_raise _ _)) fun _ => does_setPermit s _

theorem does_permitEvent : Does s (permitEvent s) :=
  (does_judgeDeployMove s).trans (does_recomputePermits _)

theorem does_permitIgn (b : Bool) : Does s (permitIgn b s) :=
  does_ite (fun _ => .refl s) fun _ => (does_setPermit s _).trans (does_recomputePermits _)

theorem does_pbrkEvent (b : Bool) : Does s (pbrkEvent b s) :=
  does_ite (fun _ => does_setInputs s _) fun _ =>
    ((does_setInputs s _).trans (does_setPermit _ _)).trans (does_recomputePermits _)

theorem does_afterSpeed (b : State) : Does s (afterSpeed b s) :=
  does_ite (fun _ => .refl s) fun _ => does_permitEvent s

theorem does_pulseArrival (n : Nat) : Does s (pulseArrival n s) :=
  does_ite (fun _ => .refl s) fun _ => (does_setPermit s _).trans (does_afterSpeed _ s)

theorem does_pulseTimerExpiry : Does s (pulseTimerExpiry s) :=
  does_ite (fun _ => (does_setPermit s _).trans (does_afterSpeed _ s)) fun _ => .refl s

theorem does_recomputeSpeed : Does s (recomputeSpeed s) := by
  unfold recomputeSpeed
  split
  · exact does_setPermit s _
  · exact .refl s

theorem does_samplePressure : Does s (samplePressure s) :=
  does_ite (fun _ => does_setPermit s _)
    fun _ => (does_setPermit s _).trans (does_recomputePermits _)

theorem does_pressureEvent (n : Nat) : Does s (pressureEvent n s) :=
  does_ite (fun _ => (does_setInputs s _).trans (does_samplePressure _))
    fun _ => does_setInputs s _

/-! ## Axis samples (Chapter 3) -/

theorem does_conditionFaultStep (a : Axis) : Does s (conditionFaultStep a s) :=
  does_ite (fun _ => does_setFault s _ _ _) fun _ => .refl s

theorem does_stallStep : Does s (stallStep s) := by
  refine does_ite (fun _ => does_setAxis s _) fun _ => ?_
  split
  · exact does_setAxis s _
  · exact does_ite (fun _ => does_setAxis s _) fun _ =>
      does_ite (fun _ => does_setFault s _ _ _) fun _ => does_setAxis s _

theorem does_evaluateSample (b : Bool) : Does s (evaluateSample b s) := by
  have faults := (does_setAxis s (computeAxes s.config s.axis)).trans
    (does_forEach (fun a t => does_conditionFaultStep t a) Axis.list _)
  exact does_ite (fun _ => faults.trans (does_stallStep _)) fun _ => faults

theorem does_reportFlags (b : State) : Does s (reportFlags b s) :=
  does_ite (fun _ => .refl s) fun _ => does_permitEvent s

theorem does_takeSample : Does s (takeSample s) :=
  ((does_setAxis s _).trans (does_evaluateSample _ true)).trans (does_reportFlags _ s)

theorem does_sampleHeld : Does s (sampleHeld s) :=
  (does_evaluateSample s false).trans (does_reportFlags _ s)

theorem does_axisSampleEvent (i : AxisInputs) : Does s (axisSampleEvent i s) :=
  does_ite (fun _ => (does_setInputs s _).trans (does_takeSample _)) fun _ => does_setInputs s _

theorem does_stallEvent : Does s (stallEvent s) := by
  unfold stallEvent
  split
  · exact .refl s
  · exact does_setFault s _ _ _

/-! ## Beacons (Chapter 7) -/

theorem does_judgeHealth : Does s (judgeHealth s) :=
  does_ite (fun _ => does_setBeacon s _)
    fun _ => (does_setBeacon s _).trans (does_recomputePermits _)

theorem does_beaconTick (n : PerLamp Nat) : Does s (beaconTick n s) :=
  does_ite (fun _ => ((lit_forEach (fun z t => lit_tickZone t z) _ s).trans
    (lit_forEach (fun z t => lit_measureZone t n z) _ _)).does.trans (does_judgeHealth _))
    fun _ => .refl s

theorem does_lampShort (c : Lamp) : Does s (lampShort c s) :=
  does_ite (fun _ => (lit_failLamp s _ c).does.trans (does_judgeHealth _)) fun _ => .refl s

theorem does_rearm (x : PerLamp Bool) : Does s (rearm x s) :=
  (lit_forEach (fun c t => lit_ite (fun _ => lit_rearmLamp t c) fun _ => .refl t) _ s).does.trans
    (does_judgeHealth _)

theorem does_writeLampZone (c : Lamp) (z : Option Zone) : Does s (writeLampZone c z s) :=
  ((does_setConfig s _).trans (does_setBeacon _ _)).trans (does_judgeHealth _)

theorem does_lampTestMeasure (n : PerLamp Nat) : Does s (lampTestMeasure n s) := by
  unfold lampTestMeasure
  split
  · exact .refl s
  · exact does_ite (fun _ => ((does_setBeacon s _).trans
      (lit_forEach (fun c t => lit_testLamp t n c) _ _).does).trans (does_judgeHealth _))
      fun _ => .refl s

theorem does_clearExclusions (b : PerLamp (Option Zone)) : Does s (clearExclusions b s) :=
  does_setBeacon s _

/-! ## Ports (Chapter 8) -/

theorem does_reportLoss (l : Link) : Does s (reportLoss l s) := by
  have dropped : Does s (dropResetReply l s) :=
    does_ite (fun _ => does_setStore s _) fun _ => .refl s
  exact (dropped.trans (does_reactLinkLoss _ l)).trans (does_raise _ _)

theorem does_leavePort (l : Link) (p : Port) : Does s (leavePort l p s) :=
  does_ite (fun _ => (does_putPort s l p).trans (does_reportLoss _ l)) fun _ => does_putPort s l p

theorem does_enterSilenced (l : Link) : Does s (enterSilenced l s) := does_leavePort s l _
theorem does_enterDisabled (l : Link) : Does s (enterDisabled l s) := does_leavePort s l _
theorem does_enterOpening (l : Link) : Does s (enterOpening l s) := does_putPort s l _

theorem does_enterTarget (t : CloseTarget) (l : Link) : Does s (enterTarget t l s) := by
  cases t
  · exact does_enterSilenced s l
  · exact does_enterDisabled s l

theorem does_commandedClose (t : CloseTarget) (l : Link) : Does s (commandedClose t l s) := by
  unfold commandedClose
  dsimp only
  split
  · exact does_putPort s l _
  · exact does_ite (fun _ => does_enterTarget s t l) fun _ => does_putPort s l _

theorem does_stopEnabled (l : Link) : Does s (stopEnabled l s) := by
  unfold stopEnabled
  split
  · exact does_commandedClose s _ l
  · exact does_enterDisabled s l
  · exact does_enterDisabled s l
  · exact .refl s

theorem does_judgePorts (b : State) : Does s (judgePorts b s) := by
  refine does_forEach (fun l t => ?_) _ s
  unfold judgePort
  split
  · exact does_ite (fun _ => does_enterOpening t l) fun _ => .refl t
  · exact does_stopEnabled t l
  · exact .refl t

theorem does_modePorts (m : Mode) (b : State) : Does s (modePorts m b s) :=
  does_ite (fun _ => does_forEach (fun l t => does_stopEnabled t l) _ s)
    fun _ => does_judgePorts s b

theorem does_closeForReset (l : Link) : Does s (closeForReset l s) := by
  unfold closeForReset
  split
  · exact does_commandedClose s _ l
  · exact does_enterSilenced s l
  all_goals exact .refl s

theorem does_resetLink (l : Link) : Does s (resetLink l s) := by
  unfold resetLink
  dsimp only
  split
  · exact .refl s
  · exact does_enterSilenced s l
  · exact does_commandedClose s _ l
  · exact does_putPort s l _

theorem does_receiveError (l : Link) : Does s (receiveError l s) :=
  does_ite (fun _ => does_enterSilenced s l) fun _ => .refl s

theorem does_silenceExpiry (l : Link) : Does s (silenceExpiry l s) :=
  does_ite (fun _ => does_enterSilenced s l) fun _ => .refl s

theorem does_heldLowExpiry (l : Link) : Does s (heldLowExpiry l s) :=
  does_ite (fun _ => does_ite (fun _ => does_enterOpening s l) fun _ => does_enterDisabled s l)
    fun _ => .refl s

theorem does_closeExpiry (l : Link) : Does s (closeExpiry l s) := by
  unfold closeExpiry
  split
  · exact does_ite (fun _ => does_enterTarget s _ l) fun _ => .refl s
  · exact .refl s

theorem does_closeIfEmpty (l : Link) : Does s (closeIfEmpty l s) := by
  unfold closeIfEmpty
  dsimp only
  split
  · exact does_ite (fun _ => does_enterTarget s _ l) fun _ => .refl s
  · exact .refl s

end

/-- R22: a retirement adds no handle. -/
theorem retire_handles {g y : Grant} {r : Reason} {s : State}
    (hy : y ∈ (retire g r s).grant.table) : ∃ z ∈ s.grant.table, z.handle = y.handle := by
  have dropped {z : Grant} (hz : z ∈ (dropGrant g.handle s).grant.table) : z ∈ s.grant.table :=
    (mem_dropGrant.mp hz).1
  rw [retire_grant] at hy
  rcases leaveSlot_cases g (dropGrant g.handle s) with q | q | ⟨-, q⟩
  · rw [q] at hy
    rcases passSlot_cases (resourceOf g.axis) (dropGrant g.handle s) with p | ⟨z, hz, -, p⟩
    · rw [p] at hy
      exact ⟨y, dropped hy, rfl⟩
    · rw [p] at hy
      rcases mem_putGrant hy with rfl | ⟨hy, -⟩
      · exact ⟨z, dropped hz, rfl⟩
      · exact ⟨y, dropped hy, rfl⟩
  all_goals
    rw [q] at hy
    exact ⟨y, dropped hy, rfl⟩

/-- R21: a cut adds no handle, and leaves no grant of the handles it reaches. -/
theorem cuts_handles (r : Reason) (hs : List Nat) (s : State) :
    ∀ y ∈ (forEach (fun x => onGrant x fun g => cut g r) hs s).grant.table,
      y.handle ∉ hs ∧ ∃ z ∈ s.grant.table, z.handle = y.handle := by
  unfold forEach
  induction hs generalizing s with
  | nil => exact fun y hy => ⟨List.not_mem_nil, y, hy, rfl⟩
  | cons x xs ih =>
    intro y hy
    obtain ⟨later, z, hz, e⟩ := ih _ y hy
    have first : z.handle ≠ x ∧ ∃ w ∈ s.grant.table, w.handle = z.handle := by
      simp only [onGrant] at hz
      split at hz
      · next none => exact ⟨fun h => by simpa [h] using List.find?_eq_none.mp none z hz, z, hz, rfl⟩
      · next g found =>
        exact ⟨fun h => retire_gone g r s z hz (h.trans (findGrant_some found).2.symm),
          retire_handles hz⟩
    obtain ⟨w, hw, ew⟩ := first.2
    exact ⟨List.not_mem_cons_of_ne_of_not_mem (e ▸ first.1) later, w, hw, ew.trans e⟩

/-- R29: after a cut of every grant no grant is live. -/
theorem cutGrants_table (r : Reason) (s : State) : (cutGrants r (fun _ => true) s).grant.table = [] := by
  rw [cutGrants, forGrants_eq]
  refine List.eq_nil_iff_forall_not_mem.mpr fun y hy => ?_
  obtain ⟨gone, z, hz, e⟩ := cuts_handles r _ s y hy
  exact gone (e ▸ mem_reached hz rfl)

/-! ## Modes (Chapter 10) -/

section
variable (s : State)

theorem does_forceFor {m : Mode} {t : Option Nat} {u : State}
    (h : Does (setModeTimer m t s) u) (mode : u.mode.mode = m)
    (quiet : shapedMode m = false → u.grant.table = [] ∨
      (shapedMode s.mode.mode = false ∧ u.grant = s.grant)) : Does s (forceFor m u) :=
  .mode m t h mode quiet

/-- R29, R111: what a mode change does before the blocks that judge it: a mode outside RUN and CLOSEDOWN
leaves no grant live, but for WAKE, which is entered from such a mode alone. -/
theorem does_newMode (m : Mode) (t : Option Nat)
    (hm : m = .wake → shapedMode s.mode.mode = false) :
    Does s (forceFor m (reactMode m (setModeTimer m t s))) := by
  have mode : (reactMode m (setModeTimer m t s)).mode.mode = m :=
    congrArg ModeController.mode (reacts_reactMode m _).mode
  refine .mode m t ?_ mode fun _ => ?_
  · cases m with
    | closedown => exact does_easeGrants _ _ _
    | defer | retry | barred | check | off => exact does_cutGrants _ _ _
    | run | wake => exact .refl _
  · cases m with
    | closedown | run => contradiction
    | defer | retry | barred | check | off => exact .inl (cutGrants_table _ _)
    | wake => exact .inr ⟨hm rfl, rfl⟩

theorem does_changeMode (m : Mode) (t : Option Nat)
    (hm : m = .wake → shapedMode s.mode.mode = false) : Does s (changeMode m t s) := by
  have judged := (((does_newMode s m t hm).trans (does_recomputePermits _)).trans
    (lit_beaconMode _ s.mode.mode m).does).trans (does_modePorts _ m s)
  exact does_ite (fun _ => judged) fun _ => judged.trans (does_raise _ _)

theorem does_offBlocks : Does s (offBlocks s) := .calm
  { grant := rfl
    mode := rfl
    off := fun o => ⟨rfl, rfl, rfl, rfl, rfl, rfl, o.near, o.off⟩
    range := fun _ => ⟨fun a => by cases a <;> exact Nat.zero_le _,
      fun m => by cases m <;> exact Nat.zero_le _⟩ }

theorem does_enterOff : Does s (enterOff s) :=
  ((does_changeMode s .off none nofun).trans (does_offBlocks _)).trans (does_judgeAttention _)

theorem does_enterClosedown : Does s (enterClosedown s) := by
  have closed := does_changeMode s .closedown (some (closedownMs s)) nofun
  exact does_ite (fun _ => closed.trans (does_enterOff _)) fun _ => closed

theorem does_enterCheck : Does s (enterCheck s) := does_changeMode s _ _ nofun
theorem does_enterRun : Does s (enterRun s) := does_changeMode s _ _ nofun
theorem does_enterDefer : Does s (enterDefer s) := does_changeMode s _ _ nofun
theorem does_enterRetry : Does s (enterRetry s) :=
  (does_setMode s (by rfl)).trans (does_changeMode _ _ _ nofun)

theorem does_enterBarred : Does s (enterBarred s) := by
  have barred := does_changeMode s .barred none nofun
  exact does_ite (fun _ => barred) fun _ => barred.trans (does_enterClosedown _)

theorem does_leaveByWindow : Does s (leaveByWindow s) :=
  does_ite (fun _ => does_enterClosedown s) fun _ =>
    does_ite (fun _ => does_enterRun s) fun _ => does_enterDefer s

theorem does_wakeExpiry : Does s (wakeExpiry s) :=
  does_ite (fun _ => does_enterCheck s) fun _ => .refl s
theorem does_checkExpiry : Does s (checkExpiry s) :=
  does_ite (fun _ => does_leaveByWindow s) fun _ => .refl s
theorem does_retryExpiry : Does s (retryExpiry s) :=
  does_ite (fun _ => does_leaveByWindow s) fun _ => .refl s
theorem does_closedownExpiry : Does s (closedownExpiry s) :=
  does_ite (fun _ => does_enterOff s) fun _ => .refl s

theorem does_ageHistory : Does s (ageHistory s) := by
  unfold ageHistory
  split
  · exact .refl s
  · exact does_ite (fun _ => does_setMode s (by rfl)) fun _ => .refl s

theorem does_pumpOver (n : Nat) : Does s (s.setDrive { s.drive with pumpOver := n }) :=
  does_setDrive s rfl rfl rfl rfl rfl rfl

theorem does_pumpOvercurrent : Does s (pumpOvercurrent s) := by
  have reported := (does_pumpOver s 0).trans (does_enterFault _
    { kind := .pumpoc, axis := none, coil := none, position := none, mode := s.mode.mode })
  exact does_ite (fun _ => does_ite (fun _ => reported.trans (does_enterRetry _))
    fun _ => reported.trans (does_enterBarred _)) fun _ => .refl s

theorem does_takeTrips (l : List FaultKind) : Does s (takeTrips l s) := by
  have trip : Does s (if l = [] then s else enterDefer (forEach enterPartFault l s)) :=
    does_ite (fun _ => .refl s) fun _ =>
      (does_forEach (fun _ t => does_enterFault t _) l s).trans (does_enterDefer _)
  unfold takeTrips
  split
  · exact trip
  · exact trip
  all_goals exact .refl s

theorem does_lowTrip : Does s (lowTrip s) :=
  (does_setMode s (by rfl)).trans (does_takeTrips _ _)
theorem does_highTrip : Does s (highTrip s) :=
  (does_setMode s (by rfl)).trans (does_takeTrips _ _)

theorem does_returnComplete : Does s (returnComplete s) := by
  have counted : Does s (s.setMode { s.mode with returnCount := 0 }) := does_setMode s rfl
  exact does_ite (fun _ => does_ite (fun _ => counted.trans (does_enterRun _))
    fun _ => counted.trans (does_enterClosedown _)) fun _ => .refl s

theorem does_supplySample (v : Nat) (t : Int) : Does s (supplySample v t s) := by
  unfold supplySample
  dsimp only
  split
  · split
    · exact ((does_setMode s (by rfl)).trans (does_takeTrips _ _)).trans (does_returnComplete _)
    · exact (does_setMode s (by rfl)).trans (does_takeTrips _ _)
  · exact .refl s

/-! ## WAKE, ignition and power-on (R170, R171) -/

theorem does_readStraps : Does s (readStraps s) :=
  does_ite (fun _ => Rests.does ⟨rfl, rfl, rfl, rfl⟩) fun _ => Rests.does ⟨rfl, rfl, rfl, rfl⟩

theorem does_loadConfig : Does s (loadConfig s) :=
  does_ite (fun _ => does_setConfig s _) fun _ => (does_setConfig s _).trans (does_raise _ _)

/-- R128: at WAKE both solenoids are OFF. -/
theorem does_wakePanel : Does s (wakePanel s) := by
  unfold wakePanel
  extract_lets i rest loose door w t panel u
  have shut : Does s u := Rests.does ⟨rfl, rfl, rfl, rfl⟩
  have each (d : Door) (v : State) : Does v (door d v) :=
    (does_putPanel v _ _).trans (does_putLatch _ (.inl rfl))
  exact (shut.trans (each .ndor u)).trans (each .odor _)

theorem does_wakeAxes : Does s (wakeAxes s) := does_setAxis s _
theorem does_wakePermits : Does s (wakePermits s) := does_setPermit s _
theorem does_wakeBeacons (b : PerLamp (Option Zone)) : Does s (wakeBeacons b s) :=
  (does_clearExclusions s b).trans (does_judgeHealth _)

/-- R113: at WAKE everything driven is at its power-on value. -/
theorem does_wakeDrive : Does s (wakeDrive s) := .calm
  { grant := rfl
    mode := rfl
    off := fun o => ⟨rfl, rfl, rfl, rfl, rfl, rfl, o.near, o.off⟩
    range := fun _ => ⟨fun a => by cases a <;> exact Nat.zero_le _,
      fun m => by cases m <;> exact Nat.zero_le _⟩ }

theorem does_wakeBlocks (b : PerLamp (Option Zone)) : Does s (wakeBlocks b s) := by
  have panels := (((does_wakeAxes s).trans (does_wakePermits _)).trans (does_wakeHolds _)).trans
    (does_wakePanel _)
  have sampled := ((panels.trans (does_wakeDrive _)).trans (does_wakeBeacons _ b)).trans
    (does_takeSample _)
  exact ((sampled.trans (does_samplePressure _)).trans (does_recomputePermits _)).trans
    (does_judgeAttention _)

theorem does_finishWake : Does s (finishWake s) := by
  have woken := ((does_setMode s (v := { s.mode with loadWaits := false }) rfl).trans
    (does_loadConfig _)).trans (does_wakeBlocks _ s.config.lamp.zone)
  have timed (v : State) : Does v (v.setMode { v.mode with timer := some wakeMs }) :=
    does_setMode v rfl
  unfold finishWake
  extract_lets before mode u
  exact does_ite (fun _ => Does.trans woken (timed u)) fun _ => woken

theorem does_enterWake (hm : shapedMode s.mode.mode = false) : Does s (enterWake s) := by
  have read := ((does_changeMode s .wake none fun _ => hm).trans
    (does_setMode _ (v := { (changeMode .wake none s).mode with
      lowCount := 0, highCount := 0, returnCount := 0 }) rfl)).trans (does_readStraps _)
  exact does_ite (fun _ => read.trans (does_setMode _ rfl)) fun _ => read.trans (does_finishWake _)

theorem does_modeIgnOn : Does s (modeIgnOn s) := by
  unfold modeIgnOn
  split
  · next e => exact does_enterWake s (by rw [e]; rfl)
  · exact does_enterCheck s
  all_goals exact .refl s

theorem does_modeIgnOff : Does s (modeIgnOff s) := by
  unfold modeIgnOff
  split
  · exact .refl s
  · exact .refl s
  all_goals exact does_enterClosedown s

theorem does_ignOn (p : Straps) : Does s (ignOn p s) := by
  have straps := does_setInputs s { s.inputs with straps := p }
  exact does_ite (fun _ => straps) fun _ =>
    ((straps.trans (does_setMode _ (by rfl))).trans (does_permitIgn _ true)).trans
      (does_modeIgnOn _)

theorem does_ignOff (o : IgnOrder) : Does s (ignOff o s) := by
  have line : Does s (s.setMode { s.mode with ign := false }) := does_setMode s rfl
  refine does_ite (fun _ => ?_) fun _ => .refl s
  cases o with
  | permitFirst => exact (line.trans (does_permitIgn _ false)).trans (does_modeIgnOff _)
  | modeFirst => exact (line.trans (does_modeIgnOff _)).trans (does_permitIgn _ false)

theorem does_powerOnReset (b : Bool) (i : Inputs) : Does s (powerOnReset b i s) := by
  have reset : Does s (State.powerOn s.store i s.pending) := .powerOn _ _ _
  exact does_ite (fun _ => (reset.trans (does_setMode _ (by rfl))).trans (does_enterWake _ rfl))
    fun _ => reset

/-! ## Resets (R176) -/

theorem does_resetGrants : Does s (resetGrants s) :=
  ((does_cutGrants s _ _).trans (does_pumpOver _ 0)).trans (does_setAxis _ _)

theorem does_recomputeAxes : Does s (recomputeAxes s) := does_setAxis s _

theorem does_resetConfig : Does s (resetConfig s) := by
  have loaded := ((does_loadConfig s).trans (does_recomputeAxes _)).trans (does_recomputeSpeed _)
  have judged {v : State} (h : Does s v) : Does s (judgePorts s (recomputePermits v)) :=
    (h.trans (does_recomputePermits _)).trans (does_judgePorts _ s)
  unfold resetConfig
  dsimp only
  split
  · exact judged (loaded.trans (does_judgeDeployMove _))
  · exact judged loaded

theorem does_resetClear (b : PerLamp (Option Zone)) : Does s (resetClear b s) :=
  ((((does_clearExclusions s b).trans (does_judgeHealth _)).trans (does_setAxis _ _)).trans
    (does_setMode _ (by rfl))).trans ((does_setNotice _ _).trans (does_judgeAttention _))

theorem does_resetLevel1 : Does s (resetLevel1 s) :=
  (((does_resetGrants s).trans (does_resetConfig _)).trans
    (does_forEach (fun l t => does_closeForReset t l) _ _)).trans
    ((does_resetClear _ _).trans (does_enterCheck _))

theorem does_resetLevel2 : Does s (resetLevel2 s) :=
  (does_resetGrants s).trans (does_setAxis _ _)

/-! ## Messages (Chapter 9) -/

theorem does_handleRqgrant (l : Link) (a : Axis) (n : Sense) (k : RunKind) (d : Nat) :
    Does s (handleRqgrant l a n k d s).1 := by
  unfold handleRqgrant
  split
  · exact .refl s
  · next e => exact .request d e

theorem does_handleKeep (l : Link) (x : Nat) (a : Axis) (n : Sense) (d : Nat) :
    Does s (handleKeep l x a n d s).1 := by
  unfold handleKeep
  split
  · exact .refl s
  · next e =>
    unfold keepGrant
    split
    · exact .refl s
    · exact .refl s
    · next hst => exact .keep d (referTo_grant e) (.inl hst)
    · next hst => exact .keep d (referTo_grant e) (.inr hst)

theorem does_handleLtgrant (l : Link) (x : Nat) (a : Axis) (n : Sense) :
    Does s (handleLtgrant l x a n s).1 := by
  unfold handleLtgrant
  split
  · exact .refl s
  · next e =>
    unfold releaseGrant
    split
    · exact .refl s
    · exact .retire .released (referTo_grant e)
    · next hst => exact .ease .released (referTo_grant e) (.inl hst)
    · next hst => exact .ease .released (referTo_grant e) (.inr hst)

theorem does_handleRsgrant (l : Link) (x : Nat) (a : Axis) (n : Sense) :
    Does s (handleRsgrant l x a n s).1 := by
  unfold handleRsgrant
  split
  · exact .refl s
  · next e =>
    unfold resumePaused
    split
    · next hp => exact .resume (referTo_grant e) hp
    all_goals exact .refl s

theorem does_handleStopz (l : Link) (z : PerZone Bool) : Does s (handleStopz l z s).1 := by
  unfold handleStopz
  split
  · exact .refl s
  · split
    · exact .refl s
    · split
      · exact .refl s
      · exact does_placeHold s (.stop z) (.station l) (axesOfZones z)

theorem does_handleClrstop (l : Link) (id : Nat) : Does s (handleClrstop l id s).1 := by
  unfold handleClrstop
  split
  · exact .refl s
  · split
    · exact .refl s
    · unfold clearStop
      split
      · split
        · exact .refl s
        · exact does_retireHold s _
      · split
        · exact does_retireHold s _
        · exact .refl s

theorem does_handleLockt (l : Link) (t : Nat) (x : PerAxis Bool) :
    Does s (handleLockt l t x s).1 := by
  unfold handleLockt
  repeat' split
  all_goals first
    | exact .refl s
    | exact does_placeHold s (.lockout t) (.station l) x

theorem does_handleUlockt (l : Link) (id t : Nat) : Does s (handleUlockt l id t s).1 := by
  unfold handleUlockt
  repeat' split
  all_goals first
    | exact .refl s
    | exact does_retireHold s _

theorem does_handleFreelock (id : Nat) : Does s (handleFreelock id s).1 := by
  unfold handleFreelock
  repeat' split
  all_goals first
    | exact .refl s
    | exact does_retireHold s _

theorem does_handleAckflt (l : Link) (a : Axis) : Does s (handleAckflt l a s).1 := by
  unfold handleAckflt
  repeat' split
  all_goals first
    | exact .refl s
    | exact does_setAxis s _

theorem does_takeWrite (i : Item) (v : Int) : Does s (takeWrite i v s) := by
  have written := does_setConfig s (writeItem s.config i v)
  unfold takeWrite
  dsimp only
  split
  · exact does_writeLampZone s _ _
  · exact written.trans (does_judgePorts _ s)
  · exact ((written.trans (does_recomputeSpeed _)).trans (does_afterSpeed _ s)).trans
      (does_recomputePermits _)
  · exact written.trans (does_permitEvent _)
  · exact does_ite (fun _ => written.trans (does_sampleHeld _)) fun _ =>
      does_ite (fun _ => written.trans (does_recomputePermits _)) fun _ => written

theorem does_handleCfgwr (i : Nat) (v : Int) : Does s (handleCfgwr i v s).1 := by
  unfold handleCfgwr
  repeat' split
  all_goals first
    | exact .refl s
    | exact does_takeWrite s _ _

theorem does_takeBands (l : List Band) : Does s (takeBands l s) :=
  ((does_setConfig s { s.config with bands := l }).trans (does_sampleHeld _)).trans
    (does_recomputePermits _)

theorem does_handleCfgband (l : List Band) : Does s (handleCfgband l s).1 := by
  unfold handleCfgband
  dsimp only
  split
  · exact .refl s
  · split
    · exact .refl s
    · split
      · exact .refl s
      · dsimp only
        exact does_takeBands s l

theorem does_handleCfgsave : Does s (handleCfgsave s).1 := by
  unfold handleCfgsave
  split
  · exact .refl s
  · exact does_setStore s _

theorem does_handleRstlvl (n : Nat) : Does s (handleRstlvl n s).1 := by
  unfold handleRstlvl handleRstlvl1 handleRstlvl2
  split
  · split
    · exact .refl s
    · split
      · exact does_setStore s _
      · exact does_resetLevel1 s
  · split
    · split
      · exact .refl s
      · exact does_resetLevel2 s
    · exact .refl s

theorem does_handleRstlink (n : Nat) : Does s (handleRstlink n s).1 := by
  unfold handleRstlink
  split
  · exact .refl s
  · exact .refl s
  · exact does_resetLink s _

theorem does_handleMsg (l : Link) (m : Msg) : Does s (handleMsg l m s).1 := by
  cases m with
  | rqgrant a n k d => exact does_handleRqgrant s l a n k d
  | keep x a n d => exact does_handleKeep s l x a n d
  | ltgrant x a n d => exact does_handleLtgrant s l x a n
  | rsgrant x a n d => exact does_handleRsgrant s l x a n
  | stopz z => exact does_handleStopz s l z
  | clrstop id => exact does_handleClrstop s l id
  | lockt t x => exact does_handleLockt s l t x
  | ulockt id t => exact does_handleUlockt s l id t
  | ackflt a => exact does_handleAckflt s l a
  | qgrants n => exact (congrArg (Does s) (handleQgrants_state n s)).mpr (.refl s)
  | qholds n => exact (congrArg (Does s) (handleQholds_state n s)).mpr (.refl s)
  | qaxes a => exact (congrArg (Does s) (handleQaxes_state a s)).mpr (.refl s)
  | cfgrd i => exact (congrArg (Does s) (handleCfgrd_state i s)).mpr (.refl s)
  | cfgwr i v => exact does_handleCfgwr s i v
  | cfgband b => exact does_handleCfgband s b
  | cfgsave => exact does_handleCfgsave s
  | rstlvl n => exact does_handleRstlvl s n
  | rstlink n => exact does_handleRstlink s n
  | freelock id => exact does_handleFreelock s id
  | notrd => exact Rests.does ⟨rfl, rfl, rfl, rfl⟩
  | notmsk m => exact Rests.does ⟨rfl, rfl, rfl, rfl⟩
  | lampra c => exact does_rearm s c
  | fltrd => exact does_setFaultLog s _

theorem does_deliver (l : Link) (f : Frame) : Does s (deliver l f s) := by
  have handled : Does s (handleFrame l f s).1 := by
    unfold handleFrame
    split
    · exact .refl s
    · exact does_handleMsg s l _
  have ordered := handled.trans (does_orderGends _ s)
  unfold deliver
  dsimp only
  split
  · exact ordered
  · exact ordered.trans (does_placeMessage _ _ _)

end

theorem does_drain (l : Link) (n : Nat) (s : State) : Does s (drain l n s) := by
  induction n generalizing s with
  | zero => exact .refl s
  | succ n ih =>
    unfold drain
    dsimp only
    split
    · exact .refl s
    · split
      · split
        · exact (does_putPort s l _).trans (ih _)
        · exact ((does_putPort s l _).trans (does_deliver _ l _)).trans (ih _)
      · exact .refl s

section
variable (s : State)

theorem does_takeSymbol (l : Link) (x : Symbol) : Does s (takeSymbol l x s) := by
  cases x with
  | fill => exact does_putPort s l _
  | credit => exact does_ite (fun _ => does_enterSilenced s l) fun _ => does_putPort s l _
  | msg m =>
    exact does_ite (fun _ => does_enterSilenced s l)
      fun _ => (does_putPort s l _).trans (does_drain l _ _)

theorem does_receiveSymbol (l : Link) (x : Symbol) : Does s (receiveSymbol l x s) := by
  unfold receiveSymbol
  split
  · exact .refl s
  · exact .refl s
  · exact (does_putPort s l _).trans (does_takeSymbol _ l x)
  · exact does_takeSymbol s l x

theorem does_receiveLine (l : Link) (x : LineSymbol) : Does s (receiveLine l x s) := by
  unfold receiveLine
  split
  · exact does_receiveSymbol s l _
  · exact does_receiveError s l

theorem does_receiveSymbols (l : Link) (xs : List MsgSymbol) : Does s (receiveSymbols l xs s) :=
  does_forEach (fun _ t => does_receiveLine t l _) xs s

theorem does_afterSending (l : Link) (p : Port) : Does s (afterSending l p s) :=
  ((does_putPort s l p).trans (does_closeIfEmpty _ l)).trans (does_drain l _ _)

theorem does_messageTransmitted (l : Link) : Does s (messageTransmitted l s) :=
  does_ite (fun _ => does_afterSending s l _) fun _ => .refl s

theorem does_closeQueueEmpty (l : Link) : Does s (closeQueueEmpty l s) :=
  does_ite (fun _ => does_afterSending s l _) fun _ => .refl s

theorem does_idleExpiry (l : Link) : Does s (idleExpiry l s) := by
  refine does_ite (fun _ => ?_) fun _ => .refl s
  split
  · exact does_putPort s l _
  · exact does_ite (fun _ => does_afterSending s l _) fun _ => does_putPort s l _
  all_goals exact .refl s

theorem does_waitingReset : Does s (waitingReset s).1 := by
  unfold waitingReset
  dsimp only
  split
  · exact does_setStore s _
  · exact does_setStore s _
  all_goals exact (does_setStore s _).trans (does_resetLevel1 _)

theorem does_placeResetReply (w : ReplyWait) (r : Option Reply) : Does s (placeResetReply w r s) := by
  unfold placeResetReply
  split
  · exact does_placeMessage s _ _
  · exact .refl s

theorem does_saveCompletion : Does s (saveCompletion s) := by
  have finished (v : Save) : Does s (finishSave v s) := by
    have resumed : Does s (resumeWake (storeSaved v s)) :=
      (does_setStore s _).trans (does_ite (fun _ => does_finishWake _) fun _ => .refl _)
    unfold finishSave
    dsimp only
    split
    · exact resumed.trans (does_orderGends _ s)
    · exact ((resumed.trans (does_waitingReset _)).trans (does_orderGends _ s)).trans
        (does_placeResetReply _ _ _)
  unfold saveCompletion
  split
  · exact .refl s
  · exact does_ite (fun _ => finished _) fun _ => .refl s

/-! ## Control periods and timers (Chapter 5) -/

theorem does_zeroAxis (a : Axis) : Does s (s.setDrive (zeroAxis a s.drive)) := .calm
  { grant := rfl
    mode := rfl
    off := fun o => by
      obtain ⟨output, coil, duty, pump, d1, d2, near, off⟩ := o
      refine ⟨?_, ?_, ?_, ?_, ?_, ?_, near, off⟩ <;> cases a <;>
        simp [zeroAxis, output, coil, duty, pump, d1, d2, PerAxis.set, PerAxis.all, PerCoil.all,
          PerMotor.all]
    range := fun o => ⟨fun b => by
      have zero : ((zeroAxis a s.drive).output.get b) = if b = a then 0 else s.drive.output.get b := by
        cases a <;> exact PerAxis.get_set ..
      rw [State.setDrive_drive, zero]
      split
      · exact Nat.zero_le _
      · exact o.output b, fun m => by
      have kept := o.duty m
      cases a <;> cases m <;> first | exact Nat.zero_le _ | exact kept⟩ }

/-- R106, R107: a channel's command where every output is 0. -/
theorem coilCommand_off (c : Coil) (o : s.drive.output = .all 0) : coilCommand c s = 0 := by
  have base : channelBase c s = 0 := by
    unfold channelBase
    split
    · rfl
    · split
      · rw [o, PerAxis.get_all]
        rfl
      · rfl
  unfold coilCommand
  rw [base]
  rfl

theorem calm_setCoil (c : Coil) : Calm s (setCoil c s) where
  grant := rfl
  mode := rfl
  off := fun o => ⟨o.output, by
    show s.drive.coil.set c (coilCommand c s) = _
    rw [coilCommand_off s c o.output, o.coil]
    cases c <;> rfl, o.duty, o.pump, o.d1, o.d2, o.near, o.off⟩
  range := fun o => ⟨o.output, o.duty⟩

theorem does_setCoil (c : Coil) : Does s (setCoil c s) := .calm (calm_setCoil s c)

/-- R109: the duty of a motor axis follows its output. -/
theorem does_setDuty (m : Motor) : Does s (s.setDrive { s.drive with
    duty := s.drive.duty.set m (s.drive.output.get (axisOfMotor m)) }) := .calm
  { grant := rfl
    mode := rfl
    off := fun o => ⟨o.output, o.coil, by
      show s.drive.duty.set m (s.drive.output.get (axisOfMotor m)) = _
      rw [o.output, o.duty, PerAxis.get_all]
      cases m <;> rfl, o.pump, o.d1, o.d2, o.near, o.off⟩
    range := fun o => ⟨o.output, fun k => by
      rw [State.setDrive_drive, PerMotor.get_set]
      split
      · exact o.output _
      · exact o.duty k⟩ }

theorem does_setActuator (a : Axis) : Does s (setActuator a s) := by
  cases a with
  | lift => exact (does_setCoil s .c1).trans (does_setCoil _ .c2)
  | tilt => exact does_setCoil s .c3
  | fold => exact does_setCoil s .c4
  | shut => exact does_setDuty s .shut
  | ndor => exact does_setDuty s .ndor
  | odor => exact does_setDuty s .odor

theorem does_ditherFlip : Does s (ditherFlip s) := by
  have flipped : Does s (s.setDrive { s.drive with
      ditherPhase := flipPhase s.drive.ditherPhase
      ditherTimer := some s.drive.halfPeriodInForce }) := does_setDrive s rfl rfl rfl rfl rfl rfl
  exact does_ite (fun _ => flipped.trans (does_forEach (fun c t => does_setCoil t c) _ _))
    fun _ => .refl s

theorem does_takeDriveItems : Does s (takeDriveItems s) :=
  does_setDrive s rfl rfl rfl rfl rfl rfl

/-- R92: a driving grant is live and on its axis, and does not wait. -/
theorem drivingGrant_some {a : Axis} {g : Grant} (h : drivingGrant a s = some g) :
    g ∈ s.grant.table ∧ g.axis = a ∧ g.state ≠ .waiting ∧
      (slotOf (resourceOf a) s).holder = some g.handle := by
  unfold drivingGrant at h
  split at h
  · cases h
  · next x hx =>
    split at h
    · cases h
    · next k found =>
      split at h
      · next ok =>
        cases h
        obtain ⟨live, handle⟩ := findGrant_some found
        exact ⟨live, ok.1, ok.2, by rw [hx, handle]⟩
      · cases h

theorem does_axisPeriod (a : Axis) (shaped : shapedMode s.mode.mode = true) :
    Does s (axisPeriod a s) := by
  unfold axisPeriod
  split
  · exact does_zeroAxis s a
  · next g driving =>
    have driven : Does s (driveAxis g s) := by
      have live := (drivingGrant_some s driving).1
      have set := Does.period live shaped
      refine does_ite (fun _ => set.trans (.retire _ live)) fun _ => set
    have acted := driven.trans (does_setActuator _ a)
    exact does_ite (fun _ => acted.trans (does_foldTravelStep _)) fun _ => acted

theorem axisPeriod_mode (a : Axis) : (axisPeriod a s).mode = s.mode :=
  (judges_axisPeriod a s).mode

theorem does_forceOutputs : Does s (forceOutputs s) := .calm
  { grant := rfl
    mode := rfl
    off := fun _ => ⟨rfl, rfl, rfl, rfl, rfl, rfl, rfl, rfl⟩
    range := fun _ => ⟨fun a => by cases a <;> exact Nat.zero_le _,
      fun m => by cases m <;> exact Nat.zero_le _⟩ }

theorem does_axesPeriod : Does s (axesPeriod s) := by
  have axes (l : List Axis) (t : State) (shaped : shapedMode t.mode.mode = true) :
      Does t (forEach axisPeriod l t) := by
    unfold forEach
    induction l generalizing t with
    | nil => exact .refl t
    | cons a as ih =>
      exact (does_axisPeriod t a shaped).trans (ih _ (by rw [axisPeriod_mode]; exact shaped))
  exact does_ite (fun shaped => axes _ s shaped) fun _ => does_forceOutputs s

theorem does_pumpWatch (n : Nat) : Does s (pumpWatch n s) :=
  does_ite (fun _ => does_ite (fun _ => does_pumpOvercurrent s) fun _ => does_pumpOver s _)
    fun _ => does_pumpOver s _

theorem does_reportLiftOutput : Does s (reportLiftOutput s) := does_setAxis s _

theorem does_controlPeriod (c : PeriodCurrents) : Does s (controlPeriod c s) := by
  have panels := (does_axesPeriod s).trans
    (does_forEach (fun m t => does_panelPeriod t m (c.motor.get m)) Motor.list _)
  have coils := (panels.trans (does_reportLiftOutput _)).trans
    (does_forEach (fun k t => does_coilWatchStep t k (c.coil.get k)) Coil.list _)
  exact does_ite (fun _ => (coils.trans (does_pumpWatch _ c.pump)).trans (does_takeDriveItems _))
    fun _ => .refl s

theorem does_deadmanExpiry (x : Nat) : Does s (deadmanExpiry x s) := by
  unfold deadmanExpiry
  split
  · exact .refl s
  · next e => exact does_ite (fun _ => does_windDown s (findGrant_some e).1 _) fun _ => .refl s

theorem does_pauseExpiry (x : Nat) : Does s (pauseExpiry x s) := by
  unfold pauseExpiry
  split
  · exact .refl s
  · next e => exact does_ite (fun h => .ease _ (findGrant_some e).1 (.inr h.1)) fun _ => .refl s

theorem does_startDelayExpiry : Does s (startDelayExpiry s) :=
  does_setDrive s rfl rfl rfl rfl rfl rfl

/-! ## Commands -/

theorem does_conclude (b : State) : Does s (conclude b s) := by
  unfold conclude
  split
  · exact (does_enterOff s).trans (lit_judgeDemands _ b).does
  · exact (lit_judgeDemands s b).does

theorem does_event {f : State → State} (h : Does s (f s)) : Does s (event f s) :=
  (h.trans (does_orderGends _ s)).trans (does_conclude _ s)

theorem does_portEvent {f : State → State} (h : Does s (f s)) : Does s (portEvent f s) :=
  h.trans (does_conclude _ s)

/-- A command is a chain of these changes. -/
theorem does_exec (i : Instr) : ∃ t, exec i s = .next t ∧ Does s t := by
  cases i with
  | rqgrant | keep | ltgrant | rsgrant | stopz | clrstop | lockt | ulockt | ackflt | qgrants
  | qholds | qaxes | cfgrd | cfgwr | cfgband | cfgsave | rstlvl1 | rstlvl2 | rstlink | freelock
  | notrd | notmsk | lampra | fltrd | malformedFrame =>
    exact ⟨_, rfl, does_portEvent s (does_receiveSymbols s _ _)⟩
  | creditReceived | fillReceived | overrun =>
    exact ⟨_, rfl, does_portEvent s (does_receiveLine s _ _)⟩
  | dropReceived l b => exact ⟨_, rfl, does_portEvent s (does_receiveSymbols s l _)⟩
  | checkError l => exact ⟨_, rfl, does_portEvent s (does_receiveError s l)⟩
  | silenceExpiry l => exact ⟨_, rfl, does_portEvent s (does_silenceExpiry s l)⟩
  | heldLowExpiry l => exact ⟨_, rfl, does_portEvent s (does_heldLowExpiry s l)⟩
  | idleTimerExpiry l => exact ⟨_, rfl, does_portEvent s (does_idleExpiry s l)⟩
  | messageTransmitted l => exact ⟨_, rfl, does_portEvent s (does_messageTransmitted s l)⟩
  | closeQueueEmpty l => exact ⟨_, rfl, does_portEvent s (does_closeQueueEmpty s l)⟩
  | closePendingExpiry l => exact ⟨_, rfl, does_portEvent s (does_closeExpiry s l)⟩
  | saveCompletion => exact ⟨_, rfl, does_portEvent s (does_saveCompletion s)⟩
  | deadmanExpiry x => exact ⟨_, rfl, does_event s (does_deadmanExpiry s x)⟩
  | pauseWindowExpiry x => exact ⟨_, rfl, does_event s (does_pauseExpiry s x)⟩
  | startDelayExpiry => exact ⟨_, rfl, does_event s (does_startDelayExpiry s)⟩
  | controlPeriod c => exact ⟨_, rfl, does_event s (does_controlPeriod s c)⟩
  | ditherFlip => exact ⟨_, rfl, does_event s (does_ditherFlip s)⟩
  | pumpOvercurrent => exact ⟨_, rfl, does_event s (does_pumpOvercurrent s)⟩
  | foldTravelLimit => exact ⟨_, rfl, does_event s (does_foldTravelEvent s)⟩
  | axisSample x => exact ⟨_, rfl, does_event s (does_axisSampleEvent s x)⟩
  | stall => exact ⟨_, rfl, does_event s (does_stallEvent s)⟩
  | pressureSample n => exact ⟨_, rfl, does_event s (does_pressureEvent s n)⟩
  | pulseArrival n => exact ⟨_, rfl, does_event s (does_pulseArrival s n)⟩
  | pulseTimerExpiry => exact ⟨_, rfl, does_event s (does_pulseTimerExpiry s)⟩
  | pbrkChange b => exact ⟨_, rfl, does_event s (does_pbrkEvent s b)⟩
  | ignOn p => exact ⟨_, rfl, does_event s (does_ignOn s p)⟩
  | ignOff o => exact ⟨_, rfl, does_event s (does_ignOff s o)⟩
  | estopAssertion => exact ⟨_, rfl, does_event s (does_estopAssert s)⟩
  | estopRelease => exact ⟨_, rfl, does_event s (does_estopRelease s)⟩
  | doorSwitchChange d w b => exact ⟨_, rfl, does_event s (does_doorEvent s d w b)⟩
  | shutterSwitchChange w b => exact ⟨_, rfl, does_event s (does_shutterEvent s w b)⟩
  | safetyEdgeChange b => exact ⟨_, rfl, does_event s (does_edgeEvent s b)⟩
  | latchPulseExpiry d => exact ⟨_, rfl, does_event s (does_latchPulseExpired s d)⟩
  | engageExpiry d => exact ⟨_, rfl, does_event s (does_engageExpired s d)⟩
  | obstructionOvertime m => exact ⟨_, rfl, does_event s (does_obstructionEvent s m)⟩
  | panelTravelLimit m => exact ⟨_, rfl, does_event s (does_panelTravelEvent s m)⟩
  | beaconTick n => exact ⟨_, rfl, does_event s (does_beaconTick s n)⟩
  | lampShort c => exact ⟨_, rfl, does_event s (does_lampShort s c)⟩
  | lampTestMeasurement n => exact ⟨_, rfl, does_event s (does_lampTestMeasure s n)⟩
  | lampTestEnd => exact ⟨_, rfl, does_event s (lit_lampTestExpiry s).does⟩
  | supplySample v t => exact ⟨_, rfl, does_event s (does_supplySample s v t)⟩
  | supplylowTrip => exact ⟨_, rfl, does_event s (does_lowTrip s)⟩
  | supplyhighTrip => exact ⟨_, rfl, does_event s (does_highTrip s)⟩
  | returnCountExpiry => exact ⟨_, rfl, does_event s (does_returnComplete s)⟩
  | wakeTimerExpiry => exact ⟨_, rfl, does_event s (does_wakeExpiry s)⟩
  | checkTimerExpiry => exact ⟨_, rfl, does_event s (does_checkExpiry s)⟩
  | retryTimerExpiry => exact ⟨_, rfl, does_event s (does_retryExpiry s)⟩
  | closedownTimerExpiry => exact ⟨_, rfl, does_event s (does_closedownExpiry s)⟩
  | retryEntryAgeing => exact ⟨_, rfl, does_event s (does_ageHistory s)⟩
  | powerOnReset b i => exact ⟨_, rfl, does_event s (does_powerOnReset s b i)⟩

/-- The command of a step does what every command does. -/
theorem does_of_exec {c : Instr} {t : State} (h : exec c s = .next t) : Does s t := by
  obtain ⟨u, hu, k⟩ := does_exec s c
  rw [hu] at h
  cases h
  exact k

end
end Sys2Proof.Machine.Steps
end

section
/-! The grant table and the slots through each change of a live grant (R1, R2, R4, R6, R22): what a retirement
makes of the state, and that every change keeps the records sound and the slots in agreement. -/

namespace Sys2Proof.Machine.Steps

open Motion

/-- R1, R2, R4: the grant table is sound and agrees with the slots. -/
structure Sound (s : State) : Prop where
  grants : GrantsOk s
  slots : SlotsOk s

/-! ## A sound table -/

section
variable {s : State} (h : Sound s)
include h

theorem Sound.of_grant {t : State} (e : t.grant = s.grant) : Sound t := by
  obtain ⟨⟨records, room, distinct, single⟩, ⟨holder, waiting, behind⟩⟩ := h
  have slot (r : Resource) : slotOf r t = slotOf r s := by unfold slotOf; rw [e]
  refine ⟨⟨by rwa [e], by rwa [e], by rwa [e], by rwa [e]⟩, ⟨?_, ?_, ?_⟩⟩
  · intro r; rw [slot, e]; exact holder r
  · intro r; rw [slot, e]; exact waiting r
  · intro r; rw [slot, e]; exact behind r

theorem Sound.slotted : Slotted s := slotted_of_ok h.grants h.slots

theorem Sound.eq_of_handle {g k : Grant} (hg : g ∈ s.grant.table) (hk : k ∈ s.grant.table)
    (e : g.handle = k.handle) : g = k := h.slotted.eq_of_handle hg hk e

theorem Sound.find {g : Grant} (hg : g ∈ s.grant.table) : findGrant g.handle s = some g :=
  findGrant_of_mem h.grants.distinct hg

theorem Sound.holder_slot {g : Grant} (hg : g ∈ s.grant.table) (hs : g.state ≠ .waiting) :
    (slotOf (resourceOf g.axis) s).holder = some g.handle :=
  (h.slots.holder _ _).mpr ⟨g, hg, rfl, rfl, hs⟩

theorem Sound.waiting_slot {g : Grant} (hg : g ∈ s.grant.table) (hs : g.state = .waiting) :
    (slotOf (resourceOf g.axis) s).waiting = some g.handle :=
  (h.slots.waiting _ _).mpr ⟨g, hg, rfl, rfl, hs⟩

/-- R4: a resource has one holder. -/
theorem Sound.holder_unique {g k : Grant} (hg : g ∈ s.grant.table) (hk : k ∈ s.grant.table)
    (e : resourceOf g.axis = resourceOf k.axis) (gs : g.state ≠ .waiting)
    (ks : k.state ≠ .waiting) : g = k := by
  have a := h.holder_slot hg gs
  rw [e, h.holder_slot hk ks] at a
  exact h.eq_of_handle hg hk (Option.some.inj a).symm

/-- R4: on a resource one grant waits at most. -/
theorem Sound.waiter_unique {g k : Grant} (hg : g ∈ s.grant.table) (hk : k ∈ s.grant.table)
    (e : resourceOf g.axis = resourceOf k.axis) (gs : g.state = .waiting)
    (ks : k.state = .waiting) : g = k := by
  have a := h.waiting_slot hg gs
  rw [e, h.waiting_slot hk ks] at a
  exact h.eq_of_handle hg hk (Option.some.inj a).symm

/-- R4: a grant waits behind an EASING holder. -/
theorem Sound.waits_behind {g w : Grant} (hg : g ∈ s.grant.table) (hw : w ∈ s.grant.table)
    (e : resourceOf w.axis = resourceOf g.axis) (gs : g.state ≠ .waiting)
    (ws : w.state = .waiting) : g.state = .easing := by
  obtain ⟨k, hk, holds, easing⟩ := h.slots.behind (resourceOf w.axis)
    (by rw [h.waiting_slot hw ws]; nofun)
  rw [e, h.holder_slot hg gs] at holds
  rwa [h.eq_of_handle hg hk (Option.some.inj holds)]

/-- R4: a holder that is not EASING has no grant waiting behind it. -/
theorem Sound.no_waiter {g : Grant} (hg : g ∈ s.grant.table) (gs : g.state ≠ .waiting)
    (ge : g.state ≠ .easing) : (slotOf (resourceOf g.axis) s).waiting = none := by
  by_contra n
  obtain ⟨w, hw⟩ := Option.ne_none_iff_exists'.mp n
  obtain ⟨k, hk, -, hr, hs⟩ := (h.slots.waiting _ _).mp hw
  exact ge (h.waits_behind hg hk hr gs hs)

end

/-! ## What a retirement makes of the state (R22) -/

theorem passSlot_free {r : Resource} {s : State} (h : (slotOf r s).waiting = none) :
    passSlot r s = setSlot r ⟨none, none⟩ s := by
  unfold passSlot
  rw [h]

theorem passSlot_promotes {r : Resource} {s : State} {k : Grant}
    (h : (slotOf r s).waiting = some k.handle) (found : findGrant k.handle s = some k) :
    passSlot r s = startGrant { k with state := .driving }
      (putGrant { k with state := .driving } (setSlot r ⟨some k.handle, none⟩ s)) := by
  unfold passSlot
  rw [h]
  dsimp only
  rw [found]

theorem slotOf_stopped (r : Resource) (a : Axis) (s : State) :
    slotOf r (panelStop a (driveEnd a s)) = slotOf r s := by
  unfold slotOf
  rw [grant_of_view ((view_panelStop a _).trans (view_driveEnd a s))]

theorem findGrant_stopped (x : Nat) (a : Axis) (s : State) :
    findGrant x (panelStop a (driveEnd a s)) = findGrant x s := by
  unfold findGrant
  rw [grant_of_view ((view_panelStop a _).trans (view_driveEnd a s))]

section
variable {s : State} (h : Sound s) {g : Grant} (hg : g ∈ s.grant.table) (r : Reason)
include h hg

/-- R22: a WAITING grant leaves the table and its place in the slot. -/
theorem retire_of_waiting (waits : g.state = .waiting) :
    retire g r s = gendDue g r (setSlot (resourceOf g.axis)
      { slotOf (resourceOf g.axis) s with waiting := none } (dropGrant g.handle s)) := by
  have other : (slotOf (resourceOf g.axis) s).holder ≠ some g.handle := by
    intro e
    obtain ⟨k, hk, kh, -, ks⟩ := (h.slots.holder _ _).mp e
    rw [h.eq_of_handle hk hg kh] at ks
    exact ks waits
  unfold retire leaveSlot
  dsimp only
  rw [slotOf_dropGrant, if_neg other, if_pos (h.waiting_slot hg waits)]

/-- R22: a holder with no grant waiting leaves the table, its axis stopped, and its slot is FREE. -/
theorem retire_of_holder (holds : g.state ≠ .waiting)
    (alone : (slotOf (resourceOf g.axis) s).waiting = none) :
    retire g r s = gendDue g r (setSlot (resourceOf g.axis) ⟨none, none⟩
      (panelStop g.axis (driveEnd g.axis (dropGrant g.handle s)))) := by
  unfold retire leaveSlot
  dsimp only
  rw [slotOf_dropGrant, if_pos (h.holder_slot hg holds), passSlot_free]
  rw [slotOf_stopped, slotOf_dropGrant]
  exact alone

/-- R22: a holder leaves the table, its axis stopped, and the grant that waits is DRIVING in its place. -/
theorem retire_of_promoting (holds : g.state ≠ .waiting) {w : Grant} (hw : w ∈ s.grant.table)
    (same : resourceOf w.axis = resourceOf g.axis) (waits : w.state = .waiting) :
    retire g r s = gendDue g r (startGrant { w with state := .driving }
      (putGrant { w with state := .driving } (setSlot (resourceOf g.axis) ⟨some w.handle, none⟩
        (panelStop g.axis (driveEnd g.axis (dropGrant g.handle s)))))) := by
  have apart : w.handle ≠ g.handle := fun e => holds (h.eq_of_handle hw hg e ▸ waits)
  have found : findGrant w.handle (dropGrant g.handle s) = some w :=
    findGrant_of_mem (h.grants.distinct.sublist (List.filter_sublist.map _))
      (mem_dropGrant.mpr ⟨hw, apart⟩)
  unfold retire leaveSlot
  dsimp only
  rw [slotOf_dropGrant, if_pos (h.holder_slot hg holds), passSlot_promotes (k := w)]
  · rw [slotOf_stopped, slotOf_dropGrant, ← same]
    exact h.waiting_slot hw waits
  · rw [findGrant_stopped]
    exact found

end

/-! ## Soundness kept -/

/-- R1, R2: records that each come from one of the old table, its handle, station and axis kept. -/
theorem grantsOk_of_origins {s t : State} (h : GrantsOk s)
    (records : ∀ g ∈ t.grant.table, GrantOk g)
    (room : t.grant.table.length ≤ s.grant.table.length)
    (distinct : (t.grant.table.map (·.handle)).Nodup)
    (origins : ∀ g ∈ t.grant.table, ∃ k ∈ s.grant.table,
      k.handle = g.handle ∧ k.station = g.station ∧ k.axis = g.axis) : GrantsOk t := by
  refine ⟨records, room.trans h.room, distinct, fun g hg k hk st rs => ?_⟩
  obtain ⟨x, hx, xh, xs, xa⟩ := origins g hg
  obtain ⟨y, hy, yh, ys, ya⟩ := origins k hk
  have same : x = y := h.single x hx y hy (xs.trans (st.trans ys.symm)) (by rw [xa, ya]; exact rs)
  exact List.inj_on_of_nodup_map distinct hg hk (xh.symm.trans (same ▸ yh))

/-- R4: the slots agree with the table where one resource's do and the others are as they were. -/
theorem slotsOk_of_local {s t : State} (h : Sound s) (r : Resource)
    (apart : ∀ g, resourceOf g.axis ≠ r → (g ∈ t.grant.table ↔ g ∈ s.grant.table))
    (slots : ∀ q, q ≠ r → slotOf q t = slotOf q s)
    (holder : ∀ x, (slotOf r t).holder = some x ↔
      ∃ g ∈ t.grant.table, g.handle = x ∧ resourceOf g.axis = r ∧ g.state ≠ .waiting)
    (waiting : ∀ x, (slotOf r t).waiting = some x ↔
      ∃ g ∈ t.grant.table, g.handle = x ∧ resourceOf g.axis = r ∧ g.state = .waiting)
    (behind : (slotOf r t).waiting ≠ none →
      ∃ g ∈ t.grant.table, (slotOf r t).holder = some g.handle ∧ g.state = .easing) : SlotsOk t := by
  refine ⟨fun q x => ?_, fun q x => ?_, fun q n => ?_⟩
  · by_cases e : q = r
    · subst e; exact holder x
    · rw [slots q e, h.slots.holder]
      exact exists_congr fun g => by
        by_cases c : resourceOf g.axis = q
        · rw [apart g (by rw [c]; exact e)]
        · simp [c]
  · by_cases e : q = r
    · subst e; exact waiting x
    · rw [slots q e, h.slots.waiting]
      exact exists_congr fun g => by
        by_cases c : resourceOf g.axis = q
        · rw [apart g (by rw [c]; exact e)]
        · simp [c]
  · by_cases e : q = r
    · subst e; exact behind n
    · rw [slots q e] at n ⊢
      obtain ⟨g, hg, holds, easing⟩ := h.slots.behind q n
      obtain ⟨k, hk, kh, kr, -⟩ := (h.slots.holder q _).mp holds
      obtain rfl := h.eq_of_handle hk hg kh
      exact ⟨k, (apart k (by rw [kr]; exact e)).mpr hk, holds, easing⟩

/-- R1, R2, R4: a record changed in its place, on its axis and for its station. -/
theorem sound_putGrant {s : State} (h : Sound s) {g k : Grant} (hk : k ∈ s.grant.table)
    (handle : k.handle = g.handle) (station : k.station = g.station) (axis : k.axis = g.axis)
    (ok : GrantOk g) (waits : g.state = .waiting ↔ k.state = .waiting)
    (eases : k.state = .easing → g.state = .easing) : Sound (putGrant g s) := by
  have put : g ∈ (putGrant g s).grant.table := mem_putGrant_self hk handle
  have other {x : Grant} (hx : x ∈ s.grant.table) (n : x ≠ k) :
      x ∈ (putGrant g s).grant.table :=
    mem_putGrant_of_ne hx fun e => n (h.eq_of_handle hx hk (e.trans handle.symm))
  refine ⟨grantsOk_of_origins h.grants (fun x hx => ?_) (List.length_map _).le
    (by rw [putGrant_handles]; exact h.grants.distinct) (fun x hx => ?_), ⟨fun r x => ?_, fun r x => ?_,
    fun r n => ?_⟩⟩
  · rcases mem_putGrant hx with rfl | ⟨hx, -⟩
    · exact ok
    · exact h.grants.records x hx
  · rcases mem_putGrant hx with rfl | ⟨hx, -⟩
    · exact ⟨k, hk, handle, station, axis⟩
    · exact ⟨x, hx, rfl, rfl, rfl⟩
  · rw [slotOf_putGrant, h.slots.holder]
    constructor
    · rintro ⟨y, hy, yh, yr, ys⟩
      by_cases e : y = k
      · subst e
        exact ⟨g, put, by rw [← handle, yh], by rw [← axis, yr], fun c => ys (waits.mp c)⟩
      · exact ⟨y, other hy e, yh, yr, ys⟩
    · rintro ⟨y, hy, yh, yr, ys⟩
      rcases mem_putGrant hy with rfl | ⟨hy, -⟩
      · exact ⟨k, hk, by rw [handle, yh], by rw [axis, yr], fun c => ys (waits.mpr c)⟩
      · exact ⟨y, hy, yh, yr, ys⟩
  · rw [slotOf_putGrant, h.slots.waiting]
    constructor
    · rintro ⟨y, hy, yh, yr, ys⟩
      by_cases e : y = k
      · subst e
        exact ⟨g, put, by rw [← handle, yh], by rw [← axis, yr], waits.mpr ys⟩
      · exact ⟨y, other hy e, yh, yr, ys⟩
    · rintro ⟨y, hy, yh, yr, ys⟩
      rcases mem_putGrant hy with rfl | ⟨hy, -⟩
      · exact ⟨k, hk, by rw [handle, yh], by rw [axis, yr], waits.mp ys⟩
      · exact ⟨y, hy, yh, yr, ys⟩
  · obtain ⟨y, hy, holds, easing⟩ := h.slots.behind r n
    by_cases e : y = k
    · subst e
      exact ⟨g, put, by rw [slotOf_putGrant, holds, handle], eases easing⟩
    · exact ⟨y, other hy e, holds, easing⟩

/-- R1: records out of the table leave the rest sound. -/
theorem grantsOk_of_filter {s t : State} (h : GrantsOk s) {p : Grant → Bool}
    (e : t.grant.table = s.grant.table.filter p) : GrantsOk t := by
  have sub {g : Grant} (hg : g ∈ t.grant.table) : g ∈ s.grant.table := by
    rw [e] at hg
    exact (List.mem_filter.mp hg).1
  refine grantsOk_of_origins h (fun g hg => h.records g (sub hg)) ?_ ?_
    fun g hg => ⟨g, sub hg, rfl, rfl, rfl⟩
  · rw [e]
    exact List.length_filter_le _ _
  · rw [e]
    exact h.distinct.sublist (List.filter_sublist.map _)

/-- R4, R22: a grant that waits has a record a promotion makes DRIVING. -/
theorem grantOk_promoted {w : Grant} (ok : GrantOk w) (waits : w.state = .waiting) :
    GrantOk { w with state := .driving } := by
  obtain ⟨handle, demand, fixed, reason, deadman, pause⟩ := ok
  refine ⟨handle, demand, fixed, ?_, ?_, ?_⟩ <;> simp_all

section
variable {s : State} (h : Sound s) {g : Grant} (hg : g ∈ s.grant.table)
include h hg

/-- A grant on another resource than a retired one's stays. -/
theorem mem_drop_apart {x : Grant} (n : resourceOf x.axis ≠ resourceOf g.axis) :
    x ∈ (dropGrant g.handle s).grant.table ↔ x ∈ s.grant.table := by
  rw [mem_dropGrant]
  exact ⟨And.left, fun hx => ⟨hx, fun e => n (by rw [h.eq_of_handle hx hg e])⟩⟩

theorem sound_drop_waiting (waits : g.state = .waiting) : Sound (setSlot (resourceOf g.axis)
    { slotOf (resourceOf g.axis) s with waiting := none } (dropGrant g.handle s)) := by
  refine ⟨grantsOk_of_filter h.grants rfl, slotsOk_of_local h (resourceOf g.axis)
    (fun x n => mem_drop_apart h hg n) (fun q n => by rw [slotOf_setSlot, if_neg n]; rfl)
    (fun x => ?_) (fun x => ?_) fun n => ?_⟩
  · rw [slotOf_setSlot, if_pos rfl, setSlot_table, h.slots.holder]
    exact exists_congr fun y => ⟨fun ⟨hy, yh, yr, ys⟩ => ⟨mem_dropGrant.mpr ⟨hy, fun e =>
      ys (h.eq_of_handle hy hg e ▸ waits)⟩, yh, yr, ys⟩,
      fun ⟨hy, rest⟩ => ⟨(mem_dropGrant.mp hy).1, rest⟩⟩
  · rw [slotOf_setSlot, if_pos rfl, setSlot_table]
    refine ⟨nofun, ?_⟩
    rintro ⟨y, hy, -, yr, ys⟩
    obtain ⟨hy, n⟩ := mem_dropGrant.mp hy
    exact absurd (congrArg Grant.handle (h.waiter_unique hy hg yr ys waits)) n
  · rw [slotOf_setSlot, if_pos rfl] at n
    exact absurd rfl n

theorem sound_drop_holder (holds : g.state ≠ .waiting)
    (alone : (slotOf (resourceOf g.axis) s).waiting = none) {t : State}
    (e : t.grant = (setSlot (resourceOf g.axis) ⟨none, none⟩ (dropGrant g.handle s)).grant) :
    Sound t := by
  refine Sound.of_grant ?_ e
  refine ⟨grantsOk_of_filter h.grants rfl, slotsOk_of_local h (resourceOf g.axis)
    (fun x n => mem_drop_apart h hg n) (fun q n => by rw [slotOf_setSlot, if_neg n]; rfl)
    (fun x => ?_) (fun x => ?_) fun n => ?_⟩
  · rw [slotOf_setSlot, if_pos rfl, setSlot_table]
    refine ⟨nofun, ?_⟩
    rintro ⟨y, hy, -, yr, ys⟩
    obtain ⟨hy, n⟩ := mem_dropGrant.mp hy
    exact absurd (congrArg Grant.handle (h.holder_unique hy hg yr ys holds)) n
  · rw [slotOf_setSlot, if_pos rfl, setSlot_table]
    refine ⟨nofun, ?_⟩
    rintro ⟨y, hy, -, yr, ys⟩
    have waits := h.waiting_slot (mem_dropGrant.mp hy).1 ys
    rw [yr, alone] at waits
    cases waits
  · rw [slotOf_setSlot, if_pos rfl] at n
    exact absurd rfl n

theorem sound_drop_promoting (holds : g.state ≠ .waiting) {w : Grant} (hw : w ∈ s.grant.table)
    (same : resourceOf w.axis = resourceOf g.axis) (waits : w.state = .waiting) {t : State}
    (e : t.grant = (putGrant { w with state := .driving } (setSlot (resourceOf g.axis)
      ⟨some w.handle, none⟩ (dropGrant g.handle s))).grant) : Sound t := by
  refine Sound.of_grant ?_ e
  have apart : w.handle ≠ g.handle := fun c => holds (h.eq_of_handle hw hg c ▸ waits)
  have dropped : w ∈ (dropGrant g.handle s).grant.table := mem_dropGrant.mpr ⟨hw, apart⟩
  have put := mem_putGrant_self (g := { w with state := .driving })
    (s := setSlot (resourceOf g.axis) ⟨some w.handle, none⟩ (dropGrant g.handle s)) dropped rfl
  have mem {x : Grant} (hx : x ∈ (putGrant { w with state := .driving } (setSlot (resourceOf g.axis)
      ⟨some w.handle, none⟩ (dropGrant g.handle s))).grant.table) :
      x = { w with state := .driving } ∨ (x ∈ s.grant.table ∧ x ≠ g ∧ x ≠ w) := by
    rcases mem_putGrant hx with rfl | ⟨hx, n⟩
    · exact .inl rfl
    · obtain ⟨hx, m⟩ := mem_dropGrant.mp hx
      exact .inr ⟨hx, fun c => m (by rw [c]), fun c => n (by rw [c])⟩
  refine ⟨grantsOk_of_origins h.grants (fun x hx => ?_) ?_ ?_ fun x hx => ?_,
    slotsOk_of_local h (resourceOf g.axis) (fun x n => ⟨fun hx => ?_, fun hx => ?_⟩)
      (fun q n => ?_) (fun x => ?_) (fun x => ?_) fun n => ?_⟩
  · rcases mem hx with rfl | ⟨hx, -⟩
    · exact grantOk_promoted (h.grants.records w hw) waits
    · exact h.grants.records x hx
  · exact (List.length_map _).trans_le (List.length_filter_le _ _)
  · rw [putGrant_handles]
    exact h.grants.distinct.sublist (List.filter_sublist.map _)
  · rcases mem hx with rfl | ⟨hx, -⟩
    · exact ⟨w, hw, rfl, rfl, rfl⟩
    · exact ⟨x, hx, rfl, rfl, rfl⟩
  · rcases mem hx with rfl | ⟨hx, -⟩
    · exact absurd same n
    · exact hx
  · exact mem_putGrant_of_ne ((mem_drop_apart h hg n).mpr hx) fun c =>
      n (by rw [h.eq_of_handle hx hw c]; exact same)
  · rw [slotOf_putGrant, slotOf_setSlot, if_neg n]
    rfl
  · rw [slotOf_putGrant, slotOf_setSlot, if_pos rfl]
    constructor
    · intro c
      exact ⟨_, put, Option.some.inj c, same, nofun⟩
    · rintro ⟨y, hy, rfl, yr, ys⟩
      rcases mem hy with rfl | ⟨hy, n, -⟩
      · rfl
      · exact absurd (h.holder_unique hy hg yr ys holds) n
  · rw [slotOf_putGrant, slotOf_setSlot, if_pos rfl]
    refine ⟨nofun, ?_⟩
    rintro ⟨y, hy, -, yr, ys⟩
    rcases mem hy with rfl | ⟨hy, -, n⟩
    · cases ys
    · exact absurd (h.waiter_unique hy hw (yr.trans same.symm) ys waits) n
  · rw [slotOf_putGrant, slotOf_setSlot, if_pos rfl] at n
    exact absurd rfl n

/-- R22: the retirement of a live grant keeps the table and the slots sound. -/
theorem sound_retire (r : Reason) : Sound (retire g r s) := by
  by_cases waits : g.state = .waiting
  · rw [retire_of_waiting h hg r waits]
    exact (sound_drop_waiting h hg waits).of_grant (grant_of_view (view_gendDue _ _ _))
  · cases e : (slotOf (resourceOf g.axis) s).waiting with
    | none =>
      rw [retire_of_holder h hg r waits e]
      refine sound_drop_holder h hg waits e ?_
      rw [grant_of_view (view_gendDue _ _ _)]
      show ({ (panelStop _ _).grant with slots := _ } : GrantEngine) = _
      rw [grant_of_view ((view_panelStop _ _).trans (view_driveEnd _ _))]
      rfl
    | some x =>
      obtain ⟨w, hw, rfl, same, ws⟩ := (h.slots.waiting _ _).mp e
      rw [retire_of_promoting h hg r waits hw same ws]
      refine sound_drop_promoting h hg waits hw same ws ?_
      rw [grant_of_view ((view_gendDue _ _ _).trans (view_startGrant _ _))]
      simp only [putGrant, setSlot, State.setGrant_grant,
        grant_of_view ((view_panelStop _ _).trans (view_driveEnd _ _))]

end

/-! ## Endings, pauses, resumptions, renewals -/

/-- R10: the record of a grant that enters EASING. -/
theorem grantOk_eased {g : Grant} (ok : GrantOk g) (r : Reason) : GrantOk (eased g r) := by
  obtain ⟨handle, demand, fixed, -, -, -⟩ := ok
  exact ⟨handle, demand, fixed, by simp [eased], by simp [eased], by simp [eased]⟩

/-- R10: a retirement sees a grant's handle, station and axis alone. -/
theorem retire_eased (g : Grant) (r q : Reason) (s : State) :
    retire (eased g r) q s = retire g q s := rfl

theorem sound_putEased {s : State} (h : Sound s) {g : Grant} (hg : g ∈ s.grant.table)
    (active : g.state ≠ .waiting) (r : Reason) : Sound (putGrant (eased g r) s) :=
  sound_putGrant h hg rfl rfl rfl (grantOk_eased (h.grants.records g hg) r)
    (by simp [eased, active]) fun _ => rfl

theorem sound_ease {s : State} (h : Sound s) {g : Grant} (hg : g ∈ s.grant.table)
    (active : g.state ≠ .waiting) (r : Reason) : Sound (ease g r s) := by
  obtain ⟨u, hu, e⟩ := ease_cases g r s
  have su : Sound u := (sound_putEased h hg active r).of_grant hu
  rcases e with e | e <;> rw [e]
  · exact su
  · rw [← retire_eased]
    exact sound_retire su (by rw [hu]; exact mem_putGrant_self hg rfl) r

theorem sound_pauseGrant {s : State} (h : Sound s) {g : Grant} (hg : g ∈ s.grant.table)
    (drives : g.state = .driving) : Sound (pauseGrant g s) := by
  obtain ⟨handle, demand, fixed, reason, -, -⟩ := h.grants.records g hg
  refine Sound.of_grant (sound_putGrant (g := { g with
    state := .paused, deadman := none, pause := some s.config.pauseWindow }) h hg rfl rfl rfl ?_
    (by simp [drives]) (by simp [drives]))
    (grant_of_view ((view_panelWindDown _ _).trans (view_gatedStop _ _)))
  exact ⟨handle, demand, fixed, by simpa [drives] using reason, by simp, by simp⟩

theorem sound_resumeGrant {s : State} (h : Sound s) {g : Grant} (hg : g ∈ s.grant.table)
    (paused : g.state = .paused) : Sound (resumeGrant g s) := by
  obtain ⟨handle, demand, fixed, reason, -, -⟩ := h.grants.records g hg
  refine Sound.of_grant (sound_putGrant (g := { g with
    state := .driving, pause := none, deadman := fullDeadman g.kind s }) h hg rfl rfl rfl ?_
    (by simp [paused]) (by simp [paused])) (grant_of_view (view_panelResume _ _))
  refine ⟨handle, demand, fixed, by simpa [paused] using reason, ?_, by simp⟩
  cases e : g.kind <;> simp [fullDeadman]

theorem filterDemand_le {h held new : Nat} (le : held ≤ 1000) : filterDemand h held new ≤ 1000 := by
  unfold filterDemand
  dsimp only
  split
  · exact Nat.min_le_left _ _
  · exact le

theorem grantOk_kept {g : Grant} (ok : GrantOk g) (d : Nat) (s : State)
    (runs : g.state = .waiting ∨ g.state = .driving) : GrantOk (keptGrant g d s) := by
  unfold keptGrant
  split
  · exact ok
  · next kind =>
    obtain ⟨handle, demand, fixed, reason, -, pause⟩ := ok
    refine ⟨handle, ?_, fun e => ?_, reason, by simp [kind, runs], pause⟩
    · dsimp only
      split
      · exact filterDemand_le demand
      · exact demand
    · dsimp only at e ⊢
      rw [if_neg (by rw [e]; nofun)]
      exact fixed e

/-- R16: a KEEP changes the demand and the deadman of a record alone. -/
theorem keptGrant_same (g : Grant) (d : Nat) (s : State) :
    (keptGrant g d s).handle = g.handle ∧ (keptGrant g d s).station = g.station ∧
      (keptGrant g d s).axis = g.axis ∧ (keptGrant g d s).state = g.state := by
  unfold keptGrant
  split <;> exact ⟨rfl, rfl, rfl, rfl⟩

theorem sound_keep {s : State} (h : Sound s) {g : Grant} (hg : g ∈ s.grant.table) (d : Nat)
    (runs : g.state = .waiting ∨ g.state = .driving) : Sound (putGrant (keptGrant g d s) s) := by
  obtain ⟨handle, station, axis, state⟩ := keptGrant_same g d s
  exact sound_putGrant h hg handle.symm station.symm axis.symm
    (grantOk_kept (h.grants.records g hg) d s runs) (by rw [state]) (fun e => by rw [state, e])

/-! ## Requests (R5 to R7) -/

/-- R6, R7: a record joins the table, in the place of its resource's slot that is its own. -/
theorem sound_add {s t : State} (h : Sound s) {g : Grant} {v : Slot} (ok : GrantOk g)
    (fresh : ∀ k ∈ s.grant.table, k.handle ≠ g.handle) (room : s.grant.table.length < maxGrants)
    (single : ∀ k ∈ s.grant.table, k.station = g.station → resourceOf k.axis ≠ resourceOf g.axis)
    (e : t.grant = { table := s.grant.table ++ [g], lastHandle := g.handle
                     slots := s.grant.slots.set (resourceOf g.axis) v })
    (holder : ∀ x, v.holder = some x ↔ (slotOf (resourceOf g.axis) s).holder = some x ∨
      (g.handle = x ∧ g.state ≠ .waiting))
    (waiting : ∀ x, v.waiting = some x ↔ (slotOf (resourceOf g.axis) s).waiting = some x ∨
      (g.handle = x ∧ g.state = .waiting))
    (behind : v.waiting ≠ none → ∃ k ∈ s.grant.table, v.holder = some k.handle ∧ k.state = .easing) :
    Sound t := by
  have mem {x : Grant} : x ∈ t.grant.table ↔ x ∈ s.grant.table ∨ x = g := by
    rw [e, List.mem_append, List.mem_singleton]
  have slot (r : Resource) : slotOf r t = if r = resourceOf g.axis then v else slotOf r s := by
    unfold slotOf
    rw [e]
    exact PerResource.get_set ..
  refine ⟨⟨fun x hx => ?_, ?_, ?_, fun x hx y hy st rs => ?_⟩,
    slotsOk_of_local h (resourceOf g.axis) (fun x n => ?_) (fun q n => by rw [slot, if_neg n])
      (fun x => ?_) (fun x => ?_) fun n => ?_⟩
  · rcases mem.mp hx with hx | rfl
    · exact h.grants.records x hx
    · exact ok
  · rw [e, List.length_append]
    exact room
  · rw [e, List.map_append]
    refine List.Nodup.append h.grants.distinct (by simp) fun x hx hy => ?_
    obtain ⟨k, hk, rfl⟩ := List.mem_map.mp hx
    exact fresh k hk (by simpa using hy)
  · rcases mem.mp hx with hx | rfl <;> rcases mem.mp hy with hy | rfl
    · exact h.grants.single x hx y hy st rs
    · exact absurd rs (single x hx st)
    · exact absurd rs.symm (single y hy st.symm)
    · rfl
  · rw [mem]
    exact ⟨fun c => c.resolve_right fun c => n (by rw [c]), .inl⟩
  · rw [slot, if_pos rfl, holder, h.slots.holder]
    constructor
    · rintro (⟨y, hy, rest⟩ | ⟨rfl, gs⟩)
      · exact ⟨y, mem.mpr (.inl hy), rest⟩
      · exact ⟨g, mem.mpr (.inr rfl), rfl, rfl, gs⟩
    · rintro ⟨y, hy, yh, yr, ys⟩
      rcases mem.mp hy with hy | rfl
      · exact .inl ⟨y, hy, yh, yr, ys⟩
      · exact .inr ⟨yh, ys⟩
  · rw [slot, if_pos rfl, waiting, h.slots.waiting]
    constructor
    · rintro (⟨y, hy, rest⟩ | ⟨rfl, gs⟩)
      · exact ⟨y, mem.mpr (.inl hy), rest⟩
      · exact ⟨g, mem.mpr (.inr rfl), rfl, rfl, gs⟩
    · rintro ⟨y, hy, yh, yr, ys⟩
      rcases mem.mp hy with hy | rfl
      · exact .inl ⟨y, hy, yh, yr, ys⟩
      · exact .inr ⟨yh, ys⟩
  · rw [slot, if_pos rfl] at n ⊢
    obtain ⟨k, hk, rest⟩ := behind n
    exact ⟨k, mem.mpr (.inl hk), rest⟩

/-- R6: the slot's answer in a sound state, with the grants it rests on: FREE, a holder that is EASING, a
DRIVING or PAUSED holder of lower rank, or a waiting grant of lower rank. -/
theorem decideSlot_cases {s : State} (h : Sound s) (r : Resource) (rank : Nat) :
    match decideSlot r rank s with
    | .grant => (slotOf r s).holder = none ∧ (slotOf r s).waiting = none
    | .queue => (slotOf r s).waiting = none ∧ ∃ g ∈ s.grant.table,
        (slotOf r s).holder = some g.handle ∧ g.state = .easing
    | .preempt g => (slotOf r s).waiting = none ∧ g ∈ s.grant.table ∧
        (slotOf r s).holder = some g.handle ∧ (g.state = .driving ∨ g.state = .paused)
    | .displace w => w ∈ s.grant.table ∧ (slotOf r s).waiting = some w.handle ∧
        ∃ g ∈ s.grant.table, (slotOf r s).holder = some g.handle ∧ g.state = .easing
    | .refuse => True := by
  have holders {x : Nat} (hx : (slotOf r s).holder = some x) :
      ∃ g ∈ s.grant.table, g.handle = x ∧ g.state ≠ .waiting ∧ findGrant x s = some g := by
    obtain ⟨g, hg, rfl, -, gs⟩ := (h.slots.holder r x).mp hx
    exact ⟨g, hg, rfl, gs, h.find hg⟩
  unfold decideSlot
  cases hw : (slotOf r s).waiting with
  | some x =>
    obtain ⟨w, hm, rfl, -, -⟩ := (h.slots.waiting r x).mp hw
    simp only [Option.bind_some, h.find hm]
    by_cases c : rankOf w.station s < rank
    · rw [if_pos c]
      obtain ⟨g, hg, holds, easing⟩ := h.slots.behind r (by rw [hw]; nofun)
      exact ⟨hm, rfl, g, hg, holds, easing⟩
    · rw [if_neg c]
      trivial
  | none =>
    simp only [Option.bind_none]
    cases hh : (slotOf r s).holder with
    | none => exact ⟨rfl, trivial⟩
    | some x =>
      obtain ⟨g, hg, rfl, gs, found⟩ := holders hh
      simp only [Option.bind_some, found]
      cases st : g.state with
      | waiting => exact absurd st gs
      | easing => exact ⟨trivial, g, hg, rfl, st⟩
      | driving | paused =>
        by_cases c : rankOf g.station s < rank
        · simp only [if_pos c]
          exact ⟨trivial, hg, trivial, by simp [st]⟩
        · simp only [if_neg c]

/-- R5: what a request passes that no check before the slot's refuses. -/
theorem room_of_requestRefusal {s : State} {l : Link} {a : Axis} {n : Sense} {k : RunKind}
    (e : requestRefusal l a n k s = none) : s.mode.mode = .run ∧ s.grant.table.length < maxGrants ∧
      ∀ g ∈ s.grant.table, g.station = l → resourceOf g.axis ≠ resourceOf a := by
  obtain ⟨m, room⟩ := mayMove_of_requestRefusal e
  refine ⟨m.1, room, fun g hg st rs => ?_⟩
  have has : stationHasGrant l (resourceOf a) s = true :=
    List.any_eq_true.mpr ⟨g, hg, by simp [st, rs]⟩
  unfold requestRefusal at e
  simp only [has] at e
  repeat' split at e
  all_goals first | exact absurd trivial ‹¬True› | cases e

theorem grantOk_new {s : State} (room : s.grant.table.length < 255) (l : Link) (a : Axis)
    (n : Sense) (k : RunKind) (d : Nat) {st : GrantState} (live : st = .waiting ∨ st = .driving) :
    GrantOk (newGrant l a n k d st s) := by
  have range := (allocate_fresh (s.grant.table.map (·.handle)) s.grant.lastHandle
    (by simpa using room)).2
  refine ⟨range, ?_, fun e => ?_, ?_, ?_, ?_⟩
  · simp only [newGrant]
    split
    · exact Nat.min_le_left _ _
    · exact Nat.le_refl _
  · simp only [newGrant] at e ⊢
    rw [if_neg (by rw [e]; nofun)]
  · rcases live with rfl | rfl <;> simp [newGrant]
  · cases k <;> simp [newGrant, fullDeadman, live]
  · rcases live with rfl | rfl <;> simp [newGrant]

/-- R6: a request that no check refuses keeps the table and the slots sound, whatever the slot answers. -/
theorem sound_takeRequest {s : State} (h : Sound s) {l : Link} {a : Axis} {n : Sense} {k : RunKind}
    (d : Nat) (e : requestRefusal l a n k s = none) : Sound (takeRequest l a n k d s).1 := by
  obtain ⟨-, room, single⟩ := room_of_requestRefusal e
  have few : s.grant.table.length < 255 := Nat.lt_of_lt_of_le room (by decide)
  have answer := decideSlot_cases h (resourceOf a) (rankOf l s)
  have queued {u : State} (hu : Sound u) (few : u.grant.table.length < 255)
      (single : ∀ g ∈ u.grant.table, g.station = l → resourceOf g.axis ≠ resourceOf a)
      (room : u.grant.table.length < maxGrants) (waiting : (slotOf (resourceOf a) u).waiting = none)
      (behind : ∃ g ∈ u.grant.table, (slotOf (resourceOf a) u).holder = some g.handle ∧
        g.state = .easing) : Sound (queueGrant (newGrant l a n k d .waiting u) u) := by
    refine sound_add hu (grantOk_new few l a n k d (.inl rfl))
      (newGrant_fresh few l a n k d .waiting) room single
      (v := { slotOf (resourceOf a) u with waiting := some (newGrant l a n k d .waiting u).handle })
      rfl (fun x => ?_) (fun x => ?_) fun _ => behind
    · simp [newGrant]
    · simp [newGrant, waiting]
  unfold takeRequest
  cases c : decideSlot (resourceOf a) (rankOf l s) s with
  | refuse => exact h
  | grant =>
    rw [c] at answer
    obtain ⟨holder, waiting⟩ := answer
    refine sound_add h (grantOk_new few l a n k d (.inr rfl)) (newGrant_fresh few l a n k d .driving)
      room single (v := ⟨some (newGrant l a n k d .driving s).handle, none⟩)
      (grant_of_view (view_startGrant _ _)) (fun x => ?_) (fun x => ?_) fun n => absurd rfl n
    · simp [newGrant, holder]
    · simp [newGrant, waiting]
  | queue =>
    rw [c] at answer
    obtain ⟨waiting, behind⟩ := answer
    exact queued h few single room waiting behind
  | preempt g =>
    rw [c] at answer
    obtain ⟨waiting, hg, holds, active⟩ := answer
    have gw : g.state ≠ .waiting := by rcases active with e | e <;> rw [e] <;> nofun
    obtain ⟨u, hu, eq⟩ := ease_cases g .preempted
      (queueGrant (newGrant l a n k d .waiting s) s)
    have fresh := newGrant_fresh few l a n k d .waiting
    have same : newGrant l a n k d .waiting s =
        newGrant l a n k d .waiting (putGrant (eased g .preempted) s) := by
      unfold newGrant
      rw [putGrant_handles]
      rfl
    have swapped : u.grant = (queueGrant (newGrant l a n k d .waiting (putGrant (eased g .preempted) s))
        (putGrant (eased g .preempted) s)).grant := by
      rw [hu, ← same]
      simp only [queueGrant, setSlot, addGrant, putGrant, State.setGrant_grant, slotOf,
        List.map_append, List.map_cons, List.map_nil]
      rw [if_neg fun e => fresh g hg e.symm]
    have su : Sound u := by
      refine Sound.of_grant ?_ swapped
      refine queued (sound_putEased h hg gw _) (by simpa using few) ?_ (by simpa using room)
        (by simpa using waiting) ⟨_, mem_putGrant_self hg rfl, holds, rfl⟩
      intro x hx
      rcases mem_putGrant hx with rfl | ⟨hx, -⟩
      · exact single g hg
      · exact single x hx
    have live : eased g .preempted ∈ u.grant.table := by
      rw [hu]
      exact mem_putGrant_self (List.mem_append_left _ hg) rfl
    dsimp only
    rcases eq with eq | eq <;> rw [eq]
    · exact su
    · rw [← retire_eased g .preempted]
      exact sound_retire su live _
  | displace w =>
    rw [c] at answer
    obtain ⟨hw, waiting, g, hg, holds, easing⟩ := answer
    have waits : w.state = .waiting ∧ resourceOf w.axis = resourceOf a := h.slotted.waits hw waiting
    have gw : g.state ≠ .waiting := by rw [easing]; nofun
    have eq := retire_of_waiting h hw .preempted waits.1
    have grant : (retire w .preempted s).grant = (setSlot (resourceOf w.axis)
        { slotOf (resourceOf w.axis) s with waiting := none } (dropGrant w.handle s)).grant := by
      rw [eq, grant_of_view (view_gendDue _ _ _)]
    have slot : slotOf (resourceOf a) (retire w .preempted s) =
        { slotOf (resourceOf a) s with waiting := none } := by
      rw [← waits.2]
      unfold slotOf
      rw [grant]
      exact PerResource.get_set_same ..
    have kept {x : Grant} (hx : x ∈ (retire w .preempted s).grant.table) : x ∈ s.grant.table := by
      rw [grant] at hx
      exact (mem_dropGrant.mp hx).1
    have length := retire_length w .preempted s
    refine queued (sound_retire h hw _) (by omega) (fun x hx => single x (kept hx)) (by omega)
      (by rw [slot]) ⟨g, ?_, by rw [slot]; exact holds, easing⟩
    rw [grant]
    exact mem_dropGrant.mpr ⟨hg, fun e => gw (by rw [h.eq_of_handle hg hw e]; exact waits.1)⟩

end Sys2Proof.Machine.Steps
end

section
/-! The outputs and the quiet modes through each change of a live grant (R29, R90, R111), and so through every
step. -/

namespace Sys2Proof.Machine.Steps

open Motion

/-! ## What a reaction leaves of the outputs -/

/-- No output and no duty has risen. -/
structure Lowers (s t : State) : Prop where
  output : ∀ a, t.drive.output.get a ≤ s.drive.output.get a
  duty : ∀ m, t.drive.duty.get m ≤ s.drive.duty.get m

theorem Lowers.trans {s t u : State} (h : Lowers s t) (k : Lowers t u) : Lowers s u :=
  ⟨fun a => (k.output a).trans (h.output a), fun m => (k.duty m).trans (h.duty m)⟩

theorem lowers_of_drive {s t : State} (output : t.drive.output = s.drive.output)
    (duty : t.drive.duty = s.drive.duty) : Lowers s t :=
  ⟨fun a => by rw [output], fun m => by rw [duty]⟩

theorem Lowers.refl (s : State) : Lowers s s := lowers_of_drive rfl rfl

theorem Lowers.outputsOk {s t : State} (h : Lowers s t) (o : OutputsOk s) : OutputsOk t :=
  ⟨fun a => (h.output a).trans (o.output a), fun m => (h.duty m).trans (o.duty m)⟩

/-! ## The panel sequencer's operations touch the panel alone (Chapter 6) -/

section
variable (s : State)

theorem putPanel_frame (m : Motor) (p : PanelRecord) :
    putPanel m p s = s.setPanel (putPanel m p s).panel := rfl

theorem putLatch_frame (d : Door) (r : LatchRecord) :
    putLatch d r s = s.setPanel (putLatch d r s).panel := rfl

theorem startDoor_frame (d : Door) (g : Grant) :
    startDoor d g s = s.setPanel (startDoor d g s).panel := by
  unfold startDoor
  dsimp only
  repeat' split
  all_goals rfl

/-- R116: a sequence's start. -/
theorem panelStart_frame (g : Grant) : panelStart g s = s.setPanel (panelStart g s).panel := by
  unfold panelStart
  split
  · rfl
  · exact startDoor_frame s _ g
  · exact startDoor_frame s _ g
  all_goals rfl

/-- R120: a sequence wound down. -/
theorem panelWindDown_frame (a : Axis) :
    panelWindDown a s = s.setPanel (panelWindDown a s).panel := by
  unfold panelWindDown
  dsimp only
  repeat' split
  all_goals rfl

/-- R120: a sequence resumed. -/
theorem panelResume_frame (a : Axis) : panelResume a s = s.setPanel (panelResume a s).panel := by
  have door (d : Door) : resumeDoor d s = s.setPanel (resumeDoor d s).panel := by
    unfold resumeDoor meetFrame
    dsimp only
    repeat' split
    all_goals rfl
  cases a <;> first | rfl | exact door _

/-- R121: a sequence stopped. -/
theorem panelStop_frame (a : Axis) : panelStop a s = s.setPanel (panelStop a s).panel := by
  unfold panelStop
  dsimp only
  repeat' split
  all_goals rfl

end

/-! ## What starts, ends and stops a drive (R101 to R103) -/

/-- R101: the drive shaper after the start of a grant. -/
theorem driveStart_drive (g : Grant) (s : State) : (driveStart g s).drive = { s.drive with
    driving := s.drive.driving.set g.axis (some ⟨g.handle, g.station, g.sense⟩)
    pumpClosed := s.drive.pumpClosed || pumpSense g.axis g.sense
    startDelay := if pumpSense g.axis g.sense then s.drive.startDelay.set g.axis (some 150)
                  else s.drive.startDelay
    d1 := if g.axis = .tilt then some g.sense else s.drive.d1
    d2 := if g.axis = .fold then some g.sense else s.drive.d2
    foldTravel := if g.axis = .fold then some 0 else s.drive.foldTravel
    direction :=
      match motorOf g.axis with
      | some m => s.drive.direction.set m (some g.sense)
      | none => s.drive.direction } := by
  unfold driveStart
  cases g.axis <;> cases g.sense <;>
    simp [pumpSense, setDiverter, motorOf, startDelayMs]

theorem driveStart_frame (g : Grant) (s : State) :
    driveStart g s = s.setDrive (driveStart g s).drive := rfl

theorem startGrant_drive (g : Grant) (s : State) :
    (startGrant g s).drive = (driveStart g s).drive := by
  unfold startGrant
  rw [panelStart_frame]
  rfl

theorem Lowers.rebase {s t u : State} (h : Lowers t u) (e : t.drive = s.drive) : Lowers s u :=
  ⟨by rw [← e]; exact h.output, by rw [← e]; exact h.duty⟩

theorem lowers_startGrant (g : Grant) (s : State) : Lowers s (startGrant g s) :=
  lowers_of_drive (by rw [startGrant_drive, driveStart_drive])
    (by rw [startGrant_drive, driveStart_drive])

theorem zeroAxis_output (a : Axis) (d : DriveShaper) :
    (zeroAxis a d).output = d.output.set a 0 := by cases a <;> rfl

theorem zeroAxis_duty (a : Axis) (d : DriveShaper) : (zeroAxis a d).duty =
    match motorOf a with
    | some m => d.duty.set m 0
    | none => d.duty := by cases a <;> rfl

theorem driveEnd_output (a : Axis) (s : State) :
    (driveEnd a s).drive.output = s.drive.output.set a 0 := by
  cases a <;> rfl

theorem driveEnd_duty (a : Axis) (s : State) : (driveEnd a s).drive.duty =
    match motorOf a with
    | some m => s.drive.duty.set m 0
    | none => s.drive.duty := by cases a <;> rfl

theorem lowers_of_zeroed {a : Axis} {s t : State} (output : t.drive.output = s.drive.output.set a 0)
    (duty : t.drive.duty =
      match motorOf a with
      | some m => s.drive.duty.set m 0
      | none => s.drive.duty) : Lowers s t where
  output := fun b => by
    rw [output, PerAxis.get_set]
    split
    · exact Nat.zero_le _
    · exact Nat.le_refl _
  duty := fun k => by
    rw [duty]
    split
    · rw [PerMotor.get_set]
      split
      · exact Nat.zero_le _
      · exact Nat.le_refl _
    · exact Nat.le_refl _

theorem lowers_stopped (a : Axis) (s : State) : Lowers s (panelStop a (driveEnd a s)) := by
  rw [panelStop_frame]
  exact lowers_of_zeroed (driveEnd_output a s) (driveEnd_duty a s)

/-! ## What a reaction of the grant engine leaves of them -/

theorem gendDue_drive (g : Grant) (r : Reason) (s : State) : (gendDue g r s).drive = s.drive := by
  unfold gendDue placeMessage
  dsimp only
  repeat' split
  all_goals rfl

theorem lowers_retire (g : Grant) (r : Reason) (s : State) : Lowers s (retire g r s) := by
  have passed (q : Resource) (u : State) : Lowers u (passSlot q u) := by
    unfold passSlot
    split
    · exact lowers_of_drive rfl rfl
    · split
      · exact lowers_of_drive rfl rfl
      · next k _ =>
        show Lowers u (startGrant { k with state := .driving } _)
        exact (lowers_startGrant _ _).rebase rfl
  have left : Lowers s (leaveSlot g (dropGrant g.handle s)) := by
    unfold leaveSlot
    dsimp only
    split
    · have stop := (lowers_stopped g.axis (dropGrant g.handle s)).trans (passed (resourceOf g.axis) _)
      exact ⟨stop.output, stop.duty⟩
    · split <;> exact lowers_of_drive rfl rfl
  have told := gendDue_drive g r (leaveSlot g (dropGrant g.handle s))
  exact left.trans (lowers_of_drive (congrArg DriveShaper.output told)
    (congrArg DriveShaper.duty told))

theorem lowers_gatedStop (a : Axis) (s : State) : Lowers s (gatedStop a s) := by
  unfold gatedStop
  split
  · exact .refl s
  · next m hm =>
    split
    · exact .refl s
    · exact lowers_of_zeroed (a := a) rfl (by rw [hm]; rfl)

theorem lowers_windDown (a : Axis) (s : State) : Lowers s (panelWindDown a (gatedStop a s)) := by
  rw [panelWindDown_frame]
  have h := lowers_gatedStop a s
  exact ⟨h.output, h.duty⟩

theorem lowers_ease (g : Grant) (r : Reason) (s : State) : Lowers s (ease g r s) := by
  have wound := lowers_windDown g.axis (putGrant (eased g r) s)
  unfold ease
  dsimp only
  split
  · exact Lowers.trans ⟨wound.output, wound.duty⟩ (lowers_retire g r _)
  · exact ⟨wound.output, wound.duty⟩

theorem lowers_pauseGrant (g : Grant) (s : State) : Lowers s (pauseGrant g s) := by
  have wound := lowers_windDown g.axis (putGrant { g with
    state := .paused, deadman := none, pause := some s.config.pauseWindow } s)
  exact ⟨wound.output, wound.duty⟩

theorem lowers_resumeGrant (g : Grant) (s : State) : Lowers s (resumeGrant g s) := by
  unfold resumeGrant
  rw [panelResume_frame]
  exact lowers_of_drive rfl rfl

theorem lowers_takeRequest (l : Link) (a : Axis) (n : Sense) (k : RunKind) (d : Nat) (s : State) :
    Lowers s (takeRequest l a n k d s).1 := by
  have queued (g : Grant) (t : State) : Lowers t (queueGrant g t) := lowers_of_drive rfl rfl
  unfold takeRequest
  split
  · exact .refl s
  · show Lowers s (startGrant (newGrant l a n k d .driving s) _)
    exact (lowers_startGrant _ _).rebase rfl
  · exact queued _ s
  · next h _ => exact (queued _ s).trans (lowers_ease h .preempted _)
  · next w _ => exact (lowers_retire w .preempted s).trans (queued _ _)

/-! ## A period's output (R98 to R100) -/

theorem rampTo_le (a : Axis) (target output : Nat) (c : DriveItems) :
    rampTo a target output c ≤ max output target := by
  have amount (p : RampProfile) (time distance : Nat) : rampAmount p time distance ≤ distance ∨
      distance = 0 := by
    cases p <;> simp only [rampAmount] <;> omega
  unfold rampTo
  dsimp only
  split
  · split
    · omega
    · have := amount (c.profile.get a) (c.rampUp.get a) (target - output)
      omega
  · split
    · split
      · omega
      · omega
    · omega

/-- R98: a period's output exceeds neither what stood, nor the demand, nor the latch duty. -/
theorem nextOutput_le (g : Grant) (s : State) :
    nextOutput g s ≤ max (s.drive.output.get g.axis) (max g.demand latchDuty) := by
  unfold nextOutput
  dsimp only
  split
  · exact Nat.zero_le _
  · have ramp := rampTo_le g.axis (targetOf g (effectiveLimit g.axis g.sense s))
      (min (s.drive.output.get g.axis) (effectiveLimit g.axis g.sense s)) s.config.drive
    have target : targetOf g (effectiveLimit g.axis g.sense s) ≤ g.demand := by
      unfold targetOf
      split <;> omega
    unfold gateOutput
    split
    · omega
    · exact Nat.zero_le _
    · split <;> omega

/-! ## The invariants over a chain of changes -/

theorem forceFor_grant (m : Mode) (s : State) : (forceFor m s).grant = s.grant := by
  unfold forceFor
  split <;> rfl

theorem sound_of_free {s : State} (empty : s.grant.table = [])
    (free : ∀ r, slotOf r s = ⟨none, none⟩) : Sound s where
  grants :=
    { records := fun g hg => absurd (empty ▸ hg) List.not_mem_nil
      room := by rw [empty]; exact Nat.zero_le _
      distinct := by rw [empty]; exact List.nodup_nil
      single := fun g hg => absurd (empty ▸ hg) List.not_mem_nil }
  slots :=
    { holder := fun r x => by
        rw [free]
        exact ⟨fun e => (Option.some_ne_none x e.symm).elim,
          fun ⟨_, hg, _⟩ => absurd (empty ▸ hg) List.not_mem_nil⟩
      waiting := fun r x => by
        rw [free]
        exact ⟨fun e => (Option.some_ne_none x e.symm).elim,
          fun ⟨_, hg, _⟩ => absurd (empty ▸ hg) List.not_mem_nil⟩
      behind := fun r h => absurd (congrArg Slot.waiting (free r)) h }

/-- R1, R4: the grant table and the slots stay sound. -/
theorem Does.sound {s t : State} (d : Does s t) (h : Sound s) : Sound t := by
  induction d with
  | refl => exact h
  | trans _ _ first second => exact second (first h)
  | calm c => exact h.of_grant c.grant
  | retire r hg => exact sound_retire h hg r
  | ease r hg active => exact sound_ease h hg (by rcases active with e | e <;> rw [e] <;> nofun) r
  | pause hg drives => exact sound_pauseGrant h hg drives
  | resume hg paused => exact sound_resumeGrant h hg paused
  | keep d hg runs => exact sound_keep h hg d runs
  | request d e => exact sound_takeRequest h d e
  | period _ _ => exact h.of_grant rfl
  | mode m t _ _ _ ih => exact (ih (h.of_grant rfl)).of_grant (forceFor_grant m _)
  | powerOn c i p =>
    exact sound_of_free rfl fun r => by cases r <;> rfl

/-- R90, R98: with the demands in range, outputs and duties stay in range. -/
theorem Does.outputsOk {s t : State} (d : Does s t) (h : Sound s) (o : OutputsOk s) :
    OutputsOk t := by
  induction d with
  | refl => exact o
  | trans first _ ihFirst ihSecond => exact ihSecond (first.sound h) (ihFirst h o)
  | calm c => exact c.range o
  | retire r _ => exact (lowers_retire _ r _).outputsOk o
  | ease r _ _ => exact (lowers_ease _ r _).outputsOk o
  | pause _ _ => exact (lowers_pauseGrant _ _).outputsOk o
  | resume _ _ => exact (lowers_resumeGrant _ _).outputsOk o
  | keep d _ _ => exact ⟨o.output, o.duty⟩
  | request d _ => exact (lowers_takeRequest _ _ _ _ d _).outputsOk o
  | @period s g hg _ =>
    refine ⟨fun a => ?_, o.duty⟩
    rw [State.setDrive_drive, PerAxis.get_set]
    split
    · have le := nextOutput_le g s
      have demand := (h.grants.records g hg).demand
      have out := o.output g.axis
      have latch : latchDuty ≤ 1000 := by decide
      omega
    · exact o.output a
  | mode m t _ _ _ ih =>
    have kept := ih (h.of_grant rfl) ⟨o.output, o.duty⟩
    unfold forceFor
    split
    · exact kept
    · exact ⟨fun a => by cases a <;> exact Nat.zero_le _,
        fun m => by cases m <;> exact Nat.zero_le _⟩
  | powerOn c i p =>
    exact ⟨fun a => by cases a <;> exact Nat.zero_le _,
      fun m => by cases m <;> exact Nat.zero_le _⟩

/-- A live grant in a quiet state stands in RUN or CLOSEDOWN, and so after what keeps the mode. -/
theorem quiet_of_live {s t : State} (q : Quiet s) {g : Grant} (hg : g ∈ s.grant.table)
    (mode : t.mode.mode = s.mode.mode) : Quiet t := by
  intro dark
  rw [mode] at dark
  rw [(q dark).1] at hg
  cases hg

/-- R29, R111: outside RUN and CLOSEDOWN no grant is live and nothing is driven. -/
theorem Does.quiet {s t : State} (d : Does s t) (q : Quiet s) : Quiet t := by
  induction d with
  | refl => exact q
  | trans _ _ first second => exact second (first q)
  | calm c =>
    intro dark
    rw [c.mode] at dark
    obtain ⟨empty, off⟩ := q dark
    exact ⟨by rw [c.grant]; exact empty, c.off off⟩
  | retire r hg => exact quiet_of_live q hg (congrArg ModeController.mode (reacts_retire _ _ _).mode)
  | ease r hg _ => exact quiet_of_live q hg (congrArg ModeController.mode (reacts_ease _ _ _).mode)
  | pause hg _ => exact quiet_of_live q hg (congrArg ModeController.mode (reacts_pauseGrant _ _).mode)
  | resume hg _ => exact quiet_of_live q hg (congrArg ModeController.mode (reacts_resumeGrant _ _).mode)
  | keep d hg _ => exact quiet_of_live q hg rfl
  | request d e =>
    intro dark
    rw [(reacts_takeRequest _ _ _ _ d _).mode, (room_of_requestRefusal e).1] at dark
    cases dark
  | period hg _ => exact quiet_of_live q hg rfl
  | @mode s u m t _ mode quiet =>
    intro dark
    unfold forceFor at dark ⊢
    split at dark
    · next shaped =>
      rw [mode, shaped] at dark
      cases dark
    · next unshaped =>
      rw [if_neg unshaped]
      refine ⟨?_, rfl, rfl, rfl, rfl, rfl, rfl, rfl, rfl⟩
      rcases quiet (by simpa using unshaped) with empty | ⟨before, same⟩
      · exact empty
      · show u.grant.table = []
        rw [same]
        exact (q before).1
  | powerOn c i p => exact fun _ => ⟨rfl, rfl, rfl, rfl, rfl, rfl, rfl, rfl, rfl⟩

/-! ## Every step -/

/-- A millisecond moves the timers of the grants alone. -/
theorem sound_tick {s : State} (h : Sound s) : Sound (tick s) := by
  obtain ⟨⟨records, room, distinct, single⟩, ⟨holder, waiting, behind⟩⟩ := h
  have mem {x : Grant} : x ∈ (tick s).grant.table ↔ ∃ g ∈ s.grant.table,
      { g with deadman := countDown g.deadman, pause := countDown g.pause } = x := by
    rw [tick_table, List.mem_map]
  have timed (o : Option Nat) : (countDown o).isSome = o.isSome := by cases o <;> rfl
  refine ⟨⟨fun x hx => ?_, ?_, ?_, fun x hx y hy st rs => ?_⟩, ⟨fun r x => ?_, fun r x => ?_,
    fun r n => ?_⟩⟩
  · obtain ⟨g, hg, rfl⟩ := mem.mp hx
    obtain ⟨handle, demand, fixed, reason, deadman, pause⟩ := records g hg
    exact ⟨handle, demand, fixed, reason, by rw [timed]; exact deadman, by rw [timed]; exact pause⟩
  · rw [tick_table, List.length_map]
    exact room
  · rw [tick_table, List.map_map]
    exact distinct
  · obtain ⟨g, hg, rfl⟩ := mem.mp hx
    obtain ⟨k, hk, rfl⟩ := mem.mp hy
    rw [single g hg k hk st rs]
  · exact (holder r x).trans ⟨fun ⟨g, hg, rest⟩ => ⟨_, mem.mpr ⟨g, hg, rfl⟩, rest⟩,
      fun ⟨y, hy, rest⟩ => by obtain ⟨g, hg, rfl⟩ := mem.mp hy; exact ⟨g, hg, rest⟩⟩
  · exact (waiting r x).trans ⟨fun ⟨g, hg, rest⟩ => ⟨_, mem.mpr ⟨g, hg, rfl⟩, rest⟩,
      fun ⟨y, hy, rest⟩ => by obtain ⟨g, hg, rfl⟩ := mem.mp hy; exact ⟨g, hg, rest⟩⟩
  · obtain ⟨g, hg, rest⟩ := behind r n
    exact ⟨_, mem.mpr ⟨g, hg, rfl⟩, rest⟩

theorem sound_step {s t : State} (h : Sound s) (e : step s = .next t) : Sound t := by
  rcases step_cases e with ⟨-, rfl⟩ | ⟨c, rest, -, e⟩
  · exact sound_tick h
  · exact (does_of_exec _ e).sound (h.of_grant rfl)

/-- Settles O6: each change of a live grant keeps the records sound. -/
theorem stepKeepsGrantTable : Obligations.StepKeepsGrantTable := by
  unfold Obligations.StepKeepsGrantTable
  exact fun s t hg hs e => (sound_step ⟨hg, hs⟩ e).grants

/-- Settles O7: each change of a live grant keeps the slots in agreement with the table. -/
theorem stepKeepsSlots : Obligations.StepKeepsSlots := by
  unfold Obligations.StepKeepsSlots
  exact fun s t hg hs e => (sound_step ⟨hg, hs⟩ e).slots

/-- Settles O10: a period's output stays within the demand of its grant and what stood before; every other
change lowers the outputs. -/
theorem stepKeepsOutputsInRange : Obligations.StepKeepsOutputsInRange := by
  unfold Obligations.StepKeepsOutputsInRange
  intro s t hg hs o e
  rcases step_cases e with ⟨-, rfl⟩ | ⟨c, rest, -, e⟩
  · exact ⟨o.output, o.duty⟩
  · exact (does_of_exec _ e).outputsOk (Sound.of_grant ⟨hg, hs⟩ rfl) ⟨o.output, o.duty⟩

/-- Settles O5: a mode outside RUN and CLOSEDOWN is entered with every grant cut and the outputs forced. -/
theorem stepKeepsQuiet : Obligations.StepKeepsQuiet := by
  unfold Obligations.StepKeepsQuiet
  intro s t q e
  rcases step_cases e with ⟨-, rfl⟩ | ⟨c, rest, -, e⟩
  · intro dark
    obtain ⟨empty, output, coil, duty, pump, d1, d2, near, off⟩ := q dark
    exact ⟨by rw [tick_table, empty]; rfl, output, coil, duty, pump, d1, d2, near, off⟩
  · refine (does_of_exec _ e).quiet fun dark => ?_
    obtain ⟨empty, output, coil, duty, pump, d1, d2, near, off⟩ := q dark
    exact ⟨empty, output, coil, duty, pump, d1, d2, near, off⟩

end Sys2Proof.Machine.Steps
end

section
/-! R73, R139: the permit map and the zone health are those of the inputs after every step. An operation
leaves alone what they are judged from (`Alike`), or judges again what it may have moved. -/

namespace Sys2Proof.Machine.Steps

/-! ## What the judgements rest on -/

/-- R72: what the permit map is judged from, but for the axis flags and the zone health, with the map
itself. -/
def permitLevels (s : State) :=
  ((s.mode.mode, s.config.permit, s.config.bands),
    (s.permit.ign, s.permit.pbrk, s.permit.speed, s.permit.speedValue, s.permit.overload),
    s.permit.map)

/-- R72: what the permit map is judged from, but for the zone health, with the map itself. -/
def permitInputs (s : State) := ((s.axis.ends, s.axis.level, s.axis.band), permitLevels s)

/-- R139: what the zone health is judged from, and the health itself, are left alone. -/
structure Shines (s t : State) : Prop where
  zone : t.config.lamp.zone = s.config.lamp.zone
  lamp : ∀ c, (lampOf c t).state = (lampOf c s).state
  health : ∀ z, (zoneRecord z t).health = (zoneRecord z s).health

/-- R52, R139: of what the judgements rest on, the axis flags alone may have changed. -/
structure Samples (s t : State) : Prop where
  levels : permitLevels t = permitLevels s
  lamps : Shines s t

/-- R72, R139: the judgements and all they rest on are left alone. -/
structure Alike (s t : State) : Prop where
  permits : permitInputs t = permitInputs s
  lamps : Shines s t

/-- R73: the permit map is the one of the inputs. -/
def MapOk (s : State) : Prop := s.permit.map = permitMap s

/-- R139: the zone health is the one of the lamps. -/
def HealthOk (s : State) : Prop := ∀ z, (zoneRecord z s).health = zoneHealth z s

/-- An operation keeps the judgements. -/
def Judged (s t : State) : Prop := JudgedOk s → JudgedOk t

section
variable {s t u : State}

theorem Shines.refl (s : State) : Shines s s := ⟨rfl, fun _ => rfl, fun _ => rfl⟩
theorem Shines.trans (h : Shines s t) (k : Shines t u) : Shines s u :=
  ⟨k.zone.trans h.zone, fun c => (k.lamp c).trans (h.lamp c),
    fun z => (k.health z).trans (h.health z)⟩

theorem Alike.refl (s : State) : Alike s s := ⟨rfl, .refl s⟩
theorem Alike.trans (h : Alike s t) (k : Alike t u) : Alike s u :=
  ⟨k.permits.trans h.permits, h.lamps.trans k.lamps⟩

theorem Alike.samples (h : Alike s t) : Samples s t :=
  ⟨congrArg Prod.snd h.permits, h.lamps⟩

theorem Samples.trans (h : Samples s t) (k : Samples t u) : Samples s u :=
  ⟨k.levels.trans h.levels, h.lamps.trans k.lamps⟩

theorem Judged.refl (s : State) : Judged s s := id
theorem Judged.trans (h : Judged s t) (k : Judged t u) : Judged s u := k ∘ h

theorem shines_of_beacon (config : t.config = s.config) (beacon : t.beacon = s.beacon) :
    Shines s t :=
  ⟨congrArg (fun c : WorkingConfig => c.lamp.zone) config, fun c => by unfold lampOf; rw [beacon],
    fun z => by unfold zoneRecord; rw [beacon]⟩

/-- R72: the permit map follows its inputs and the zone health. -/
theorem permitMap_congr (inputs : permitInputs t = permitInputs s)
    (health : ∀ z, (zoneRecord z t).health = (zoneRecord z s).health) :
    permitMap t = permitMap s := by
  unfold zoneRecord at health
  simp only [permitInputs, permitLevels, Prod.mk.injEq] at inputs
  obtain ⟨⟨ends, level, band⟩, ⟨mode, permit, bands⟩, ⟨ign, pbrk, speed, value, overload⟩, -⟩ := inputs
  have zone (z : Zone) : zonePolicy z t.config = zonePolicy z s.config := by
    cases z <;> simp [zonePolicy, permit]
  have cause (a : Axis) (n : Sense) : absentCauses a n t = absentCauses a n s := by
    unfold absentCauses
    congr 1
    · rw [mode]
    · unfold chassisAbsent stationary
      rw [ign, pbrk, speed, value, permit]
    · unfold interlockAbsent endFlag tiltAllowed bandInForce
      rw [ends, level, band, bands, speed]
    · unfold zoneAbsent
      rw [zone, health]
    · unfold loadAbsent
      rw [overload]
  unfold permitMap
  congr 1
  funext a
  rw [cause, cause]

/-- R139: the health of a zone follows the lamp states and the zones assigned. -/
theorem zoneHealth_congr (zone : t.config.lamp.zone = s.config.lamp.zone)
    (lamp : ∀ c, (lampOf c t).state = (lampOf c s).state) (z : Zone) :
    zoneHealth z t = zoneHealth z s := by
  have assigned : lampsOf z t = lampsOf z s := by
    unfold lampsOf
    rw [zone]
  have state (c : Lamp) : (t.beacon.lamp.get c).state = (s.beacon.lamp.get c).state := lamp c
  unfold zoneHealth okLamps
  simp only [assigned, state]

theorem Shines.healthOk (h : Shines s t) (k : HealthOk s) : HealthOk t := fun z => by
  rw [h.health, zoneHealth_congr h.zone h.lamp, k]

theorem mapOk_of_inputs (inputs : permitInputs t = permitInputs s)
    (health : ∀ z, (zoneRecord z t).health = (zoneRecord z s).health) (k : MapOk s) : MapOk t := by
  have map : t.permit.map = s.permit.map := congrArg (fun x => x.2.2.2) inputs
  unfold MapOk
  rw [map, permitMap_congr inputs health, k]

theorem Alike.judged (h : Alike s t) : Judged s t := fun k =>
  ⟨mapOk_of_inputs h.permits h.lamps.health k.map, h.lamps.healthOk k.health⟩

end

theorem alike_ite {c : Prop} [Decidable c] {s t u : State} (h : c → Alike s t)
    (k : ¬ c → Alike s u) : Alike s (if c then t else u) := by
  split
  · next e => exact h e
  · next e => exact k e

theorem judged_ite {c : Prop} [Decidable c] {s t u : State} (h : c → Judged s t)
    (k : ¬ c → Judged s u) : Judged s (if c then t else u) := by
  split
  · next e => exact h e
  · next e => exact k e

theorem alike_forEach {α : Type} {f : α → State → State} (hf : ∀ x s, Alike s (f x s))
    (l : List α) (s : State) : Alike s (forEach f l s) := by
  unfold forEach
  induction l generalizing s with
  | nil => exact .refl s
  | cons x xs ih => exact (hf x s).trans (ih _)

theorem alike_of_reacts {s t : State} (h : Reacts s t) : Alike s t where
  permits := by
    unfold permitInputs permitLevels
    rw [h.mode, h.axis, h.config, h.permit]
  lamps := shines_of_beacon h.config h.beacon

/-! ## The two judgements (R73, R139) -/

theorem mapOk_recomputePermits (s : State) : MapOk (recomputePermits s) := by
  have judged : MapOk (s.setPermit { s.permit with map := permitMap s }) := rfl
  have alike := alike_of_reacts (reacts_easeGrants .permit (fun g => newlyAbsent
    ((s.permit.map.get g.axis).get g.sense) (((permitMap s).get g.axis).get g.sense))
    (s.setPermit { s.permit with map := permitMap s }))
  exact mapOk_of_inputs alike.permits alike.lamps.health judged

section
variable (s : State)

theorem shines_setAxis (v : AxisUnit) : Shines s (s.setAxis v) := ⟨rfl, fun _ => rfl, fun _ => rfl⟩
theorem shines_setPermit (v : PermitMonitor) : Shines s (s.setPermit v) :=
  ⟨rfl, fun _ => rfl, fun _ => rfl⟩
theorem shines_setMode (v : ModeController) : Shines s (s.setMode v) :=
  ⟨rfl, fun _ => rfl, fun _ => rfl⟩

theorem shines_recomputePermits : Shines s (recomputePermits s) :=
  (shines_setPermit s _).trans (alike_of_reacts (reacts_easeGrants _ _ _)).lamps

end

/-- R73: the map judged again after an event that leaves the lamps alone. -/
theorem judged_recomputePermits {s t : State} (h : Shines s t) : Judged s (recomputePermits t) :=
  fun k => ⟨mapOk_recomputePermits t, (h.trans (shines_recomputePermits t)).healthOk k.health⟩

/-- R139: the zone records with their health judged. -/
def judgedZones (s : State) : PerZone ZoneRecord :=
  .mk' fun z => { s.beacon.zone.get z with health := zoneHealth z s }

theorem zoneRecord_judgedZones (z : Zone) (s : State) :
    (zoneRecord z (s.setBeacon { s.beacon with zone := judgedZones s })).health = zoneHealth z s := by
  show (((judgedZones s).get z).health) = _
  rw [judgedZones, PerZone.get_mk']

theorem judgeHealth_cases (s : State) :
    judgeHealth s = recomputePermits (s.setBeacon { s.beacon with zone := judgedZones s }) ∨
      judgeHealth s = s.setBeacon { s.beacon with zone := judgedZones s } ∧
        ∀ z, z ≠ .roof → (zoneRecord z s).health = zoneHealth z s := by
  unfold judgeHealth
  dsimp only
  split
  · next same =>
    refine .inr ⟨rfl, fun z n => ?_⟩
    obtain ⟨rear, near, off⟩ := same
    cases z with
    | rear => exact rear
    | near => exact near
    | off => exact off
    | roof => exact absurd rfl n
  · exact .inl rfl

/-- R139: the health judged is the one of the lamps, whatever stood before. -/
theorem healthOk_judgeHealth (s : State) : HealthOk (judgeHealth s) := by
  have judged : HealthOk (s.setBeacon { s.beacon with zone := judgedZones s }) := fun z =>
    (zoneRecord_judgedZones z s).trans (zoneHealth_congr (s := s) (by rfl) (fun _ => rfl) z).symm
  rcases judgeHealth_cases s with e | ⟨e, -⟩ <;> rw [e]
  · exact (shines_recomputePermits _).healthOk judged
  · exact judged

/-- R73, R139: the map follows the health judged; the health of ROOF bears on no axis. -/
theorem mapOk_judgeHealth {s : State} (h : MapOk s) : MapOk (judgeHealth s) := by
  rcases judgeHealth_cases s with e | ⟨e, same⟩ <;> rw [e]
  · exact mapOk_recomputePermits _
  · have zoned (a : Axis) : zoneOf a ≠ .roof := by cases a <;> nofun
    have absent (a : Axis) : zoneAbsent a (s.setBeacon { s.beacon with zone := judgedZones s }) =
        zoneAbsent a s := by
      have health := (zoneRecord_judgedZones (zoneOf a) s).trans (same _ (zoned a)).symm
      unfold zoneRecord at health
      unfold zoneAbsent
      rw [health]
      rfl
    refine h.trans ?_
    unfold permitMap absentCauses
    simp only [absent]
    rfl

/-- R139: the health judged after an event that leaves the permits alone. -/
theorem judged_judgeHealth {s t : State} (inputs : permitInputs t = permitInputs s)
    (health : ∀ z, (zoneRecord z t).health = (zoneRecord z s).health) : Judged s (judgeHealth t) :=
  fun k => ⟨mapOk_judgeHealth (mapOk_of_inputs inputs health k.map), healthOk_judgeHealth t⟩

/-! ## Single field updates -/

section
variable (s : State)

theorem alike_setInputs (v : Inputs) : Alike s (s.setInputs v) := ⟨rfl, rfl, fun _ => rfl, fun _ => rfl⟩
theorem alike_setHold (v : HoldTable) : Alike s (s.setHold v) := ⟨rfl, rfl, fun _ => rfl, fun _ => rfl⟩
theorem alike_setDrive (v : DriveShaper) : Alike s (s.setDrive v) :=
  ⟨rfl, rfl, fun _ => rfl, fun _ => rfl⟩
theorem alike_setPanel (v : PanelSequencer) : Alike s (s.setPanel v) :=
  ⟨rfl, rfl, fun _ => rfl, fun _ => rfl⟩
theorem alike_setPort (v : PerLink Port) : Alike s (s.setPort v) :=
  ⟨rfl, rfl, fun _ => rfl, fun _ => rfl⟩
theorem alike_setNotice (v : Notices) : Alike s (s.setNotice v) :=
  ⟨rfl, rfl, fun _ => rfl, fun _ => rfl⟩
theorem alike_setFaultLog (v : FaultLog) : Alike s (s.setFaultLog v) :=
  ⟨rfl, rfl, fun _ => rfl, fun _ => rfl⟩
theorem alike_setStore (v : ConfigStore) : Alike s (s.setStore v) :=
  ⟨rfl, rfl, fun _ => rfl, fun _ => rfl⟩

theorem alike_setMode {v : ModeController} (h : v.mode = s.mode.mode) : Alike s (s.setMode v) where
  permits := by
    unfold permitInputs permitLevels
    rw [State.setMode_mode, h]
    rfl
  lamps := ⟨rfl, fun _ => rfl, fun _ => rfl⟩

/-- R66: an axis unit that keeps its ends, its level and its band. -/
theorem alike_setAxis {v : AxisUnit} (ends : v.ends = s.axis.ends) (level : v.level = s.axis.level)
    (band : v.band = s.axis.band) : Alike s (s.setAxis v) where
  permits := by
    unfold permitInputs permitLevels
    rw [State.setAxis_axis, ends, level, band]
    rfl
  lamps := ⟨rfl, fun _ => rfl, fun _ => rfl⟩

theorem samples_setAxis (v : AxisUnit) : Samples s (s.setAxis v) := ⟨rfl, shines_setAxis s v⟩

theorem alike_raise (f : NoticeFlag) : Alike s (raise f s) := alike_of_reacts (reacts_raise f s)
theorem alike_judgeAttention : Alike s (judgeAttention s) := alike_setNotice s _
theorem alike_putPort (l : Link) (p : Port) : Alike s (putPort l p s) := alike_setPort s _
theorem alike_putPanel (m : Motor) (p : PanelRecord) : Alike s (putPanel m p s) := alike_setPanel s _
theorem alike_putLatch (d : Door) (r : LatchRecord) : Alike s (putLatch d r s) := alike_setPanel s _

theorem alike_enterFault (r : FaultRecord) : Alike s (enterFault r s) := by
  unfold enterFault
  split
  · exact (alike_setFaultLog s _).trans (alike_raise _ _)
  · exact alike_setFaultLog s _

/-! ## Faults and watches -/

theorem alike_setFault (a : Axis) (c : FaultCode) (k : Option Coil) : Alike s (setFault a c k s) :=
  alike_ite (fun _ => (((alike_setAxis s (by rfl) (by rfl) (by rfl)).trans
    (alike_of_reacts (reacts_reactFault a _))).trans (alike_raise _ _)).trans
      (alike_enterFault _ _)) fun _ => .refl s

theorem alike_coilWatchStep (c : Coil) (n : Nat) : Alike s (coilWatchStep c n s) := by
  unfold coilWatchStep
  exact alike_ite (fun _ => alike_ite
    (fun _ => alike_ite (fun _ => (alike_setDrive s _).trans (alike_setFault _ _ _ _))
      fun _ => alike_setDrive s _)
    fun _ => alike_setDrive s _) fun _ => .refl s

theorem alike_foldTravelFault : Alike s (foldTravelFault s) :=
  (alike_setDrive s _).trans (alike_setFault _ _ _ _)

theorem alike_foldTravelStep : Alike s (foldTravelStep s) := by
  unfold foldTravelStep
  split
  · exact alike_ite (fun _ => alike_setDrive s _) fun _ => alike_ite (fun _ => .refl s) fun _ =>
      alike_ite (fun _ => (alike_setDrive s _).trans (alike_foldTravelFault _))
        fun _ => alike_setDrive s _
  · exact .refl s

theorem alike_panelTravelFault (m : Motor) : Alike s (panelTravelFault m s) :=
  (alike_putPanel s m _).trans (alike_setFault _ _ _ _)

theorem alike_travelStep (m : Motor) : Alike s (travelStep m s) := by
  unfold travelStep
  dsimp only
  split
  · exact alike_ite (fun _ => alike_putPanel s m _) fun _ => alike_ite (fun _ => .refl s) fun _ =>
      alike_ite (fun _ => (alike_putPanel s m _).trans (alike_panelTravelFault _ m))
        fun _ => alike_putPanel s m _
  · exact .refl s

theorem alike_panelPeriod (m : Motor) (n : Nat) : Alike s (panelPeriod m n s) :=
  (alike_of_reacts (((reacts_endCheck m s).trans (reacts_edgeCheck m _)).trans
    (reacts_obstructionStep m n _))).trans (alike_travelStep _ m)

theorem alike_latchPulseExpired (d : Door) : Alike s (latchPulseExpired d s) :=
  alike_ite (fun _ => (alike_putLatch s d _).trans (alike_setFault _ _ _ _)) fun _ => .refl s

theorem alike_engageExpired (d : Door) : Alike s (engageExpired d s) :=
  alike_ite (fun _ => (alike_putLatch s d _).trans (alike_setFault _ _ _ _)) fun _ => .refl s

theorem alike_foldTravelEvent : Alike s (foldTravelEvent s) :=
  alike_ite (fun _ => alike_foldTravelFault s) fun _ => .refl s

theorem alike_panelTravelEvent (m : Motor) : Alike s (panelTravelEvent m s) :=
  alike_ite (fun _ => alike_panelTravelFault s m) fun _ => .refl s

theorem alike_doorEvent (d : Door) (w : DoorSwitch) (b : Bool) : Alike s (doorEvent d w b s) :=
  alike_ite (fun _ => alike_setInputs s _) fun _ =>
    (alike_setInputs s _).trans (alike_of_reacts (reacts_doorSwitchChange d w b _))

theorem alike_shutterEvent (w : ShutterSwitch) (b : Bool) : Alike s (shutterEvent w b s) :=
  alike_ite (fun _ => alike_setInputs s _) fun _ =>
    (alike_setInputs s _).trans (alike_of_reacts (reacts_shutterSwitchChange w b _))

theorem alike_edgeEvent (b : Bool) : Alike s (edgeEvent b s) := by
  have contact := (alike_setInputs s { s.inputs with
    shutter := { s.inputs.shutter with contact := b } }).trans (alike_setPanel _ { s.panel with
      contact := b })
  exact alike_ite (fun _ => alike_setInputs s _) fun _ =>
    alike_ite (fun _ => contact.trans (alike_of_reacts (reacts_edgeStop _))) fun _ => contact

/-! ## Holds (Chapter 2) -/

theorem alike_placeHold (kind : HoldKind) (src : HoldSource) (x : PerAxis Bool) :
    Alike s (placeHold kind src x s) := by
  cases kind with
  | lockout t =>
    exact ((alike_setHold s _).trans (alike_of_reacts (reacts_reactLockout x _))).trans
      (alike_raise _ _)
  | stop z =>
    exact ((alike_setHold s _).trans (alike_of_reacts (reacts_reactStop x _))).trans
      (alike_raise _ _)

theorem alike_retireHold (id : Nat) : Alike s (retireHold id s) :=
  (alike_setHold s _).trans (alike_raise _ _)

theorem alike_placeLineStop : Alike s (placeLineStop s) :=
  alike_ite (fun _ => .refl s) fun _ => alike_placeHold s _ _ _

theorem alike_setLine (b : Bool) : Alike s (setLine b s) := alike_setHold s _

theorem alike_estopAssert : Alike s (estopAssert s) :=
  alike_ite (fun _ => alike_setInputs s _) fun _ =>
    ((alike_setInputs s _).trans (alike_setLine _ true)).trans (alike_placeLineStop _)

theorem alike_estopRelease : Alike s (estopRelease s) :=
  alike_ite (fun _ => alike_setInputs s _)
    fun _ => (alike_setInputs s _).trans (alike_setLine _ false)

/-! ## Permits (Chapter 4) -/

theorem alike_deployMove (v : Bool) : Alike s (s.setPermit { s.permit with deployMove := v }) :=
  ⟨rfl, rfl, fun _ => rfl, fun _ => rfl⟩

theorem alike_judgeDeployMove : Alike s (judgeDeployMove s) :=
  alike_ite (fun _ => (alike_deployMove s _).trans (alike_raise _ _)) fun _ => alike_deployMove s _

variable {s}

theorem judged_permitEvent {t : State} (h : Shines s t) : Judged s (permitEvent t) :=
  judged_recomputePermits (h.trans (alike_judgeDeployMove t).lamps)

theorem shines_permitEvent : Shines s (permitEvent s) :=
  (alike_judgeDeployMove s).lamps.trans (shines_recomputePermits _)

variable (s)

theorem judged_permitIgn (b : Bool) : Judged s (permitIgn b s) :=
  judged_ite (fun _ => .refl s) fun _ => judged_recomputePermits (shines_setPermit s _)

theorem judged_pbrkEvent (b : Bool) : Judged s (pbrkEvent b s) :=
  judged_ite (fun _ => (alike_setInputs s _).judged) fun _ =>
    judged_recomputePermits ((alike_setInputs s _).lamps.trans (shines_setPermit _ _))

theorem permitLevels_of_speed {v : PermitMonitor} (ign : v.ign = s.permit.ign)
    (pbrk : v.pbrk = s.permit.pbrk) (overload : v.overload = s.permit.overload)
    (map : v.map = s.permit.map) (speed : speedPair s = speedPair (s.setPermit v)) :
    Alike s (s.setPermit v) where
  permits := by
    obtain ⟨state, value⟩ := Prod.mk.inj speed
    simp only [State.setPermit_permit] at state value
    unfold permitInputs permitLevels
    rw [State.setPermit_permit, ign, pbrk, overload, map, ← state, ← value]
    rfl
  lamps := shines_setPermit s v

/-- R77, R78: the permits are judged after a change of the speed. -/
theorem judged_afterSpeed {v : PermitMonitor} (ign : v.ign = s.permit.ign)
    (pbrk : v.pbrk = s.permit.pbrk) (overload : v.overload = s.permit.overload)
    (map : v.map = s.permit.map) : Judged s (afterSpeed s (s.setPermit v)) :=
  judged_ite (fun same => (permitLevels_of_speed s ign pbrk overload map same).judged)
    fun _ => judged_permitEvent (shines_setPermit s v)

theorem judged_pulseArrival (n : Nat) : Judged s (pulseArrival n s) := by
  refine judged_ite (fun _ => .refl s) fun _ => ?_
  dsimp only
  split
  all_goals exact judged_afterSpeed s (by rfl) (by rfl) (by rfl) (by rfl)

theorem judged_pulseTimerExpiry : Judged s (pulseTimerExpiry s) :=
  judged_ite (fun _ => judged_afterSpeed s (by rfl) (by rfl) (by rfl) (by rfl)) fun _ => .refl s

theorem shines_recomputeSpeed : Shines s (recomputeSpeed s) := by
  unfold recomputeSpeed
  split
  · exact shines_setPermit s _
  · exact .refl s

theorem shines_afterSpeed (b : State) : Shines s (afterSpeed b s) := by
  unfold afterSpeed
  split
  · exact .refl s
  · exact shines_permitEvent

theorem judged_samplePressure : Judged s (samplePressure s) := by
  refine judged_ite (fun same => Alike.judged ⟨?_, shines_setPermit s _⟩)
    fun _ => judged_recomputePermits (shines_setPermit s _)
  rw [State.setPermit_permit] at same
  unfold permitInputs permitLevels
  rw [State.setPermit_permit]
  dsimp only at same ⊢
  rw [same]
  rfl

theorem shines_samplePressure : Shines s (samplePressure s) := by
  unfold samplePressure
  dsimp only
  split
  · exact shines_setPermit s _
  · exact (shines_setPermit s _).trans (shines_recomputePermits _)

theorem judged_pressureEvent (n : Nat) : Judged s (pressureEvent n s) :=
  judged_ite (fun _ => (alike_setInputs s _).judged.trans (judged_samplePressure _))
    fun _ => (alike_setInputs s _).judged

/-! ## Axis samples (Chapter 3) -/

theorem alike_conditionFaultStep (a : Axis) : Alike s (conditionFaultStep a s) :=
  alike_ite (fun _ => alike_setFault s _ _ _) fun _ => .refl s

theorem alike_stallStep : Alike s (stallStep s) := by
  refine alike_ite (fun _ => alike_setAxis s (by rfl) (by rfl) (by rfl)) fun _ => ?_
  split
  · exact alike_setAxis s (by rfl) (by rfl) (by rfl)
  · exact alike_ite (fun _ => alike_setAxis s (by rfl) (by rfl) (by rfl)) fun _ =>
      alike_ite (fun _ => alike_setFault s _ _ _) fun _ => alike_setAxis s (by rfl) (by rfl) (by rfl)

theorem samples_evaluateSample (b : Bool) : Samples s (evaluateSample b s) := by
  have faults := (samples_setAxis s (computeAxes s.config s.axis)).trans
    (alike_forEach (fun a t => alike_conditionFaultStep t a) Axis.list _).samples
  unfold evaluateSample
  dsimp only
  split
  · exact faults.trans (alike_stallStep _).samples
  · exact faults

/-- R52: the flags of a sample are judged where they differ from those that stood. -/
theorem judged_reportFlags {b t : State} (h : Samples b t) : Judged b (reportFlags b t) := by
  refine judged_ite (fun same => Alike.judged ⟨?_, h.lamps⟩) fun _ => judged_permitEvent h.lamps
  simp only [reportedFlags, Prod.mk.injEq] at same
  obtain ⟨ends, level, -, band⟩ := same
  unfold permitInputs
  rw [h.levels, ends, level, band]

theorem shines_reportFlags (b : State) : Shines s (reportFlags b s) := by
  unfold reportFlags
  split
  · exact .refl s
  · exact shines_permitEvent

theorem judged_takeSample : Judged s (takeSample s) :=
  judged_reportFlags ((samples_setAxis s _).trans (samples_evaluateSample _ true))

theorem shines_takeSample : Shines s (takeSample s) :=
  ((samples_setAxis s _).trans (samples_evaluateSample _ true)).lamps.trans (shines_reportFlags _ s)

theorem judged_sampleHeld : Judged s (sampleHeld s) :=
  judged_reportFlags (samples_evaluateSample s false)

theorem shines_sampleHeld : Shines s (sampleHeld s) :=
  (samples_evaluateSample s false).lamps.trans (shines_reportFlags _ s)

theorem judged_axisSampleEvent (i : AxisInputs) : Judged s (axisSampleEvent i s) :=
  judged_ite (fun _ => (alike_setInputs s _).judged.trans (judged_takeSample _))
    fun _ => (alike_setInputs s _).judged

theorem alike_stallEvent : Alike s (stallEvent s) := by
  unfold stallEvent
  split
  · exact .refl s
  · exact alike_setFault s _ _ _

end

/-! ## Beacons (Chapter 7) -/

/-- R137 to R141: the permits' inputs and the zone health are left alone; the lamp states may have
changed. -/
structure Fits (s t : State) : Prop where
  permits : permitInputs t = permitInputs s
  health : ∀ z, (zoneRecord z t).health = (zoneRecord z s).health

theorem Fits.refl (s : State) : Fits s s := ⟨rfl, fun _ => rfl⟩
theorem Fits.trans {s t u : State} (h : Fits s t) (k : Fits t u) : Fits s u :=
  ⟨k.permits.trans h.permits, fun z => (k.health z).trans (h.health z)⟩
theorem Alike.fits {s t : State} (h : Alike s t) : Fits s t := ⟨h.permits, h.lamps.health⟩

theorem fits_ite {c : Prop} [Decidable c] {s t u : State} (h : c → Fits s t) (k : ¬ c → Fits s u) :
    Fits s (if c then t else u) := by
  split
  · next e => exact h e
  · next e => exact k e

theorem fits_forEach {α : Type} {f : α → State → State} (hf : ∀ x s, Fits s (f x s)) (l : List α)
    (s : State) : Fits s (forEach f l s) := by
  unfold forEach
  induction l generalizing s with
  | nil => exact .refl s
  | cons x xs ih => exact (hf x s).trans (ih _)

theorem Fits.mapOk {s t : State} (h : Fits s t) (k : MapOk s) : MapOk t :=
  mapOk_of_inputs h.permits h.health k

/-- R139: the health judged after a change of the lamps. -/
theorem Fits.judged {s t : State} (h : Fits s t) : Judged s (judgeHealth t) :=
  judged_judgeHealth h.permits h.health

section
variable (s : State)

theorem fits_putLamp (c : Lamp) (r : LampRecord) : Fits s (putLamp c r s) := ⟨rfl, fun _ => rfl⟩

theorem alike_putLamp {c : Lamp} {r : LampRecord} (h : r.state = (lampOf c s).state) :
    Alike s (putLamp c r s) where
  permits := rfl
  lamps := ⟨rfl, fun d => by
    show ((s.beacon.lamp.set c r).get d).state = _
    rw [PerLamp.get_set]
    split
    · next same => rw [same]; exact h
    · rfl, fun _ => rfl⟩

theorem alike_putZone {z : Zone} {r : ZoneRecord} (h : r.health = (zoneRecord z s).health) :
    Alike s (putZone z r s) where
  permits := rfl
  lamps := ⟨rfl, fun _ => rfl, fun y => by
    show ((s.beacon.zone.set z r).get y).health = _
    rw [PerZone.get_set]
    split
    · next same => rw [same]; exact h
    · rfl⟩

theorem alike_driveZone (z : Zone) : Alike s (driveZone z s) :=
  alike_forEach (fun c t => by rw [Holds.driveLamp_eq]; exact alike_putLamp t rfl) _ s

theorem alike_fixWorkingSet (z : Zone) : Alike s (fixWorkingSet z s) :=
  (alike_putZone s (by rfl)).trans (alike_forEach (fun _ t => alike_putLamp t (by rfl)) _ _)

theorem alike_restartZone (z : Zone) (p : Pattern) : Alike s (restartZone z p s) :=
  ((alike_putZone s (by rfl)).trans (alike_fixWorkingSet _ z)).trans (alike_driveZone _ z)

theorem alike_tickZone (z : Zone) : Alike s (tickZone z s) :=
  alike_ite (fun _ => .refl s) fun _ => alike_ite
    (fun _ => ((alike_fixWorkingSet s z).trans (alike_putZone _ (by rfl))).trans
      (alike_driveZone _ z))
    fun _ => (alike_putZone s (by rfl)).trans (alike_driveZone _ z)

theorem alike_setDemand (z : Zone) (p : Pattern) : Alike s (setDemand z p s) :=
  alike_ite (fun _ => .refl s) fun _ => alike_ite (fun _ => alike_putZone s (by rfl))
    fun _ => alike_restartZone s z p

theorem alike_judgeDemands (b : State) : Alike s (judgeDemands b s) :=
  alike_ite (fun _ => alike_forEach (fun z t => alike_ite (fun _ => alike_setDemand t z _)
    fun _ => .refl t) _ s) fun _ => .refl s

theorem alike_restartAll : Alike s (restartAll s) :=
  alike_forEach (fun z t => alike_restartZone t z _) _ s

theorem alike_lampsOff : Alike s (lampsOff s) where
  permits := rfl
  lamps := ⟨rfl, fun c => by
    show ((PerLamp.mk' fun c => { s.beacon.lamp.get c with driven := false }).get c).state = _
    rw [PerLamp.get_mk']
    rfl, fun _ => rfl⟩

theorem alike_dropLampTest : Alike s (dropLampTest s) :=
  (alike_lampsOff s).trans ⟨rfl, rfl, fun _ => rfl, fun _ => rfl⟩

theorem alike_lampTestEnd : Alike s (lampTestEnd s) :=
  alike_ite (fun _ => (alike_dropLampTest s).trans (alike_restartAll _)) fun _ => .refl s

theorem alike_lampTestExpiry : Alike s (lampTestExpiry s) := by
  unfold lampTestExpiry
  split
  · exact alike_ite (fun _ => alike_lampTestEnd s) fun _ => .refl s
  · exact .refl s

theorem alike_startLampTest : Alike s (startLampTest s) where
  permits := rfl
  lamps := ⟨rfl, fun c => by cases c <;> rfl, fun z => by cases z <;> rfl⟩

theorem alike_beaconsDark : Alike s (beaconsDark s) :=
  (alike_dropLampTest s).trans
    ⟨rfl, rfl, fun c => by cases c <;> rfl, fun z => by cases z <;> rfl⟩

theorem alike_beaconMode (m n : Mode) : Alike s (beaconMode m n s) := by
  have timed : Alike s (s.setBeacon { s.beacon with timebase := true }) :=
    ⟨rfl, rfl, fun _ => rfl, fun _ => rfl⟩
  unfold beaconMode
  cases n with
  | off | wake => exact alike_beaconsDark s
  | check => exact alike_startLampTest s
  | closedown =>
    exact alike_ite (c := m = .wake) (fun _ => timed.trans (alike_restartAll _))
      fun _ => alike_lampTestEnd s
  | run | defer | retry | barred => exact alike_lampTestEnd s

theorem fits_failLamp (st : LampState) (c : Lamp) : Fits s (failLamp st c s) := ⟨rfl, fun _ => rfl⟩

theorem fits_measureLamp (c : Lamp) (n : Nat) : Fits s (measureLamp c n s) :=
  fits_ite (fun _ => fits_putLamp s c _) fun _ => fits_ite (fun _ => fits_failLamp s _ c)
    fun _ => fits_putLamp s c _

theorem fits_measureZone (n : PerLamp Nat) (z : Zone) : Fits s (measureZone n z s) :=
  fits_ite (fun _ => .refl s) fun _ => fits_forEach
    (fun c t => fits_ite (fun _ => fits_measureLamp t c _) fun _ => .refl t) _ s

theorem fits_rearmLamp (c : Lamp) : Fits s (rearmLamp c s) := by
  unfold rearmLamp
  dsimp only
  split
  · exact fits_putLamp s c _
  · exact fits_putLamp s c _
  · exact fits_putLamp s c _
  · exact .refl s

theorem fits_testLamp (n : PerLamp Nat) (c : Lamp) : Fits s (testLamp n c s) :=
  fits_ite (fun _ => fits_ite (fun _ => fits_putLamp s c _) fun _ => fits_failLamp s _ c)
    fun _ => .refl s

theorem judged_beaconTick (n : PerLamp Nat) : Judged s (beaconTick n s) :=
  judged_ite (fun _ => Fits.judged ((alike_forEach (fun z t => alike_tickZone t z) _ s).fits.trans
    (fits_forEach (fun z t => fits_measureZone t n z) _ _))) fun _ => .refl s

theorem judged_lampShort (c : Lamp) : Judged s (lampShort c s) :=
  judged_ite (fun _ => (fits_failLamp s _ c).judged) fun _ => .refl s

theorem judged_rearm (x : PerLamp Bool) : Judged s (rearm x s) :=
  (fits_forEach (fun c t => fits_ite (fun _ => fits_rearmLamp t c) fun _ => .refl t) _ s).judged

theorem judged_writeLampZone (c : Lamp) (z : Option Zone) : Judged s (writeLampZone c z s) :=
  Fits.judged ⟨rfl, fun _ => rfl⟩

theorem judged_lampTestMeasure (n : PerLamp Nat) : Judged s (lampTestMeasure n s) := by
  have measured (t : LampTest) : Fits s (s.setBeacon { s.beacon with test := some t }) :=
    ⟨rfl, fun _ => rfl⟩
  unfold lampTestMeasure
  split
  · exact .refl s
  · exact judged_ite (fun _ => Fits.judged ((measured _).trans
      (fits_forEach (fun c t => fits_testLamp t n c) _ _))) fun _ => .refl s

theorem fits_clearExclusions (b : PerLamp (Option Zone)) : Fits s (clearExclusions b s) :=
  ⟨rfl, fun _ => rfl⟩

/-! ## Ports (Chapter 8) -/

theorem alike_reportLoss (l : Link) : Alike s (reportLoss l s) := by
  have dropped : Alike s (dropResetReply l s) :=
    alike_ite (fun _ => alike_setStore s _) fun _ => .refl s
  exact (dropped.trans (alike_of_reacts (reacts_reactLinkLoss l _))).trans (alike_raise _ _)

theorem alike_leavePort (l : Link) (p : Port) : Alike s (leavePort l p s) :=
  alike_ite (fun _ => (alike_putPort s l p).trans (alike_reportLoss _ l))
    fun _ => alike_putPort s l p

theorem alike_enterTarget (t : CloseTarget) (l : Link) : Alike s (enterTarget t l s) := by
  cases t
  · exact alike_leavePort s l _
  · exact alike_leavePort s l _

theorem alike_commandedClose (t : CloseTarget) (l : Link) : Alike s (commandedClose t l s) := by
  unfold commandedClose
  dsimp only
  split
  · exact alike_putPort s l _
  · exact alike_ite (fun _ => alike_enterTarget s t l) fun _ => alike_putPort s l _

theorem alike_stopEnabled (l : Link) : Alike s (stopEnabled l s) := by
  unfold stopEnabled
  split
  · exact alike_commandedClose s _ l
  · exact alike_leavePort s l _
  · exact alike_leavePort s l _
  · exact .refl s

theorem alike_judgePorts (b : State) : Alike s (judgePorts b s) := by
  refine alike_forEach (fun l t => ?_) _ s
  unfold judgePort
  split
  · exact alike_ite (fun _ => alike_putPort t l _) fun _ => .refl t
  · exact alike_stopEnabled t l
  · exact .refl t

theorem alike_modePorts (m : Mode) (b : State) : Alike s (modePorts m b s) :=
  alike_ite (fun _ => alike_forEach (fun l t => alike_stopEnabled t l) _ s)
    fun _ => alike_judgePorts s b

theorem alike_closeForReset (l : Link) : Alike s (closeForReset l s) := by
  unfold closeForReset
  split
  · exact alike_commandedClose s _ l
  · exact alike_leavePort s l _
  all_goals exact .refl s

theorem alike_resetLink (l : Link) : Alike s (resetLink l s) := by
  unfold resetLink
  dsimp only
  split
  · exact .refl s
  · exact alike_leavePort s l _
  · exact alike_commandedClose s _ l
  · exact alike_putPort s l _

theorem alike_receiveError (l : Link) : Alike s (receiveError l s) :=
  alike_ite (fun _ => alike_leavePort s l _) fun _ => .refl s

theorem alike_silenceExpiry (l : Link) : Alike s (silenceExpiry l s) :=
  alike_ite (fun _ => alike_leavePort s l _) fun _ => .refl s

theorem alike_heldLowExpiry (l : Link) : Alike s (heldLowExpiry l s) :=
  alike_ite (fun _ => alike_ite (fun _ => alike_putPort s l _) fun _ => alike_leavePort s l _)
    fun _ => .refl s

theorem alike_closeExpiry (l : Link) : Alike s (closeExpiry l s) := by
  unfold closeExpiry
  split
  · exact alike_ite (fun _ => alike_enterTarget s _ l) fun _ => .refl s
  · exact .refl s

theorem alike_closeIfEmpty (l : Link) : Alike s (closeIfEmpty l s) := by
  unfold closeIfEmpty
  dsimp only
  split
  · exact alike_ite (fun _ => alike_enterTarget s _ l) fun _ => .refl s
  · exact .refl s

/-! ## Modes (Chapter 10) -/

theorem alike_forceOutputs : Alike s (forceOutputs s) := ⟨rfl, rfl, fun _ => rfl, fun _ => rfl⟩

theorem alike_forceFor (m : Mode) : Alike s (forceFor m s) :=
  alike_ite (fun _ => .refl s) fun _ => alike_forceOutputs s

/-- R169: the map is judged again within a mode change. -/
theorem judged_changeMode (m : Mode) (t : Option Nat) : Judged s (changeMode m t s) := by
  have forced : Shines s (forceFor m (reactMode m (setModeTimer m t s))) :=
    ((shines_setMode s _).trans (alike_of_reacts (reacts_reactMode m _)).lamps).trans
      (alike_forceFor _ m).lamps
  have judged := (judged_recomputePermits forced).trans
    ((alike_beaconMode _ s.mode.mode m).trans (alike_modePorts _ m s)).judged
  exact judged_ite (fun _ => judged) fun _ => judged.trans (alike_raise _ _).judged

theorem alike_offBlocks : Alike s (offBlocks s) :=
  ⟨rfl, rfl, fun _ => rfl, fun _ => rfl⟩

theorem judged_enterOff : Judged s (enterOff s) :=
  (judged_changeMode s .off none).trans
    ((alike_offBlocks _).trans (alike_judgeAttention _)).judged

theorem judged_enterClosedown : Judged s (enterClosedown s) := by
  have closed := judged_changeMode s .closedown (some (closedownMs s))
  exact judged_ite (fun _ => closed.trans (judged_enterOff _)) fun _ => closed

theorem judged_enterRetry : Judged s (enterRetry s) :=
  (alike_setMode s (by rfl)).judged.trans (judged_changeMode _ _ _)

theorem judged_enterBarred : Judged s (enterBarred s) := by
  have barred := judged_changeMode s .barred none
  exact judged_ite (fun _ => barred) fun _ => barred.trans (judged_enterClosedown _)

theorem judged_leaveByWindow : Judged s (leaveByWindow s) :=
  judged_ite (fun _ => judged_enterClosedown s) fun _ =>
    judged_ite (fun _ => judged_changeMode s _ _) fun _ => judged_changeMode s _ _

theorem judged_wakeExpiry : Judged s (wakeExpiry s) :=
  judged_ite (fun _ => judged_changeMode s _ _) fun _ => .refl s
theorem judged_checkExpiry : Judged s (checkExpiry s) :=
  judged_ite (fun _ => judged_leaveByWindow s) fun _ => .refl s
theorem judged_retryExpiry : Judged s (retryExpiry s) :=
  judged_ite (fun _ => judged_leaveByWindow s) fun _ => .refl s
theorem judged_closedownExpiry : Judged s (closedownExpiry s) :=
  judged_ite (fun _ => judged_enterOff s) fun _ => .refl s

theorem alike_ageHistory : Alike s (ageHistory s) := by
  unfold ageHistory
  split
  · exact .refl s
  · exact alike_ite (fun _ => alike_setMode s (by rfl)) fun _ => .refl s

theorem judged_pumpOvercurrent : Judged s (pumpOvercurrent s) := by
  have reported := ((alike_setDrive s { s.drive with pumpOver := 0 }).trans (alike_enterFault _
    { kind := .pumpoc, axis := none, coil := none, position := none, mode := s.mode.mode })).judged
  exact judged_ite (fun _ => judged_ite (fun _ => reported.trans (judged_enterRetry _))
    fun _ => reported.trans (judged_enterBarred _)) fun _ => .refl s

theorem judged_takeTrips (l : List FaultKind) : Judged s (takeTrips l s) := by
  have trip : Judged s (if l = [] then s else enterDefer (forEach enterPartFault l s)) :=
    judged_ite (fun _ => .refl s) fun _ =>
      (alike_forEach (fun _ t => alike_enterFault t _) l s).judged.trans (judged_changeMode _ _ _)
  unfold takeTrips
  split
  · exact trip
  · exact trip
  all_goals exact .refl s

theorem judged_lowTrip : Judged s (lowTrip s) :=
  (alike_setMode s (by rfl)).judged.trans (judged_takeTrips _ _)
theorem judged_highTrip : Judged s (highTrip s) :=
  (alike_setMode s (by rfl)).judged.trans (judged_takeTrips _ _)

theorem judged_returnComplete : Judged s (returnComplete s) := by
  have counted : Judged s (s.setMode { s.mode with returnCount := 0 }) := (alike_setMode s (by rfl)).judged
  exact judged_ite (fun _ => judged_ite (fun _ => counted.trans (judged_changeMode _ _ _))
    fun _ => counted.trans (judged_enterClosedown _)) fun _ => .refl s

theorem judged_supplySample (v : Nat) (t : Int) : Judged s (supplySample v t s) := by
  unfold supplySample
  dsimp only
  split
  · split
    · exact ((alike_setMode s (by rfl)).judged.trans (judged_takeTrips _ _)).trans
        (judged_returnComplete _)
    · exact (alike_setMode s (by rfl)).judged.trans (judged_takeTrips _ _)
  · exact .refl s

/-! ## WAKE, ignition and power-on (R170, R171) -/

theorem alike_readStraps : Alike s (readStraps s) :=
  alike_ite (fun _ => ⟨rfl, rfl, fun _ => rfl, fun _ => rfl⟩)
    fun _ => ⟨rfl, rfl, fun _ => rfl, fun _ => rfl⟩

/-- R73, R139: the blocks of a WAKE end with both judgements, whatever stood before. -/
theorem judgedOk_wakeBlocks (b : PerLamp (Option Zone)) : JudgedOk (wakeBlocks b s) := by
  have lit (u : State) : Shines (wakeBeacons b u) (samplePressure (takeSample (wakeBeacons b u))) :=
    (shines_takeSample _).trans (shines_samplePressure _)
  have recomputed (u : State) :
      JudgedOk (recomputePermits (samplePressure (takeSample (wakeBeacons b u)))) :=
    ⟨mapOk_recomputePermits _, ((lit u).trans (shines_recomputePermits _)).healthOk
      (healthOk_judgeHealth _)⟩
  exact (alike_judgeAttention _).judged (recomputed _)

theorem judgedOk_finishWake : JudgedOk (finishWake s) := by
  have timed (v : State) : Judged v (v.setMode { v.mode with timer := some wakeMs }) :=
    (alike_setMode v (by rfl)).judged
  unfold finishWake
  extract_lets before mode u
  have woken : JudgedOk u := judgedOk_wakeBlocks _ _
  split
  · exact timed u woken
  · exact woken

theorem judged_enterWake : Judged s (enterWake s) := by
  have read := ((judged_changeMode s .wake none).trans
    ((alike_setMode _ (v := { (changeMode .wake none s).mode with
      lowCount := 0, highCount := 0, returnCount := 0 }) rfl).trans (alike_readStraps _)).judged)
  exact judged_ite (fun _ => read.trans (alike_setMode _ (by rfl)).judged)
    fun _ _ => judgedOk_finishWake _

theorem judged_modeIgnOn : Judged s (modeIgnOn s) := by
  unfold modeIgnOn
  split
  · exact judged_enterWake s
  · exact judged_changeMode s _ _
  all_goals exact .refl s

theorem judged_modeIgnOff : Judged s (modeIgnOff s) := by
  unfold modeIgnOff
  split
  · exact .refl s
  · exact .refl s
  all_goals exact judged_enterClosedown s

theorem judged_ignOn (p : Straps) : Judged s (ignOn p s) := by
  have straps := alike_setInputs s { s.inputs with straps := p }
  exact judged_ite (fun _ => straps.judged) fun _ =>
    ((straps.trans (alike_setMode _ (by rfl))).judged.trans (judged_permitIgn _ true)).trans
      (judged_modeIgnOn _)

theorem judged_ignOff (o : IgnOrder) : Judged s (ignOff o s) := by
  have line : Judged s (s.setMode { s.mode with ign := false }) := (alike_setMode s (by rfl)).judged
  refine judged_ite (fun _ => ?_) fun _ => .refl s
  cases o with
  | permitFirst => exact (line.trans (judged_permitIgn _ false)).trans (judged_modeIgnOff _)
  | modeFirst => exact (line.trans (judged_modeIgnOff _)).trans (judged_permitIgn _ false)

theorem judgedOk_powerOn (c : ConfigStore) (i : Inputs) (p : List Instr) :
    JudgedOk (State.powerOn c i p) :=
  ⟨rfl, fun z => by cases z <;> rfl⟩

theorem judged_powerOnReset (b : Bool) (i : Inputs) : Judged s (powerOnReset b i s) :=
  judged_ite (fun _ _ => ((alike_setMode _ (by rfl)).judged.trans (judged_enterWake _))
    (judgedOk_powerOn _ _ _)) fun _ _ => judgedOk_powerOn _ _ _

/-! ## Resets (R176) -/

theorem alike_resetGrants : Alike s (resetGrants s) :=
  ((alike_of_reacts (reacts_cutGrants _ _ s)).trans (alike_setDrive _ _)).trans
    (alike_setAxis _ (by rfl) (by rfl) (by rfl))

theorem mapOk_resetConfig : MapOk (resetConfig s) :=
  (alike_judgePorts _ s).fits.mapOk (mapOk_recomputePermits _)

theorem judgedOk_resetLevel1 : JudgedOk (resetLevel1 s) := by
  have linked := (alike_forEach (fun l t => alike_closeForReset t l) Link.operators
    (resetConfig (resetGrants s))).fits.trans (fits_clearExclusions _ s.config.lamp.zone)
  have cleared : JudgedOk (judgeHealth (clearExclusions s.config.lamp.zone
      (resetLinks (resetConfig (resetGrants s))))) :=
    ⟨mapOk_judgeHealth (linked.mapOk (mapOk_resetConfig _)), healthOk_judgeHealth _⟩
  have rest (u : State) : Judged u (judgeAttention (((clearFaults u).setMode
      { (clearFaults u).mode with history := [] }).setNotice { u.notice with mask := .empty })) :=
    (((alike_setAxis u (by rfl) (by rfl) (by rfl)).trans (alike_setMode _ (by rfl))).trans
      ((alike_setNotice _ _).trans (alike_judgeAttention _))).judged
  exact judged_changeMode _ _ _ (rest _ cleared)

theorem alike_resetLevel2 : Alike s (resetLevel2 s) :=
  (alike_resetGrants s).trans (alike_setAxis _ (by rfl) (by rfl) (by rfl))

/-! ## Messages (Chapter 9) -/

theorem alike_handleStopz (l : Link) (z : PerZone Bool) : Alike s (handleStopz l z s).1 := by
  unfold handleStopz
  split
  · exact .refl s
  · split
    · exact .refl s
    · split
      · exact .refl s
      · exact alike_placeHold s (.stop z) (.station l) (axesOfZones z)

theorem alike_handleClrstop (l : Link) (id : Nat) : Alike s (handleClrstop l id s).1 := by
  unfold handleClrstop
  split
  · exact .refl s
  · split
    · exact .refl s
    · unfold clearStop
      split
      · split
        · exact .refl s
        · exact alike_retireHold s _
      · split
        · exact alike_retireHold s _
        · exact .refl s

theorem alike_handleLockt (l : Link) (t : Nat) (x : PerAxis Bool) :
    Alike s (handleLockt l t x s).1 := by
  unfold handleLockt
  repeat' split
  case _ | _ | _ | _ | _ => exact .refl s
  case _ => exact alike_placeHold s (.lockout t) (.station l) x

theorem alike_handleUlockt (l : Link) (id t : Nat) : Alike s (handleUlockt l id t s).1 := by
  unfold handleUlockt
  split
  · exact .refl s
  · split
    · exact .refl s
    · split
      · exact .refl s
      · split
        · exact .refl s
        · split
          · exact alike_retireHold s _
          · exact .refl s

theorem alike_handleFreelock (id : Nat) : Alike s (handleFreelock id s).1 := by
  unfold handleFreelock
  split
  · exact .refl s
  · split
    · exact .refl s
    · exact alike_retireHold s _

theorem alike_handleAckflt (l : Link) (a : Axis) : Alike s (handleAckflt l a s).1 := by
  unfold handleAckflt
  split
  · exact .refl s
  · split
    · exact .refl s
    · split
      · exact .refl s
      · split
        · exact .refl s
        · exact alike_setAxis s (by rfl) (by rfl) (by rfl)

/-- R61, R88, R141, R147: what a write may have moved is judged again within it. -/
theorem judged_takeWrite (i : Item) (v : Int) : Judged s (takeWrite i v s) := by
  have shown (h : ∀ c, i ≠ .lampZone c) : Shines s (s.setConfig (writeItem s.config i v)) := by
    cases i with
    | lampZone c => exact absurd rfl (h c)
    | _ => exact ⟨rfl, fun _ => rfl, fun _ => rfl⟩
  have written (h : ∀ c, i ≠ .lampZone c) (n : isPermitItem i = false) :
      Alike s (s.setConfig (writeItem s.config i v)) := by
    cases i with
    | lampZone c => exact absurd rfl (h c)
    | pulsesPerKm | stationary | overload | derate | policyRear | policyNear | policyOff =>
      cases n
    | _ => exact ⟨rfl, rfl, fun _ => rfl, fun _ => rfl⟩
  unfold takeWrite
  dsimp only
  split
  · exact judged_writeLampZone s _ _
  · exact ((written nofun rfl).trans (alike_judgePorts _ s)).judged
  · exact judged_recomputePermits (((shown nofun).trans (shines_recomputeSpeed _)).trans
      (shines_afterSpeed _ s))
  · exact judged_permitEvent (shown nofun)
  · next zone _ _ _ =>
    have other (c : Lamp) : i ≠ .lampZone c := fun e => zone c e
    refine judged_ite (fun k => ?_) fun _ => judged_ite (fun _ => judged_recomputePermits (shown other))
      fun k => (written other (by simpa using k)).judged
    have plain : isPermitItem i = false := by
      cases i with
      | pulsesPerKm | stationary | overload | derate | policyRear | policyNear | policyOff => cases k
      | _ => rfl
    exact (written other plain).judged.trans (judged_sampleHeld _)

theorem judged_handleCfgwr (i : Nat) (v : Int) : Judged s (handleCfgwr i v s).1 := by
  unfold handleCfgwr
  split
  · exact .refl s
  · split
    · exact .refl s
    · split
      · exact .refl s
      · split
        · exact .refl s
        · exact judged_takeWrite s _ _

theorem judged_takeBands (l : List Band) : Judged s (takeBands l s) := by
  have written : Shines s (s.setConfig { s.config with bands := l }) :=
    ⟨rfl, fun _ => rfl, fun _ => rfl⟩
  exact judged_recomputePermits (written.trans (shines_sampleHeld _))

theorem judged_handleCfgband (l : List Band) : Judged s (handleCfgband l s).1 := by
  unfold handleCfgband
  dsimp only
  split
  · exact .refl s
  · split
    · exact .refl s
    · split
      · exact .refl s
      · dsimp only
        exact judged_takeBands s l

theorem alike_handleCfgsave : Alike s (handleCfgsave s).1 := by
  unfold handleCfgsave
  split
  · exact .refl s
  · exact alike_setStore s _

theorem judged_handleRstlvl (n : Nat) : Judged s (handleRstlvl n s).1 := by
  unfold handleRstlvl handleRstlvl1 handleRstlvl2
  split
  · split
    · exact .refl s
    · split
      · exact (alike_setStore s _).judged
      · exact fun _ => judgedOk_resetLevel1 s
  · split
    · split
      · exact .refl s
      · exact (alike_resetLevel2 s).judged
    · exact .refl s

theorem alike_handleRstlink (n : Nat) : Alike s (handleRstlink n s).1 := by
  unfold handleRstlink
  split
  · exact .refl s
  · exact .refl s
  · exact alike_resetLink s _

theorem judged_handleMsg (l : Link) (m : Msg) : Judged s (handleMsg l m s).1 := by
  unfold handleMsg
  cases m with
  | rqgrant a n k d => exact (alike_of_reacts (reacts_handleRqgrant l a n k d s)).judged
  | keep x a n d => exact (alike_of_reacts (reacts_handleKeep l x a n d s)).judged
  | ltgrant x a n d => exact (alike_of_reacts (reacts_handleLtgrant l x a n s)).judged
  | rsgrant x a n d => exact (alike_of_reacts (reacts_handleRsgrant l x a n s)).judged
  | stopz z => exact (alike_handleStopz s l z).judged
  | clrstop id => exact (alike_handleClrstop s l id).judged
  | lockt t x => exact (alike_handleLockt s l t x).judged
  | ulockt id t => exact (alike_handleUlockt s l id t).judged
  | ackflt a => exact (alike_handleAckflt s l a).judged
  | qgrants n =>
    show Judged s (handleQgrants n s).1
    unfold handleQgrants
    split <;> exact .refl s
  | qholds n =>
    show Judged s (handleQholds n s).1
    unfold handleQholds
    split <;> exact .refl s
  | qaxes a =>
    show Judged s (handleQaxes a s).1
    unfold handleQaxes
    split <;> exact .refl s
  | cfgrd i =>
    show Judged s (handleCfgrd i s).1
    unfold handleCfgrd
    split <;> exact .refl s
  | cfgwr i v => exact judged_handleCfgwr s i v
  | cfgband b => exact judged_handleCfgband s b
  | cfgsave => exact (alike_handleCfgsave s).judged
  | rstlvl n => exact judged_handleRstlvl s n
  | rstlink n => exact (alike_handleRstlink s n).judged
  | freelock id => exact (alike_handleFreelock s id).judged
  | notrd => exact ((alike_setNotice s _).trans (alike_judgeAttention _)).judged
  | notmsk m => exact ((alike_setNotice s _).trans (alike_judgeAttention _)).judged
  | lampra c => exact judged_rearm s c
  | fltrd => exact (alike_setFaultLog s _).judged

theorem alike_orderGends (b : State) : Alike s (orderGends b s) :=
  alike_of_reacts (reacts_orderGends b s)

theorem alike_placeMessage (l : Link) (m : OutMsg) : Alike s (placeMessage l m s) :=
  alike_of_reacts (reacts_placeMessage l m s)

theorem judged_deliver (l : Link) (f : Frame) : Judged s (deliver l f s) := by
  have handled : Judged s (handleFrame l f s).1 := by
    unfold handleFrame
    split
    · exact .refl s
    · exact judged_handleMsg s l _
  have ordered := handled.trans (alike_orderGends _ s).judged
  unfold deliver
  dsimp only
  split
  · exact ordered
  · exact ordered.trans (alike_placeMessage _ _ _).judged

end

theorem judged_drain (l : Link) (n : Nat) (s : State) : Judged s (drain l n s) := by
  induction n generalizing s with
  | zero => exact .refl s
  | succ n ih =>
    unfold drain
    dsimp only
    split
    · exact .refl s
    · split
      · have taken := (alike_putPort s l (takeFromBuffer ‹_› ‹_› (portOf l s))).judged
        split
        · exact taken.trans (ih _)
        · exact (taken.trans (judged_deliver _ l _)).trans (ih _)
      · exact .refl s

theorem judged_forEach {α : Type} {f : α → State → State} (hf : ∀ x s, Judged s (f x s))
    (l : List α) (s : State) : Judged s (forEach f l s) := by
  unfold forEach
  induction l generalizing s with
  | nil => exact .refl s
  | cons x xs ih => exact (hf x s).trans (ih _)

section
variable (s : State)

theorem judged_takeSymbol (l : Link) (x : Symbol) : Judged s (takeSymbol l x s) := by
  cases x with
  | fill => exact (alike_putPort s l _).judged
  | credit =>
    exact judged_ite (fun _ => (alike_leavePort s l _).judged) fun _ => (alike_putPort s l _).judged
  | msg m =>
    exact judged_ite (fun _ => (alike_leavePort s l _).judged)
      fun _ => (alike_putPort s l _).judged.trans (judged_drain l _ _)

theorem judged_receiveSymbol (l : Link) (x : Symbol) : Judged s (receiveSymbol l x s) := by
  unfold receiveSymbol
  split
  · exact .refl s
  · exact .refl s
  · exact (alike_putPort s l _).judged.trans (judged_takeSymbol _ l x)
  · exact judged_takeSymbol s l x

theorem judged_receiveLine (l : Link) (x : LineSymbol) : Judged s (receiveLine l x s) := by
  unfold receiveLine
  split
  · exact judged_receiveSymbol s l _
  · exact (alike_receiveError s l).judged

theorem judged_receiveSymbols (l : Link) (xs : List MsgSymbol) : Judged s (receiveSymbols l xs s) :=
  judged_forEach (fun _ t => judged_receiveLine t l _) xs s

theorem judged_afterSending (l : Link) (p : Port) : Judged s (afterSending l p s) :=
  ((alike_putPort s l p).trans (alike_closeIfEmpty _ l)).judged.trans (judged_drain l _ _)

theorem judged_messageTransmitted (l : Link) : Judged s (messageTransmitted l s) :=
  judged_ite (fun _ => judged_afterSending s l _) fun _ => .refl s

theorem judged_closeQueueEmpty (l : Link) : Judged s (closeQueueEmpty l s) :=
  judged_ite (fun _ => judged_afterSending s l _) fun _ => .refl s

theorem judged_idleExpiry (l : Link) : Judged s (idleExpiry l s) := by
  refine judged_ite (fun _ => ?_) fun _ => .refl s
  split
  · exact (alike_putPort s l _).judged
  · exact judged_ite (fun _ => judged_afterSending s l _) fun _ => (alike_putPort s l _).judged
  all_goals exact .refl s

theorem judged_waitingReset : Judged s (waitingReset s).1 := by
  unfold waitingReset
  dsimp only
  split
  · exact (alike_setStore s _).judged
  · exact (alike_setStore s _).judged
  all_goals exact fun _ => judgedOk_resetLevel1 _

theorem judged_placeResetReply (w : ReplyWait) (r : Option Reply) :
    Judged s (placeResetReply w r s) := by
  unfold placeResetReply
  split
  · exact (alike_placeMessage s _ _).judged
  · exact .refl s

theorem judged_saveCompletion : Judged s (saveCompletion s) := by
  have finished (v : Save) : Judged s (finishSave v s) := by
    have resumed : Judged s (resumeWake (storeSaved v s)) :=
      (alike_setStore s _).judged.trans
        (judged_ite (fun _ _ => judgedOk_finishWake _) fun _ => .refl _)
    unfold finishSave
    dsimp only
    split
    · exact resumed.trans (alike_orderGends _ s).judged
    · exact ((resumed.trans (judged_waitingReset _)).trans (alike_orderGends _ s).judged).trans
        (judged_placeResetReply _ _ _)
  unfold saveCompletion
  split
  · exact .refl s
  · exact judged_ite (fun _ => finished _) fun _ => .refl s

/-! ## Control periods and timers (Chapter 5) -/

theorem alike_setActuator (a : Axis) : Alike s (setActuator a s) := by
  cases a with
  | lift => exact (alike_setDrive s _).trans (alike_setDrive _ _)
  | tilt | fold | shut | ndor | odor => exact alike_setDrive s _

theorem alike_axisPeriod (a : Axis) : Alike s (axisPeriod a s) := by
  unfold axisPeriod
  split
  · exact alike_setDrive s _
  · next g _ =>
    have driven : Alike s (driveAxis g s) :=
      alike_ite (fun _ => (alike_setDrive s _).trans (alike_of_reacts (reacts_retire _ _ _)))
        fun _ => alike_setDrive s _
    have acted := driven.trans (alike_setActuator _ a)
    exact alike_ite (fun _ => acted.trans (alike_foldTravelStep _)) fun _ => acted

theorem alike_axesPeriod : Alike s (axesPeriod s) :=
  alike_ite (fun _ => alike_forEach (fun a t => alike_axisPeriod t a) _ s)
    fun _ => alike_forceOutputs s

theorem alike_ditherFlip : Alike s (ditherFlip s) :=
  alike_ite (fun _ => (alike_setDrive s _).trans
    (alike_forEach (fun _ t => alike_setDrive t _) _ _)) fun _ => .refl s

theorem judged_pumpWatch (n : Nat) : Judged s (pumpWatch n s) :=
  judged_ite (fun _ => judged_ite (fun _ => judged_pumpOvercurrent s)
    fun _ => (alike_setDrive s _).judged) fun _ => (alike_setDrive s _).judged

theorem judged_controlPeriod (c : PeriodCurrents) : Judged s (controlPeriod c s) := by
  have panels := (alike_axesPeriod s).trans
    (alike_forEach (fun m t => alike_panelPeriod t m (c.motor.get m)) Motor.list _)
  have lift (t : State) : Alike t (reportLiftOutput t) :=
    alike_setAxis t (by rfl) (by rfl) (by rfl)
  have coils := (panels.trans (lift _)).trans
    (alike_forEach (fun k t => alike_coilWatchStep t k (c.coil.get k)) Coil.list _)
  exact judged_ite (fun _ => (coils.judged.trans (judged_pumpWatch _ c.pump)).trans
    (alike_setDrive _ _).judged) fun _ => .refl s

/-! ## Every step -/

theorem judged_conclude (b : State) : Judged s (conclude b s) := by
  unfold conclude
  split
  · exact (judged_enterOff s).trans (alike_judgeDemands _ b).judged
  · exact (alike_judgeDemands s b).judged

theorem judged_event {f : State → State} (h : Judged s (f s)) : Judged s (event f s) :=
  (h.trans (alike_orderGends _ s).judged).trans (judged_conclude _ s)

theorem judged_portEvent {f : State → State} (h : Judged s (f s)) : Judged s (portEvent f s) :=
  h.trans (judged_conclude _ s)

theorem Alike.event {s : State} {f : State → State} (h : Alike s (f s)) : Judged s (event f s) :=
  judged_event s h.judged

theorem Alike.portEvent {s : State} {f : State → State} (h : Alike s (f s)) :
    Judged s (portEvent f s) := judged_portEvent s h.judged

theorem judged_exec (i : Instr) : ∃ t, exec i s = .next t ∧ Judged s t := by
  cases i with
  | rqgrant | keep | ltgrant | rsgrant | stopz | clrstop | lockt | ulockt | ackflt | qgrants
  | qholds | qaxes | cfgrd | cfgwr | cfgband | cfgsave | rstlvl1 | rstlvl2 | rstlink | freelock
  | notrd | notmsk | lampra | fltrd | malformedFrame =>
    exact ⟨_, rfl, judged_portEvent s (judged_receiveSymbols s _ _)⟩
  | creditReceived | fillReceived | overrun =>
    exact ⟨_, rfl, judged_portEvent s (judged_receiveLine s _ _)⟩
  | dropReceived l b => exact ⟨_, rfl, judged_portEvent s (judged_receiveSymbols s l _)⟩
  | checkError l => exact ⟨_, rfl, (alike_receiveError s l).portEvent⟩
  | silenceExpiry l => exact ⟨_, rfl, (alike_silenceExpiry s l).portEvent⟩
  | heldLowExpiry l => exact ⟨_, rfl, (alike_heldLowExpiry s l).portEvent⟩
  | idleTimerExpiry l => exact ⟨_, rfl, judged_portEvent s (judged_idleExpiry s l)⟩
  | messageTransmitted l => exact ⟨_, rfl, judged_portEvent s (judged_messageTransmitted s l)⟩
  | closeQueueEmpty l => exact ⟨_, rfl, judged_portEvent s (judged_closeQueueEmpty s l)⟩
  | closePendingExpiry l => exact ⟨_, rfl, (alike_closeExpiry s l).portEvent⟩
  | saveCompletion => exact ⟨_, rfl, judged_portEvent s (judged_saveCompletion s)⟩
  | deadmanExpiry x => exact ⟨_, rfl, (alike_of_reacts (reacts_deadmanExpiry x s)).event⟩
  | pauseWindowExpiry x => exact ⟨_, rfl, (alike_of_reacts (reacts_pauseExpiry x s)).event⟩
  | startDelayExpiry => exact ⟨_, rfl, (alike_setDrive s _).event⟩
  | controlPeriod c => exact ⟨_, rfl, judged_event s (judged_controlPeriod s c)⟩
  | ditherFlip => exact ⟨_, rfl, (alike_ditherFlip s).event⟩
  | pumpOvercurrent => exact ⟨_, rfl, judged_event s (judged_pumpOvercurrent s)⟩
  | foldTravelLimit => exact ⟨_, rfl, (alike_foldTravelEvent s).event⟩
  | axisSample x => exact ⟨_, rfl, judged_event s (judged_axisSampleEvent s x)⟩
  | stall => exact ⟨_, rfl, (alike_stallEvent s).event⟩
  | pressureSample n => exact ⟨_, rfl, judged_event s (judged_pressureEvent s n)⟩
  | pulseArrival n => exact ⟨_, rfl, judged_event s (judged_pulseArrival s n)⟩
  | pulseTimerExpiry => exact ⟨_, rfl, judged_event s (judged_pulseTimerExpiry s)⟩
  | pbrkChange b => exact ⟨_, rfl, judged_event s (judged_pbrkEvent s b)⟩
  | ignOn p => exact ⟨_, rfl, judged_event s (judged_ignOn s p)⟩
  | ignOff o => exact ⟨_, rfl, judged_event s (judged_ignOff s o)⟩
  | estopAssertion => exact ⟨_, rfl, (alike_estopAssert s).event⟩
  | estopRelease => exact ⟨_, rfl, (alike_estopRelease s).event⟩
  | doorSwitchChange d w b => exact ⟨_, rfl, (alike_doorEvent s d w b).event⟩
  | shutterSwitchChange w b => exact ⟨_, rfl, (alike_shutterEvent s w b).event⟩
  | safetyEdgeChange b => exact ⟨_, rfl, (alike_edgeEvent s b).event⟩
  | latchPulseExpiry d => exact ⟨_, rfl, (alike_latchPulseExpired s d).event⟩
  | engageExpiry d => exact ⟨_, rfl, (alike_engageExpired s d).event⟩
  | obstructionOvertime m => exact ⟨_, rfl, (alike_of_reacts (reacts_obstructionEvent m s)).event⟩
  | panelTravelLimit m => exact ⟨_, rfl, (alike_panelTravelEvent s m).event⟩
  | beaconTick n => exact ⟨_, rfl, judged_event s (judged_beaconTick s n)⟩
  | lampShort c => exact ⟨_, rfl, judged_event s (judged_lampShort s c)⟩
  | lampTestMeasurement n => exact ⟨_, rfl, judged_event s (judged_lampTestMeasure s n)⟩
  | lampTestEnd => exact ⟨_, rfl, (alike_lampTestExpiry s).event⟩
  | supplySample v t => exact ⟨_, rfl, judged_event s (judged_supplySample s v t)⟩
  | supplylowTrip => exact ⟨_, rfl, judged_event s (judged_lowTrip s)⟩
  | supplyhighTrip => exact ⟨_, rfl, judged_event s (judged_highTrip s)⟩
  | returnCountExpiry => exact ⟨_, rfl, judged_event s (judged_returnComplete s)⟩
  | wakeTimerExpiry => exact ⟨_, rfl, judged_event s (judged_wakeExpiry s)⟩
  | checkTimerExpiry => exact ⟨_, rfl, judged_event s (judged_checkExpiry s)⟩
  | retryTimerExpiry => exact ⟨_, rfl, judged_event s (judged_retryExpiry s)⟩
  | closedownTimerExpiry => exact ⟨_, rfl, judged_event s (judged_closedownExpiry s)⟩
  | retryEntryAgeing => exact ⟨_, rfl, (alike_ageHistory s).event⟩
  | powerOnReset b i => exact ⟨_, rfl, judged_event s (judged_powerOnReset s b i)⟩

theorem alike_tick : Alike s (tick s) := ⟨rfl, rfl, fun _ => rfl, fun _ => rfl⟩

end

/-- Settles O9: each command leaves alone what the map and the health are judged from, or judges them
again. -/
theorem stepKeepsJudgements : Obligations.StepKeepsJudgements := by
  unfold Obligations.StepKeepsJudgements
  intro s t h e
  rcases step_cases e with ⟨-, rfl⟩ | ⟨c, rest, -, e⟩
  · exact (alike_tick s).judged h
  · obtain ⟨u, hu, k⟩ := judged_exec (s.setPending rest) c
    rw [hu] at e
    cases e
    exact k (Alike.judged (s := s) ⟨rfl, rfl, fun _ => rfl, fun _ => rfl⟩ h)

end Sys2Proof.Machine.Steps
end

section
/-! What a step runs (logs 1, 28, 42) and the values after power-on reset. -/

namespace Sys2Proof.Machine.Steps

/-! ## A millisecond with no command waiting -/

theorem countDown_eq (o : Option Nat) : countDown o = less o := by cases o <;> rfl
theorem runsOut_eq (o : Option Nat) : runsOut o = lastMs o := by cases o <;> rfl
theorem reaches_eq (n : Nat) (o : Option Nat) : reaches n o = fullMs n o := by cases o <;> rfl
theorem countUp_eq (n : Nat) (o : Option Nat) : countUp n o = o.map fun k => min n (k + 1) := by
  cases o <;> rfl

theorem mem_due {b : Bool} {i c : Instr} : c ∈ due b i ↔ b = true ∧ c = i := by
  cases b <;> simp [due]

theorem mem_grantDue {g : Grant} {c : Instr} : c ∈ grantDue g ↔
    lastMs g.deadman = true ∧ c = .deadmanExpiry g.handle ∨
      lastMs g.pause = true ∧ c = .pauseWindowExpiry g.handle := by
  simp only [grantDue, List.mem_append, mem_due, runsOut_eq]

theorem mem_portDue {p : Port} {l : Link} {c : Instr} : c ∈ portDue p l ↔
    ((fullMs 4 p.silence = true ∧ c = .silenceExpiry l ∨
      lastMs p.heldLow = true ∧ c = .heldLowExpiry l) ∨
      fullMs 1 p.idle = true ∧ c = .idleTimerExpiry l) ∨
      lastMs (p.close.map (·.remaining)) = true ∧ c = .closePendingExpiry l := by
  simp only [portDue, List.mem_append, mem_due, runsOut_eq, reaches_eq]
  rfl

theorem mem_doorDue {r : LatchRecord} {d : Door} {c : Instr} : c ∈ doorDue r d ↔
    lastMs r.pulse = true ∧ c = .latchPulseExpiry d ∨
      lastMs r.engage = true ∧ c = .engageExpiry d := by
  simp only [doorDue, List.mem_append, mem_due, runsOut_eq]

theorem modeTimerOut_eq (s : State) : modeTimerOut s.mode = modeLastMs s := by
  unfold modeTimerOut modeLastMs
  rw [runsOut_eq]
  cases s.mode.loadWaits <;> rfl

theorem mem_modeDue {s : State} {c : Instr} : c ∈ modeDue s.mode ↔ modeLastMs s = true ∧
    (s.mode.mode = .wake ∧ c = .wakeTimerExpiry ∨ s.mode.mode = .check ∧ c = .checkTimerExpiry ∨
      s.mode.mode = .retry ∧ c = .retryTimerExpiry ∨
      s.mode.mode = .closedown ∧ c = .closedownTimerExpiry) := by
  unfold modeDue
  split <;> next e => simp [mem_due, modeTimerOut_eq, e]

/-- Log 28: the commands queued in a millisecond are those whose time runs out in it. -/
theorem mem_expiries (c : Instr) (s : State) : c ∈ expiries s ↔ fallsDue c s = true := by
  have link (l : Link) : l ∈ Link.list := by cases l <;> decide
  unfold expiries
  simp only [List.mem_append, List.mem_flatMap, mem_grantDue, mem_portDue, mem_doorDue, mem_due,
    mem_modeDue, runsOut_eq, reaches_eq]
  cases c
  case deadmanExpiry h | pauseWindowExpiry h => simp [fallsDue, eq_comm (a := h), and_comm]
  case silenceExpiry l | heldLowExpiry l | idleTimerExpiry l | closePendingExpiry l =>
    simp [fallsDue, link]
  case latchPulseExpiry d | engageExpiry d => cases d <;> simp [fallsDue, latchOf, PerDoor.get]
  case wakeTimerExpiry | checkTimerExpiry | retryTimerExpiry | closedownTimerExpiry =>
    simp [fallsDue, and_comm]
  case retryEntryAgeing => simp [fallsDue, retryAgeMs]
  all_goals simp [fallsDue, lampTestMs]

theorem portTick_eq (p : Port) : portTick p = { p with
    silence := p.silence.map fun n => min 4 (n + 1)
    heldLow := less p.heldLow
    idle := p.idle.map fun n => min 1 (n + 1)
    close := p.close.map fun c => { c with remaining := c.remaining - 1 } } := by
  unfold portTick
  rw [countUp_eq, countUp_eq, countDown_eq]
  rfl

theorem millisecondPassed_tick (s : State) : MillisecondPassed s (tick s) where
  due := fun c => mem_expiries c s
  grant := by
    simp only [← countDown_eq]
    rfl
  latch := fun d => by
    rw [← countDown_eq, ← countDown_eq]
    cases d <;> rfl
  panel := rfl
  mode := by
    rw [← countDown_eq]
    rfl
  permit := by
    rw [← countDown_eq]
    rfl
  drive := by
    rw [← countDown_eq]
    rfl
  beacon := rfl
  store := rfl
  port := fun l => by
    rw [portOf_tick, portTick_eq]
  frame := rfl

/-- Settles O1: `step` by its two branches. -/
theorem stepRunsFrontCommand : Obligations.StepRunsFrontCommand := by
  unfold Obligations.StepRunsFrontCommand
  refine ⟨fun c s rest e => ?_, fun s e => ⟨tick s, ?_, millisecondPassed_tick s⟩⟩
  · unfold step
    rw [e]
  · unfold step
    rw [e]

/-! ## Power-on reset -/

/-- R165: every item at its default, by its row of sixteen numbers; a number that names no item has
none. -/
theorem itemDefaults_rows : ∀ k : Fin 16, ∀ j : Fin 16,
    (itemOf (16 * k + j)).map (readItem State.reset.config) =
      (itemDefaults.find? fun e => decide (e.1 = 16 * k.val + j.val)).map (·.2) := by
  decide

theorem itemDefaults_reset (n : Nat) (h : n < 256) : (itemOf n).map (readItem State.reset.config) =
    (itemDefaults.find? fun e => decide (e.1 = n)).map (·.2) := by
  have row := itemDefaults_rows ⟨n / 16, by omega⟩ ⟨n % 16, by omega⟩
  have e : 16 * (n / 16) + n % 16 = n := Nat.div_add_mod n 16
  simpa only [e] using row

/-- Settles O2: each block of the reset state, evaluated. -/
theorem resetIsSound : Obligations.ResetIsSound := by
  unfold Obligations.ResetIsSound
  have sound : Sound State.reset := sound_of_free rfl fun r => by cases r <;> rfl
  refine ⟨⟨holdsOk_powerOn _ _ _, portsOk_powerOn _ _ _, ?_, sound.grants, sound.slots, ?_,
    judgedOk_powerOn _ _ _, ?_⟩, rfl, rfl, rfl, rfl, rfl, ?_, rfl, ?_, ?_, rfl, rfl, ?_, ?_, rfl, rfl, ?_,
    rfl, rfl, rfl, rfl, rfl, itemDefaults_reset, rfl⟩
  · exact fun _ => ⟨rfl, rfl, rfl, rfl, rfl, rfl, rfl, rfl, rfl⟩
  · exact fun g hg => absurd hg List.not_mem_nil
  · exact ⟨fun a => by cases a <;> exact Nat.zero_le _, fun m => by cases m <;> exact Nat.zero_le _⟩
  · exact fun a n => by cases a <;> cases n <;> exact ⟨rfl, rfl⟩
  · exact fun m => by cases m <;> rfl
  · exact fun d => by cases d <;> rfl
  · exact fun k => by cases k <;> rfl
  · exact fun z => by cases z <;> rfl
  · exact fun l => by cases l <;> rfl

end Sys2Proof.Machine.Steps
end

section
/-! R146, R157, R160 to R165: the frame of a message names it again, the four checks on a frame, the symbols
on the line. -/

namespace Sys2Proof.Machine.Steps

open Motion (word16_bytes)
open Holds (word32_bytes byteOf_toNat)

/-! ## Sets and fields -/

theorem bitsOf_lt (l : List Bool) : bitsOf l < 2 ^ l.length := by
  induction l with
  | nil => exact Nat.one_pos
  | cons b bs ih =>
    rw [bitsOf, List.length_cons, Nat.pow_succ]
    cases b <;> simp only [Bool.toNat_true, Bool.toNat_false] <;> omega

/-- R160: the bit of a member of a set. -/
theorem testBit_bitsOf (l : List Bool) (i : Nat) : (bitsOf l).testBit i = l.getD i false := by
  induction l generalizing i with
  | nil => exact Nat.zero_testBit i
  | cons b bs ih =>
    cases i with
    | zero => cases b <;> simp [bitsOf, Nat.testBit_zero]
    | succ i =>
      have half : bitsOf (b :: bs) / 2 = bitsOf bs := by
        rw [bitsOf]
        cases b <;> simp only [Bool.toNat_true, Bool.toNat_false] <;> omega
      rw [Nat.testBit_succ, half, ih]
      rfl

theorem zoneSetOf_bits (z : PerZone Bool) : zoneSetOf (zoneSetBits z) = z := by
  simp only [zoneSetOf, zoneSetBits, testBit_bitsOf]
  rfl

theorem axisSetOf_bits (x : PerAxis Bool) : axisSetOf (axisSetBits x) = x := by
  simp only [axisSetOf, axisSetBits, testBit_bitsOf]
  rfl

theorem noticeSetOf_bits (n : NoticeSet) : noticeSetOf (noticeBits n) = n := by
  simp only [noticeSetOf, noticeBits, testBit_bitsOf]
  rfl

/-- R164: a channel set, channel 1 in bit 0. -/
def lampSetBits (c : PerLamp Bool) : Nat :=
  bitsOf [c.ch1, c.ch2, c.ch3, c.ch4, c.ch5, c.ch6, c.ch7, c.ch8, c.ch9, c.ch10, c.ch11, c.ch12]

theorem lampSetOf_bits (c : PerLamp Bool) : lampSetOf (lampSetBits c) = c := by
  simp only [lampSetOf, lampSetBits, testBit_bitsOf]
  rfl

theorem toNat_byteOf {n : Nat} (h : n < 256) : (byteOf n).toNat = n := Nat.mod_eq_of_lt h

theorem toNat_word16 {n : Nat} (h : n < 65536) : (BitVec.ofNat 16 n).toNat = n := Nat.mod_eq_of_lt h

theorem toNat_word32 {n : Nat} (h : n < 4294967296) : (BitVec.ofNat 32 n).toNat = n :=
  Nat.mod_eq_of_lt h

/-- R164: the band a word carries is the band it was made of. -/
theorem bandOfWord_wordOfBand {b : Band} (low : b.low < 2048) (raise : b.raiseLimit < 1024)
    (lower : b.lowerLimit < 1024) : bandOfWord (wordOfBand b) = b := by
  have lowField : (wordOfBand b).extractLsb' 20 11 = BitVec.ofNat 11 b.low := by
    unfold wordOfBand
    ext i hi
    simp only [BitVec.getElem_extractLsb', BitVec.getLsbD_append]
    simp [show ¬ 20 + i < 10 by omega, show ¬ 20 + i - 10 < 10 by omega,
      show 20 + i - 10 - 10 = i by omega, hi]
  have raiseField : (wordOfBand b).extractLsb' 10 10 = BitVec.ofNat 10 b.raiseLimit := by
    unfold wordOfBand
    ext i hi
    simp only [BitVec.getElem_extractLsb', BitVec.getLsbD_append]
    simp [show ¬ 10 + i < 10 by omega, show 10 + i - 10 = i by omega, hi]
  have lowerField : (wordOfBand b).extractLsb' 0 10 = BitVec.ofNat 10 b.lowerLimit := by
    unfold wordOfBand
    ext i hi
    simp only [BitVec.getElem_extractLsb', BitVec.getLsbD_append]
    simp [hi]
  have tilt : (wordOfBand b).getLsbD 31 = b.tiltAllowed := by
    unfold wordOfBand
    rw [BitVec.getLsbD_append, BitVec.getLsbD_append, BitVec.getLsbD_append]
    simp
  unfold bandOfWord
  rw [lowField, raiseField, lowerField, tilt, BitVec.toNat_ofNat, BitVec.toNat_ofNat,
    BitVec.toNat_ofNat, Nat.mod_eq_of_lt low, Nat.mod_eq_of_lt raise, Nat.mod_eq_of_lt lower]

theorem wordsOf_bytes (ws : List Word32) : wordsOf (ws.flatMap bytes32) = ws := by
  induction ws with
  | nil => rfl
  | cons w ws ih =>
    have first : wordsOf ((w :: ws).flatMap bytes32) =
        word32 (w.extractLsb' 24 8) (w.extractLsb' 16 8) (w.extractLsb' 8 8) (w.extractLsb' 0 8) ::
          wordsOf (ws.flatMap bytes32) := rfl
    rw [first, word32_bytes, ih]

theorem bands_words {l : List Band}
    (h : ∀ b ∈ l, b.low < 2048 ∧ b.raiseLimit < 1024 ∧ b.lowerLimit < 1024) :
    (l.map wordOfBand).map bandOfWord = l := by
  rw [List.map_map]
  refine (List.map_congr_left fun b hb => ?_).trans (List.map_id l)
  obtain ⟨low, raise, lower⟩ := h b hb
  exact bandOfWord_wordOfBand low raise lower

/-! ## Frames (R160) -/

/-- R162, R164: the kind of a message. -/
def kindOfMsg : Msg → MsgKind
  | .rqgrant _ _ _ _ => .rqgrant | .keep _ _ _ _ => .keep | .ltgrant _ _ _ _ => .ltgrant
  | .rsgrant _ _ _ _ => .rsgrant | .stopz _ => .stopz | .clrstop _ => .clrstop
  | .lockt _ _ => .lockt | .ulockt _ _ => .ulockt | .ackflt _ => .ackflt
  | .qgrants _ => .qgrants | .qholds _ => .qholds | .qaxes _ => .qaxes | .cfgrd _ => .cfgrd
  | .cfgwr _ _ => .cfgwr | .cfgband _ => .cfgband | .cfgsave => .cfgsave | .rstlvl _ => .rstlvl
  | .rstlink _ => .rstlink | .freelock _ => .freelock | .notrd => .notrd | .notmsk _ => .notmsk
  | .lampra _ => .lampra | .fltrd => .fltrd

theorem msgKindOf_code (k : MsgKind) : msgKindOf (msgKindCode k) = some k := by cases k <;> rfl

theorem supervisorKind_eq (k : MsgKind) : supervisorKind k = decide (12 < msgKindCode k) := by
  cases k <;> rfl

/-- R160: a frame of the right length whose byte 0 names a kind is refused to an operator link, or read
field by field. -/
theorem parseFrame_of_kind {l : Link} {b : Byte} {rest : List Byte} {k : MsgKind}
    (kind : msgKindOf b.toNat = some k) (length : (b :: rest).length = frameLength (b :: rest) k) :
    parseFrame l ⟨b :: rest, false⟩ =
      if supervisorKind k = true ∧ l ≠ .sl0 then .reject .notsuper else parseFields k rest := by
  unfold parseFrame
  dsimp only
  rw [kind]
  dsimp only
  rw [if_neg (not_not.mpr length)]

/-- R162, R164: the field bytes of a message. -/
def fieldBytes (m : Msg) : List Byte := (encodeMsg m).tail

theorem encodeMsg_eq (m : Msg) :
    encodeMsg m = byteOf (msgKindCode (kindOfMsg m)) :: fieldBytes m := by cases m <;> rfl

theorem toNat_kindByte (k : MsgKind) : (byteOf (msgKindCode k)).toNat = msgKindCode k := by
  cases k <;> rfl

theorem words_length (ws : List Word32) : (ws.flatMap bytes32).length = 4 * ws.length := by
  induction ws with
  | nil => rfl
  | cons w ws ih =>
    rw [List.flatMap_cons, List.length_append, ih, List.length_cons]
    show 4 + 4 * ws.length = _
    omega

theorem encodeMsg_length {m : Msg} (h : MsgOk m) :
    (encodeMsg m).length = frameLength (encodeMsg m) (kindOfMsg m) ∧ (encodeMsg m).length ≤ 40 := by
  cases m with
  | cfgband l =>
    obtain ⟨few, -⟩ := h
    have count : byteAt (encodeMsg (.cfgband l)) 1 = l.length := by
      show (byteOf (l.map wordOfBand).length).toNat = _
      rw [List.length_map]
      exact toNat_byteOf (by omega)
    have length : (encodeMsg (.cfgband l)).length = 2 + 4 * l.length := by
      show (([34#8, _] : List Byte) ++ (l.map wordOfBand).flatMap bytes32).length = _
      rw [List.length_append, words_length, List.length_map]
      rfl
    refine ⟨?_, by omega⟩
    show _ = 2 + 4 * byteAt (encodeMsg (.cfgband l)) 1
    rw [count, length]
  | _ => exact ⟨rfl, Nat.le_of_ble_eq_true rfl⟩

theorem parseFields_word16 (d : Nat) (h : d < 65536) :
    (word16 ((BitVec.ofNat 16 d).extractLsb' 8 8) ((BitVec.ofNat 16 d).extractLsb' 0 8)).toNat = d := by
  rw [word16_bytes, toNat_word16 h]

theorem referenceField_encoded {h d : Nat} (hh : h < 256) (hd : d < 65536) (a : Axis) (n : Sense)
    (f : Nat → Axis → Sense → Nat → Msg) :
    referenceField (byteOf h) (byteOf (axisCode a)) (byteOf (senseCode n))
      (word16 ((BitVec.ofNat 16 d).extractLsb' 8 8) ((BitVec.ofNat 16 d).extractLsb' 0 8)).toNat f =
        .msg (f h a n d) := by
  unfold referenceField
  rw [Motion.axisOfCode_byteOf, Motion.senseOfCode_byteOf, parseFields_word16 d hd, toNat_byteOf hh]

/-- R160 check 4: the fields of a message in range name it. -/
theorem parseFields_encoded {m : Msg} (h : MsgOk m) :
    parseFields (kindOfMsg m) (fieldBytes m) = .msg m := by
  cases m with
  | rqgrant a n k d =>
    show (match axisOfCode _, senseOfCode _, kindOfCode _ with
      | some a, some n, some k => Parsed.msg (.rqgrant a n k (word16 _ _).toNat)
      | _, _, _ => .reject .badvalue) = _
    rw [Motion.axisOfCode_byteOf, Motion.senseOfCode_byteOf, Motion.kindOfCode_byteOf,
      parseFields_word16 d h]
  | keep x a n d | ltgrant x a n d | rsgrant x a n d => exact referenceField_encoded h.1 h.2 a n _
  | stopz z =>
    have bits : zoneSetBits z < 2 ^ 4 := bitsOf_lt _
    show coded (zoneSetField (byteOf (zoneSetBits z)).toNat) Msg.stopz = _
    rw [toNat_byteOf (by omega), zoneSetField, if_pos (by omega), zoneSetOf_bits]
    rfl
  | lockt t x =>
    have bits : axisSetBits x < 2 ^ 6 := bitsOf_lt _
    show coded (axisSetField (byteOf (axisSetBits x)).toNat) (Msg.lockt (word32 _ _ _ _).toNat) = _
    rw [toNat_byteOf (by omega), axisSetField, if_pos (by omega), axisSetOf_bits, word32_bytes,
      toNat_word32 h]
    rfl
  | ulockt id t =>
    show Parsed.msg (.ulockt (byteOf id).toNat (word32 _ _ _ _).toNat) = _
    rw [word32_bytes, toNat_word32 h.2, toNat_byteOf h.1]
  | ackflt a | qaxes a =>
    show coded (axisOfCode (byteOf (axisCode a)).toNat) _ = _
    rw [Motion.axisOfCode_byteOf]
    rfl
  | qgrants n | qholds n =>
    show coded (firstField (byteOf n).toNat) _ = _
    rw [toNat_byteOf h.2, firstField, if_neg (Nat.pos_iff_ne_zero.mp h.1)]
    rfl
  | cfgwr i v =>
    obtain ⟨hi, lo, hv⟩ := h
    show Parsed.msg (.cfgwr (byteOf i).toNat (word32 _ _ _ _).toInt) = _
    rw [word32_bytes, toNat_byteOf hi, BitVec.toInt_ofInt]
    rw [Int.bmod_eq_of_le (by omega) (by omega)]
  | cfgband l =>
    show Parsed.msg (.cfgband ((wordsOf ((l.map wordOfBand).flatMap bytes32)).map bandOfWord)) = _
    rw [wordsOf_bytes, bands_words h.2]
  | notmsk n =>
    have bits : noticeBits n < 2 ^ 10 := bitsOf_lt _
    show Parsed.msg (.notmsk (noticeSetOf (word16 _ _).toNat)) = _
    rw [parseFields_word16 _ (by omega), noticeSetOf_bits]
  | lampra c =>
    have bits : lampSetBits c < 2 ^ 12 := bitsOf_lt _
    show coded (lampSetField (word16 ((BitVec.ofNat 16 (lampSetBits c)).extractLsb' 8 8)
      ((BitVec.ofNat 16 (lampSetBits c)).extractLsb' 0 8)).toNat) Msg.lampra = _
    rw [parseFields_word16 _ (by omega), lampSetField, if_pos (by omega), lampSetOf_bits]
    rfl
  | clrstop n =>
    show Parsed.msg (.clrstop (byteOf n).toNat) = _
    rw [toNat_byteOf h]
  | cfgrd n =>
    show Parsed.msg (.cfgrd (byteOf n).toNat) = _
    rw [toNat_byteOf h]
  | rstlvl n =>
    show Parsed.msg (.rstlvl (byteOf n).toNat) = _
    rw [toNat_byteOf h]
  | rstlink n =>
    show Parsed.msg (.rstlink (byteOf n).toNat) = _
    rw [toNat_byteOf h]
  | freelock n =>
    show Parsed.msg (.freelock (byteOf n).toNat) = _
    rw [toNat_byteOf h]
  | cfgsave | notrd | fltrd => rfl

/-- R160: the frame of a message in range names it, or is refused to an operator link. -/
theorem parseFrame_encodeMsg {m : Msg} (h : MsgOk m) (l : Link) :
    parseFrame l ⟨encodeMsg m, false⟩ =
      if supervisorKind (kindOfMsg m) = true ∧ l ≠ .sl0 then .reject .notsuper else .msg m := by
  have length := (encodeMsg_length h).1
  rw [encodeMsg_eq] at length ⊢
  rw [parseFrame_of_kind (by rw [toNat_kindByte, msgKindOf_code]) length, parseFields_encoded h]

/-- Settles O11: a frame's kind and length are its message's, and its fields name the message. -/
theorem frameNamesItsMessage : Obligations.FrameNamesItsMessage := by
  unfold Obligations.FrameNamesItsMessage
  intro m h
  refine ⟨(encodeMsg_length h).2, (parseFrame_encodeMsg h .sl0).trans (if_neg fun c => c.2 rfl), ?_⟩
  intro l station
  have first : byteAt (encodeMsg m) 0 = msgKindCode (kindOfMsg m) := by
    rw [encodeMsg_eq]
    exact toNat_kindByte _
  rw [parseFrame_encodeMsg h l, supervisorKind_eq, first]
  by_cases operator : msgKindCode (kindOfMsg m) ≤ 12
  · rw [if_pos operator, if_neg]
    simp [operator]
  · rw [if_neg operator, if_pos ⟨decide_eq_true (Nat.lt_of_not_le operator), station⟩]

end Sys2Proof.Machine.Steps
end

section
/-! R3, R36, R98 to R100, R146, R160: the four checks on a frame, the symbols on the line, the numbers
allocated and the output of a period. -/

namespace Sys2Proof.Machine.Steps

/-! ## The four checks (R160) -/

theorem axisOfCode_of_le {n : Nat} (h : n ≤ 5) : ∃ a, axisOfCode n = some a := by
  interval_cases n <;> exact ⟨_, rfl⟩
theorem axisOfCode_of_lt {n : Nat} (h : 5 < n) : axisOfCode n = none := by
  unfold axisOfCode
  split
  all_goals first | omega | rfl
theorem senseOfCode_of_le {n : Nat} (h : n ≤ 1) : ∃ x, senseOfCode n = some x := by
  interval_cases n <;> exact ⟨_, rfl⟩
theorem senseOfCode_of_lt {n : Nat} (h : 1 < n) : senseOfCode n = none := by
  unfold senseOfCode
  split
  all_goals first | omega | rfl
theorem kindOfCode_of_le {n : Nat} (h : n ≤ 1) : ∃ k, kindOfCode n = some k := by
  interval_cases n <;> exact ⟨_, rfl⟩
theorem kindOfCode_of_lt {n : Nat} (h : 1 < n) : kindOfCode n = none := by
  unfold kindOfCode
  split
  all_goals first | omega | rfl

/-- R160 check 4: a coded field is answered BADVALUE exactly where it has no meaning. -/
def CheckedBy (bad : Bool) (p : Parsed) : Prop :=
  (bad = true → p = .reject .badvalue) ∧ (bad = false → ∃ m, p = .msg m)

theorem checkedBy_msg (m : Msg) : CheckedBy false (.msg m) := ⟨nofun, fun _ => ⟨m, rfl⟩⟩

theorem checkedBy_coded {α : Type} {bad : Bool} {v : Option α} (f : α → Msg)
    (none : bad = true → v = none) (some : bad = false → ∃ a, v = some a) :
    CheckedBy bad (coded v f) :=
  ⟨fun b => by rw [none b]; rfl, fun b => by obtain ⟨a, e⟩ := some b; exact ⟨f a, by rw [e]; rfl⟩⟩

theorem checkedBy_axis (f : Axis → Msg) (x : Byte) :
    CheckedBy (decide (5 < x.toNat)) (coded (axisOfCode x.toNat) f) :=
  checkedBy_coded f (fun b => axisOfCode_of_lt (of_decide_eq_true b))
    fun b => axisOfCode_of_le (Nat.le_of_not_lt (of_decide_eq_false b))

theorem checkedBy_reference (h a n : Byte) (d : Nat) (f : Nat → Axis → Sense → Nat → Msg) :
    CheckedBy (decide (5 < a.toNat ∨ 1 < n.toNat)) (referenceField h a n d f) := by
  unfold referenceField
  constructor
  · intro b
    rcases of_decide_eq_true b with big | big
    · rw [axisOfCode_of_lt big]
    · rw [senseOfCode_of_lt big]
      cases axisOfCode a.toNat <;> rfl
  · intro b
    obtain ⟨axis, sense⟩ := not_or.mp (of_decide_eq_false b)
    obtain ⟨x, hx⟩ := axisOfCode_of_le (Nat.le_of_not_lt axis)
    obtain ⟨y, hy⟩ := senseOfCode_of_le (Nat.le_of_not_lt sense)
    exact ⟨f h.toNat x y d, by rw [hx, hy]⟩

/-- R160 check 4: the three coded fields of a request. -/
def requestField (a : Option Axis) (n : Option Sense) (k : Option RunKind) (d : Nat) : Parsed :=
  match a, n, k with
  | some a, some n, some k => .msg (.rqgrant a n k d)
  | _, _, _ => .reject .badvalue

theorem parseFields_request (a n k hi lo : Byte) : parseFields .rqgrant [a, n, k, hi, lo] =
    requestField (axisOfCode a.toNat) (senseOfCode n.toNat) (kindOfCode k.toNat)
      (word16 hi lo).toNat := rfl

theorem checkedBy_request (a n k hi lo : Byte) :
    CheckedBy (decide (5 < a.toNat ∨ 1 < n.toNat ∨ 1 < k.toNat))
      (parseFields .rqgrant [a, n, k, hi, lo]) := by
  rw [parseFields_request]
  constructor
  · intro b
    rcases of_decide_eq_true b with big | big | big
    · rw [axisOfCode_of_lt big]
      rfl
    · rw [senseOfCode_of_lt big]
      cases axisOfCode a.toNat <;> rfl
    · rw [kindOfCode_of_lt big]
      cases axisOfCode a.toNat <;> cases senseOfCode n.toNat <;> rfl
  · intro b
    obtain ⟨axis, rest⟩ := not_or.mp (of_decide_eq_false b)
    obtain ⟨sense, kind⟩ := not_or.mp rest
    obtain ⟨x, hx⟩ := axisOfCode_of_le (Nat.le_of_not_lt axis)
    obtain ⟨y, hy⟩ := senseOfCode_of_le (Nat.le_of_not_lt sense)
    obtain ⟨z, hz⟩ := kindOfCode_of_le (Nat.le_of_not_lt kind)
    exact ⟨.rqgrant x y z (word16 hi lo).toNat, by rw [hx, hy, hz]; rfl⟩

theorem checkedBy_first (f : Nat → Msg) (x : Byte) :
    CheckedBy (decide (x.toNat = 0)) (coded (firstField x.toNat) f) :=
  checkedBy_coded f (fun b => if_pos (of_decide_eq_true b))
    fun b => ⟨_, if_neg (of_decide_eq_false b)⟩

theorem toNat_hi_lo (hi lo : Byte) : (word16 hi lo).toNat = hi.toNat * 256 + lo.toNat := by
  rw [word16, BitVec.toNat_append, Nat.shiftLeft_eq]
  have sum := Nat.two_pow_add_eq_or_of_lt lo.isLt hi.toNat
  rw [Nat.mul_comm] at sum
  exact sum.symm

/-- R160 check 4: a set has no bit beyond its members. -/
theorem checkedBy_set {α : Type} (f : α → Msg) (g : Nat → α) (m n : Nat) :
    CheckedBy (decide (m < n)) (coded (if n < m + 1 then some (g n) else none) f) :=
  checkedBy_coded f (fun b => if_neg (by have := of_decide_eq_true b; omega))
    fun b => ⟨g n, if_pos (by have := of_decide_eq_false b; omega)⟩

theorem checkedBy_lamps (hi lo : Byte) : CheckedBy (decide (15 < hi.toNat))
    (coded (lampSetField (word16 hi lo).toNat) .lampra) := by
  have bound := lo.isLt
  have value := toNat_hi_lo hi lo
  refine checkedBy_coded _ (fun b => if_neg ?_) fun b => ⟨_, if_pos ?_⟩
  · have := of_decide_eq_true b
    omega
  · have := of_decide_eq_false b
    omega

/-- R160 check 4 over the fields of a frame of the right length. -/
theorem checkedBy_fields {b : Byte} {rest : List Byte} {k : MsgKind}
    (length : (b :: rest).length = frameLength (b :: rest) k) :
    CheckedBy (codedFieldBad (b :: rest) k) (parseFields k rest) := by
  have none (e : rest.length = 0) : rest = [] := List.length_eq_zero_iff.mp e
  have one (e : rest.length = 1) : ∃ x, rest = [x] := List.length_eq_one_iff.mp e
  have two (e : rest.length = 2) : ∃ x y, rest = [x, y] := List.length_eq_two.mp e
  have five (e : rest.length = 5) : ∃ v w x y z, rest = [v, w, x, y, z] := by
    obtain _ | ⟨v, _ | ⟨w, _ | ⟨x, _ | ⟨y, _ | ⟨z, _ | ⟨_, _⟩⟩⟩⟩⟩⟩ := rest
    all_goals first | exact ⟨_, _, _, _, _, rfl⟩ | cases e
  have tail : rest.length + 1 = frameLength (b :: rest) k := length
  cases k with
  | rqgrant =>
    obtain ⟨a, n, k, hi, lo, rfl⟩ := five (Nat.succ.inj tail)
    exact checkedBy_request a n k hi lo
  | keep | ltgrant | rsgrant =>
    obtain ⟨h, a, n, hi, lo, rfl⟩ := five (Nat.succ.inj tail)
    exact checkedBy_reference h a n _ _
  | stopz =>
    obtain ⟨z, rfl⟩ := one (Nat.succ.inj tail)
    exact checkedBy_set _ zoneSetOf 15 z.toNat
  | lockt =>
    obtain ⟨v, w, x, y, z, rfl⟩ := five (Nat.succ.inj tail)
    exact checkedBy_set _ axisSetOf 63 z.toNat
  | ackflt | qaxes =>
    obtain ⟨a, rfl⟩ := one (Nat.succ.inj tail)
    exact checkedBy_axis _ a
  | qgrants | qholds =>
    obtain ⟨n, rfl⟩ := one (Nat.succ.inj tail)
    exact checkedBy_first _ n
  | lampra =>
    obtain ⟨hi, lo, rfl⟩ := two (Nat.succ.inj tail)
    exact checkedBy_lamps hi lo
  | clrstop | cfgrd | rstlvl | rstlink | freelock =>
    obtain ⟨x, rfl⟩ := one (Nat.succ.inj tail)
    exact checkedBy_msg _
  | ulockt | cfgwr =>
    obtain ⟨v, w, x, y, z, rfl⟩ := five (Nat.succ.inj tail)
    exact checkedBy_msg _
  | cfgsave | notrd | fltrd =>
    obtain rfl := none (Nat.succ.inj tail)
    exact checkedBy_msg _
  | notmsk =>
    obtain ⟨hi, lo, rfl⟩ := two (Nat.succ.inj tail)
    exact checkedBy_msg _
  | cfgband =>
    cases rest with
    | nil => cases tail
    | cons n words => exact checkedBy_msg _

theorem supervisorKind_of_byte {n : Nat} {k : MsgKind} (h : msgKindOf n = some k) :
    supervisorKind k = decide (32 ≤ n) := by
  unfold msgKindOf at h
  split at h <;> cases h <;> rfl

/-- Settles O12: the handler's checks are the statement's, the fourth read on the field bytes. -/
theorem frameChecksInOrder : Obligations.FrameChecksInOrder := by
  unfold Obligations.FrameChecksInOrder
  rintro l ⟨bytes, overlong⟩
  cases bytes with
  | nil => exact ⟨fun _ => by cases overlong <;> rfl, fun k n => absurd rfl n⟩
  | cons b rest =>
    refine ⟨fun malformed => ?_, fun k _ whole kind => ?_⟩
    · rcases malformed with empty | long | unknown
      · cases empty
      · change overlong = true at long
        rw [long]
        rfl
      · change msgKindOf b.toNat = none at unknown
        unfold parseFrame
        cases overlong
        · dsimp only
          rw [unknown]
        · rfl
    · change overlong = false at whole
      change msgKindOf b.toNat = some k at kind
      rw [whole]
      have checks : parseFrame l ⟨b :: rest, false⟩ =
          if supervisorKind k = true ∧ l ≠ .sl0 then .reject .notsuper
          else if (b :: rest).length ≠ frameLength (b :: rest) k then .reject .badmsg
          else parseFields k rest := by
        unfold parseFrame
        dsimp only
        rw [kind]
      rw [checks, supervisorKind_of_byte kind]
      refine ⟨fun ⟨super, station⟩ => if_pos ⟨decide_eq_true super, station⟩, fun from0 => ?_⟩
      have passed : ¬ (decide (32 ≤ b.toNat) = true ∧ l ≠ .sl0) := by
        rintro ⟨super, station⟩
        rcases from0 with low | super0
        · exact absurd (of_decide_eq_true super) (Nat.not_le_of_lt low)
        · exact station super0
      rw [if_neg passed]
      refine ⟨fun wrong => if_pos wrong, fun length => ?_⟩
      rw [if_neg (not_not.mpr length)]
      exact checkedBy_fields length

/-! ## Symbols (R146) -/

theorem count_true_parity (l : List Bool) :
    l.count true % 2 = (l.foldr xor false).toNat := by
  induction l with
  | nil => rfl
  | cons b bs ih =>
    rw [List.count_cons, List.foldr_cons]
    cases b
    · simpa using ih
    · rw [beq_self_eq_true, if_pos rfl, Bool.true_xor]
      cases odd : bs.foldr xor false <;> rw [odd] at ih <;> simp only [Bool.toNat_true, Bool.toNat_false,
        Bool.not_true, Bool.not_false] at ih ⊢ <;> omega

/-- R146: the ones among the kind, payload and check bits are even in number exactly where their sum
modulo 2 is 0. -/
theorem even_ones_iff (y : LineSymbol) : (((symbolBits y).drop 1).take 10).count true % 2 = 0 ↔
    (y.control ^^ oddOnes y.payload ^^ y.check) = false := by
  have sum : (((symbolBits y).drop 1).take 10).foldr xor false =
      (y.control ^^ oddOnes y.payload ^^ y.check) := by
    simp only [symbolBits, oddOnes, List.drop_succ_cons, List.drop_zero, List.take_succ_cons,
      List.take_zero, List.foldr_cons, List.foldr_nil, Bool.xor_false, Bool.xor_assoc]
  rw [count_true_parity, sum]
  cases (y.control ^^ oddOnes y.payload ^^ y.check) <;> simp

theorem decodeSymbol_data (b : Byte) : decodeSymbol (lineSymbol false b) = some (.msg (.data b)) := by
  unfold decodeSymbol lineSymbol
  cases oddOnes b <;> rfl

/-- R146: a CONTROL symbol of right parity spells a symbol exactly where its upper payload bits are
clear. -/
theorem decodeSymbol_control_none (p : Byte) (c : Bool) (odd : (true ^^ oddOnes p ^^ c) = true) :
    decodeSymbol ⟨true, p, c⟩ = none ↔ 4 ≤ p.toNat := by
  unfold decodeSymbol
  dsimp only
  rw [if_neg (by rw [odd]; nofun), if_neg (by nofun)]
  have value (n : Nat) (h : n < 256) : p = BitVec.ofNat 8 n ↔ p.toNat = n := by
    rw [BitVec.toNat_eq, BitVec.toNat_ofNat, Nat.mod_eq_of_lt h]
  simp only [value 0 (by decide), value 1 (by decide), value 2 (by decide), value 3 (by decide)]
  split_ifs <;> simp <;> omega

/-- Settles O13: the parity of a symbol sent is odd, and a symbol of odd parity is spelt by its payload. -/
theorem symbolsReadBack : Obligations.SymbolsReadBack := by
  unfold Obligations.SymbolsReadBack
  refine ⟨fun x => ?_, fun y => ?_⟩
  · cases x with
    | credit | fill => rfl
    | msg m =>
      cases m with
      | eom | drop => rfl
      | data b => exact decodeSymbol_data b
  · rw [even_ones_iff]
    obtain ⟨control, payload, check⟩ := y
    cases odd : (control ^^ oddOnes payload ^^ check) with
    | false => simp [decodeSymbol, odd]
    | true =>
      cases control with
      | false =>
        unfold decodeSymbol
        rw [if_neg (by rw [odd]; nofun), if_pos rfl]
        simp
      | true =>
        rw [decodeSymbol_control_none payload check odd]
        simp

/-! ## Numbers allocated (R3, R36) -/

/-- R3, R36: the number allocated follows the last by numbers that are all live. -/
theorem allocate_iterate (live : List Nat) (fuel last : Nat) :
    ∃ k : Nat, numberAfter^[k + 1] last = allocate live (fuel + 1) last ∧
      ∀ j : Nat, j < k → numberAfter^[j + 1] last ∈ live := by
  induction fuel generalizing last with
  | zero =>
    refine ⟨0, ?_, nofun⟩
    show numberAfter last = if live.contains (numberAfter last) then numberAfter last else numberAfter last
    rw [ite_self]
  | succ fuel ih =>
    have step : allocate live (fuel + 2) last =
        if live.contains (numberAfter last) then allocate live (fuel + 1) (numberAfter last)
        else numberAfter last := rfl
    rw [step]
    split
    · next taken =>
      obtain ⟨k, found, passed⟩ := ih (numberAfter last)
      refine ⟨k + 1, found, fun j hj => ?_⟩
      cases j with
      | zero => exact List.contains_iff_mem.mp taken
      | succ j => exact passed j (Nat.lt_of_succ_lt_succ hj)
    · exact ⟨0, rfl, nofun⟩

/-- Settles O15: with 24 live records one of the 255 numbers is free, and the search passes over live ones
alone. -/
theorem numbersAllocatedInOrder : Obligations.NumbersAllocatedInOrder := by
  unfold Obligations.NumbersAllocatedInOrder
  intro live last few _
  obtain ⟨free, low, high⟩ := allocate_fresh live last (by omega)
  exact ⟨free, low, high, allocate_iterate live 254 last⟩

/-! ## The output of a period (R98 to R100) -/

theorem rampStep_pos {time : Nat} (h : time ≠ 0) : 1 ≤ rampStep time :=
  (Nat.one_le_div_iff (Nat.pos_of_ne_zero h)).mpr (by omega)

/-- R99, R100: an amount of at least 1, up to the distance. -/
theorem rampAmount_range {time distance : Nat} (p : RampProfile) (ht : time ≠ 0)
    (hd : distance ≠ 0) :
    1 ≤ rampAmount p time distance ∧ rampAmount p time distance ≤ distance := by
  have step := rampStep_pos ht
  cases p <;> simp only [rampAmount] <;> omega

/-- R99, R100: a ramp step stays between the output and the target, and moves unless it is there. -/
theorem rampTo_range (a : Axis) (target output : Nat) (c : DriveItems) :
    min output target ≤ rampTo a target output c ∧ rampTo a target output c ≤ max output target ∧
      (rampTo a target output c = output → output = target) := by
  unfold rampTo
  dsimp only
  split
  · next rises =>
    split
    · omega
    · next time =>
      have amount := rampAmount_range (c.profile.get a) time (Nat.sub_ne_zero_of_lt rises)
      omega
  · split
    · next falls =>
      split
      · omega
      · next time =>
        have amount := rampAmount_range (c.profile.get a) time (Nat.sub_ne_zero_of_lt falls)
        omega
    · omega

theorem targetOf_le (g : Grant) (limit : Nat) : targetOf g limit ≤ limit := by
  unfold targetOf
  split
  · exact Nat.min_le_right _ _
  · exact Nat.zero_le _

theorem gateOutput_le (gate : Gate) (g : Grant) (a : Axis) {limit target o : Nat} (c : DriveItems)
    (ho : o ≤ limit) (ht : target ≤ limit) : gateOutput gate g a limit target o c ≤ limit := by
  unfold gateOutput
  split
  · exact (rampTo_range a target o c).2.1.trans (Nat.max_le.mpr ⟨ho, ht⟩)
  · exact Nat.zero_le _
  · split
    · exact Nat.min_le_right _ _
    · exact Nat.zero_le _

/-- Settles O16: the ramp lies between the clamped output and the target, which both stand within the
limit. -/
theorem outputStaysUnderLimit : Obligations.OutputStaysUnderLimit := by
  unfold Obligations.OutputStaysUnderLimit
  intro g s
  set limit := effectiveLimit g.axis g.sense s with hlimit
  have target := targetOf_le g limit
  have clamp : min (s.drive.output.get g.axis) limit ≤ limit := Nat.min_le_right _ _
  have either : nextOutput g s = 0 ∧ s.drive.startDelay.get g.axis ≠ none ∨
      nextOutput g s = gateOutput (gateOf g.axis s) g g.axis limit (targetOf g limit)
        (min (s.drive.output.get g.axis) limit) s.config.drive := by
    unfold nextOutput
    dsimp only
    split
    · next e => exact .inl ⟨rfl, by rw [e]; nofun⟩
    · exact .inr rfl
  refine ⟨?_, fun rests => ?_, fun gate delay => ?_⟩
  · rcases either with ⟨e, -⟩ | e <;> rw [e]
    · exact Nat.zero_le _
    · exact gateOutput_le _ g g.axis s.config.drive clamp target
  · rcases either with ⟨e, -⟩ | e <;> rw [e]
    · exact Nat.zero_le _
    · have zero : targetOf g limit = 0 := if_neg rests
      unfold gateOutput
      split
      · have ramp := (rampTo_range g.axis (targetOf g limit) (min (s.drive.output.get g.axis) limit)
          s.config.drive).2.1
        omega
      · exact Nat.zero_le _
      · rw [if_neg rests]
        exact Nat.zero_le _
  · rcases either with ⟨-, delayed⟩ | e
    · exact absurd delay delayed
    · rw [e, gate]
      exact rampTo_range g.axis (targetOf g limit) _ s.config.drive

end Sys2Proof.Machine.Steps
end

section
/-! R165: a configuration value written reads back, and no other item changes. -/

namespace Sys2Proof.Machine.Steps

/-! ## Reading back -/

theorem allowedBits_eq (p : PerAxis (PerSense Bool)) : allowedBits p =
    bitsOf [p.lift.sense0, p.lift.sense1, p.tilt.sense0, p.tilt.sense1, p.fold.sense0, p.fold.sense1,
      p.shut.sense0, p.shut.sense1, p.ndor.sense0, p.ndor.sense1, p.odor.sense0, p.odor.sense1] := rfl

/-- R160: an allowed set of twelve bits is the number it was made of. -/
theorem allowedBits_allowedOf {n : Nat} (h : n < 4096) : allowedBits (allowedOf n) = n := by
  refine Nat.eq_of_testBit_eq fun i => ?_
  rw [allowedBits_eq, testBit_bitsOf]
  by_cases inside : i < 12
  · interval_cases i <;> rfl
  · rw [List.getD_eq_default _ _ (by simpa using Nat.le_of_not_lt inside)]
    refine (Nat.testBit_lt_two_pow (h.trans_le ?_)).symm
    calc
      4096 = 2 ^ 12 := rfl
      _ ≤ 2 ^ i := Nat.pow_le_pow_right (by decide) (Nat.le_of_not_lt inside)

theorem nonneg_of_inRange {lo hi v : Int} (h : inRange lo hi v = true) (l : 0 ≤ lo) : 0 ≤ v :=
  l.trans (of_decide_eq_true h).1

theorem nonneg_of_onStep {lo hi k v : Int} (h : onStep lo hi k v = true) (l : 0 ≤ lo) : 0 ≤ v :=
  nonneg_of_inRange (Bool.and_eq_true_iff.mp h).1 l

/-- The two values of a one-bit item. -/
theorem bit_of_inRange {v : Int} (h : inRange 0 1 v = true) : v = 0 ∨ v = 1 := by
  have := of_decide_eq_true h
  omega

/-- R165: an item whose values are numbers takes one that is not below 0. -/
theorem nonneg_of_validValue {c : WorkingConfig} {i : Item} {v : Int} (h : validValue c i v = true)
    (n : i ≠ .downLimit) : 0 ≤ v := by
  have left {a b : Bool} (h : (a && b) = true) : a = true := (Bool.and_eq_true_iff.mp h).1
  cases i with
  | downLimit => exact absurd rfl n
  | ground | bed | bedHeight | levelTolerance | upLimit | overload | derate | imin | imax | enabled =>
    exact nonneg_of_inRange (left h) (by decide)
  | rampUp | rampDown =>
    rcases Bool.or_eq_true_iff.mp h with zero | step
    · exact (of_decide_eq_true zero).ge
    · exact nonneg_of_onStep step (by decide)
  | ditherHalfPeriod | openThreshold | deadman | pauseWindow => exact nonneg_of_onStep h (by decide)
  | rate =>
    have := of_decide_eq_true h
    omega
  | _ => exact nonneg_of_inRange h (by decide)

theorem policyCode_ofCode {v : Int} (h : v = 0 ∨ v = 1) : (policyCode (policyOfCode v) : Int) = v := by
  rcases h with rfl | rfl <;> rfl
theorem rampProfileCode_ofCode {v : Int} (h : v = 0 ∨ v = 1) :
    (rampProfileCode (rampProfileOfCode v) : Int) = v := by rcases h with rfl | rfl <;> rfl
theorem linkModeCode_ofCode {v : Int} (h : v = 0 ∨ v = 1) :
    (linkModeCode (linkModeOfCode v) : Int) = v := by rcases h with rfl | rfl <;> rfl
theorem toNat_decide_one {v : Int} (h : v = 0 ∨ v = 1) : ((decide (v = 1)).toNat : Int) = v := by
  rcases h with rfl | rfl <;> rfl

theorem zoneCode_ofCode {v : Int} (h : inRange 0 4 v = true) : (zoneCode (zoneOfCode v) : Int) = v := by
  obtain ⟨low, high⟩ := of_decide_eq_true h
  interval_cases v <;> rfl

/-- R165: a value an item takes is the value it then reads. -/
theorem readItem_writeItem_same {c : WorkingConfig} {i : Item} {v : Int}
    (h : validValue c i v = true) : readItem (writeItem c i v) i = v := by
  have number (n : i ≠ .downLimit) : ((v.toNat : Nat) : Int) = v :=
    Int.toNat_of_nonneg (nonneg_of_validValue h n)
  cases i with
  | upLimit | downLimit => rfl
  | policyRear | policyNear | policyOff => exact policyCode_ofCode (bit_of_inRange h)
  | rampUp a => exact (congrArg Nat.cast (PerAxis.get_set_same ..)).trans (number nofun)
  | rampDown a => exact (congrArg Nat.cast (PerAxis.get_set_same ..)).trans (number nofun)
  | rampProfile a =>
    exact (congrArg (fun p => (rampProfileCode p : Int)) (PerAxis.get_set_same ..)).trans
      (rampProfileCode_ofCode (bit_of_inRange h))
  | imin k => exact (congrArg Nat.cast (PerCoil.get_set_same ..)).trans (number nofun)
  | imax k => exact (congrArg Nat.cast (PerCoil.get_set_same ..)).trans (number nofun)
  | obstruction m => exact (congrArg Nat.cast (PerMotor.get_set_same ..)).trans (number nofun)
  | lampZone k =>
    exact (congrArg (fun z => (zoneCode z : Int)) (PerLamp.get_set_same ..)).trans (zoneCode_ofCode h)
  | rate l => exact (congrArg Nat.cast (PerLink.get_set_same ..)).trans (number nofun)
  | rank l =>
    exact (congrArg (fun p : Profile => (p.rank : Int)) (PerLink.get_set_same ..)).trans
      (number nofun)
  | allowed l =>
    have bound : v.toNat < 4096 := by
      have := of_decide_eq_true h
      omega
    refine (congrArg (fun p : Profile => (allowedBits p.allowed : Int))
      (PerLink.get_set_same ..)).trans ?_
    dsimp only
    rw [allowedBits_allowedOf bound]
    exact number nofun
  | latched l =>
    exact (congrArg (fun p : Profile => (p.latched.toNat : Int)) (PerLink.get_set_same ..)).trans
      (toNat_decide_one (bit_of_inRange h))
  | tagReader l =>
    exact (congrArg (fun p : Profile => (p.tagReader.toNat : Int)) (PerLink.get_set_same ..)).trans
      (toNat_decide_one (bit_of_inRange h))
  | linkMode l =>
    exact (congrArg (fun p : Profile => (linkModeCode p.mode : Int)) (PerLink.get_set_same ..)).trans
      (linkModeCode_ofCode (bit_of_inRange h))
  | enabled l =>
    exact (congrArg (fun p : Profile => (p.enabled.toNat : Int)) (PerLink.get_set_same ..)).trans
      (toNat_decide_one (bit_of_inRange (Bool.and_eq_true_iff.mp h).1))
  | _ => exact number nofun

/-! ## Other items -/

/-- R165: the part of the working configuration an item stands in. -/
inductive ItemPart where
  | calibration | permit | drive | obstruction | lamp | rate | deadman | pauseWindow | profile
  deriving DecidableEq

def partOf : Item → ItemPart
  | .ground | .bed | .bedHeight | .endMargin | .levelReading | .gain | .levelTolerance | .upLimit
  | .downLimit => .calibration
  | .pulsesPerKm | .stationary | .overload | .derate | .policyRear | .policyNear | .policyOff => .permit
  | .rampUp _ | .rampDown _ | .rampProfile _ | .hysteresis | .tiltSpeed | .runFold | .runShut
  | .runNdor | .runOdor | .imin _ | .imax _ | .ditherAmplitude | .ditherHalfPeriod | .pumpLimit =>
    .drive
  | .obstruction _ => .obstruction
  | .lampZone _ | .openThreshold | .closedownTime => .lamp
  | .rate _ => .rate
  | .deadman => .deadman
  | .pauseWindow => .pauseWindow
  | .rank _ | .allowed _ | .latched _ | .tagReader _ | .linkMode _ | .enabled _ => .profile

/-- Two configurations agree in a part. -/
def SamePart (c d : WorkingConfig) : ItemPart → Prop
  | .calibration => d.calibration = c.calibration
  | .permit => d.permit = c.permit
  | .drive => d.drive = c.drive
  | .obstruction => d.obstruction = c.obstruction
  | .lamp => d.lamp = c.lamp
  | .rate => d.rate = c.rate
  | .deadman => d.deadman = c.deadman
  | .pauseWindow => d.pauseWindow = c.pauseWindow
  | .profile => d.profile = c.profile

theorem samePart_writeItem (c : WorkingConfig) (i : Item) (v : Int) {p : ItemPart}
    (h : p ≠ partOf i) : SamePart c (writeItem c i v) p := by
  cases p <;> cases i <;> first | rfl | exact absurd rfl h

theorem readItem_congr {c d : WorkingConfig} {j : Item} (h : SamePart c d (partOf j)) :
    readItem d j = readItem c j := by
  cases j <;> simp only [partOf, SamePart] at h <;> simp only [readItem, h]

section
variable (c : WorkingConfig) {i j : Item} (v : Int)

theorem calibration_kept (hi : partOf i = .calibration) (hj : partOf j = .calibration) (h : i ≠ j) :
    readItem (writeItem c i v) j = readItem c j := by
  cases i <;> cases hi <;> cases j <;> cases hj <;> first | rfl | exact absurd rfl h

theorem permit_kept (hi : partOf i = .permit) (hj : partOf j = .permit) (h : i ≠ j) :
    readItem (writeItem c i v) j = readItem c j := by
  cases i <;> cases hi <;> cases j <;> cases hj <;> first | rfl | exact absurd rfl h

/-- R165: a drive item of an axis or a coil channel is that one's alone. -/
theorem drive_kept (hi : partOf i = .drive) (hj : partOf j = .drive) (h : i ≠ j) :
    readItem (writeItem c i v) j = readItem c j := by
  cases i with
  | rampUp a =>
    cases j with
    | rampUp b => exact congrArg Nat.cast (PerAxis.get_set_ne _ _ fun e => h (congrArg _ e.symm))
    | _ => cases hj <;> rfl
  | rampDown a =>
    cases j with
    | rampDown b => exact congrArg Nat.cast (PerAxis.get_set_ne _ _ fun e => h (congrArg _ e.symm))
    | _ => cases hj <;> rfl
  | rampProfile a =>
    cases j with
    | rampProfile b =>
      exact congrArg (fun p => (rampProfileCode p : Int))
        (PerAxis.get_set_ne _ _ fun e => h (congrArg _ e.symm))
    | _ => cases hj <;> rfl
  | imin a =>
    cases j with
    | imin b => exact congrArg Nat.cast (PerCoil.get_set_ne _ _ fun e => h (congrArg _ e.symm))
    | _ => cases hj <;> rfl
  | imax a =>
    cases j with
    | imax b => exact congrArg Nat.cast (PerCoil.get_set_ne _ _ fun e => h (congrArg _ e.symm))
    | _ => cases hj <;> rfl
  | _ => cases hi <;> cases j <;> cases hj <;> first | rfl | exact absurd rfl h

theorem lamp_kept (hi : partOf i = .lamp) (hj : partOf j = .lamp) (h : i ≠ j) :
    readItem (writeItem c i v) j = readItem c j := by
  cases i with
  | lampZone x =>
    cases j with
    | lampZone y =>
      exact congrArg (fun z => (zoneCode z : Int))
        (PerLamp.get_set_ne _ _ fun e => h (congrArg _ e.symm))
    | _ => cases hj <;> rfl
  | _ => cases hi <;> cases j <;> cases hj <;> first | rfl | exact absurd rfl h

theorem obstruction_kept (hi : partOf i = .obstruction) (hj : partOf j = .obstruction) (h : i ≠ j) :
    readItem (writeItem c i v) j = readItem c j := by
  cases i <;> cases hi <;> cases j <;> cases hj
  exact congrArg Nat.cast (PerMotor.get_set_ne _ _ fun e => h (congrArg _ e.symm))

theorem rate_kept (hi : partOf i = .rate) (hj : partOf j = .rate) (h : i ≠ j) :
    readItem (writeItem c i v) j = readItem c j := by
  cases i <;> cases hi <;> cases j <;> cases hj
  exact congrArg Nat.cast (PerLink.get_set_ne _ _ fun e => h (congrArg _ e.symm))

/-- R165: the link whose profile a profile item stands in. -/
def profileLink : Item → Option Link
  | .rank l | .allowed l | .latched l | .tagReader l | .linkMode l | .enabled l => some l
  | _ => none

theorem readItem_profile {c d : WorkingConfig} {l : Link} (hj : profileLink j = some l)
    (h : d.profile.get l = c.profile.get l) : readItem d j = readItem c j := by
  cases j <;> cases hj <;> simp only [readItem, h]

theorem profile_get_writeItem {k : Link} (hi : partOf i = .profile) (h : profileLink i ≠ some k) :
    (writeItem c i v).profile.get k = c.profile.get k := by
  cases i <;> cases hi <;> exact PerLink.get_set_ne _ _ fun e => h (by rw [e]; rfl)

/-- R165: one item of a profile leaves the profile's other items as they are. -/
theorem own_profile_kept {l : Link} (hi : profileLink i = some l) (hj : profileLink j = some l)
    (h : i ≠ j) : readItem (writeItem c i v) j = readItem c j := by
  cases i <;> cases hi <;> cases j <;> cases hj <;>
    first | exact absurd rfl h | simp only [readItem, writeItem, setProfile, PerLink.get_set_same]

theorem profile_kept (hi : partOf i = .profile) (hj : partOf j = .profile) (h : i ≠ j) :
    readItem (writeItem c i v) j = readItem c j := by
  obtain ⟨k, hk⟩ : ∃ k, profileLink j = some k := by cases j <;> cases hj <;> exact ⟨_, rfl⟩
  by_cases own : profileLink i = some k
  · exact own_profile_kept c v own hk h
  · exact readItem_profile hk (profile_get_writeItem c v hi own)

/-- R165: no other item's value changes. -/
theorem readItem_writeItem_ne (h : i ≠ j) : readItem (writeItem c i v) j = readItem c j := by
  by_cases same : partOf j = partOf i
  · cases hi : partOf i with
    | calibration => exact calibration_kept c v hi (same.trans hi) h
    | permit => exact permit_kept c v hi (same.trans hi) h
    | drive => exact drive_kept c v hi (same.trans hi) h
    | obstruction => exact obstruction_kept c v hi (same.trans hi) h
    | lamp => exact lamp_kept c v hi (same.trans hi) h
    | rate => exact rate_kept c v hi (same.trans hi) h
    | profile => exact profile_kept c v hi (same.trans hi) h
    | deadman =>
      have hj := same.trans hi
      cases i <;> cases hi <;> cases j <;> cases hj
      exact absurd rfl h
    | pauseWindow =>
      have hj := same.trans hi
      cases i <;> cases hi <;> cases j <;> cases hj
      exact absurd rfl h
  · exact readItem_congr (samePart_writeItem c i v same)

end

/-- Settles O14: a written value is coded and decoded alike, and stands apart from the other items. -/
theorem itemsReadBackWritten : Obligations.ItemsReadBackWritten := by
  unfold Obligations.ItemsReadBackWritten
  exact fun c i j v h => ⟨readItem_writeItem_same h, readItem_writeItem_ne c v⟩

end Sys2Proof.Machine.Steps
end

section
/-! Messages that are answered at once: a frame that fails a check, a message abandoned, a message of a
supervisor from another link, and the handlers that leave the ports and the judgements alone (R153, R160). -/

namespace Sys2Proof.Machine.Steps

open Motion Holds

/-! ## A frame handed over (R153, R160) -/

/-- R153: a frame of more than 40 bytes keeps its first 40, marked overlong. -/
theorem frameOf_overlong {pre bytes : List Byte} (begun : pre ≠ []) (fits : pre.length ≤ 40)
    (long : 40 < pre.length + bytes.length) :
    ∃ kept, frameOf bytes (some ⟨pre, false⟩) = some ⟨kept, true⟩ ∧ kept.headD 0#8 = pre.headD 0#8 := by
  induction bytes generalizing pre with
  | nil => simp at long; omega
  | cons b bs ih =>
    by_cases full : frameBytes ≤ pre.length
    · have stays (xs : List Byte) : frameOf xs (some ⟨pre, true⟩) = some ⟨pre, true⟩ := by
        induction xs with
        | nil => rfl
        | cons x xs ih => exact ih
      refine ⟨pre, ?_, rfl⟩
      have marked : addByte b (some ⟨pre, false⟩) = ⟨pre, true⟩ := by
        simp [addByte, full]
      calc
        frameOf (b :: bs) (some ⟨pre, false⟩) = frameOf bs (some (addByte b (some ⟨pre, false⟩))) :=
          rfl
        _ = _ := by rw [marked, stays]
    · have joined : addByte b (some ⟨pre, false⟩) = ⟨pre ++ [b], false⟩ := by
        simp [addByte, full]
      unfold frameBytes at full
      obtain ⟨kept, frame, first⟩ := ih (pre := pre ++ [b]) (by simp) (by simp; omega)
        (by simp at long ⊢; omega)
      refine ⟨kept, ?_, ?_⟩
      · calc
          frameOf (b :: bs) (some ⟨pre, false⟩) =
              frameOf bs (some (addByte b (some ⟨pre, false⟩))) := rfl
          _ = _ := by rw [joined, frame]
      · obtain ⟨x, xs, rfl⟩ := List.exists_cons_of_ne_nil begun
        exact first

/-- R153: the frame that the bytes of a message make. -/
def framed (bytes : List Byte) : Frame := (frameOf bytes none).getD ⟨[], false⟩

theorem framed_short {bytes : List Byte} (short : bytes.length ≤ 40) : framed bytes = ⟨bytes, false⟩ :=
  frameOf_none bytes short

theorem framed_long {bytes : List Byte} (long : 40 < bytes.length) :
    (framed bytes).overlong = true ∧ kindEcho (framed bytes) = bytes.headD 0#8 := by
  cases bytes with
  | nil => simp at long
  | cons b bs =>
    obtain ⟨kept, frame, first⟩ := frameOf_overlong (pre := [b]) (bytes := bs) (by simp) (by simp)
      (by simp at long ⊢; omega)
    have made : framed (b :: bs) = ⟨kept, true⟩ := by
      show (frameOf bs (some ⟨[b], false⟩)).getD _ = _
      rw [frame]
      rfl
    rw [made]
    exact ⟨rfl, first⟩

/-- R153: a message of any length received on a ready link hands its frame over. -/
theorem receiveFrame_hands {l : Link} {s : State} (h : Ready l s) (bytes : List Byte) :
    receiveFrame l bytes s = drain l 1 (deliver l (framed bytes) (handed l bytes s)) := by
  have takes : Takes (portOf l s) := ⟨h.up, h.hand, h.close, h.buffer, h.credit⟩
  obtain ⟨data, takes'⟩ := receive_data bytes s takes
  have frame : (dataTaken bytes (portOf l s)).frame = frameOf bytes none := by
    cases bytes with
    | nil => exact h.frame
    | cons b bs =>
      have first := symbolTaken_eq (.data b) (portOf l s)
      have rest := dataTaken_eq bs (symbolTaken (.data b) (portOf l s)) (by rw [first]) (by rw [first])
      have split : dataTaken (b :: bs) (portOf l s) =
        dataTaken bs (symbolTaken (.data b) (portOf l s)) := rfl
      rw [split, rest, first]
      simp only [frameAfter, frameOf, List.foldl_cons, h.frame]
  unfold receiveFrame receiveSymbols
  simp only [forEach, List.foldl_append, List.foldl_cons, List.foldl_nil] at data ⊢
  rw [data, receiveSymbol_takes .eom (by rw [portOf_putPort_same]; exact takes')]
  simp only [frameHanded, portOf_putPort_same, putPort_putPort, frame]
  rfl

/-- R160: a frame that fails a check is answered with that check's refusal, and nothing else changes. -/
theorem answeredOnly_of_reject {l : Link} {bytes : List Byte} {s : State} {st : Status} (h : Ready l s)
    (echo : kindEcho (framed bytes) = bytes.headD 0#8)
    (rejected : parseFrame l (framed bytes) = .reject st) :
    AnsweredOnly (bytes.length + 1) l (.rply (bytes.headD 0#8) st []) s
      (portEvent (receiveFrame l bytes) s) := by
  have delivered : deliver l (framed bytes) (handed l bytes s) =
      replied l bytes ⟨st, []⟩ (handed l bytes s) := by
    unfold deliver handleFrame
    rw [rejected]
    dsimp only [refuse]
    rw [orderGends_of_port rfl, echo]
    rfl
  have left := replied_eq (bytes := bytes) (r := ⟨st, []⟩) (v := handed l bytes s) h rfl
  have received : receiveFrame l bytes s = replied l bytes ⟨st, []⟩ (handed l bytes s) := by
    rw [receiveFrame_hands h, delivered]
    exact drain_of_empty (by rw [left, portOf_putPort_same]; exact h.buffer) 1
  have closed : portEvent (receiveFrame l bytes) s = replied l bytes ⟨st, []⟩ (handed l bytes s) := by
    unfold portEvent
    rw [received]
    exact conclude_of_unjudged (by rw [left]; rfl) (by rw [left]; rfl) (by rw [left]; rfl)
      (by rw [left]; rfl)
  rw [closed]
  refine ⟨?_, handled_replied (r := ⟨st, []⟩) h rfl⟩
  rw [left, portOf_putPort_same, handed, putPort_putPort]

/-- R160 check 2: a supervisor's message from another link is refused. -/
theorem answeredOnly_notsuper {l : Link} {b : Byte} {rest : List Byte} {k : MsgKind} {s : State}
    (h : Ready l s) (station : l ≠ .sl0) (kind : msgKindOf b.toNat = some k)
    (super : supervisorKind k = true) (short : (b :: rest).length ≤ 40) :
    AnsweredOnly ((b :: rest).length + 1) l (.rply b .notsuper []) s
      (portEvent (receiveFrame l (b :: rest)) s) := by
  refine answeredOnly_of_reject h (by rw [framed_short short]; rfl) ?_
  rw [framed_short short]
  unfold parseFrame
  dsimp only
  rw [kind]
  exact if_pos ⟨super, station⟩

/-- R151, R153: the port after a message's bytes and a DROP. -/
theorem dataTaken_drop (bytes : List Byte) {p : Port} (buffer : p.buffer = []) (frame : p.frame = none) :
    symbolTaken .drop (dataTaken bytes p) = taken (bytes.length + 1) p := by
  have whole (bytes : List Byte) {p : Port} (buffer : p.buffer = []) :
      symbolTaken .drop (dataTaken bytes p) =
        { taken (bytes.length + 1) p with frame := none } := by
    induction bytes generalizing p with
    | nil =>
      show symbolTaken .drop p = _
      rw [symbolTaken_eq_taken .drop buffer]
      rfl
    | cons b bs ih =>
      have first := symbolTaken_eq_taken (.data b) buffer
      have split : dataTaken (b :: bs) p = dataTaken bs (symbolTaken (.data b) p) := rfl
      rw [split, ih (by rw [first]; exact buffer), first]
      calc
        _ = { taken (bs.length + 1) (taken 1 p) with frame := none } := rfl
        _ = _ := by rw [taken_taken, List.length_cons]
  rw [whole bytes buffer]
  simp [taken, frame]

/-- Settles O17: the frame handed over fails its check, and a DROP hands none over. -/
theorem refusedFramesChangeNothing : Obligations.RefusedFramesChangeNothing := by
  unfold Obligations.RefusedFramesChangeNothing
  intro l bytes s ready
  refine ⟨fun st short rejected => ⟨_, rfl, ?_⟩, fun long => ⟨_, rfl, ?_⟩, ⟨_, rfl, ?_⟩⟩
  · rw [← framed_short short] at rejected
    exact answeredOnly_of_reject ready (by rw [framed_short short]; rfl) rejected
  · obtain ⟨overlong, echo⟩ := framed_long long
    refine answeredOnly_of_reject ready echo ?_
    unfold parseFrame
    rw [overlong]
    split
    · rfl
    · rfl
    · next no => cases no
  · unfold portEvent
    rw [receiveDropped_ready ready, dataTaken_drop bytes ready.buffer ready.frame]
    exact conclude_of_unjudged rfl rfl rfl rfl

end Sys2Proof.Machine.Steps
end

section
/-! The close of an event that leaves its mode alone (R134, R175), and the messages whose handlers retire no
grant: the queries, KEEP, ACKFLT, and the readings of the notices and of the fault record. -/

namespace Sys2Proof.Machine.Steps

open Motion Holds

/-! ## The close of an event that leaves its mode alone (R134, R175) -/

/-- R175: an event that leaves the deployed flags alone ends CLOSEDOWN only by retiring a last grant. -/
theorem closedownDone_of_still {s u : State} (grant : u.grant.table = [] → s.grant.table = [])
    (deployed : u.axis.deployed = s.axis.deployed) : closedownDone s u = false := by
  unfold closedownDone nothingOut
  rw [deployed]
  cases e : u.grant.table with
  | nil => simp [grant e]
  | cons g rest => simp

theorem closedownDone_of_mode {s u : State} (mode : u.mode.mode ≠ .closedown) :
    closedownDone s u = false := by
  unfold closedownDone
  rw [decide_eq_false mode]
  rfl

/-- R134, R175: an event that does not end CLOSEDOWN closes with the demands judged, in the beacons alone. -/
theorem conclude_judged {s u : State} (stays : closedownDone s u = false)
    (served : linkMode u.mode.mode = true) (beacon : u.beacon = s.beacon) (config : u.config = s.config) :
    DemandsFollow s (conclude s u) ∧ conclude s u = u.setBeacon (conclude s u).beacon := by
  have closes : conclude s u = judgeDemands s u := by
    unfold conclude
    rw [stays]
    rfl
  rw [closes]
  exact ⟨demandsFollow_judgeDemands served beacon config, judgeDemands_frame s u⟩

/-- R134, R147: in the modes that serve no link the demands are not judged. -/
theorem conclude_unserved {s u : State} (stays : closedownDone s u = false)
    (unserved : linkMode u.mode.mode = false) : conclude s u = u := by
  unfold conclude judgeDemands demandJudged
  rw [stays]
  simp [unserved]

/-- R134, R175: the close of an event that does not end CLOSEDOWN changes the beacons alone. -/
theorem conclude_frame {s u : State} (stays : closedownDone s u = false) :
    conclude s u = u.setBeacon (conclude s u).beacon := by
  have closes : conclude s u = judgeDemands s u := by
    unfold conclude
    rw [stays]
    rfl
  rw [closes]
  exact judgeDemands_frame s u

/-! ## A message answered that retires no grant (R160) -/

section
variable {l : Link} {bytes : List Byte} {m : Msg} {s v : State} {r : Reply}

/-- R154: a reply queued changes the ports alone. -/
theorem replied_frame (h : Ready l s) (p : v.port = (handed l bytes s).port) :
    replied l bytes r v = v.setPort (replied l bytes r v).port := by
  rw [replied_eq h p]
  rfl

variable (h : Ready l s) (short : bytes.length ≤ frameBytes)
  (parsed : parseFrame l ⟨bytes, false⟩ = .msg m)
  (handles : handleMsg l m (handed l bytes s) = (v, some r)) (port : v.port = (handed l bytes s).port)
include h short parsed handles port

/-- R160: a message whose handler changes nothing that the close of an event judges. -/
theorem answered_unjudged (axes : v.grant.table.map (·.axis) = s.grant.table.map (·.axis))
    (hold : v.hold = s.hold) (axis : v.axis = s.axis) (permit : v.permit = s.permit) :
    portEvent (receiveFrame l bytes) s = v.setPort (portEvent (receiveFrame l bytes) s).port ∧
      Handled (bytes.length + 1) l [] (.rply (bytes.headD 0#8) r.status r.fields) s
        (portEvent (receiveFrame l bytes) s) := by
  rw [portEvent_answered h short (handleFrame_eq parsed handles) port axes hold axis permit]
  exact ⟨replied_frame h port, handled_replied h port⟩

/-- R160, R134: a message whose handler changes something that the demands rest on. -/
theorem answered_judged (stays : closedownDone s v = false) (served : linkMode v.mode.mode = true)
    (beacon : v.beacon = s.beacon) (config : v.config = s.config) :
    portEvent (receiveFrame l bytes) s =
        (v.setPort (portEvent (receiveFrame l bytes) s).port).setBeacon
          (portEvent (receiveFrame l bytes) s).beacon ∧
      Handled (bytes.length + 1) l [] (.rply (bytes.headD 0#8) r.status r.fields) s
        (portEvent (receiveFrame l bytes) s) ∧
      DemandsFollow s (portEvent (receiveFrame l bytes) s) := by
  have received := receiveFrame_replied h short (handleFrame_eq parsed handles) port
  have left := replied_frame (r := r) h port
  have handled := handled_replied (r := r) h port
  unfold portEvent
  rw [received]
  generalize replied l bytes r v = u at left handled ⊢
  obtain ⟨demands, frame⟩ := conclude_judged (s := s) (u := u) (by rw [left]; exact stays)
    (by rw [left]; exact served) (by rw [left]; exact beacon) (by rw [left]; exact config)
  generalize conclude s u = t at demands frame ⊢
  refine ⟨?_, handled_of_port handled (by rw [frame]; rfl), demands⟩
  rw [frame, left]
  rfl

end

/-! ## Queries (R19, R48, R70, R163, R165) -/

section
variable {l : Link} {bytes : List Byte} {s : State}

/-- R160: a message in range whose handler changes nothing is answered, and nothing else changes. -/
theorem answeredOnly_of_query {m : Msg} {r : Reply} (h : Ready l s) (short : bytes.length ≤ frameBytes)
    (parsed : parseFrame l ⟨bytes, false⟩ = .msg m)
    (handles : handleMsg l m (handed l bytes s) = (handed l bytes s, some r)) :
    AnsweredOnly (bytes.length + 1) l (.rply (bytes.headD 0#8) r.status r.fields) s
      (portEvent (receiveFrame l bytes) s) :=
  answeredOnly_of_unchanged h short (handleFrame_eq parsed handles)

/-- R160 check 4: a coded field with no meaning. -/
theorem answeredOnly_badvalue (h : Ready l s) (short : bytes.length ≤ 40)
    (parsed : parseFrame l ⟨bytes, false⟩ = .reject .badvalue) :
    AnsweredOnly (bytes.length + 1) l (.rply (bytes.headD 0#8) .badvalue []) s
      (portEvent (receiveFrame l bytes) s) := by
  refine answeredOnly_of_reject h (by rw [framed_short short]; rfl) ?_
  rw [framed_short short]
  exact parsed

end

section
variable (l : Link) (b : Byte)

theorem parseFrame_qgrants :
    parseFrame l ⟨qgrantsFrame b, false⟩ = coded (firstField b.toNat) .qgrants := rfl

theorem parseFrame_qholds :
    parseFrame l ⟨qholdsFrame b, false⟩ = coded (firstField b.toNat) .qholds := rfl

theorem parseFrame_qaxes :
    parseFrame l ⟨qaxesFrame b, false⟩ = coded (axisOfCode b.toNat) .qaxes := rfl

theorem parseFrame_ackflt :
    parseFrame l ⟨ackfltFrame b, false⟩ = coded (axisOfCode b.toNat) .ackflt := rfl

theorem parseFrame_cfgrd : parseFrame .sl0 ⟨cfgrdFrame b, false⟩ = .msg (.cfgrd b.toNat) := rfl

end

theorem firstField_zero : firstField 0 = none := rfl

theorem firstField_pos {n : Nat} (h : n ≠ 0) : firstField n = some n := if_neg h

/-- R19: QGRANTS. -/
theorem answeredOnly_qgrants {l : Link} {s : State} (ready : Ready l s) (b : Byte) :
    AnsweredOnly 3 l
      (if 1 ≤ b.toNat ∧ b.toNat ≤ 12 then
        .rply 10#8 .ok (byteOf s.grant.table.length ::
          ((s.grant.table.drop (b.toNat - 1)).take 4).flatMap grantEntry)
      else .rply 10#8 .badvalue []) s (portEvent (receiveFrame l (qgrantsFrame b)) s) := by
  have parsed := parseFrame_qgrants l b
  by_cases zero : b.toNat = 0
  · rw [if_neg (by omega)]
    rw [zero] at parsed
    exact answeredOnly_badvalue ready (Nat.le_of_ble_eq_true rfl) parsed
  rw [firstField_pos zero] at parsed
  split_ifs with inside
  · refine answeredOnly_of_query (r := ⟨.ok, _⟩) ready (Nat.le_of_ble_eq_true rfl) parsed ?_
    exact if_neg (by omega)
  · refine answeredOnly_of_query (r := ⟨.badvalue, []⟩) ready (Nat.le_of_ble_eq_true rfl) parsed ?_
    exact if_pos (by omega)

/-- R48: QHOLDS. -/
theorem answeredOnly_qholds {l : Link} {s : State} (ready : Ready l s) (b : Byte) :
    AnsweredOnly 3 l
      (if 1 ≤ b.toNat ∧ b.toNat ≤ 24 then
        .rply 11#8 .ok (byteOf s.hold.table.length :: byteOf (stationHolds s) ::
          byteOf (if s.hold.line then 1 else 0) ::
          ((s.hold.table.drop (b.toNat - 1)).take 4).flatMap holdEntry)
      else .rply 11#8 .badvalue []) s (portEvent (receiveFrame l (qholdsFrame b)) s) := by
  have parsed := parseFrame_qholds l b
  have line : (if s.hold.line then 1 else 0) = s.hold.line.toNat := by cases s.hold.line <;> rfl
  by_cases zero : b.toNat = 0
  · rw [if_neg (by omega)]
    rw [zero] at parsed
    exact answeredOnly_badvalue ready (Nat.le_of_ble_eq_true rfl) parsed
  rw [firstField_pos zero] at parsed
  by_cases inside : 1 ≤ b.toNat ∧ b.toNat ≤ 24
  · rw [if_pos inside, line]
    refine answeredOnly_of_query (r := ⟨.ok, _⟩) ready (Nat.le_of_ble_eq_true rfl) parsed ?_
    exact if_neg (by omega)
  · rw [if_neg inside]
    refine answeredOnly_of_query (r := ⟨.badvalue, []⟩) ready (Nat.le_of_ble_eq_true rfl) parsed ?_
    exact if_pos (by omega)

/-- R163: the position field as the statement writes it. -/
theorem positionField_eq (a : Axis) (s : State) : positionField a s =
    if a = .lift then nat16 s.axis.position
    else if a = .tilt then bytes16 (BitVec.ofInt 16 s.axis.angle) else [0#8, 0#8] := by
  cases a <;> rfl

/-- R70: QAXES. -/
theorem answeredOnly_qaxes {l : Link} {s : State} (ready : Ready l s) (a : Axis) :
    AnsweredOnly 3 l
      (if s.axis.fitted.get a then
        .rply 12#8 .ok (byteOf (axisCode a) ::
          (if a = .lift then nat16 s.axis.position
            else if a = .tilt then bytes16 (BitVec.ofInt 16 s.axis.angle) else [0#8, 0#8]) ++
          [byteOf (if a = .lift then s.axis.band else 0), byteOf (panelField a s),
            byteOf (axisFlags a s), byteOf (faultOptNum (s.axis.fault.get a)),
            byteOf (causeBits (s.permit.map.get a).sense0),
            byteOf (causeBits (s.permit.map.get a).sense1),
            byteOf (healthCode (s.beacon.zone.get (zoneOf a)).health)])
      else .rply 12#8 .notfitted []) s
      (portEvent (receiveFrame l (qaxesFrame (byteOf (axisCode a)))) s) := by
  have parsed : parseFrame l ⟨qaxesFrame (byteOf (axisCode a)), false⟩ = .msg (.qaxes a) := by
    rw [parseFrame_qaxes, axisOfCode_byteOf]
    rfl
  rw [← positionField_eq]
  by_cases fitted : s.axis.fitted.get a = true
  · rw [if_pos fitted]
    refine answeredOnly_of_query (r := ⟨.ok, _⟩) ready (Nat.le_of_ble_eq_true rfl) parsed ?_
    have present : ¬ s.axis.fitted.get a = false := by rw [fitted]; decide
    exact if_neg present
  · rw [if_neg fitted]
    refine answeredOnly_of_query (r := ⟨.notfitted, []⟩) ready (Nat.le_of_ble_eq_true rfl) parsed ?_
    exact if_pos (Bool.eq_false_of_not_eq_true fitted)

/-- R165: CFGRD. -/
theorem answeredOnly_cfgrd {l : Link} {s : State} (ready : Ready l s) (b : Byte) :
    AnsweredOnly 3 l
      (if l ≠ .sl0 then .rply 32#8 .notsuper []
      else
        match itemOf b.toNat with
        | none => .rply 32#8 .badvalue []
        | some i => .rply 32#8 .ok (b :: bytes32 (BitVec.ofInt 32 (readItem s.config i)))) s
      (portEvent (receiveFrame l (cfgrdFrame b)) s) := by
  split_ifs with station
  · exact answeredOnly_notsuper (k := .cfgrd) ready station rfl rfl (Nat.le_of_ble_eq_true rfl)
  obtain rfl := not_ne_iff.mp station
  split
  · next item =>
    refine answeredOnly_of_query (r := ⟨.badvalue, []⟩) ready (Nat.le_of_ble_eq_true rfl)
      (parseFrame_cfgrd b) ?_
    show handleCfgrd b.toNat _ = _
    unfold handleCfgrd
    rw [item]
    rfl
  · next i item =>
    refine answeredOnly_of_query (r := ⟨.ok, _⟩) ready (Nat.le_of_ble_eq_true rfl)
      (parseFrame_cfgrd b) ?_
    show handleCfgrd b.toNat _ = _
    unfold handleCfgrd itemReply okReply
    rw [item, byteOf_toNat]
    rfl

/-- Settles O27: each query's handler changes nothing. -/
theorem queriesReportAndChangeNothing : Obligations.QueriesReportAndChangeNothing := by
  unfold Obligations.QueriesReportAndChangeNothing
  intro l b a s ready
  refine ⟨⟨_, rfl, answeredOnly_qgrants ready b⟩, ⟨_, rfl, answeredOnly_qholds ready b⟩,
    ⟨_, rfl, answeredOnly_qaxes ready a⟩, fun large => ⟨_, rfl, ?_⟩,
    ⟨_, rfl, answeredOnly_cfgrd ready b⟩⟩
  refine answeredOnly_badvalue (bytes := qaxesFrame b) ready (Nat.le_of_ble_eq_true rfl) ?_
  rw [parseFrame_qaxes, axisOfCode_of_lt large]
  rfl

/-! ## KEEP (R16, R93) -/

/-- R93: the demand kept, as the statement writes it. -/
theorem filterDemand_eq (h old : Nat) (d : Word16) : filterDemand h old d.toNat =
    if h ≤ max (min 1000 d.toNat) old - min (min 1000 d.toNat) old ∨ min 1000 d.toNat = 0 ∨
      min 1000 d.toNat = 1000 then min 1000 d.toNat else old := by
  show (if old + h ≤ min 1000 d.toNat ∨ min 1000 d.toNat + h ≤ old ∨ _ then min 1000 d.toNat else old) =
    _
  refine if_congr ?_ rfl rfl
  rw [← or_assoc]
  exact or_congr_left (by omega)

/-- R16, R93: a HOLD grant refreshed. -/
def refreshed (g : Grant) (d : Word16) (s : State) : Grant :=
  { g with
    deadman := some s.config.deadman
    demand :=
      if (g.axis = .lift ∨ g.axis = .tilt) ∧
          (s.drive.hysteresisInForce ≤ max (min 1000 d.toNat) g.demand - min (min 1000 d.toNat) g.demand ∨
            min 1000 d.toNat = 0 ∨ min 1000 d.toNat = 1000)
      then min 1000 d.toNat else g.demand }

theorem keptGrant_of_hold {g : Grant} (hold : g.kind = .hold) (d : Word16) (s : State) :
    keptGrant g d.toNat s = refreshed g d s := by
  have takes : takesDemand g.axis = true ↔ g.axis = .lift ∨ g.axis = .tilt := by
    cases g.axis <;> decide
  unfold keptGrant refreshed
  rw [hold]
  dsimp only
  by_cases t : takesDemand g.axis = true
  · simp only [if_pos t, takes.mp t, true_and, filterDemand_eq]
  · simp only [if_neg t, mt takes.mpr t, false_and, if_false]

section
variable {s : State} (ok : GrantsOk s) {g : Grant} (hg : g ∈ s.grant.table)
  (ready : Ready g.station s) (d : Word16)
include ok hg

/-- R160: the KEEP that names a grant is handled as R16 says for that grant. -/
theorem handleMsg_keep (l : Link) (bytes : List Byte) : handleMsg g.station
      (.keep (byteOf g.handle).toNat g.axis g.sense d.toNat) (handed l bytes s) =
    keepGrant g d.toNat (handed l bytes s) := by
  have ok' : GrantsOk (handed l bytes s) := ⟨ok.records, ok.room, ok.distinct, ok.single⟩
  show handleKeep g.station (byteOf g.handle).toNat g.axis g.sense d.toNat _ = _
  unfold handleKeep
  rw [referTo_of_mem ok' hg]

include ready

/-- R16: a KEEP that the grant's state or kind leaves without effect. -/
theorem answeredOnly_keep {r : Reply}
    (answers : keepGrant g d.toNat (handed g.station (keepFrame (byteOf g.handle)
        (byteOf (axisCode g.axis)) (byteOf (senseCode g.sense)) d) s) =
      (handed g.station (keepFrame (byteOf g.handle) (byteOf (axisCode g.axis))
        (byteOf (senseCode g.sense)) d) s, some r)) :
    AnsweredOnly 7 g.station (.rply 2#8 r.status r.fields) s
      (portEvent (receiveFrame g.station (keepFrame (byteOf g.handle) (byteOf (axisCode g.axis))
        (byteOf (senseCode g.sense)) d)) s) :=
  answeredOnly_of_query ready (Nat.le_of_ble_eq_true rfl) (parseFrame_keep ..)
    ((handleMsg_keep ok hg d _ _).trans answers)

end

theorem keepGrant_of_live {g : Grant} (easing : g.state ≠ .easing) (paused : g.state ≠ .paused)
    (d : Nat) (s : State) : keepGrant g d s = (putGrant (keptGrant g d s) s,
      some ⟨.ok, byteOf (keptGrant g d s).handle :: nat16 (keptGrant g d s).demand⟩) := by
  unfold keepGrant
  cases e : g.state with
  | easing => exact absurd e easing
  | paused => exact absurd e paused
  | waiting | driving => rfl

/-- R16: writing a live grant's own record changes nothing. -/
theorem putGrant_of_mem {s : State} (ok : GrantsOk s) {g : Grant} (hg : g ∈ s.grant.table) :
    putGrant g s = s := by
  have same : (s.grant.table.map fun x => if x.handle = g.handle then g else x) = s.grant.table := by
    refine (List.map_congr_left fun x hx => ?_).trans (List.map_id _)
    split
    · next e => exact (List.inj_on_of_nodup_map ok.distinct hx hg e).symm
    · rfl
  show s.setGrant { s.grant with table := _ } = s
  rw [same]
  rfl

/-- Settles O23: the reference names the grant, and its handler is R16's for the grant's state and kind. -/
theorem keepRefreshesGrant : Obligations.KeepRefreshesGrant := by
  unfold Obligations.KeepRefreshesGrant
  intro d s ok g hg ready
  refine ⟨_, rfl, fun easing => ?_, fun paused => ?_, fun easing paused latch => ?_,
    fun easing paused hold => ?_⟩
  · refine answeredOnly_keep (r := ⟨.winding, []⟩) ok hg ready d ?_
    unfold keepGrant
    rw [easing]
    rfl
  · refine answeredOnly_keep (r := ⟨.paused, []⟩) ok hg ready d ?_
    unfold keepGrant
    rw [paused]
    rfl
  · refine answeredOnly_keep (r := ⟨.ok, _⟩) ok hg ready d ?_
    rw [keepGrant_of_live easing paused]
    have kept (s : State) : keptGrant g d.toNat s = g := by
      unfold keptGrant
      rw [latch]
    have ok' (bytes : List Byte) : GrantsOk (handed g.station bytes s) :=
      ⟨ok.records, ok.room, ok.distinct, ok.single⟩
    rw [kept, putGrant_of_mem (ok' _) hg]
  · intro asked held
    have answers := (handleMsg_keep ok hg d g.station (keepFrame (byteOf g.handle)
      (byteOf (axisCode g.axis)) (byteOf (senseCode g.sense)) d)).trans
        (keepGrant_of_live easing paused ..)
    rw [keptGrant_of_hold hold] at answers
    obtain ⟨frame, handled⟩ := answered_unjudged ready (Nat.le_of_ble_eq_true rfl) (parseFrame_keep ..)
      answers rfl (tableWith_axes (k := refreshed g d s) ok hg rfl rfl) rfl rfl rfl
    exact ⟨frame, handled⟩

/-! ## ACKFLT (R69) -/

section
variable {l : Link} {a : Axis} {s : State}

/-- R69: the first two checks. -/
theorem handleAckflt_of_unfitted (fitted : s.axis.fitted.get a = false) :
    handleAckflt l a s = refuse .notfitted s := if_pos fitted

variable (fitted : ¬ s.axis.fitted.get a = false)
include fitted

theorem handleAckflt_of_not_allowed (allowed : axisAllowed l a s = false) :
    handleAckflt l a s = refuse .notallowed s := (if_neg fitted).trans (if_pos allowed)

variable (allowed : ¬ axisAllowed l a s = false)
include allowed

/-- R69: an axis that is not FAULTED has no code to clear. -/
theorem handleAckflt_of_sound (fault : s.axis.fault.get a = none) :
    handleAckflt l a s = (s, okReply [0#8]) := by
  unfold handleAckflt
  rw [if_neg fitted, if_neg allowed, fault]

/-- R69: a code is cleared unless its condition stands. -/
theorem handleAckflt_of_fault {c : FaultCode} (fault : s.axis.fault.get a = some c) :
    handleAckflt l a s =
      if conditionCode c = true ∧ conditionOf s.axis.condition a = .standing then
        refuseWith .stillfaulty (faultCodeNum c) s
      else
        (s.setAxis { s.axis with fault := s.axis.fault.set a none },
          okReply [byteOf (faultCodeNum c)]) := by
  unfold handleAckflt
  rw [if_neg fitted, if_neg allowed, fault]

end

/-- R69: the codes whose acknowledgement waits for their condition. -/
theorem conditionCode_iff (c : FaultCode) : conditionCode c = true ↔ c = .sensor ∨ c = .switch := by
  cases c <;> decide

/-- R69: an axis in neither of whose senses the station is allowed. -/
theorem axisAllowed_eq_false (l : Link) (a : Axis) (s : State) : axisAllowed l a s = false ↔
    ((s.config.profile.get l).allowed.get a).sense0 = false ∧
      ((s.config.profile.get l).allowed.get a).sense1 = false := Bool.or_eq_false_iff

/-- Settles O36: the handler's checks are the statement's, and past them the code alone is cleared. -/
theorem ackfltClearsFault : Obligations.AckfltClearsFault := by
  unfold Obligations.AckfltClearsFault
  intro l a s ready served
  have parsed : parseFrame l ⟨ackfltFrame (byteOf (axisCode a)), false⟩ = .msg (.ackflt a) := by
    rw [parseFrame_ackflt, axisOfCode_byteOf]
    rfl
  have short : (ackfltFrame (byteOf (axisCode a))).length ≤ frameBytes := Nat.le_of_ble_eq_true rfl
  have refused {r : Reply} (e : handleAckflt l a (handed l (ackfltFrame (byteOf (axisCode a))) s) =
      (handed l (ackfltFrame (byteOf (axisCode a))) s, some r)) :
      AnsweredOnly 3 l (.rply 9#8 r.status r.fields) s
        (portEvent (receiveFrame l (ackfltFrame (byteOf (axisCode a)))) s) :=
    answeredOnly_of_query ready short parsed e
  refine ⟨_, rfl, ?_⟩
  by_cases fitted : s.axis.fitted.get a = false
  · rw [if_pos fitted]
    exact refused (r := ⟨.notfitted, []⟩) (handleAckflt_of_unfitted fitted)
  rw [if_neg fitted]
  by_cases allowed : axisAllowed l a s = false
  · rw [if_pos ((axisAllowed_eq_false l a s).mp allowed)]
    exact refused (r := ⟨.notallowed, []⟩) (handleAckflt_of_not_allowed (s := handed l _ s) fitted allowed)
  rw [if_neg (mt (axisAllowed_eq_false l a s).mpr allowed)]
  cases fault : s.axis.fault.get a with
  | none =>
    exact refused (r := ⟨.ok, [0#8]⟩) (handleAckflt_of_sound (s := handed l _ s) fitted allowed fault)
  | some c =>
    have taken := handleAckflt_of_fault (s := handed l (ackfltFrame (byteOf (axisCode a))) s) fitted
      allowed fault
    dsimp only
    by_cases stands : conditionCode c = true ∧ conditionOf s.axis.condition a = .standing
    · rw [if_pos (by rwa [← conditionCode_iff])]
      exact refused (r := ⟨.stillfaulty, _⟩) (taken.trans (if_pos stands))
    · rw [if_neg (by rwa [← conditionCode_iff])]
      obtain ⟨frame, handled, demands⟩ := answered_judged ready short parsed
        (taken.trans (if_neg stands)) rfl (closedownDone_of_still id rfl) served rfl rfl
      exact ⟨frame, handled, demands⟩

/-! ## Notices and the fault record (R167, R177) -/

/-- R167: the bits of a notice set made of a word are the word's ten lower bits. -/
theorem noticeBits_noticeSetOf (m : Word16) :
    BitVec.ofNat 16 (noticeBits (noticeSetOf m.toNat)) = m &&& 0x03FF#16 := by
  have mask : (0x03FF#16).toNat = 2 ^ 10 - 1 := rfl
  refine BitVec.eq_of_getElem_eq fun i hi => ?_
  rw [BitVec.getElem_and, ← BitVec.getLsbD_eq_getElem, ← BitVec.getLsbD_eq_getElem,
    ← BitVec.getLsbD_eq_getElem, BitVec.getLsbD_ofNat, BitVec.getLsbD, BitVec.getLsbD, mask,
    Nat.testBit_two_pow_sub_one]
  unfold noticeBits
  rw [testBit_bitsOf, decide_eq_true hi, Bool.true_and]
  by_cases inside : i < 10
  · rw [decide_eq_true inside, Bool.and_true]
    interval_cases i <;> rfl
  · rw [decide_eq_false inside, Bool.and_false]
    exact List.getD_eq_default _ _ (by simpa using Nat.le_of_not_lt inside)

/-- R167: with no flag set nothing is pending. -/
theorem noticePending_empty (m : NoticeSet) (b : Bool) : noticePending ⟨.empty, m, b⟩ = false := rfl

/-- R177: the fields of an FLTRD reply as the statement writes them. -/
theorem faultFields_eq (f : FaultLog) : faultFields f =
    match f.record with
    | none => [0#8, 255#8, 255#8, 255#8, 255#8, 255#8, byteOf f.further]
    | some r =>
      [byteOf (faultKindCode r.kind), byteOf ((r.axis.map axisCode).getD 255),
        byteOf ((r.coil.map coilNum).getD 255)] ++ nat16 (r.position.getD 65535) ++
      [byteOf (modeCode r.mode), byteOf f.further] := by
  unfold faultFields
  cases f.record with
  | none => rfl
  | some r =>
    obtain ⟨kind, axis, coil, position, mode⟩ := r
    cases axis <;> cases coil <;> rfl

/-- R167: a message whose handler rewrites the notices alone. -/
theorem answered_notice {l : Link} {bytes : List Byte} {m : Msg} {s : State} {n : Notices} {r : Reply}
    (h : Ready l s) (short : bytes.length ≤ frameBytes)
    (parsed : parseFrame l ⟨bytes, false⟩ = .msg m)
    (handles : handleMsg l m (handed l bytes s) = ((handed l bytes s).setNotice n, some r)) :
    portEvent (receiveFrame l bytes) s =
        { s with notice := n, port := (portEvent (receiveFrame l bytes) s).port } ∧
      Handled (bytes.length + 1) l [] (.rply (bytes.headD 0#8) r.status r.fields) s
        (portEvent (receiveFrame l bytes) s) :=
  answered_unjudged h short parsed handles rfl rfl rfl rfl rfl

/-- R167: the notices with their attention line judged in a mode. -/
def judgedNotices (flags mask : NoticeSet) (s : State) : Notices :=
  ⟨flags, mask, s.mode.mode != .off && noticePending ⟨flags, mask, s.notice.attention⟩⟩

theorem handleMsg_notrd (s : State) : handleMsg .sl0 .notrd s =
    (s.setNotice (judgedNotices .empty s.notice.mask s),
      some ⟨.ok, nat16 (noticeBits s.notice.flags) ++ nat16 (noticeBits s.notice.mask)⟩) := rfl

theorem handleMsg_notmsk (m : NoticeSet) (s : State) : handleMsg .sl0 (.notmsk m) s =
    (s.setNotice (judgedNotices s.notice.flags m s), some ⟨.ok, nat16 (noticeBits m)⟩) := rfl

section
variable {s : State} (ready : Ready .sl0 s)
include ready

/-- R167: NOTRD from link 0. -/
theorem notrd_read :
    portEvent (receiveFrame .sl0 notrdFrame) s = { s with
        notice := ⟨.empty, s.notice.mask, false⟩
        port := (portEvent (receiveFrame .sl0 notrdFrame) s).port } ∧
      Handled 2 .sl0 [] (.rply 39#8 .ok
        (nat16 (noticeBits s.notice.flags) ++ nat16 (noticeBits s.notice.mask)))
        s (portEvent (receiveFrame .sl0 notrdFrame) s) := by
  have parsed : parseFrame .sl0 ⟨notrdFrame, false⟩ = .msg .notrd := rfl
  have quiet : judgedNotices .empty s.notice.mask s = ⟨.empty, s.notice.mask, false⟩ :=
    congrArg (Notices.mk .empty s.notice.mask) (Bool.and_false _)
  have answered := answered_notice (n := judgedNotices .empty s.notice.mask s) ready
    (Nat.le_of_ble_eq_true rfl) parsed (handleMsg_notrd _)
  rw [quiet] at answered
  exact answered

/-- R167: NOTMSK from link 0. -/
theorem notmsk_taken (m : Word16) :
    portEvent (receiveFrame .sl0 (notmskFrame m)) s = { s with
        notice := judgedNotices s.notice.flags (noticeSetOf m.toNat) s
        port := (portEvent (receiveFrame .sl0 (notmskFrame m)) s).port } ∧
      Handled 4 .sl0 [] (.rply 40#8 .ok (bytes16 (m &&& 0x03FF#16)))
        s (portEvent (receiveFrame .sl0 (notmskFrame m)) s) := by
  have parsed : parseFrame .sl0 ⟨notmskFrame m, false⟩ = .msg (.notmsk (noticeSetOf m.toNat)) := by
    have fields (hi lo : Byte) : parseFrame .sl0 ⟨[40#8, hi, lo], false⟩ =
      .msg (.notmsk (noticeSetOf (word16 hi lo).toNat)) := rfl
    exact (fields ..).trans (by rw [word16_bytes])
  have answered := answered_notice ready (Nat.le_of_ble_eq_true rfl) parsed (handleMsg_notmsk _ _)
  rw [nat16, noticeBits_noticeSetOf] at answered
  exact answered

/-- R177: FLTRD from link 0. -/
theorem fltrd_read :
    portEvent (receiveFrame .sl0 fltrdFrame) s = { s with
        faultLog := ⟨none, 0⟩, port := (portEvent (receiveFrame .sl0 fltrdFrame) s).port } ∧
      Handled 2 .sl0 [] (.rply 42#8 .ok (faultFields s.faultLog))
        s (portEvent (receiveFrame .sl0 fltrdFrame) s) := by
  have parsed : parseFrame .sl0 ⟨fltrdFrame, false⟩ = .msg .fltrd := rfl
  obtain ⟨frame, handled⟩ := answered_unjudged
    (v := (handed .sl0 fltrdFrame s).setFaultLog .powerOn)
    (r := ⟨.ok, _⟩) ready (Nat.le_of_ble_eq_true rfl) parsed rfl rfl rfl rfl rfl rfl
  generalize portEvent (receiveFrame .sl0 fltrdFrame) s = t at frame handled ⊢
  exact ⟨frame, handled⟩

end

/-- Settles O55: from link 0 each handler reads its record and rewrites it, and nothing is judged. -/
theorem noticesAndFaultRecordRead : Obligations.NoticesAndFaultRecordRead := by
  unfold Obligations.NoticesAndFaultRecordRead
  refine ⟨fun l m s station ready => ⟨⟨_, rfl, ?_⟩, ⟨_, rfl, ?_⟩, ⟨_, rfl, ?_⟩⟩,
    fun m s ready => ⟨⟨_, rfl, notrd_read ready⟩, ⟨_, rfl, ?_⟩, ⟨_, rfl, ?_⟩⟩⟩
  · exact answeredOnly_notsuper (k := .notrd) ready station rfl rfl (Nat.le_of_ble_eq_true rfl)
  · exact answeredOnly_notsuper (k := .notmsk) ready station rfl rfl (Nat.le_of_ble_eq_true rfl)
  · exact answeredOnly_notsuper (k := .fltrd) ready station rfl rfl (Nat.le_of_ble_eq_true rfl)
  · obtain ⟨frame, handled⟩ := notmsk_taken ready m
    generalize portEvent (receiveFrame .sl0 (notmskFrame m)) s = t at frame handled ⊢
    refine ⟨?_, ?_, handled⟩ <;> rw [frame]
    exact ⟨rfl, rfl, congrArg (· && _) decide_not.symm⟩
  · have read := fltrd_read ready
    rw [faultFields_eq] at read
    exact read

end Sys2Proof.Machine.Steps
end

section
/-! What an ending tells (R23): the GENDs an event's endings place on the ports, the GEND notice, and the order
in which they go out. -/

namespace Sys2Proof.Machine.Steps

open Motion Holds

/-! ## The order of an event's GENDs (R23) -/

theorem insertByOrder_perm (table : List Grant) (m : OutMsg) (l : List OutMsg) :
    (insertByOrder table m l).Perm (m :: l) := by
  induction l with
  | nil => exact .refl _
  | cons x xs ih =>
    unfold insertByOrder
    split
    · exact .refl _
    · exact (ih.cons x).trans (.swap m x xs)

/-- R23: messages in creation order. -/
def InOrder (table : List Grant) (l : List OutMsg) : Prop :=
  l.Pairwise fun x y => gendOrder table x ≤ gendOrder table y

theorem inOrder_insertByOrder {table : List Grant} {l : List OutMsg} (h : InOrder table l) (m : OutMsg) :
    InOrder table (insertByOrder table m l) := by
  induction l with
  | nil => exact List.pairwise_singleton _ _
  | cons x xs ih =>
    obtain ⟨first, rest⟩ := List.pairwise_cons.mp h
    unfold insertByOrder
    split
    · next before =>
      refine List.pairwise_cons.mpr ⟨fun y hy => ?_, h⟩
      rcases List.mem_cons.mp hy with rfl | hy
      · exact before.le
      · exact before.le.trans (first y hy)
    · next after =>
      refine List.pairwise_cons.mpr ⟨fun y hy => ?_, ih rest⟩
      rcases List.mem_cons.mp ((insertByOrder_perm table m xs).mem_iff.mp hy) with rfl | hy
      · exact Nat.le_of_not_lt after
      · exact first y hy

/-- R23: the GENDs sorted are the same GENDs, in creation order. -/
theorem sortGends_spec (table : List Grant) (l : List OutMsg) :
    (sortGends table l).Perm l ∧ InOrder table (sortGends table l) := by
  have folded (acc : List OutMsg) (h : InOrder table acc) :
      (l.foldl (fun acc m => insertByOrder table m acc) acc).Perm (acc ++ l) ∧
        InOrder table (l.foldl (fun acc m => insertByOrder table m acc) acc) := by
    induction l generalizing acc with
    | nil => exact ⟨by simp, h⟩
    | cons x xs ih =>
      obtain ⟨perm, order⟩ := ih _ (inOrder_insertByOrder h x)
      refine ⟨perm.trans ?_, order⟩
      exact ((insertByOrder_perm table x acc).append_right xs).trans List.perm_middle.symm
  exact folded [] .nil

/-- R23: the GENDs of endings. -/
def gends (ends : List (Grant × Reason)) : List OutMsg :=
  ends.map fun e => .gend e.1.handle e.1.axis e.2

/-- R23: endings of grants of a table, in the order of the table. -/
structure Listed (table : List Grant) (ends : List (Grant × Reason)) : Prop where
  order : (ends.map (·.1)).Sublist table
  distinct : (table.map (·.handle)).Nodup

theorem gendOrder_lt {table : List Grant} (distinct : (table.map (·.handle)).Nodup) :
    table.Pairwise fun g k =>
      table.findIdx (fun x => x.handle == g.handle) < table.findIdx fun x => x.handle == k.handle := by
  induction table with
  | nil => exact .nil
  | cons x xs ih =>
    obtain ⟨new, distinct⟩ := List.nodup_cons.mp distinct
    have other {g : Grant} (hg : g ∈ xs) : (x.handle == g.handle) = false := by
      exact beq_eq_false_iff_ne.mpr fun e => new (List.mem_map.mpr ⟨g, hg, e.symm⟩)
    have later {g : Grant} (hg : g ∈ xs) : (x :: xs).findIdx (fun y => y.handle == g.handle) =
        xs.findIdx (fun y => y.handle == g.handle) + 1 := by
      rw [List.findIdx_cons, other hg]
      rfl
    refine List.pairwise_cons.mpr ⟨fun g hg => ?_, ?_⟩
    · rw [later hg, List.findIdx_cons, beq_self_eq_true]
      exact Nat.succ_pos _
    · refine (ih distinct).imp_of_mem fun hg hk lt => ?_
      rw [later hg, later hk]
      exact Nat.succ_lt_succ lt

/-- R23: endings listed in creation order have their GENDs in creation order, no two alike in it. -/
theorem Listed.pairwise {table : List Grant} {ends : List (Grant × Reason)} (h : Listed table ends) :
    (gends ends).Pairwise fun x y => gendOrder table x < gendOrder table y := by
  have ordered := (gendOrder_lt h.distinct).sublist h.order
  rw [List.pairwise_map] at ordered
  exact List.pairwise_map.mpr ordered

/-- R23: whatever order the endings take place in, their GENDs go out in creation order. -/
theorem sortGends_gends {table : List Grant} {ends listed : List (Grant × Reason)}
    (perm : ends.Perm listed) (h : Listed table listed) :
    sortGends table (gends ends) = gends listed := by
  obtain ⟨same, order⟩ := sortGends_spec table (gends ends)
  have strict := h.pairwise
  refine (same.trans (perm.map _)).eq_of_pairwise (fun x y hx hy le ge => ?_) order
    (strict.imp fun lt => lt.le)
  have one : (gends listed).Pairwise fun x y => gendOrder table x = gendOrder table y → x = y :=
    strict.imp fun lt e => absurd e lt.ne
  exact one.forall_of_forall_of_flip (fun _ _ _ => rfl)
    (one.imp fun same e => (same e.symm).symm) ((same.trans (perm.map _)).mem_iff.mp hx) hy (le.antisymm ge)

/-! ## The ports of an event that ends grants (R23) -/

/-- R23: the endings a link is told of. -/
def toldTo (k : Link) (ends : List (Grant × Reason)) : List (Grant × Reason) :=
  ends.filter fun e => decide (e.1.station = k ∧ e.2 ≠ .released)

theorem gendsTo_eq (k : Link) (ends : List (Grant × Reason)) (s : State) :
    gendsTo k ends s = if (portOf k s).state = .up then gends (toldTo k ends) else [] := rfl

theorem gendsTo_congr {k : Link} {s t : State} (ends : List (Grant × Reason))
    (e : (portOf k t).state = (portOf k s).state) : gendsTo k ends t = gendsTo k ends s := by
  rw [gendsTo_eq, gendsTo_eq, e]

theorem gendsTo_append (k : Link) (ends more : List (Grant × Reason)) (s : State) :
    gendsTo k (ends ++ more) s = gendsTo k ends s ++ gendsTo k more s := by
  simp only [gendsTo_eq, toldTo, gends, List.filter_append, List.map_append]
  split <;> rfl

theorem gendsTo_nil (k : Link) (s : State) : gendsTo k [] s = [] := by
  simp [gendsTo]

theorem told_nil {s t : State} (e : t.port = s.port) : Told [] s t := fun k => by
  unfold queueOf
  rw [gendsTo_nil, List.append_nil, show portOf k t = portOf k s by unfold portOf; rw [e]]

theorem told_state {ends : List (Grant × Reason)} {s t : State} (h : Told ends s t) (k : Link) :
    (portOf k t).state = (portOf k s).state := by rw [h k]

theorem told_queue {ends : List (Grant × Reason)} {s t : State} (h : Told ends s t) (k : Link) :
    queueOf k t = queueOf k s ++ gendsTo k ends s := by
  unfold queueOf
  rw [h k]
  rfl

theorem told_trans {ends more : List (Grant × Reason)} {s t u : State} (h : Told ends s t)
    (j : Told more t u) : Told (ends ++ more) s u := fun k => by
  rw [j k, told_queue h, gendsTo_congr more (told_state h k), gendsTo_append, h k, List.append_assoc]

/-- R23: the port of a link after the GENDs of an event are put in order. -/
theorem portOf_orderGends (b s : State) (k : Link) :
    portOf k (orderGends b s) = { portOf k s with
      queue := (queueOf k s).take (queueOf k b).length ++
        sortGends b.grant.table ((queueOf k s).drop (queueOf k b).length) } := by
  have all (ls : List Link) (distinct : ls.Nodup) (t : State) :
      portOf k (forEach (orderPort b) ls t) = if k ∈ ls then { portOf k t with
        queue := (queueOf k t).take (queueOf k b).length ++
          sortGends b.grant.table ((queueOf k t).drop (queueOf k b).length) } else portOf k t := by
    unfold forEach
    induction ls generalizing t with
    | nil => simp
    | cons l ls ih =>
      obtain ⟨new, distinct⟩ := List.nodup_cons.mp distinct
      rw [List.foldl_cons, ih distinct]
      by_cases e : k = l
      · subst e
        rw [if_neg new, if_pos List.mem_cons_self]
        exact portOf_putPort_same ..
      · have other : portOf k (orderPort b l t) = portOf k t := portOf_putPort_ne _ _ e
        unfold queueOf
        rw [other]
        simp [e]
  exact (all Link.list (by decide) s).trans (if_pos (by cases k <;> decide))

/-- R23: putting the GENDs in order changes the ports alone. -/
theorem orderGends_frame (b s : State) : orderGends b s = s.setPort (orderGends b s).port := by
  have all (ls : List Link) (t : State) :
      forEach (orderPort b) ls t = t.setPort (forEach (orderPort b) ls t).port := by
    unfold forEach
    induction ls generalizing t with
    | nil => rfl
    | cons l ls ih => exact (ih (orderPort b l t)).trans rfl
  exact all _ s

/-- R23: the endings of an event, told in creation order. -/
theorem told_orderGends {ends listed : List (Grant × Reason)} {s t : State} (h : Told ends s t)
    (perm : ends.Perm listed) (order : Listed s.grant.table listed) :
    Told listed s (orderGends s t) := fun k => by
  have sorted : sortGends s.grant.table (gendsTo k ends s) = gendsTo k listed s := by
    rw [gendsTo_eq, gendsTo_eq]
    split
    · refine sortGends_gends (perm.filter _) ⟨?_, order.distinct⟩
      exact (List.filter_sublist.map _).trans order.order
    · rfl
  rw [portOf_orderGends, told_queue h, List.take_left', List.drop_left', sorted, h k] <;> rfl

/-! ## What endings leave alone, and their notice (R23, R167) -/

/-- R23: an event's endings have been told and noticed, and only the blocks that drive, the ports and the
notices have changed. -/
structure Ended (ends : List (Grant × Reason)) (s t : State) : Prop where
  told : Told ends s t
  noticed : GendNoticed ends s t
  frame : t = { s with
    grant := t.grant, drive := t.drive, panel := t.panel, port := t.port, notice := t.notice }

/-- Only the grants, the drive shaper and the panel sequencer have changed. -/
def Drives (s t : State) : Prop :=
  t = { s with grant := t.grant, drive := t.drive, panel := t.panel }

theorem Drives.refl (s : State) : Drives s s := rfl

theorem Drives.trans {s t u : State} (h : Drives s t) (k : Drives t u) : Drives s u := by
  calc
    u = { t with grant := u.grant, drive := u.drive, panel := u.panel } := k
    _ = { ({ s with grant := t.grant, drive := t.drive, panel := t.panel } : State) with
          grant := u.grant, drive := u.drive, panel := u.panel } :=
      congrArg (fun x : State => ({ x with grant := u.grant, drive := u.drive, panel := u.panel } : State)) h
    _ = _ := rfl

theorem Drives.port {s t : State} (h : Drives s t) : t.port = s.port := by
  unfold Drives at h
  rw [h]

theorem Drives.notice {s t : State} (h : Drives s t) : t.notice = s.notice := by
  unfold Drives at h
  rw [h]

theorem Drives.ended {s t : State} (h : Drives s t) : Ended [] s t where
  told := told_nil h.port
  noticed := h.notice
  frame := by
    rw [h.port, h.notice]
    exact h

theorem Ended.mode {ends : List (Grant × Reason)} {s t : State} (h : Ended ends s t) :
    t.mode = s.mode := by rw [h.frame]

theorem any_append_gend (ends more : List (Grant × Reason)) :
    (ends ++ more).any (fun e => decide (e.2 ≠ .released)) =
      (ends.any (fun e => decide (e.2 ≠ .released)) ||
        more.any fun e => decide (e.2 ≠ .released)) := List.any_append

theorem Ended.trans {ends more : List (Grant × Reason)} {s t u : State} (h : Ended ends s t)
    (k : Ended more t u) : Ended (ends ++ more) s u where
  told := told_trans h.told k.told
  noticed := by
    have first := h.noticed
    have second := k.noticed
    unfold GendNoticed Noticed at *
    rw [any_append_gend]
    cases a : ends.any fun e => decide (e.2 ≠ .released) <;>
      cases b : more.any fun e => decide (e.2 ≠ .released) <;>
      simp only [a, b, Bool.false_eq_true, if_false, if_true, Bool.or_false, Bool.or_true] at first second ⊢
    · exact second.trans first
    · rw [first] at second
      exact second
    · rw [second, k.mode]
      exact first
    · obtain ⟨flags, mask, -⟩ := first
      rw [flags, mask] at second
      exact second
  frame := by
    calc
      u = _ := k.frame
      _ = _ := by rw [h.frame]

/-- R167: the notices once GEND is raised. -/
theorem noticed_raise_gend (s : State) :
    Noticed { s.notice.flags with gend := true } s.notice.mask (raise .gend s) :=
  ⟨rfl, rfl, congrArg (· && _) decide_not.symm⟩

/-- R23: a message placed on a link that is UP. -/
theorem portOf_placeMessage (l k : Link) (m : OutMsg) (s : State) :
    portOf k (placeMessage l m s) =
      { portOf k s with
        queue := queueOf k s ++ if k = l ∧ (portOf k s).state = .up then [m] else [] } := by
  unfold placeMessage
  dsimp only
  by_cases up : (portOf l s).state = .up
  · rw [if_pos up]
    by_cases e : k = l
    · subst e
      rw [portOf_putPort_same, if_pos ⟨rfl, up⟩]
      rfl
    · rw [portOf_putPort_ne _ _ e, if_neg fun c => e c.1, List.append_nil]
      rfl
  · rw [if_neg up, if_neg fun ⟨e, c⟩ => up (e ▸ c), List.append_nil]
    rfl

theorem placeMessage_frame (l : Link) (m : OutMsg) (s : State) :
    placeMessage l m s = s.setPort (placeMessage l m s).port := by
  unfold placeMessage
  dsimp only
  split <;> rfl

/-- R23: the GEND due for one ending. -/
theorem ended_gendDue (g : Grant) (r : Reason) (s : State) : Ended [(g, r)] s (gendDue g r s) := by
  have frame := placeMessage_frame g.station (.gend g.handle g.axis r) s
  unfold gendDue
  split
  · next released =>
    subst released
    refine ⟨fun k => ?_, rfl, rfl⟩
    simp [gendsTo, queueOf]
  · next told =>
    refine ⟨fun k => ?_, ?_, ?_⟩
    · show portOf k (placeMessage g.station _ s) = _
      rw [portOf_placeMessage, gendsTo_eq]
      by_cases own : g.station = k
      · simp [toldTo, gends, own, told, eq_comm]
      · simp [toldTo, gends, own, Ne.symm own]
    · unfold GendNoticed
      rw [if_pos (by simp [told])]
      have notice := noticed_raise_gend (placeMessage g.station (.gend g.handle g.axis r) s)
      rw [frame] at notice ⊢
      exact notice
    · rw [frame]
      rfl

/-! ## Retirement, cut, ramped ending, pause (R10, R11, R20 to R22) -/

theorem drives_setGrant (s : State) (v : GrantEngine) : Drives s (s.setGrant v) := rfl
theorem drives_setDrive (s : State) (v : DriveShaper) : Drives s (s.setDrive v) := rfl

theorem drives_of_panel {s t : State} (e : t = s.setPanel t.panel) : Drives s t := by
  rw [e]
  rfl

theorem drives_startGrant (g : Grant) (s : State) : Drives s (startGrant g s) :=
  (drives_setDrive s _).trans (drives_of_panel (panelStart_frame (driveStart g s) g))

theorem drives_stopped (a : Axis) (s : State) : Drives s (panelStop a (driveEnd a s)) :=
  (drives_setDrive s _).trans (drives_of_panel (panelStop_frame (driveEnd a s) a))

theorem drives_gatedStop (a : Axis) (s : State) : Drives s (gatedStop a s) := by
  unfold gatedStop
  repeat' split
  all_goals rfl

theorem drives_windDown (a : Axis) (s : State) : Drives s (panelWindDown a (gatedStop a s)) :=
  (drives_gatedStop a s).trans (drives_of_panel (panelWindDown_frame _ a))

theorem drives_leaveSlot (g : Grant) (s : State) : Drives s (leaveSlot g s) := by
  have passed (q : Resource) (u : State) : Drives u (passSlot q u) := by
    unfold passSlot
    split
    · rfl
    · split
      · rfl
      · next k _ => exact (drives_setGrant u _).trans (drives_startGrant { k with state := .driving } _)
  unfold leaveSlot
  dsimp only
  split
  · exact (drives_stopped g.axis s).trans (passed _ _)
  · split <;> rfl

/-- R22, R23: a retirement is told and noticed. -/
theorem ended_retire (g : Grant) (r : Reason) (s : State) : Ended [(g, r)] s (retire g r s) :=
  ((drives_setGrant s _).trans (drives_leaveSlot g (dropGrant g.handle s))).ended.trans
    (ended_gendDue g r _)

theorem drives_pauseGrant (g : Grant) (s : State) : Drives s (pauseGrant g s) :=
  (drives_setGrant s _).trans (drives_windDown g.axis _)

/-- R10: a grant put into EASING, its axis wound down. -/
def easing (g : Grant) (r : Reason) (s : State) : State :=
  panelWindDown g.axis (gatedStop g.axis (putGrant (eased g r) s))

theorem drives_easing (g : Grant) (r : Reason) (s : State) : Drives s (easing g r s) :=
  (drives_setGrant s _).trans (drives_windDown g.axis _)

/-- R10, R102: the output that an entry into EASING leaves is 0 unless the axis runs down. -/
theorem easing_output (g : Grant) (r : Reason) (s : State) :
    (easing g r s).drive.output.get g.axis = 0 ↔ runsDown g.axis s = false := by
  have output : (easing g r s).drive.output = (gatedStop g.axis (putGrant (eased g r) s)).drive.output := by
    unfold easing
    rw [panelWindDown_frame]
    rfl
  rw [output]
  unfold runsDown gateOf gatedStop
  cases motorOf g.axis with
  | none =>
    show s.drive.output.get g.axis = 0 ↔ _
    simp
  | some m =>
    dsimp only
    by_cases pass : (s.panel.axis.get m).gate = .pass
    · rw [if_pos (by exact pass)]
      show s.drive.output.get g.axis = 0 ↔ _
      simp [pass]
    · rw [if_neg (by exact pass)]
      simp [pass, PerAxis.get_set_same]

/-- R10: an entry into EASING with the axis running down. -/
theorem ease_of_runs {g : Grant} {s : State} (r : Reason) (runs : runsDown g.axis s = true) :
    ease g r s = easing g r s := by
  refine if_neg fun stopped => ?_
  rw [(easing_output g r s).mp stopped] at runs
  cases runs

/-- R10: an entry into EASING at an output of 0 retires the grant at once. -/
theorem ease_of_stops {g : Grant} {s : State} (r : Reason) (stops : runsDown g.axis s = false) :
    ease g r s = retire g r (easing g r s) := if_pos ((easing_output g r s).mpr stops)

/-- R10, R23: a ramped ending of a grant in motion. -/
theorem ended_ease (g : Grant) (r : Reason) (s : State) :
    Ended (if runsDown g.axis s then [] else [(g, r)]) s (ease g r s) := by
  cases runs : runsDown g.axis s with
  | true =>
    rw [ease_of_runs r runs]
    exact (drives_easing g r s).ended
  | false =>
    rw [ease_of_stops r runs]
    exact (drives_easing g r s).ended.trans (ended_retire g r _)

end Sys2Proof.Machine.Steps
end

section
/-! A message or an event that ends grants, as it closes (R23, R153, R134). -/

namespace Sys2Proof.Machine.Steps

open Motion Holds

section
variable {l : Link} {bytes : List Byte} {s : State}

/-- R153: a ready link stays UP with the message in hand. -/
theorem portOf_handed (h : Ready l s) (k : Link) : portOf k (handed l bytes s) =
    if k = l then { taken (bytes.length + 1) (portOf l s) with inHand := true } else portOf k s := by
  unfold handed
  by_cases e : k = l
  · subst e
    rw [if_pos rfl, portOf_putPort_same, handedPort_eq_taken bytes h.buffer]
    simp [taken, h.frame]
  · rw [if_neg e, portOf_putPort_ne _ _ e]

theorem queueOf_handed (h : Ready l s) (k : Link) : queueOf k (handed l bytes s) = queueOf k s := by
  unfold queueOf
  rw [portOf_handed h]
  split
  · next e => subst e; rfl
  · rfl

theorem gendsTo_handed (h : Ready l s) (k : Link) (ends : List (Grant × Reason)) :
    gendsTo k ends (handed l bytes s) = gendsTo k ends s := by
  refine gendsTo_congr ends ?_
  rw [portOf_handed h]
  split
  · next e => subst e; rfl
  · rfl

/-- R153, R160, R23: a message whose handler ends grants is taken, its GENDs are placed in creation order
and its reply after them. -/
theorem receiveFrame_ended {m : Msg} {v : State} {r : Reply} {ends listed : List (Grant × Reason)}
    (h : Ready l s) (short : bytes.length ≤ frameBytes)
    (parsed : parseFrame l ⟨bytes, false⟩ = .msg m)
    (handles : handleMsg l m (handed l bytes s) = (v, some r)) (told : Told ends (handed l bytes s) v)
    (perm : ends.Perm listed) (order : Listed s.grant.table listed) :
    receiveFrame l bytes s = v.setPort (receiveFrame l bytes s).port ∧
      Handled (bytes.length + 1) l listed (.rply (bytes.headD 0#8) r.status r.fields) s
        (receiveFrame l bytes s) := by
  have sorted := told_orderGends told perm order
  have ordered := orderGends_frame (handed l bytes s) v
  have up : (portOf l (orderGends (handed l bytes s) v)).state = .up := by
    rw [told_state sorted, portOf_handed h, if_pos rfl]
    exact h.up
  have reply (k : Link) : portOf k (replied l bytes r (orderGends (handed l bytes s) v)) =
      { portOf k (handed l bytes s) with
        queue := queueOf k s ++ gendsTo k listed s ++
          if k = l then [.rply (bytes.headD 0#8) r.status r.fields] else [] } := by
    unfold replied
    rw [portOf_placeMessage, told_queue sorted, queueOf_handed h, gendsTo_handed h, sorted k]
    by_cases e : k = l
    · subst e
      rw [← sorted k, if_pos ⟨rfl, up⟩, if_pos rfl, sorted k]
      rfl
    · rw [if_neg fun c => e c.1, if_neg e]
  have delivered : deliver l ⟨bytes, false⟩ (handed l bytes s) =
      replied l bytes r (orderGends (handed l bytes s) v) := by
    unfold deliver
    rw [handleFrame_eq parsed handles]
    rfl
  have received : receiveFrame l bytes s =
      replied l bytes r (orderGends (handed l bytes s) v) := by
    rw [← delivered]
    refine receiveFrame_delivers h short ?_
    show (portOf l (deliver l ⟨bytes, false⟩ (handed l bytes s))).buffer = []
    rw [delivered, reply, portOf_handed h, if_pos rfl]
    exact h.buffer
  have placed : replied l bytes r (orderGends (handed l bytes s) v) =
      (orderGends (handed l bytes s) v).setPort
        (replied l bytes r (orderGends (handed l bytes s) v)).port := placeMessage_frame ..
  rw [received]
  generalize replied l bytes r (orderGends (handed l bytes s) v) = t at reply placed ⊢
  rw [ordered, State.setPort_setPort] at placed
  refine ⟨?_, fun k => ?_, ?_, fun k n => ?_⟩
  · exact placed
  · unfold queueOf
    rw [reply]
    rfl
  · unfold queueOf
    rw [reply, portOf_handed h, if_pos rfl]
  · unfold queueOf
    rw [reply, portOf_handed h, if_neg n]

/-- R153, R160, R23, R134: the same message's event, where it does not end CLOSEDOWN. -/
theorem answered_ended {m : Msg} {v : State} {r : Reply} {ends listed : List (Grant × Reason)}
    (h : Ready l s) (short : bytes.length ≤ frameBytes)
    (parsed : parseFrame l ⟨bytes, false⟩ = .msg m)
    (handles : handleMsg l m (handed l bytes s) = (v, some r)) (told : Told ends (handed l bytes s) v)
    (perm : ends.Perm listed) (order : Listed s.grant.table listed)
    (stays : closedownDone s v = false) (served : linkMode v.mode.mode = true)
    (beacon : v.beacon = s.beacon) (config : v.config = s.config) :
    portEvent (receiveFrame l bytes) s =
        (v.setPort (portEvent (receiveFrame l bytes) s).port).setBeacon
          (portEvent (receiveFrame l bytes) s).beacon ∧
      Handled (bytes.length + 1) l listed (.rply (bytes.headD 0#8) r.status r.fields) s
        (portEvent (receiveFrame l bytes) s) ∧
      DemandsFollow s (portEvent (receiveFrame l bytes) s) := by
  obtain ⟨left, handled⟩ := receiveFrame_ended h short parsed handles told perm order
  unfold portEvent
  generalize receiveFrame l bytes s = u at left handled ⊢
  obtain ⟨demands, frame⟩ := conclude_judged (s := s) (u := u) (by rw [left]; exact stays)
    (by rw [left]; exact served) (by rw [left]; exact beacon) (by rw [left]; exact config)
  generalize conclude s u = t at demands frame ⊢
  refine ⟨?_, handled_of_port handled (by rw [frame]; rfl), demands⟩
  rw [frame, left]
  rfl

end

/-! ## Events (R23, R134, R175) -/

section
variable {f : State → State} {s v : State} {ends listed : List (Grant × Reason)}

theorem told_of_port {t u : State} (h : Told ends s t) (e : u.port = t.port) : Told ends s u := fun k => by
  rw [show portOf k u = portOf k t by unfold portOf; rw [e]]
  exact h k

theorem event_eq (f : State → State) (s : State) : event f s = conclude s (orderGends s (f s)) := rfl

/-- R23, R134: an event that ends grants, where it does not end CLOSEDOWN. -/
theorem event_ended (effect : f s = v) (told : Told ends s v) (perm : ends.Perm listed)
    (order : Listed s.grant.table listed) (stays : closedownDone s v = false) :
    event f s = (v.setPort (event f s).port).setBeacon (event f s).beacon ∧
      Told listed s (event f s) := by
  have sorted := told_orderGends told perm order
  have left := orderGends_frame s v
  rw [event_eq, effect]
  generalize orderGends s v = u at sorted left ⊢
  have frame := conclude_frame (s := s) (u := u) (by rw [left]; exact stays)
  generalize conclude s u = t at frame ⊢
  refine ⟨?_, told_of_port sorted (by rw [frame]; rfl)⟩
  rw [frame, left]
  rfl

/-- R134: the zone demands after the same event, where links are served. -/
theorem demandsFollow_event (effect : f s = v) (stays : closedownDone s v = false)
    (served : linkMode v.mode.mode = true) (beacon : v.beacon = s.beacon) (config : v.config = s.config) :
    DemandsFollow s (event f s) := by
  have left := orderGends_frame s v
  rw [event_eq, effect]
  generalize orderGends s v = u at left ⊢
  exact (conclude_judged (s := s) (u := u) (by rw [left]; exact stays) (by rw [left]; exact served)
    (by rw [left]; exact beacon) (by rw [left]; exact config)).1

/-- R167: the notices after the same event are those of its effect. -/
theorem noticed_of_notice {flags mask : NoticeSet} {u t : State} (h : Noticed flags mask u)
    (notice : t.notice = u.notice) (mode : t.mode = u.mode) : Noticed flags mask t := by
  unfold Noticed
  rw [notice, mode]
  exact h

theorem gendNoticed_of_notice {u t : State} (h : GendNoticed ends s u) (notice : t.notice = u.notice)
    (mode : t.mode = u.mode) : GendNoticed ends s t := by
  unfold GendNoticed at h ⊢
  split
  · next some =>
    rw [if_pos some] at h
    exact noticed_of_notice h notice mode
  · next none =>
    rw [if_neg none] at h
    exact notice.trans h

/-- R23, R167: whether the GEND notice is raised does not rest on the order of the endings. -/
theorem gendNoticed_perm {t : State} (h : GendNoticed ends s t) (perm : ends.Perm listed) :
    GendNoticed listed s t := by
  have same : (listed.any fun e => decide (e.2 ≠ .released)) =
      ends.any fun e => decide (e.2 ≠ .released) := by
    rw [Bool.eq_iff_iff, List.any_eq_true, List.any_eq_true]
    exact exists_congr fun e => by rw [perm.mem_iff]
  unfold GendNoticed
  rw [same]
  exact h

end

theorem listed_nil {table : List Grant} (distinct : (table.map (·.handle)).Nodup) : Listed table [] :=
  ⟨List.nil_sublist _, distinct⟩

theorem listed_one {table : List Grant} (distinct : (table.map (·.handle)).Nodup) {g : Grant}
    (hg : g ∈ table) (r : Reason) : Listed table [(g, r)] :=
  ⟨List.singleton_sublist.mpr hg, distinct⟩

end Sys2Proof.Machine.Steps
end

section
/-! What the end of one grant does to the drive and the panel of its axis, and leaves of the others (R10, R20 to
R22, R103, R121). -/

namespace Sys2Proof.Machine.Steps

open Motion Holds

/-! ## One axis among the others -/

/-- The drive and the panel of an axis are as they were. -/
structure Apart (a : Axis) (s t : State) : Prop where
  output : t.drive.output.get a = s.drive.output.get a
  driving : t.drive.driving.get a = s.drive.driving.get a
  delay : t.drive.startDelay.get a = s.drive.startDelay.get a
  coil : ∀ c, axisOfCoil c = a → t.drive.coil.get c = s.drive.coil.get c
  duty : ∀ m, axisOfMotor m = a → t.drive.duty.get m = s.drive.duty.get m ∧
    t.drive.direction.get m = s.drive.direction.get m
  panel : ∀ m, axisOfMotor m = a → t.panel.axis.get m = s.panel.axis.get m
  latch : ∀ d, axisOfMotor (motorOfDoor d) = a → t.panel.latch.get d = s.panel.latch.get d
  pump : resourceOf a = .hyd → t.drive.pumpClosed = s.drive.pumpClosed

theorem apart_of_same {s t : State} (drive : t.drive = s.drive) (panel : t.panel = s.panel) (a : Axis) :
    Apart a s t := by
  constructor <;> simp [drive, panel]

theorem Apart.refl (a : Axis) (s : State) : Apart a s s := apart_of_same rfl rfl a

theorem Apart.trans {a : Axis} {s t u : State} (h : Apart a s t) (k : Apart a t u) : Apart a s u where
  output := k.output.trans h.output
  driving := k.driving.trans h.driving
  delay := k.delay.trans h.delay
  coil := fun c e => (k.coil c e).trans (h.coil c e)
  duty := fun m e => ⟨(k.duty m e).1.trans (h.duty m e).1, (k.duty m e).2.trans (h.duty m e).2⟩
  panel := fun m e => (k.panel m e).trans (h.panel m e)
  latch := fun d e => (k.latch d e).trans (h.latch d e)
  pump := fun e => (k.pump e).trans (h.pump e)

/-- R102: whether an axis runs down rests on its output and its gate. -/
theorem Apart.runsDown {a : Axis} {s t : State} (h : Apart a s t) : runsDown a t = runsDown a s := by
  have gate : gateOf a t = gateOf a s := by
    cases a with
    | lift | tilt | fold => rfl
    | shut => exact congrArg PanelRecord.gate (h.panel .shut rfl)
    | ndor => exact congrArg PanelRecord.gate (h.panel .ndor rfl)
    | odor => exact congrArg PanelRecord.gate (h.panel .odor rfl)
  unfold Machine.runsDown
  rw [h.output, gate]

/-- An axis stopped stays so while nothing touches it. -/
theorem axisStopped_of_apart_after {a : Axis} {s t u : State} (h : AxisStopped a s t)
    (k : Apart a t u) : AxisStopped a s u where
  output := k.output.trans h.output
  driving := k.driving.trans h.driving
  delay := k.delay.trans h.delay
  coil := fun c e => (k.coil c e).trans (h.coil c e)
  duty := fun m e => ⟨(k.duty m e).1.trans (h.duty m e).1, (k.duty m e).2.trans (h.duty m e).2⟩
  panel := fun m e => by rw [k.panel m e]; exact h.panel m e
  latch := fun d e => by rw [k.latch d e]; exact h.latch d e
  pump := fun e => (k.pump e).trans (h.pump e)

/-- An axis stopped rests, of what was before, on its panel states alone. -/
theorem axisStopped_of_states {a : Axis} {s t u : State} (h : AxisStopped a t u)
    (states : ∀ m, axisOfMotor m = a → (t.panel.axis.get m).state = (s.panel.axis.get m).state) :
    AxisStopped a s u where
  output := h.output
  driving := h.driving
  delay := h.delay
  coil := h.coil
  duty := h.duty
  panel := fun m e => by rw [← states m e]; exact h.panel m e
  latch := h.latch
  pump := h.pump

/-! ## A sequence and a drive stopped (R103, R121) -/

/-- R103, R121: the stop of an axis. -/
theorem axisStopped_stopped (a : Axis) (s : State) :
    AxisStopped a s (panelStop a (driveEnd a s)) := by
  constructor
  case coil => intro c e; cases a <;> cases c <;> first | rfl | cases e
  case duty => intro m e; cases m <;> cases e <;> exact ⟨rfl, rfl⟩
  case panel => intro m e; cases m <;> cases e <;> exact ⟨rfl, rfl, rfl, rfl⟩
  case latch => intro d e; cases d <;> cases e <;> exact ⟨rfl, rfl, rfl⟩
  case pump => intro e; cases a <;> first | rfl | cases e
  all_goals cases a <;> rfl

/-- R103, R121: the stop of an axis leaves the axes of the other resources alone. -/
theorem apart_stopped {a b : Axis} (other : resourceOf b ≠ resourceOf a) (s : State) :
    Apart b s (panelStop a (driveEnd a s)) := by
  constructor
  case coil => intro c e; subst e; cases a <;> cases c <;> first | rfl | exact absurd rfl other
  case duty => intro m e; subst e; cases a <;> cases m <;> first | exact ⟨rfl, rfl⟩ | exact absurd rfl other
  case panel => intro m e; subst e; cases a <;> cases m <;> first | rfl | exact absurd rfl other
  case latch => intro d e; subst e; cases a <;> cases d <;> first | rfl | exact absurd rfl other
  case pump => intro e; cases a <;> first | rfl | exact absurd e other
  all_goals cases a <;> cases b <;> first | rfl | exact absurd rfl other

/-- R121: a platform axis has no panel to stop. -/
theorem panelStop_of_platform {a : Axis} (h : motorOf a = none) (s : State) : panelStop a s = s := by
  unfold panelStop
  rw [h]

/-! ## One retirement (R22) -/

theorem gendDue_frame (g : Grant) (r : Reason) (s : State) :
    gendDue g r s = (s.setPort (gendDue g r s).port).setNotice (gendDue g r s).notice := by
  unfold gendDue
  split
  · rfl
  · rw [placeMessage_frame]
    rfl

theorem gendDue_grant (g : Grant) (r : Reason) (s : State) : (gendDue g r s).grant = s.grant := by
  rw [gendDue_frame]
  rfl

theorem gendDue_panel (g : Grant) (r : Reason) (s : State) : (gendDue g r s).panel = s.panel := by
  rw [gendDue_frame]
  rfl

theorem stopped_grant (a : Axis) (s : State) : (panelStop a (driveEnd a s)).grant = s.grant :=
  grant_of_view ((view_panelStop a _).trans (view_driveEnd a s))

section
variable {s : State} (h : Sound s) {g : Grant} (hg : g ∈ s.grant.table) (r : Reason)
include h hg

/-- R22: a WAITING grant retired. -/
theorem retired_waiting (waits : g.state = .waiting) :
    (retire g r s).grant = { s.grant with
        table := tableWithout g.handle s
        slots := s.grant.slots.set (resourceOf g.axis)
          { s.grant.slots.get (resourceOf g.axis) with waiting := none } } ∧
      (retire g r s).drive = s.drive ∧ (retire g r s).panel = s.panel := by
  rw [retire_of_waiting h hg r waits, gendDue_grant, gendDue_drive, gendDue_panel]
  refine ⟨?_, rfl, rfl⟩
  unfold tableWithout
  rw [show (fun x : Grant => decide (x.handle ≠ g.handle)) = fun x => x.handle != g.handle from
    funext fun _ => decide_not]
  rfl

/-- R22: a holder retired with no grant waiting. -/
theorem retired_holder (holds : g.state ≠ .waiting)
    (alone : (slotOf (resourceOf g.axis) s).waiting = none) :
    (retire g r s).grant = { s.grant with
        table := tableWithout g.handle s
        slots := s.grant.slots.set (resourceOf g.axis) ⟨none, none⟩ } ∧
      AxisStopped g.axis s (retire g r s) ∧
      (∀ b, resourceOf b ≠ resourceOf g.axis → Apart b s (retire g r s)) ∧
      (motorOf g.axis = none → (retire g r s).panel = s.panel) := by
  have eq := retire_of_holder h hg r holds alone
  have grant : (retire g r s).grant = { s.grant with
      table := tableWithout g.handle s
      slots := s.grant.slots.set (resourceOf g.axis) ⟨none, none⟩ } := by
    rw [eq, gendDue_grant]
    unfold tableWithout setSlot
    rw [State.setGrant_grant, stopped_grant,
      show (fun x : Grant => decide (x.handle ≠ g.handle)) = fun x => x.handle != g.handle from
        funext fun _ => decide_not]
    rfl
  have drive : (retire g r s).drive =
      (panelStop g.axis (driveEnd g.axis (dropGrant g.handle s))).drive := by
    rw [eq, gendDue_drive]
    rfl
  have panel : (retire g r s).panel =
      (panelStop g.axis (driveEnd g.axis (dropGrant g.handle s))).panel := by
    rw [eq, gendDue_panel]
    rfl
  have before := apart_of_same (s := s) (t := dropGrant g.handle s) rfl rfl
  have after := apart_of_same drive panel
  refine ⟨grant, ?_, fun b other => ?_, fun platform => ?_⟩
  · exact axisStopped_of_apart_after (axisStopped_of_states
      (axisStopped_stopped g.axis (dropGrant g.handle s)) fun _ _ => rfl) (after g.axis)
  · exact ((before b).trans (apart_stopped other _)).trans (after b)
  · rw [panel, panelStop_of_platform platform]
    rfl

end

/-! ## One ramped ending (R10, R20) -/

/-- A record changed is gone with its handle. -/
theorem filter_tableWith (g : Grant) (s : State) :
    ((tableWith g s).filter fun x => decide (x.handle ≠ g.handle)) = tableWithout g.handle s := by
  have kept (x : Grant) : ((if x.handle = g.handle then g else x).handle ≠ g.handle) ↔
      x.handle ≠ g.handle := by
    split
    · next e => simp [e]
    · rfl
  unfold tableWith tableWithout
  rw [List.filter_map]
  have same : ((fun x : Grant => decide (x.handle ≠ g.handle)) ∘
      fun x => if x.handle = g.handle then g else x) = fun x => decide (x.handle ≠ g.handle) :=
    funext fun x => decide_eq_decide.mpr (kept x)
  rw [same]
  refine (List.map_congr_left fun x hx => ?_).trans (List.map_id _)
  exact if_neg (of_decide_eq_true (List.mem_filter.mp hx).2)

theorem easing_grant (g : Grant) (r : Reason) (s : State) :
    (easing g r s).grant = { s.grant with table := tableWith (eased g r) s } :=
  grant_of_view ((view_panelWindDown _ _).trans (view_gatedStop _ _))

/-- R120: winding down leaves the panel states as they are. -/
theorem easing_states (g : Grant) (r : Reason) (s : State) (m : Motor) :
    ((easing g r s).panel.axis.get m).state = (s.panel.axis.get m).state := by
  have stopped : (gatedStop g.axis (putGrant (eased g r) s)).panel = s.panel := by
    unfold gatedStop
    repeat' split
    all_goals rfl
  have wound (a : Axis) (u : State) :
      ((panelWindDown a u).panel.axis.get m).state = (u.panel.axis.get m).state := by
    have put (k : Motor) : (((u.panel.axis.set k { panelOf k u with gate := .held }).get m)).state =
        (u.panel.axis.get m).state := by
      rw [PerMotor.get_set]
      split
      · next e => subst e; rfl
      · rfl
    unfold panelWindDown
    dsimp only
    repeat' split
    all_goals first | rfl | exact put _
  unfold easing
  rw [wound, stopped]

/-- R120: an entry into EASING touches no axis but the grant's. -/
theorem apart_easing {g : Grant} {b : Axis} (other : b ≠ g.axis) (r : Reason) (s : State) :
    Apart b s (easing g r s) := by
  have gated (u : State) : Apart b u (gatedStop g.axis u) := by
    unfold gatedStop
    split
    · exact .refl b u
    · next m hm =>
      split
      · exact .refl b u
      · refine { Apart.refl b u with
          output := PerAxis.get_set_ne _ _ other
          duty := fun k e => ⟨PerMotor.get_set_ne _ _ fun c => other ?_, rfl⟩ }
        subst c e
        cases a : g.axis <;> rw [a] at hm <;> cases hm <;> rfl
  have wound (u : State) : Apart b u (panelWindDown g.axis u) := by
    have apart {m : Motor} (hm : motorOf g.axis = some m) {k : Motor} (e : axisOfMotor k = b) : k ≠ m := by
      rintro rfl
      subst e
      cases a : g.axis <;> rw [a] at hm <;> cases hm <;> exact other a.symm
    unfold panelWindDown
    split
    · exact .refl b u
    · next m hm =>
      have door {d : Door} (hd : doorOf m = some d) {x : Door} (e : axisOfMotor (motorOfDoor x) = b) :
          x ≠ d := by
        rintro rfl
        exact apart hm e (by cases m <;> cases hd <;> rfl)
      have latch {d : Door} (hd : doorOf m = some d) (v : LatchRecord) : Apart b u (putLatch d v u) :=
        { Apart.refl b u with latch := fun x e => PerDoor.get_set_ne _ _ (door hd e) }
      dsimp only
      repeat' split
      all_goals first
        | exact .refl b u
        | exact latch ‹_› _
        | exact { Apart.refl b u with panel := fun k e => PerMotor.get_set_ne _ _ (apart hm e) }
  exact ((apart_of_same (s := s) (t := putGrant (eased g r) s) rfl rfl b).trans (gated _)).trans (wound _)

/-- R102: an axis that runs down is not stopped at once. -/
theorem easing_drive {g : Grant} {s : State} (r : Reason) (runs : runsDown g.axis s = true) :
    (easing g r s).drive = s.drive := by
  have pass : gateOf g.axis s = .pass := by
    simp only [runsDown, Bool.and_eq_true, decide_eq_true_eq] at runs
    exact runs.2
  unfold easing
  rw [panelWindDown_frame]
  show (gatedStop g.axis (putGrant (eased g r) s)).drive = s.drive
  unfold gateOf at pass
  unfold gatedStop
  cases hm : motorOf g.axis with
  | none => rfl
  | some m =>
    rw [hm] at pass
    dsimp only
    rw [if_pos (by exact pass)]
    rfl

theorem easing_panel {g : Grant} (platform : motorOf g.axis = none) (r : Reason) (s : State) :
    (easing g r s).panel = s.panel := by
  unfold easing panelWindDown gatedStop
  rw [platform]
  rfl

/-- R17, R20: a ramped ending of a grant in motion. -/
theorem holderRamped_ease {s : State} (h : Sound s) {g : Grant} (hg : g ∈ s.grant.table)
    (active : g.state = .driving ∨ g.state = .paused) (r : Reason) :
    HolderRamped g r s (ease g r s) ∧
      ∀ b, resourceOf b ≠ resourceOf g.axis → Apart b s (ease g r s) := by
  have moving : g.state ≠ .waiting ∧ g.state ≠ .easing := by
    rcases active with e | e <;> rw [e] <;> exact ⟨nofun, nofun⟩
  have grant := easing_grant g r s
  have sound : Sound (easing g r s) := (sound_putEased h hg moving.1 r).of_grant grant
  have alone : (slotOf (resourceOf g.axis) (easing g r s)).waiting = none := by
    unfold slotOf
    rw [grant]
    exact h.no_waiter hg moving.1 moving.2
  have live : eased g r ∈ (easing g r s).grant.table := by
    rw [grant]
    exact mem_putGrant_self hg rfl
  have apart {b : Axis} (other : resourceOf b ≠ resourceOf g.axis) : Apart b s (easing g r s) :=
    apart_easing (fun e => other (by rw [e])) r s
  cases runs : runsDown g.axis s with
  | true =>
    rw [ease_of_runs r runs]
    exact ⟨⟨fun _ => ⟨easing_drive r runs, grant⟩, (fun e => by rw [runs] at e; cases e),
      fun platform => easing_panel platform r s⟩, fun b => apart⟩
  | false =>
    rw [ease_of_stops r runs]
    obtain ⟨left, stopped, others, panel⟩ := retired_holder (g := eased g r) sound live r (by nofun) alone
    rw [retire_eased] at left stopped others panel
    refine ⟨⟨(fun e => by rw [runs] at e; cases e), fun _ => ⟨axisStopped_of_states stopped fun m _ =>
      easing_states g r s m, ?_⟩, fun platform => (panel platform).trans (easing_panel platform r s)⟩,
      fun b other => (apart other).trans (others b other)⟩
    rw [left, grant]
    have table : tableWithout g.handle (easing g r s) = tableWithout g.handle s := by
      unfold tableWithout
      rw [grant]
      exact filter_tableWith (eased g r) s
    show ({ s.grant with table := tableWithout g.handle (easing g r s), slots := _ } : GrantEngine) = _
    rw [table]
    rfl

end Sys2Proof.Machine.Steps
end

section
/-! A station's release of its own grant and the grant timers (R13, R14, R17). -/

namespace Sys2Proof.Machine.Steps

open Motion Holds

/-! ## Replies that name a grant -/

theorem grantCode_of_mem {s : State} (distinct : (s.grant.table.map (·.handle)).Nodup) {g : Grant}
    (hg : g ∈ s.grant.table) : grantCode g.handle s = grantStateCode g.state := by
  unfold grantCode
  rw [findGrant_of_mem distinct hg]

theorem grantCode_of_gone {s : State} {h : Nat} (gone : ∀ g ∈ s.grant.table, g.handle ≠ h) :
    grantCode h s = retiredCode := by
  have none : findGrant h s = none :=
    List.find?_eq_none.mpr fun g hg => by simpa using gone g hg
  unfold grantCode
  rw [none]

/-- A table with some of its records changed in place has the handles it had. -/
theorem tableWith_handles (g : Grant) (s : State) :
    (tableWith g s).map (·.handle) = s.grant.table.map (·.handle) := putGrant_handles g s

theorem mem_tableWith_self {s : State} {g k : Grant} (hk : k ∈ s.grant.table)
    (e : k.handle = g.handle) : g ∈ tableWith g s := mem_putGrant_self hk e

theorem mem_tableWithout {h : Nat} {s : State} {g : Grant} :
    g ∈ tableWithout h s ↔ g ∈ s.grant.table ∧ g.handle ≠ h := by
  unfold tableWithout
  rw [List.mem_filter, decide_eq_true_eq]

/-- R20: the state of a grant whose holder has taken a ramped ending. -/
theorem grantCode_of_ramped {g : Grant} {r : Reason} {s t : State} (h : HolderRamped g r s t)
    (distinct : (s.grant.table.map (·.handle)).Nodup) (hg : g ∈ s.grant.table) :
    grantCode g.handle t = if runsDown g.axis s then 2 else 4 := by
  cases runs : runsDown g.axis s with
  | true =>
    obtain ⟨-, grant⟩ := h.eases runs
    have live : eased g r ∈ t.grant.table := by rw [grant]; exact mem_tableWith_self hg rfl
    exact grantCode_of_mem (g := eased g r)
      (by rw [grant]; exact (tableWith_handles _ s).symm ▸ distinct) live
  | false =>
    obtain ⟨-, grant⟩ := h.ends runs
    exact grantCode_of_gone fun k hk => by
      rw [grant] at hk
      exact (mem_tableWithout.mp hk).2

/-! ## Endings that are not told (R17, R23) -/

theorem gendsTo_released (k : Link) (g : Grant) (s : State) : gendsTo k [(g, .released)] s = [] := by
  simp [gendsTo]

/-- R23: a release is told to nobody. -/
theorem told_released {g : Grant} {s t : State} (h : Told [(g, .released)] s t) : Told [] s t :=
  fun k => by rw [h k, gendsTo_released, gendsTo_nil]

theorem Ended.release {g : Grant} {b : Bool} {s t : State}
    (h : Ended (if b then [] else [(g, .released)]) s t) :
    Told [] s t ∧ t = { s with grant := t.grant, drive := t.drive, panel := t.panel, port := t.port } := by
  obtain ⟨told, noticed, frame⟩ := h
  have notice : t.notice = s.notice := by cases b <;> exact noticed
  rw [notice] at frame
  refine ⟨?_, frame⟩
  cases b with
  | true => exact told
  | false => exact told_released told

/-- R134: a change of the ports alone moves no demand. -/
theorem demandsFollow_of_same {s t : State} (beacon : t.beacon = s.beacon)
    (demand : ∀ z, zoneDemand z t = zoneDemand z s) : DemandsFollow s t := by
  have still (z : Zone) : demandMoves z s t = false := by
    unfold demandMoves
    rw [demand z]
    simp
  refine ⟨fun z moves => ?_, fun z moves => ?_, fun z _ => ?_, fun c _ => by rw [beacon],
    by rw [beacon], by rw [beacon]⟩
  · rw [still z] at moves
    cases moves
  · rw [still z] at moves
    cases moves
  · rw [beacon]
    exact ⟨rfl, fun _ _ => rfl⟩

/-- R153: a message that is only answered moves no demand. -/
theorem demandsFollow_of_answeredOnly {n : Nat} {l : Link} {m : OutMsg} {s t : State}
    (h : AnsweredOnly n l m s t) : DemandsFollow s t := by
  rw [h.1]
  exact demandsFollow_of_same rfl fun z => zoneDemand_congr rfl rfl rfl rfl z

/-- A holder's ramped ending rests on the blocks that drive. -/
theorem holderRamped_of_blocks {g : Grant} {r : Reason} {s s' t t' : State} (h : HolderRamped g r s t)
    (grant : t'.grant = t.grant) (drive : t'.drive = t.drive) (panel : t'.panel = t.panel)
    (grant' : s'.grant = s.grant) (drive' : s'.drive = s.drive) (panel' : s'.panel = s.panel) :
    HolderRamped g r s' t' := by
  have runs : runsDown g.axis s' = runsDown g.axis s := (apart_of_same drive' panel' _).runsDown
  have table (k : Grant) : tableWith k s' = tableWith k s := by unfold tableWith; rw [grant']
  have without : tableWithout g.handle s' = tableWithout g.handle s := by unfold tableWithout; rw [grant']
  obtain ⟨eases, ends, platform⟩ := h
  refine ⟨fun e => ?_, fun e => ?_, fun e => ?_⟩
  · obtain ⟨d, t⟩ := eases (runs ▸ e)
    exact ⟨by rw [drive, drive', d], by rw [grant, grant', table, t]⟩
  · obtain ⟨stopped, t⟩ := ends (runs ▸ e)
    refine ⟨axisStopped_of_apart_after (axisStopped_of_states stopped fun m _ => by rw [panel'])
      (apart_of_same drive panel _), by rw [grant, grant', without, t]⟩
  · rw [panel, panel', platform e]

/-! ## LTGRANT (R17) -/

/-- R162: the LTGRANT that names a grant. -/
def releaseFrame (g : Grant) (d : Word16) : List Byte :=
  ltgrantFrame (byteOf g.handle) (byteOf (axisCode g.axis)) (byteOf (senseCode g.sense)) d

theorem sound_handed {s : State} (h : Sound s) (l : Link) (bytes : List Byte) :
    Sound (handed l bytes s) := h.of_grant rfl

section
variable {s : State} (ok : GrantsOk s) {g : Grant} (hg : g ∈ s.grant.table) (d : Word16)
include ok hg

/-- R160: the LTGRANT that names a grant is handled as R17 says for that grant. -/
theorem handleMsg_ltgrant (l : Link) (bytes : List Byte) : handleMsg g.station
      (.ltgrant (byteOf g.handle).toNat g.axis g.sense d.toNat) (handed l bytes s) =
    releaseGrant g (handed l bytes s) := by
  have ok' : GrantsOk (handed l bytes s) := ⟨ok.records, ok.room, ok.distinct, ok.single⟩
  show handleLtgrant g.station (byteOf g.handle).toNat g.axis g.sense _ = _
  unfold handleLtgrant
  rw [referTo_of_mem ok' hg]

/-- R17: LTGRANT on an EASING grant changes nothing. -/
theorem answeredOnly_release_easing (ready : Ready g.station s) (easing : g.state = .easing) :
    AnsweredOnly 7 g.station (.rply 3#8 .winding []) s
      (portEvent (receiveFrame g.station (releaseFrame g d)) s) := by
  refine answeredOnly_of_query (r := ⟨.winding, []⟩) ready (Nat.le_of_ble_eq_true rfl)
    (parseFrame_ltgrant ..) ((handleMsg_ltgrant ok hg d _ _).trans ?_)
  unfold releaseGrant
  rw [easing]
  rfl

end

theorem releaseGrant_waiting {g : Grant} (waits : g.state = .waiting) (s : State) :
    releaseGrant g s = (retire g .released s, some ⟨.ok, [byteOf g.handle, 4#8]⟩) := by
  unfold releaseGrant
  rw [waits]
  rfl

theorem releaseGrant_active {g : Grant} (active : g.state = .driving ∨ g.state = .paused) (s : State) :
    releaseGrant g s = (ease g .released s, grantReply g.handle (ease g .released s)) := by
  unfold releaseGrant
  rcases active with e | e <;> rw [e]

section
variable {s : State} (h : Sound s) {g : Grant} (hg : g ∈ s.grant.table) (ready : Ready g.station s)
  (d : Word16) (run : s.mode.mode = .run)
include h hg ready run

/-- R17, R23: a release that the handler carries out, as it closes. -/
theorem answered_release {v : State} {r : Reply} {b : Bool}
    (handles : releaseGrant g (handed g.station (releaseFrame g d) s) = (v, some r))
    (ended : Ended (if b then [] else [(g, .released)]) (handed g.station (releaseFrame g d) s) v) :
    portEvent (receiveFrame g.station (releaseFrame g d)) s = { s with
        grant := v.grant, drive := v.drive, panel := v.panel
        port := (portEvent (receiveFrame g.station (releaseFrame g d)) s).port
        beacon := (portEvent (receiveFrame g.station (releaseFrame g d)) s).beacon } ∧
      Handled 7 g.station [] (.rply 3#8 r.status r.fields) s
        (portEvent (receiveFrame g.station (releaseFrame g d)) s) ∧
      DemandsFollow s (portEvent (receiveFrame g.station (releaseFrame g d)) s) := by
  obtain ⟨told, frame⟩ := ended.release
  have mode : v.mode.mode = .run := by rw [frame]; exact run
  obtain ⟨closed, handled, demands⟩ := answered_ended ready (Nat.le_of_ble_eq_true rfl)
    (parseFrame_ltgrant ..) ((handleMsg_ltgrant h.grants hg d _ _).trans handles) told (.refl _)
    (listed_nil h.grants.distinct) (closedownDone_of_mode (by rw [mode]; nofun))
    (by rw [mode]; rfl) (by rw [frame]; rfl) (by rw [frame]; rfl)
  refine ⟨?_, handled, demands⟩
  refine closed.trans ?_
  rw [frame]
  rfl

/-- R17: a WAITING grant released. -/
theorem released_waiting (waits : g.state = .waiting) :
    let t := portEvent (receiveFrame g.station (releaseFrame g d)) s
    (t.grant = { s.grant with
        table := tableWithout g.handle s
        slots := s.grant.slots.set (resourceOf g.axis)
          { s.grant.slots.get (resourceOf g.axis) with waiting := none } } ∧
      t.drive = s.drive ∧ t.panel = s.panel ∧
      Handled 7 g.station [] (.rply 3#8 .ok [byteOf g.handle, 4#8]) s t) ∧
    DemandsFollow s t ∧
    t = { s with grant := t.grant, drive := t.drive, panel := t.panel, port := t.port
                 beacon := t.beacon } := by
  obtain ⟨closed, handled, demands⟩ := answered_release (b := false) h hg ready d run
    (releaseGrant_waiting waits _) (ended_retire g .released _)
  obtain ⟨grant, drive, panel⟩ := retired_waiting
    (sound_handed h g.station (releaseFrame g d)) hg .released waits
  rw [grant, drive, panel] at closed
  generalize portEvent (receiveFrame g.station (releaseFrame g d)) s = t at closed handled demands ⊢
  refine ⟨⟨?_, ?_, ?_, handled⟩, demands, ?_⟩ <;> rw [closed] <;> rfl

/-- R17: a DRIVING or PAUSED grant released. -/
theorem released_active (active : g.state = .driving ∨ g.state = .paused) :
    let t := portEvent (receiveFrame g.station (releaseFrame g d)) s
    (HolderRamped g .released s t ∧
      Handled 7 g.station []
        (.rply 3#8 .ok [byteOf g.handle, if runsDown g.axis s then 2#8 else 4#8]) s t) ∧
    DemandsFollow s t ∧
    t = { s with grant := t.grant, drive := t.drive, panel := t.panel, port := t.port
                 beacon := t.beacon } := by
  obtain ⟨ramped, -⟩ := holderRamped_ease (sound_handed h g.station (releaseFrame g d)) hg active
    .released
  have reply : grantReply g.handle (ease g .released (handed g.station (releaseFrame g d) s)) =
      some ⟨.ok, [byteOf g.handle, if runsDown g.axis s then 2#8 else 4#8]⟩ := by
    have code := grantCode_of_ramped ramped h.grants.distinct hg
    have runs : runsDown g.axis (handed g.station (releaseFrame g d) s) = runsDown g.axis s := rfl
    unfold grantReply okReply
    rw [code, runs]
    cases runsDown g.axis s <;> rfl
  have handles := releaseGrant_active active (handed g.station (releaseFrame g d) s)
  rw [reply] at handles
  obtain ⟨closed, handled, demands⟩ := answered_release h hg ready d run handles (ended_ease g .released _)
  generalize portEvent (receiveFrame g.station (releaseFrame g d)) s = t at closed handled demands ⊢
  have left := holderRamped_of_blocks (s' := s) (t' := t) ramped (by rw [closed]) (by rw [closed])
    (by rw [closed]) rfl rfl rfl
  refine ⟨⟨left, handled⟩, demands, ?_⟩
  rw [closed]

end

/-- Settles O24: outside RUN every grant is EASING, and in RUN the handler ends the grant by its state. -/
theorem ltgrantReleasesGrant : Obligations.LtgrantReleasesGrant := by
  unfold Obligations.LtgrantReleasesGrant
  refine ⟨fun d s ok allowed mode g hg ready => ⟨_, rfl, ?_⟩,
    fun d s ok slots g hg ready live => ⟨portEvent (receiveFrame g.station (releaseFrame g d)) s, rfl, ?_⟩⟩
  · refine answeredOnly_release_easing ok hg d ready ?_
    by_contra moving
    exact mode (allowed g hg moving).1
  · have run (moving : g.state ≠ .easing) : s.mode.mode = .run := live.resolve_right moving
    have sound : Sound s := ⟨ok, slots⟩
    cases state : g.state with
    | easing =>
      have answered := answeredOnly_release_easing ok hg d ready state
      have demands := demandsFollow_of_answeredOnly answered
      have frame := answered.1
      generalize portEvent (receiveFrame g.station (releaseFrame g d)) s = t at answered demands frame ⊢
      refine ⟨fun _ => answered, nofun, (fun e => by rcases e with e | e <;> cases e), fun _ => demands, ?_⟩
      rw [frame]
      rfl
    | waiting =>
      obtain ⟨left, demands, frame⟩ := released_waiting sound hg ready d (run (by rw [state]; nofun)) state
      exact ⟨nofun, fun _ => left, (fun e => by rcases e with e | e <;> cases e), fun _ => demands, frame⟩
    | driving =>
      obtain ⟨left, demands, frame⟩ := released_active sound hg ready d (run (by rw [state]; nofun))
        (.inl state)
      exact ⟨nofun, nofun, fun _ => left, fun _ => demands, frame⟩
    | paused =>
      obtain ⟨left, demands, frame⟩ := released_active sound hg ready d (run (by rw [state]; nofun))
        (.inr state)
      exact ⟨nofun, nofun, fun _ => left, fun _ => demands, frame⟩

/-! ## The grant timers (R13, R14) -/

/-- An event that changes nothing closes with nothing changed. -/
theorem event_fixed {f : State → State} {s : State} (e : f s = s) : event f s = s := by
  rw [event_eq, e, orderGends_of_port rfl]
  exact conclude_of_unjudged rfl rfl rfl rfl

theorem portEvent_fixed {f : State → State} {s : State} (e : f s = s) : portEvent f s = s := by
  unfold portEvent
  rw [e]
  exact conclude_of_unjudged rfl rfl rfl rfl

section
variable {s : State} (h : Sound s) {g : Grant} (hg : g ∈ s.grant.table) (run : s.mode.mode = .run)
  {f : State → State} {r : Reason}
include h hg run

/-- R23, R134: an event in RUN that ends one grant, or puts it into EASING, as it closes. -/
theorem event_ended_one {v : State} {ends : List (Grant × Reason)} (effect : f s = v)
    (ended : Ended ends s v) (one : ends = [] ∨ ends = [(g, r)]) :
    event f s = { v with port := (event f s).port, beacon := (event f s).beacon } ∧
      Told ends s (event f s) ∧ GendNoticed ends s (event f s) ∧ DemandsFollow s (event f s) := by
  have listed : Listed s.grant.table ends := by
    rcases one with rfl | rfl
    · exact listed_nil h.grants.distinct
    · exact listed_one h.grants.distinct hg r
  have mode : v.mode.mode = .run := by rw [ended.frame]; exact run
  have stays : closedownDone s v = false := closedownDone_of_mode (by rw [mode]; nofun)
  obtain ⟨closed, told⟩ := event_ended effect ended.told (.refl ends) listed stays
  have demands := demandsFollow_event effect stays (by rw [mode]; rfl) (by rw [ended.frame])
    (by rw [ended.frame])
  refine ⟨closed, told, gendNoticed_of_notice ended.noticed ?_ ?_, demands⟩ <;> rw [closed] <;> rfl

/-- R13, R14: a holder in motion put into EASING by an event. -/
theorem event_eases (effect : f s = ease g r s) (active : g.state = .driving ∨ g.state = .paused) :
    HolderRamped g r s (event f s) ∧
      Told (if runsDown g.axis s then [] else [(g, r)]) s (event f s) ∧
      GendNoticed (if runsDown g.axis s then [] else [(g, r)]) s (event f s) ∧
      DemandsFollow s (event f s) ∧
      event f s = { s with
        grant := (event f s).grant, drive := (event f s).drive, panel := (event f s).panel
        port := (event f s).port, notice := (event f s).notice, beacon := (event f s).beacon } := by
  obtain ⟨ramped, -⟩ := holderRamped_ease h hg active r
  have ended := ended_ease g r s
  obtain ⟨closed, told, noticed, demands⟩ := event_ended_one (r := r) h hg run effect
    ended (by cases runsDown g.axis s <;> simp)
  have frame := ended.frame
  generalize event f s = t at closed told noticed demands ⊢
  generalize ease g r s = v at closed frame ramped
  refine ⟨holderRamped_of_blocks ramped (by rw [closed]) (by rw [closed]) (by rw [closed]) rfl rfl rfl,
    told, noticed, demands, ?_⟩
  rw [closed, frame]

/-- R13: a WAITING grant retired by an event. -/
theorem event_retires_waiting (effect : f s = retire g r s) (waits : g.state = .waiting) :
    (event f s).grant = { s.grant with
        table := tableWithout g.handle s
        slots := s.grant.slots.set (resourceOf g.axis)
          { s.grant.slots.get (resourceOf g.axis) with waiting := none } } ∧
      (event f s).drive = s.drive ∧ Told [(g, r)] s (event f s) ∧ GendNoticed [(g, r)] s (event f s) ∧
      DemandsFollow s (event f s) ∧
      event f s = { s with
        grant := (event f s).grant, drive := (event f s).drive, panel := (event f s).panel
        port := (event f s).port, notice := (event f s).notice, beacon := (event f s).beacon } := by
  obtain ⟨grant, drive, -⟩ := retired_waiting h hg r waits
  have ended := ended_retire g r s
  obtain ⟨closed, told, noticed, demands⟩ := event_ended_one (r := r) h hg run effect ended (.inr rfl)
  have frame := ended.frame
  generalize event f s = t at closed told noticed demands ⊢
  generalize retire g r s = v at closed frame grant drive
  refine ⟨by rw [closed]; exact grant, by rw [closed]; exact drive, told, noticed, demands, ?_⟩
  rw [closed, frame]

end

/-- R13: what the deadman expiry does to the grant it finds. -/
theorem deadmanExpiry_of_mem {s : State} (ok : GrantsOk s) {g : Grant} (hg : g ∈ s.grant.table)
    (out : g.deadman = some 0) : deadmanExpiry g.handle s = windDown .deadman g s := by
  unfold deadmanExpiry
  rw [findGrant_of_mem ok.distinct hg]
  exact if_pos out

/-- R14: what the pause window expiry does to the grant it finds. -/
theorem pauseExpiry_of_mem {s : State} (ok : GrantsOk s) {g : Grant} (hg : g ∈ s.grant.table)
    (paused : g.state = .paused) (out : g.pause = some 0) :
    pauseExpiry g.handle s = ease g .linkLost s := by
  unfold pauseExpiry
  rw [findGrant_of_mem ok.distinct hg]
  exact if_pos ⟨paused, out⟩

/-- R13: an expiry that finds no deadman run out. -/
theorem deadmanExpiry_fixed {s : State} {h : Nat}
    (n : ∀ g ∈ s.grant.table, g.handle = h → g.deadman ≠ some 0) : deadmanExpiry h s = s := by
  unfold deadmanExpiry
  split
  · rfl
  · next g found =>
    obtain ⟨hg, e⟩ := findGrant_some found
    exact if_neg (n g hg e)

/-- R14: an expiry that finds no pause window run out. -/
theorem pauseExpiry_fixed {s : State} {h : Nat}
    (n : ∀ g ∈ s.grant.table, g.handle = h → g.state ≠ .paused ∨ g.pause ≠ some 0) :
    pauseExpiry h s = s := by
  unfold pauseExpiry
  split
  · rfl
  · next g found =>
    obtain ⟨hg, e⟩ := findGrant_some found
    exact if_neg (not_and_or.mpr (n g hg e))

/-- R32: outside RUN every grant is EASING. -/
theorem easing_of_mode {s : State} (allowed : AllowedOk s) (mode : s.mode.mode ≠ .run) {g : Grant}
    (hg : g ∈ s.grant.table) : g.state = .easing := by
  by_contra moving
  exact mode (allowed g hg moving).1

/-- Settles O26: the expiry finds the grant its handle names, and winds it down by its state. -/
theorem grantTimersEndGrants : Obligations.GrantTimersEndGrants := by
  unfold Obligations.GrantTimersEndGrants
  refine ⟨fun s ok slots run g hg out => ?_, fun s ok slots run g hg paused out => ?_,
    fun s h => ⟨fun n => ?_, fun n => ?_⟩, fun s h ok allowed mode => ⟨?_, ?_⟩⟩
  · have live : g.kind = .hold ∧ (g.state = .waiting ∨ g.state = .driving) :=
      (ok.records g hg).deadman.mp (by rw [out]; rfl)
    have effect := deadmanExpiry_of_mem ok hg out
    refine ⟨_, rfl, ?_⟩
    rcases live.2 with waits | drives
    · have effect := effect.trans (by unfold windDown; rw [waits])
      obtain ⟨grant, drive, told, noticed, demands, frame⟩ :=
        event_retires_waiting ⟨ok, slots⟩ hg run effect waits
      exact ⟨fun _ => ⟨grant, drive, told, noticed⟩, (fun e => by rw [waits] at e; cases e), demands, frame⟩
    · have effect := effect.trans (by unfold windDown; rw [drives])
      obtain ⟨ramped, told, noticed, demands, frame⟩ :=
        event_eases ⟨ok, slots⟩ hg run effect (.inl drives)
      exact ⟨(fun e => by rw [drives] at e; cases e), fun _ => ⟨ramped, told, noticed⟩, demands, frame⟩
  · exact ⟨_, rfl, event_eases ⟨ok, slots⟩ hg run (pauseExpiry_of_mem ok hg paused out) (.inr paused)⟩
  · exact congrArg _ (event_fixed (deadmanExpiry_fixed n))
  · exact congrArg _ (event_fixed (pauseExpiry_fixed n))
  · refine congrArg _ (event_fixed (deadmanExpiry_fixed fun g hg _ out => ?_))
    have live := (ok.records g hg).deadman.mp (by rw [out]; rfl)
    rw [easing_of_mode allowed mode hg] at live
    rcases live.2 with e | e <;> cases e
  · refine congrArg _ (event_fixed (pauseExpiry_fixed fun g hg _ => .inl ?_))
    rw [easing_of_mode allowed mode hg]
    nofun

end Sys2Proof.Machine.Steps
end

section
/-! Requests that are granted (R5 to R8). -/

namespace Sys2Proof.Machine.Steps

open Motion Holds

/-! ## What the checks leave (R5, R6) -/

section
variable {l : Link} {a : Axis} {n : Sense} {k : RunKind} {s : State}

/-- R5: an accepted request fails none of the model's checks. -/
theorem requestRefusal_of_accepted (h : Accepted l a n k s) : requestRefusal l a n k s = none := by
  rw [requestRefusal_eq, Option.map_eq_none_iff, List.find?_eq_none]
  intro row hrow
  rw [h.checks row (List.mem_of_mem_take hrow)]
  nofun

/-- R6: an accepted request is not refused by its slot. -/
theorem slotRefuses_of_accepted (h : Accepted l a n k s) :
    slotRefuses (resourceOf a) (rankOf l s) s = false :=
  h.checks (slotRefuses (resourceOf a) (rankOf l s) s, .busy, []) (by
    unfold requestChecks
    simp only [List.mem_cons, true_or, or_true])

theorem sound_of_accepted (h : Accepted l a n k s) : Sound s := ⟨h.grants, h.slots⟩

theorem run_of_accepted (h : Accepted l a n k s) : s.mode.mode = .run :=
  (room_of_requestRefusal (requestRefusal_of_accepted h)).1

theorem holderOn_mem {r : Resource} {g : Grant} (e : holderOn r s = some g) :
    g ∈ s.grant.table ∧ resourceOf g.axis = r ∧ g.state ≠ .waiting :=
  ⟨List.mem_of_find?_eq_some e, by simpa using List.find?_some e⟩

theorem waiterOn_mem {r : Resource} {g : Grant} (e : waiterOn r s = some g) :
    g ∈ s.grant.table ∧ resourceOf g.axis = r ∧ g.state = .waiting :=
  ⟨List.mem_of_find?_eq_some e, by simpa using List.find?_some e⟩

/-- R4: the slot of a resource, as the table lists its grants. -/
theorem slotOf_eq (h : Sound s) (r : Resource) :
    slotOf r s = ⟨(holderOn r s).map (·.handle), (waiterOn r s).map (·.handle)⟩ := by
  have holder : (slotOf r s).holder = (holderOn r s).map (·.handle) := by
    cases e : holderOn r s with
    | some g =>
      obtain ⟨hg, same, holds⟩ := holderOn_mem e
      exact (h.slots.holder r g.handle).mpr ⟨g, hg, rfl, same, holds⟩
    | none =>
      refine Option.eq_none_iff_forall_ne_some.mpr fun x hx => ?_
      obtain ⟨g, hg, -, same, holds⟩ := (h.slots.holder r x).mp hx
      simpa [same, holds] using List.find?_eq_none.mp e g hg
  have waiting : (slotOf r s).waiting = (waiterOn r s).map (·.handle) := by
    cases e : waiterOn r s with
    | some g =>
      obtain ⟨hg, same, waits⟩ := waiterOn_mem e
      exact (h.slots.waiting r g.handle).mpr ⟨g, hg, rfl, same, waits⟩
    | none =>
      refine Option.eq_none_iff_forall_ne_some.mpr fun x hx => ?_
      obtain ⟨g, hg, -, same, waits⟩ := (h.slots.waiting r x).mp hx
      simpa [same, waits] using List.find?_eq_none.mp e g hg
  rw [← holder, ← waiting]

/-- R4: a grant waits behind an EASING holder alone. -/
theorem waiterOn_none (h : Sound s) {r : Resource}
    (moving : ∀ g, holderOn r s = some g → g.state ≠ .easing) : waiterOn r s = none := by
  have slot := slotOf_eq h r
  by_contra waits
  obtain ⟨w, hw⟩ := Option.ne_none_iff_exists'.mp waits
  obtain ⟨g, hg, holds, easing⟩ := h.slots.behind r (by rw [slot, hw]; nofun)
  cases e : holderOn r s with
  | none => rw [slot, e] at holds; cases holds
  | some k =>
    obtain ⟨hk, -, -⟩ := holderOn_mem e
    rw [slot, e] at holds
    have same : k = g := h.eq_of_handle hk hg (Option.some.inj holds)
    exact moving k e (same ▸ easing)

/-- R6: the answer of a slot that does not refuse. -/
theorem decideSlot_of_accepted (h : Accepted l a n k s) : decideSlot (resourceOf a) (rankOf l s) s =
    match waiterOn (resourceOf a) s, holderOn (resourceOf a) s with
    | some w, _ => .displace w
    | none, some g => if g.state = .easing then .queue else .preempt g
    | none, none => .grant := by
  have passes := slotRefuses_of_accepted h
  unfold slotRefuses at passes
  unfold decideSlot
  rw [slot_waiting h.grants h.slots, slot_holder h.grants h.slots]
  cases hw : waiterOn (resourceOf a) s with
  | some w =>
    rw [hw] at passes
    exact if_pos (Nat.lt_of_not_le (of_decide_eq_false passes))
  | none =>
    rw [hw] at passes
    cases hh : holderOn (resourceOf a) s with
    | none => rfl
    | some g =>
      rw [hh] at passes
      have holds := (holderOn_mem hh).2.2
      have lower (moving : g.state ≠ .easing) : rankOf g.station s < rankOf l s := by
        simpa [moving] using passes
      dsimp only
      cases st : g.state with
      | waiting => exact absurd st holds
      | easing => rfl
      | driving | paused => exact if_pos (lower (by rw [st]; nofun))

/-- R7: the record a request makes is that of the statements. -/
theorem newGrant_eq (d : Word16) (st : GrantState) :
    newGrant l a n k d.toNat st s = requested l a n k d st s := by
  unfold newGrant requested nextHandle clampDemand fullDeadman
  cases a <;> cases k <;> simp [takesDemand]

end

/-! ## A request taken over a ready link -/

/-- R7: the frame of a request. -/
def requestFrame (a : Axis) (n : Sense) (k : RunKind) (d : Word16) : List Byte :=
  rqgrantFrame (byteOf (axisCode a)) (byteOf (senseCode n)) (byteOf (kindCode k)) d

section
variable {l : Link} {a : Axis} {n : Sense} {k : RunKind} {s : State}

/-- R5: the checks rest on nothing of the ports. -/
theorem requestRefusal_handed (bytes : List Byte) :
    requestRefusal l a n k (handed l bytes s) = requestRefusal l a n k s := rfl

theorem decideSlot_handed (bytes : List Byte) (r : Resource) :
    decideSlot r (rankOf l (handed l bytes s)) (handed l bytes s) = decideSlot r (rankOf l s) s := rfl

theorem requested_handed (bytes : List Byte) (d : Word16) (st : GrantState) :
    requested l a n k d st (handed l bytes s) = requested l a n k d st s := rfl

theorem slotOf_handed (bytes : List Byte) (r : Resource) : slotOf r (handed l bytes s) = slotOf r s := rfl

theorem byteOf_stateCode (g : Grant) : byteOf (grantStateCode g.state) =
    match g.state with
    | .waiting => 0#8
    | .driving => 1#8
    | .easing => 2#8
    | .paused => 3#8 := by
  cases g.state <;> rfl

/-- R5 to R7, R23: an accepted request, its slot's answer carried out, as it closes. -/
theorem answered_request (h : Accepted l a n k s) (d : Word16) {v : State} {g : Grant}
    {ends : List (Grant × Reason)}
    (takes : takeRequest l a n k d.toNat (handed l (requestFrame a n k d) s) = (v, grantReply g.handle v))
    (live : g ∈ v.grant.table) (ended : Ended ends (handed l (requestFrame a n k d) s) v)
    (one : ends = [] ∨ ∃ w ∈ s.grant.table, ends = [(w, .preempted)]) :
    let t := portEvent (receiveFrame l (requestFrame a n k d)) s
    t = (v.setPort t.port).setBeacon t.beacon ∧
      Handled 7 l ends (.rply 1#8 .ok [byteOf g.handle, byteOf (grantStateCode g.state)]) s t ∧
      DemandsFollow s t := by
  have refusal := requestRefusal_of_accepted h
  have sound : Sound v := by
    have := sound_takeRequest (sound_handed (sound_of_accepted h) l (requestFrame a n k d)) d.toNat
      (l := l) (a := a) (n := n) (k := k) refusal
    rwa [takes] at this
  have code := grantCode_of_mem sound.grants.distinct live
  have handles : handleMsg l (.rqgrant a n k d.toNat) (handed l (requestFrame a n k d) s) =
      (v, some ⟨.ok, [byteOf g.handle, byteOf (grantStateCode g.state)]⟩) := by
    show handleRqgrant l a n k d.toNat _ = _
    unfold handleRqgrant
    rw [requestRefusal_handed, refusal]
    dsimp only
    rw [takes]
    unfold grantReply okReply
    rw [code]
  have mode : v.mode.mode = .run := by
    rw [ended.mode]
    exact run_of_accepted (s := s) h
  refine answered_ended (r := ⟨.ok, _⟩) h.ready (Nat.le_of_ble_eq_true rfl) (parseFrame_rqgrant l a n k d)
    handles ended.told (.refl _) ?_ (closedownDone_of_mode (by rw [mode]; nofun)) (by rw [mode]; rfl)
    (by rw [ended.frame]; rfl) (by rw [ended.frame]; rfl)
  rcases one with rfl | ⟨w, hw, rfl⟩
  · exact listed_nil h.grants.distinct
  · exact listed_one h.grants.distinct hw _

/-- R6, R7: a request that a FREE slot answers. -/
theorem takeRequest_of_free (decided : decideSlot (resourceOf a) (rankOf l s) s = .grant)
    (bytes : List Byte) (d : Word16) : takeRequest l a n k d.toNat (handed l bytes s) =
      (holdSlot (requested l a n k d .driving s) (handed l bytes s),
        grantReply (requested l a n k d .driving s).handle
          (holdSlot (requested l a n k d .driving s) (handed l bytes s))) := by
  unfold takeRequest
  rw [decideSlot_handed, decided]
  dsimp only
  rw [newGrant_eq, requested_handed]

/-- R6: a request that waits behind an EASING holder. -/
theorem takeRequest_of_queue (decided : decideSlot (resourceOf a) (rankOf l s) s = .queue)
    (bytes : List Byte) (d : Word16) : takeRequest l a n k d.toNat (handed l bytes s) =
      (queueGrant (requested l a n k d .waiting s) (handed l bytes s),
        grantReply (requested l a n k d .waiting s).handle
          (queueGrant (requested l a n k d .waiting s) (handed l bytes s))) := by
  unfold takeRequest
  rw [decideSlot_handed, decided]
  dsimp only
  rw [newGrant_eq, requested_handed]

/-- R6: a request that displaces the grant that waits. -/
theorem takeRequest_of_displace {w : Grant}
    (decided : decideSlot (resourceOf a) (rankOf l s) s = .displace w) (bytes : List Byte) (d : Word16) :
    takeRequest l a n k d.toNat (handed l bytes s) =
      (queueGrant (requested l a n k d .waiting (retire w .preempted (handed l bytes s)))
          (retire w .preempted (handed l bytes s)),
        grantReply (requested l a n k d .waiting (retire w .preempted (handed l bytes s))).handle
          (queueGrant (requested l a n k d .waiting (retire w .preempted (handed l bytes s)))
            (retire w .preempted (handed l bytes s)))) := by
  unfold takeRequest
  rw [decideSlot_handed, decided]
  dsimp only
  rw [newGrant_eq]

/-- R6: a request that preempts the holder. -/
theorem takeRequest_of_preempt {g : Grant}
    (decided : decideSlot (resourceOf a) (rankOf l s) s = .preempt g) (bytes : List Byte) (d : Word16) :
    takeRequest l a n k d.toNat (handed l bytes s) =
      (ease g .preempted (queueGrant (requested l a n k d .waiting s) (handed l bytes s)),
        grantReply (requested l a n k d .waiting s).handle
          (ease g .preempted (queueGrant (requested l a n k d .waiting s) (handed l bytes s)))) := by
  unfold takeRequest
  rw [decideSlot_handed, decided]
  dsimp only
  rw [newGrant_eq, requested_handed]

end

theorem panelStart_of_platform {g : Grant} (h : motorOf g.axis = none) (s : State) :
    panelStart g s = s := by
  unfold panelStart
  cases e : g.axis <;> rw [e] at h <;> first | rfl | cases h

theorem holdSlot_grant (g : Grant) (s : State) : (holdSlot g s).grant = { s.grant with
    table := s.grant.table ++ [g], lastHandle := g.handle
    slots := s.grant.slots.set (resourceOf g.axis) ⟨some g.handle, none⟩ } :=
  grant_of_view (view_startGrant _ _)

theorem holdSlot_drive (g : Grant) (s : State) : (holdSlot g s).drive = (driveStart g s).drive := by
  unfold holdSlot
  rw [startGrant_drive]
  rfl

theorem drives_holdSlot (g : Grant) (s : State) : Drives s (holdSlot g s) :=
  (drives_setGrant s _).trans (drives_startGrant g _)

/-- Settles O19: a slot that is FREE answers with a grant, which takes the slot and starts the drive. -/
theorem rqgrantTakesFreeSlot : Obligations.RqgrantTakesFreeSlot := by
  unfold Obligations.RqgrantTakesFreeSlot
  intro l a n k d s h free
  have sound := sound_of_accepted h
  have alone : waiterOn (resourceOf a) s = none := 
    waiterOn_none sound fun g e => by rw [free] at e; cases e
  have decided := decideSlot_of_accepted h
  rw [alone, free] at decided
  have takes := takeRequest_of_free (n := n) (k := k) decided (requestFrame a n k d) d
  have grant := holdSlot_grant (requested l a n k d .driving s) (handed l (requestFrame a n k d) s)
  have drive := (holdSlot_drive (requested l a n k d .driving s) (handed l (requestFrame a n k d) s)).trans
    (driveStart_drive _ _)
  have drives := drives_holdSlot (requested l a n k d .driving s) (handed l (requestFrame a n k d) s)
  have panel (platform : motorOf a = none) :
      (holdSlot (requested l a n k d .driving s) (handed l (requestFrame a n k d) s)).panel = s.panel := by
    unfold holdSlot startGrant
    rw [panelStart_of_platform platform]
    rfl
  obtain ⟨closed, handled, demands⟩ := answered_request h d takes
    (by rw [grant]; exact List.mem_append_right _ (List.mem_singleton_self _)) drives.ended (.inl rfl)
  refine ⟨portEvent (receiveFrame l (requestFrame a n k d)) s, rfl, ?_⟩
  generalize portEvent (receiveFrame l (requestFrame a n k d)) s = t at closed handled demands ⊢
  refine ⟨by rw [closed]; exact grant, by rw [closed]; exact drive, fun platform => by
    rw [closed]; exact panel platform, handled, demands, ?_⟩
  rw [closed]
  unfold Drives at drives
  rw [drives]
  rfl

/-! ## A request that waits (R6) -/

theorem resource_set_set (v : PerResource Slot) (r : Resource) (x y : Slot) :
    (v.set r x).set r y = v.set r y := by
  cases r <;> rfl

theorem queueGrant_grant (g : Grant) (s : State) : (queueGrant g s).grant = { s.grant with
    table := s.grant.table ++ [g], lastHandle := g.handle
    slots := s.grant.slots.set (resourceOf g.axis)
      { slotOf (resourceOf g.axis) s with waiting := some g.handle } } := rfl

theorem drives_queueGrant (g : Grant) (s : State) : Drives s (queueGrant g s) := rfl

theorem gendNoticed_one {w : Grant} {r : Reason} {s t : State} (h : GendNoticed [(w, r)] s t)
    (told : r ≠ .released) : Noticed { s.notice.flags with gend := true } s.notice.mask t := by
  unfold GendNoticed at h
  rwa [if_pos (by simp [told])] at h

/-- Settles O20: a slot with an EASING holder queues the new grant, once the grant that waits is retired. -/
theorem rqgrantWaitsBehindEasing : Obligations.RqgrantWaitsBehindEasing := by
  unfold Obligations.RqgrantWaitsBehindEasing
  intro l a n k d s acc h holds easing
  have sound := sound_of_accepted acc
  have slot := slotOf_eq sound (resourceOf a)
  have decided := decideSlot_of_accepted acc
  constructor
  · intro alone
    rw [alone, holds] at decided
    dsimp only at decided
    rw [if_pos easing] at decided
    have takes := takeRequest_of_queue (n := n) (k := k) decided (requestFrame a n k d) d
    have grant := queueGrant_grant (requested l a n k d .waiting s) (handed l (requestFrame a n k d) s)
    rw [slotOf_handed, show resourceOf (requested l a n k d .waiting s).axis = resourceOf a from rfl,
      slot, holds] at grant
    have drives := drives_queueGrant (requested l a n k d .waiting s) (handed l (requestFrame a n k d) s)
    obtain ⟨closed, handled, demands⟩ := answered_request acc d takes
      (by rw [grant]; exact List.mem_append_right _ (List.mem_singleton_self _)) drives.ended (.inl rfl)
    refine ⟨portEvent (receiveFrame l (requestFrame a n k d)) s, rfl, ?_⟩
    generalize portEvent (receiveFrame l (requestFrame a n k d)) s = t at closed handled demands ⊢
    refine ⟨by rw [closed]; exact grant, handled, demands, ?_⟩
    rw [closed]
    rfl
  · intro w waits
    obtain ⟨hw, same, waiting⟩ := waiterOn_mem waits
    rw [waits] at decided
    have takes := takeRequest_of_displace (n := n) (k := k) decided (requestFrame a n k d) d
    have retired := ended_retire w .preempted (handed l (requestFrame a n k d) s)
    obtain ⟨left, drive, panel⟩ :=
      retired_waiting (sound_handed sound l (requestFrame a n k d)) hw .preempted waiting
    have config : (retire w .preempted (handed l (requestFrame a n k d) s)).config = s.config := by
      rw [retired.frame]
      rfl
    generalize retire w .preempted (handed l (requestFrame a n k d) s) = v at takes retired left drive panel config
    have record : requested l a n k d .waiting v = { requested l a n k d .waiting s with
        handle := allocate ((tableWithout w.handle s).map (·.handle)) 255 s.grant.lastHandle } := by
      unfold requested nextHandle
      rw [left, config]
      rfl
    have slot' : slotOf (resourceOf a) v = ⟨some h.handle, none⟩ := by
      show v.grant.slots.get _ = _
      rw [left]
      show (s.grant.slots.set (resourceOf w.axis) { slotOf (resourceOf w.axis) s with waiting := none }).get
        (resourceOf a) = _
      rw [same, PerResource.get_set_same, slot, holds]
      rfl
    have grant := queueGrant_grant (requested l a n k d .waiting v) v
    rw [show resourceOf (requested l a n k d .waiting v).axis = resourceOf a from rfl, slot', left,
      same, record] at grant
    rw [record] at takes
    have ended := retired.trans (drives_queueGrant { requested l a n k d .waiting s with
        handle := allocate ((tableWithout w.handle s).map (·.handle)) 255 s.grant.lastHandle } v).ended
    obtain ⟨closed, handled, demands⟩ := answered_request acc d takes
      (by rw [grant]; exact List.mem_append_right _ (List.mem_singleton_self _)) ended (.inr ⟨w, hw, rfl⟩)
    refine ⟨portEvent (receiveFrame l (requestFrame a n k d)) s, rfl, ?_⟩
    generalize portEvent (receiveFrame l (requestFrame a n k d)) s = t at closed handled demands ⊢
    have noticed := gendNoticed_one ended.noticed nofun
    have frame := retired.frame
    refine ⟨⟨?_, handled⟩, noticed_of_notice noticed (by rw [closed]; rfl) (by rw [closed]; rfl), demands, ?_⟩
    · rw [closed]
      refine grant.trans ?_
      show ({ table := _, lastHandle := _, slots := (s.grant.slots.set _ _).set _ _ } : GrantEngine) = _
      rw [resource_set_set]
      rfl
    · rw [closed]
      show ({ queueGrant _ v with port := t.port, beacon := t.beacon } : State) = _
      unfold queueGrant addGrant
      rw [frame, drive, panel]
      rfl

/-! ## A request that preempts (R6, R10) -/

section
variable {l : Link} {a : Axis} {n : Sense} {k : RunKind} {s : State}

theorem requested_grantOk (room : s.grant.table.length < maxGrants) (d : Word16) :
    GrantOk (requested l a n k d .waiting s) := by
  rw [← newGrant_eq]
  exact grantOk_new (Nat.lt_of_lt_of_le room (by decide)) l a n k d.toNat (.inl rfl)

theorem requested_fresh (room : s.grant.table.length < maxGrants) (d : Word16) (st : GrantState) :
    ∀ g ∈ s.grant.table, g.handle ≠ (requested l a n k d st s).handle := by
  rw [← newGrant_eq]
  exact newGrant_fresh (Nat.lt_of_lt_of_le room (by decide)) l a n k d.toNat st

/-- R6: the table of a holder sent to EASING once the new grant has joined it. -/
theorem preempting_grant {h new : Grant} (hh : h ∈ s.grant.table)
    (fresh : ∀ g ∈ s.grant.table, g.handle ≠ new.handle) :
    (easing h .preempted (queueGrant new s)).grant = { s.grant with
      table := tableWith (eased h .preempted) s ++ [new], lastHandle := new.handle
      slots := s.grant.slots.set (resourceOf new.axis)
        { slotOf (resourceOf new.axis) s with waiting := some new.handle } } := by
  rw [easing_grant, queueGrant_grant]
  have other : new.handle ≠ h.handle := (fresh h hh).symm
  have table : tableWith (eased h .preempted) (queueGrant new s) =
      tableWith (eased h .preempted) s ++ [new] := by
    unfold tableWith
    rw [queueGrant_grant, List.map_append, List.map_singleton, if_neg (by exact other)]
  rw [table]

/-- R4, R6: that table and its slots are sound. -/
theorem sound_preempting (sound : Sound s) {h new : Grant} (hh : h ∈ s.grant.table)
    (holds : h.state ≠ .waiting) (easing' : h.state ≠ .easing)
    (same : resourceOf h.axis = resourceOf new.axis) (ok : GrantOk new) (waits : new.state = .waiting)
    (room : s.grant.table.length < maxGrants)
    (fresh : ∀ g ∈ s.grant.table, g.handle ≠ new.handle)
    (single : ∀ g ∈ s.grant.table, g.station = new.station → resourceOf g.axis ≠ resourceOf new.axis) :
    Sound (easing h .preempted (queueGrant new s)) := by
  have ramped := sound_putEased sound hh holds .preempted
  have alone : (slotOf (resourceOf new.axis) s).waiting = none := same ▸ sound.no_waiter hh holds easing'
  have origin {g : Grant} (hg : g ∈ (putGrant (eased h .preempted) s).grant.table) :
      ∃ k ∈ s.grant.table, g.handle = k.handle ∧ g.station = k.station ∧ g.axis = k.axis := by
    rcases mem_putGrant hg with rfl | ⟨hg, -⟩
    · exact ⟨h, hh, rfl, rfl, rfl⟩
    · exact ⟨g, hg, rfl, rfl, rfl⟩
  refine sound_add ramped (g := new)
    (v := { slotOf (resourceOf new.axis) s with waiting := some new.handle }) ok ?_ ?_ ?_
    (preempting_grant hh fresh) (fun x => ?_) (fun x => ?_) fun _ => ?_
  · intro g hg
    obtain ⟨k, hk, e, -, -⟩ := origin hg
    rw [e]
    exact fresh k hk
  · simpa using room
  · intro g hg
    obtain ⟨k, hk, -, station, axis⟩ := origin hg
    rw [station, axis]
    exact single k hk
  · show (slotOf (resourceOf new.axis) s).holder = some x ↔ (slotOf (resourceOf new.axis) s).holder = some x ∨ _
    simp [waits]
  · show _ ↔ (slotOf (resourceOf new.axis) s).waiting = some x ∨ _
    simp [waits, alone]
  · exact ⟨eased h .preempted, mem_putGrant_self hh rfl, same ▸ sound.holder_slot hh holds, rfl⟩

/-- R10: an entry into EASING leaves the outputs of the other axes, and its own is then set to 0. -/
theorem easing_drive_frame (h : Grant) (r : Reason) (s : State) :
    (easing h r s).drive.output.set h.axis 0 = s.drive.output.set h.axis 0 ∧
      (easing h r s).drive.driving = s.drive.driving ∧
      (easing h r s).drive.pumpClosed = s.drive.pumpClosed := by
  have drive : (easing h r s).drive = (gatedStop h.axis (putGrant (eased h r) s)).drive := by
    unfold easing
    rw [panelWindDown_frame]
    rfl
  rw [drive]
  unfold gatedStop
  split
  · exact ⟨rfl, rfl, rfl⟩
  · split
    · exact ⟨rfl, rfl, rfl⟩
    · refine ⟨?_, rfl, rfl⟩
      show (s.drive.output.set h.axis 0).set h.axis 0 = _
      cases h.axis <;> rfl

/-- R22: a grant that waits, promoted. -/
def promoted (g : Grant) : Grant := { g with state := .driving }

theorem driveEnd_driving (b : Axis) (u : State) :
    (driveEnd b u).drive.driving = u.drive.driving.set b none ∧
      (resourceOf b = .hyd → (driveEnd b u).drive.pumpClosed = false) := by
  cases b <;> exact ⟨rfl, fun e => by first | rfl | cases e⟩

theorem filter_putEased {x : State} {h : Grant} : (x.grant.table.filter fun y => y.handle != h.handle) =
    tableWithout h.handle x := by
  unfold tableWithout
  exact List.filter_congr fun y _ => by
    rw [decide_not]
    rfl

/-- R6, R22: a holder at an output of 0 is retired, and the new grant drives. -/
theorem preempted_at_once (sound : Sound s) {h new : Grant} (hh : h ∈ s.grant.table)
    (holds : h.state ≠ .waiting) (moving : h.state ≠ .easing)
    (same : resourceOf h.axis = resourceOf new.axis) (ok : GrantOk new) (waits : new.state = .waiting)
    (room : s.grant.table.length < maxGrants)
    (fresh : ∀ g ∈ s.grant.table, g.handle ≠ new.handle)
    (single : ∀ g ∈ s.grant.table, g.station = new.station → resourceOf g.axis ≠ resourceOf new.axis)
    (stops : runsDown h.axis s = false) :
    let v := ease h .preempted (queueGrant new s)
    v.grant = { table := tableWithout h.handle s ++ [promoted new]
                lastHandle := new.handle
                slots := s.grant.slots.set (resourceOf new.axis) ⟨some new.handle, none⟩ } ∧
      v.drive.output = s.drive.output.set h.axis 0 ∧
      v.drive.driving = (s.drive.driving.set h.axis none).set new.axis
        (some ⟨new.handle, new.station, new.sense⟩) ∧
      (resourceOf h.axis = .hyd → v.drive.pumpClosed = pumpSense new.axis new.sense) := by
  have left := preempting_grant hh fresh
  obtain ⟨output, driving, pump⟩ := easing_drive_frame h .preempted (queueGrant new s)
  have before := sound_preempting sound hh holds moving same ok waits room fresh single
  have stops' : runsDown h.axis (queueGrant new s) = false := stops
  have other : new.handle ≠ h.handle := (fresh h hh).symm
  dsimp only
  rw [ease_of_stops .preempted stops']
  generalize easing h .preempted (queueGrant new s) = x at left output driving pump before ⊢
  have live : eased h .preempted ∈ x.grant.table := by
    rw [left]
    exact List.mem_append_left _ (mem_tableWith_self hh rfl)
  have new' : new ∈ x.grant.table := by
    rw [left]
    exact List.mem_append_right _ (List.mem_singleton_self _)
  have retired : retire h .preempted x = gendDue h .preempted (startGrant (promoted new)
      (putGrant (promoted new) (setSlot (resourceOf h.axis) ⟨some new.handle, none⟩
        (panelStop h.axis (driveEnd h.axis (dropGrant h.handle x)))))) := by
    rw [← retire_eased h .preempted]
    exact retire_of_promoting before live .preempted (by nofun) new' same.symm waits
  have without : tableWithout h.handle x = tableWithout h.handle s ++ [new] := by
    have kept := filter_tableWith (eased h .preempted) s
    unfold tableWithout at kept ⊢
    rw [left, List.filter_append]
    refine congrArg₂ (· ++ ·) kept ?_
    simp [other]
  have table : (putGrant (promoted new) (setSlot (resourceOf h.axis) ⟨some new.handle, none⟩
      (panelStop h.axis (driveEnd h.axis (dropGrant h.handle x))))).grant =
        { table := tableWithout h.handle s ++ [promoted new], lastHandle := new.handle
          slots := s.grant.slots.set (resourceOf new.axis) ⟨some new.handle, none⟩ } := by
    unfold putGrant setSlot
    rw [State.setGrant_grant, State.setGrant_grant, stopped_grant]
    show ({ table := (x.grant.table.filter fun y => y.handle != h.handle).map _
            lastHandle := x.grant.lastHandle, slots := x.grant.slots.set _ _ } : GrantEngine) = _
    rw [filter_putEased, without, left, List.map_append, same, resource_set_set]
    have kept : ((tableWithout h.handle s).map fun y =>
        if y.handle = (promoted new).handle then promoted new else y) = tableWithout h.handle s :=
      (List.map_congr_left fun y hy => if_neg (fresh y (mem_tableWithout.mp hy).1)).trans (List.map_id _)
    rw [kept]
    simp [promoted]
  have stopped : (panelStop h.axis (driveEnd h.axis (dropGrant h.handle x))).drive =
      (driveEnd h.axis (dropGrant h.handle x)).drive := by
    rw [panelStop_frame]
    rfl
  obtain ⟨undriven, opened⟩ := driveEnd_driving h.axis (dropGrant h.handle x)
  rw [retired, gendDue_grant, gendDue_drive, startGrant_drive, driveStart_drive,
    grant_of_view (view_startGrant _ _), table]
  refine ⟨rfl, ?_, ?_, fun hyd => ?_⟩
  · show (panelStop h.axis (driveEnd h.axis (dropGrant h.handle x))).drive.output = _
    rw [stopped]
    exact (driveEnd_output _ _).trans output
  · show ((panelStop h.axis (driveEnd h.axis (dropGrant h.handle x))).drive.driving).set _ _ = _
    rw [stopped, undriven]
    show (x.drive.driving.set h.axis none).set _ _ = _
    rw [driving]
    rfl
  · show ((panelStop h.axis (driveEnd h.axis (dropGrant h.handle x))).drive.pumpClosed || _) = _
    rw [stopped, opened hyd]
    rfl

end

/-- A motor axis stands on a resource of its own. -/
theorem platform_of_resource {a b : Axis} (same : resourceOf b = resourceOf a) (platform : motorOf a = none) :
    motorOf b = none := by
  cases a with
  | lift | tilt | fold => cases b <;> first | rfl | cases same
  | shut | ndor | odor => cases platform

theorem drives_easing_queue (h new : Grant) (s : State) :
    Drives s (easing h .preempted (queueGrant new s)) :=
  (drives_queueGrant new s).trans (drives_easing h .preempted _)

/-- Settles O21: the new grant joins the table behind the holder, which goes to EASING or is retired at once. -/
theorem rqgrantPreemptsLowerRank : Obligations.RqgrantPreemptsLowerRank := by
  unfold Obligations.RqgrantPreemptsLowerRank
  intro l a n k d s acc h holder moving
  have sound := sound_of_accepted acc
  obtain ⟨hh, same, holds⟩ := holderOn_mem holder
  obtain ⟨-, room, single⟩ := room_of_requestRefusal (requestRefusal_of_accepted acc)
  have alone : waiterOn (resourceOf a) s = none := waiterOn_none sound fun g e => by
    rw [holder] at e
    exact Option.some.inj e ▸ moving
  have decided := decideSlot_of_accepted acc
  rw [alone, holder] at decided
  dsimp only at decided
  rw [if_neg moving] at decided
  have takes := takeRequest_of_preempt (n := n) (k := k) decided (requestFrame a n k d) d
  have slot := slotOf_eq sound (resourceOf a)
  rw [holder, alone] at slot
  have fresh := requested_fresh (l := l) (a := a) (n := n) (k := k) room d .waiting
  constructor
  · intro runs
    have runs' : runsDown h.axis (queueGrant (requested l a n k d .waiting s)
        (handed l (requestFrame a n k d) s)) = true := runs
    rw [ease_of_runs .preempted runs'] at takes
    have grant := preempting_grant (s := handed l (requestFrame a n k d) s) hh fresh
    rw [slotOf_handed, show resourceOf (requested l a n k d .waiting s).axis = resourceOf a from rfl,
      slot] at grant
    have drives := drives_easing_queue h (requested l a n k d .waiting s) (handed l (requestFrame a n k d) s)
    have drive : (easing h .preempted (queueGrant (requested l a n k d .waiting s)
        (handed l (requestFrame a n k d) s))).drive = s.drive := easing_drive .preempted runs
    have panel (platform : motorOf a = none) : (easing h .preempted (queueGrant
        (requested l a n k d .waiting s) (handed l (requestFrame a n k d) s))).panel = s.panel :=
      easing_panel (platform_of_resource same platform) .preempted _
    obtain ⟨closed, handled, demands⟩ := answered_request acc d takes
      (by rw [grant]; exact List.mem_append_right _ (List.mem_singleton_self _)) drives.ended (.inl rfl)
    refine ⟨portEvent (receiveFrame l (requestFrame a n k d)) s, rfl, ?_⟩
    generalize portEvent (receiveFrame l (requestFrame a n k d)) s = t at closed handled demands ⊢
    generalize easing h .preempted (queueGrant (requested l a n k d .waiting s)
      (handed l (requestFrame a n k d) s)) = v at closed grant drives drive panel
    refine ⟨by rw [closed]; exact grant, by rw [closed]; exact drive, fun platform => by
      rw [closed]; exact panel platform, handled, demands, ?_⟩
    unfold Drives at drives
    rw [closed, drives, drive]
    rfl
  · intro stops
    have ended := (drives_queueGrant (requested l a n k d .waiting s)
      (handed l (requestFrame a n k d) s)).ended.trans (ended_ease h .preempted _)
    rw [show runsDown h.axis (queueGrant (requested l a n k d .waiting s)
      (handed l (requestFrame a n k d) s)) = false from stops] at ended
    obtain ⟨grant, output, driving, pump⟩ := preempted_at_once (sound_handed sound l (requestFrame a n k d)) hh
      holds moving same (requested_grantOk room d) rfl room fresh single stops
    generalize ease h .preempted (queueGrant (requested l a n k d .waiting s)
      (handed l (requestFrame a n k d) s)) = v at takes grant output driving pump ended
    obtain ⟨closed, handled, demands⟩ := answered_request acc d (g := promoted (requested l a n k d .waiting s))
      takes (by rw [grant]; exact List.mem_append_right _ (List.mem_singleton_self _)) ended
      (.inr ⟨h, hh, rfl⟩)
    have noticed := gendNoticed_one ended.noticed nofun
    have frame := ended.frame
    refine ⟨portEvent (receiveFrame l (requestFrame a n k d)) s, rfl, ?_⟩
    generalize portEvent (receiveFrame l (requestFrame a n k d)) s = t at closed handled demands ⊢
    refine ⟨by rw [closed]; exact grant, by rw [closed]; exact output, by rw [closed]; exact driving,
      fun hyd => by rw [closed]; exact pump (same.trans hyd), handled,
      noticed_of_notice noticed (by rw [closed]; rfl) (by rw [closed]; rfl), demands, ?_⟩
    rw [closed, frame]
    rfl

end Sys2Proof.Machine.Steps
end

section
/-! What an event does to several grants (R20, R21, R32): the table it leaves, the endings told, the axes
stopped. -/

namespace Sys2Proof.Machine.Steps

open Motion Holds

/-! ## Grants taken in turn -/

/-- The selected grants as an event takes them, WAITING ones first. -/
def inTurn (sel : Grant → Bool) (s : State) : List Grant :=
  ((s.grant.table.filter sel).filter fun g => decide (g.state = .waiting)) ++
    (s.grant.table.filter sel).filter fun g => decide (g.state ≠ .waiting)

theorem reached_eq (sel : Grant → Bool) (s : State) :
    reached sel s = (inTurn sel s).map (·.handle) := List.map_append.symm

theorem inTurn_perm (sel : Grant → Bool) (s : State) :
    (inTurn sel s).Perm (s.grant.table.filter sel) := by
  have split := List.filter_append_perm (fun g : Grant => decide (g.state = .waiting))
    (s.grant.table.filter sel)
  simp only [← decide_not] at split
  exact split

theorem inTurn_order (sel : Grant → Bool) (s : State) :
    (inTurn sel s).Pairwise fun g k => g.state ≠ .waiting → k.state ≠ .waiting := by
  refine List.pairwise_append.mpr ⟨List.pairwise_of_forall_mem_list fun g hg k _ holds => ?_,
    List.pairwise_of_forall_mem_list fun g _ k hk _ => ?_, fun g _ k hk _ => ?_⟩
  · exact absurd (of_decide_eq_true (List.mem_filter.mp hg).2) holds
  · exact of_decide_eq_true (List.mem_filter.mp hk).2
  · exact of_decide_eq_true (List.mem_filter.mp hk).2

/-- R22, R23: the endings among grants, by what is left of each. -/
def endsOf (out : Grant → Option Grant) (r : Reason) (gs : List Grant) : List (Grant × Reason) :=
  (gs.filter fun g => (out g).isNone).map fun g => (g, r)

/-- R20 to R22: what becomes of one grant and its axis. -/
structure Turns (out : Grant → Option Grant) (r : Reason) (g : Grant) (t u : State) : Prop where
  sound : Sound u
  table : u.grant.table =
    t.grant.table.filterMap fun x => if x.handle = g.handle then out g else some x
  handle : u.grant.lastHandle = t.grant.lastHandle
  ended : Ended (endsOf out r [g]) t u
  apart : ∀ b, (g.state ≠ .waiting → resourceOf b ≠ resourceOf g.axis) → Apart b t u
  stopped : g.state ≠ .waiting → out g = none → AxisStopped g.axis t u

/-- R20 to R22: what has become of the grants taken so far and their axes. -/
structure Turned (out : Grant → Option Grant) (r : Reason) (done : List Grant) (s t : State) : Prop where
  sound : Sound t
  table : t.grant.table = s.grant.table.filterMap fun g => if g ∈ done then out g else some g
  handle : t.grant.lastHandle = s.grant.lastHandle
  ended : Ended (endsOf out r done) s t
  apart : ∀ b, (∀ g ∈ done, g.state ≠ .waiting → resourceOf b ≠ resourceOf g.axis) → Apart b s t
  stopped : ∀ g ∈ done, g.state ≠ .waiting → out g = none → AxisStopped g.axis s t

section
variable {out : Grant → Option Grant} {r : Reason} {s : State} (h : Sound s)
include h

theorem turned_none : Turned out r [] s s where
  sound := h
  table := by simp
  handle := rfl
  ended := (Drives.refl s).ended
  apart := fun b _ => .refl b s
  stopped := fun g hg => absurd hg List.not_mem_nil

variable {done : List Grant} (sub : ∀ k ∈ done, k ∈ s.grant.table) {g : Grant}
  (hg : g ∈ s.grant.table) (new : g ∉ done)
include sub hg new

/-- R4: the grants taken do not touch the axis of one that holds its slot. -/
theorem resource_apart (holds : g.state ≠ .waiting) :
    ∀ k ∈ done, k.state ≠ .waiting → resourceOf g.axis ≠ resourceOf k.axis := by
  intro k hk active same
  exact new (h.holder_unique hg (sub k hk) same holds active ▸ hk)

theorem Turned.step (keeps : ∀ k ∈ done, ∀ x, out k = some x → x.handle = k.handle) {t u : State}
    (turned : Turned out r done s t) (turns : Turns out r g t u) : Turned out r (done ++ [g]) s u where
  sound := turns.sound
  table := by
    rw [turns.table, turned.table, List.filterMap_filterMap]
    refine List.filterMap_congr fun x hx => ?_
    by_cases took : x ∈ done
    · rw [if_pos took, if_pos (List.mem_append_left _ took)]
      cases left : out x with
      | none => rfl
      | some y =>
        refine if_neg fun e => new ?_
        rw [keeps x took y left] at e
        exact h.eq_of_handle hx hg e ▸ took
    · rw [if_neg took, Option.bind_some]
      by_cases e : x = g
      · subst e
        simp
      · rw [if_neg fun c => e (h.eq_of_handle hx hg c), if_neg (by simp [took, e])]
  handle := turns.handle.trans turned.handle
  ended := by
    have both := turned.ended.trans turns.ended
    unfold endsOf at both ⊢
    rwa [List.filter_append, List.map_append]
  apart := fun b other => (turned.apart b fun k hk => other k (List.mem_append_left _ hk)).trans
    (turns.apart b (other g (List.mem_append_right _ (List.mem_singleton_self g))))
  stopped := fun k hk holds left => by
    rcases List.mem_append.mp hk with took | one
    · refine axisStopped_of_apart_after (turned.stopped k took holds left) (turns.apart _ fun active same => ?_)
      exact new (h.holder_unique (sub k took) hg same holds active ▸ took)
    · rw [List.mem_singleton] at one
      subst one
      refine axisStopped_of_states (turns.stopped holds left) fun m e => ?_
      rw [(turned.apart _ (resource_apart h sub hg new holds)).panel m e]

end

section
variable {out : Grant → Option Grant} {r : Reason} {s : State} (h : Sound s) {sel : Grant → Bool}
  (keeps : ∀ g ∈ s.grant.table, sel g = true → ∀ k, out g = some k → k.handle = g.handle ∧ k.state ≠ .waiting)
  {f : Grant → State → State}
  (step : ∀ (t : State) (g : Grant), g ∈ s.grant.table → sel g = true → Sound t → g ∈ t.grant.table →
    t.config = s.config → (g.state ≠ .waiting → Apart g.axis s t) →
    (g.state ≠ .waiting → ∀ w ∈ t.grant.table, w.state = .waiting → sel w = false) →
    Turns out r g t (f g t))
include h keeps step

theorem turned_rest {done todo : List Grant} (all : done ++ todo = inTurn sel s) {t : State}
    (turned : Turned out r done s t) :
    Turned out r (inTurn sel s) s (forEach (fun x => onGrant x f) (todo.map (·.handle)) t) := by
  induction todo generalizing done t with
  | nil =>
    rw [List.append_nil] at all
    exact all ▸ turned
  | cons g todo ih =>
    have picked {k : Grant} (hk : k ∈ done ++ g :: todo) : k ∈ s.grant.table ∧ sel k = true :=
      List.mem_filter.mp ((inTurn_perm sel s).mem_iff.mp (all ▸ hk))
    have one : (done ++ g :: todo).Nodup := all ▸ (inTurn_perm sel s).nodup_iff.mpr
      ((h.grants.distinct.of_map _).filter _)
    have order := inTurn_order sel s
    rw [← all] at order
    obtain ⟨hg, selected⟩ := picked (k := g) (by simp)
    have sub (k : Grant) (hk : k ∈ done) := picked (List.mem_append_left _ hk)
    have new : g ∉ done := fun took => (List.disjoint_of_nodup_append one) took List.mem_cons_self
    have live : g ∈ t.grant.table := by
      rw [turned.table]
      exact List.mem_filterMap.mpr ⟨g, hg, if_neg new⟩
    have turns : Turns out r g t (f g t) := by
      refine step t g hg selected turned.sound live (by rw [turned.ended.frame]) (fun holds =>
        turned.apart _ (resource_apart h (fun k hk => (sub k hk).1) hg new holds)) fun holds w hw waits => ?_
      rw [turned.table] at hw
      obtain ⟨x, hx, left⟩ := List.mem_filterMap.mp hw
      by_cases took : x ∈ done
      · rw [if_pos took] at left
        exact absurd waits (keeps x hx (sub x took).2 w left).2
      · rw [if_neg took] at left
        cases left
        by_contra chosen
        have mine : w ∈ done ++ g :: todo := all ▸ (inTurn_perm sel s).mem_iff.mpr
          (List.mem_filter.mpr ⟨hx, by simpa using chosen⟩)
        rcases List.mem_append.mp mine with c | c
        · exact took c
        · rcases List.mem_cons.mp c with rfl | c
          · exact holds waits
          · exact (List.pairwise_cons.mp (List.pairwise_append.mp order).2.1).1 w c holds waits
    have found : onGrant g.handle f t = f g t := by
      unfold onGrant
      rw [findGrant_of_mem turned.sound.grants.distinct live]
    show Turned out r _ s (forEach _ (todo.map _) (onGrant g.handle f t))
    rw [found]
    refine ih (done := done ++ [g]) (by rw [List.append_assoc, List.singleton_append]; exact all) ?_
    exact turned.step h (fun k hk => (sub k hk).1) hg new
      (fun k hk x left => (keeps k (sub k hk).1 (sub k hk).2 x left).1) turns

/-- R20, R21, R32: what an event that acts on the selected grants leaves. -/
theorem turned_forGrants : Turned out r (inTurn sel s) s (forGrants sel f s) := by
  rw [forGrants_eq, reached_eq]
  exact turned_rest h keeps step (done := []) rfl (turned_none h)

end

/-- The selected grants' records after their turn. -/
theorem Turned.table_of_sel {out : Grant → Option Grant} {r : Reason} {s t : State} {sel : Grant → Bool}
    (h : Turned out r (inTurn sel s) s t) :
    t.grant.table = s.grant.table.filterMap fun g => if sel g = true then out g else some g := by
  rw [h.table]
  refine List.filterMap_congr fun g hg => ?_
  have mem : g ∈ inTurn sel s ↔ sel g = true := by
    rw [(inTurn_perm sel s).mem_iff, List.mem_filter]
    exact and_iff_right hg
  by_cases c : sel g = true
  · rw [if_pos c, if_pos (mem.mpr c)]
  · rw [if_neg c, if_neg fun m => c (mem.mp m)]

/-- R23: the endings, in the order of the table. -/
theorem endsOf_perm (out : Grant → Option Grant) (r : Reason) (sel : Grant → Bool) (s : State) :
    (endsOf out r (inTurn sel s)).Perm (endsOf out r (s.grant.table.filter sel)) :=
  ((inTurn_perm sel s).filter _).map _

theorem listed_endsOf (out : Grant → Option Grant) (r : Reason) (sel : Grant → Bool) {s : State}
    (h : Sound s) : Listed s.grant.table (endsOf out r (s.grant.table.filter sel)) := by
  refine ⟨?_, h.grants.distinct⟩
  unfold endsOf
  rw [List.map_map]
  show (List.map id _).Sublist _
  rw [List.map_id]
  exact List.filter_sublist.trans List.filter_sublist

/-! ## Retirement, ramped ending and pause of one grant in its turn -/

theorem tableWithout_eq (g : Grant) (t : State) : tableWithout g.handle t =
    t.grant.table.filterMap fun x => if x.handle = g.handle then none else some x := by
  unfold tableWithout
  rw [← List.filterMap_eq_filter]
  refine List.filterMap_congr fun x _ => ?_
  by_cases e : x.handle = g.handle <;> simp [e]

theorem tableWith_eq (g k : Grant) (t : State) (e : k.handle = g.handle) : tableWith k t =
    t.grant.table.filterMap fun x => if x.handle = g.handle then some k else some x := by
  unfold tableWith
  rw [e, ← List.filterMap_eq_map]
  refine List.filterMap_congr fun x _ => ?_
  by_cases e : x.handle = g.handle <;> simp [e]

theorem endsOf_none {out : Grant → Option Grant} (r : Reason) {g : Grant} (left : out g = none) :
    endsOf out r [g] = [(g, r)] := by
  simp [endsOf, left]

theorem endsOf_some {out : Grant → Option Grant} (r : Reason) {g k : Grant} (left : out g = some k) :
    endsOf out r [g] = [] := by
  simp [endsOf, left]

section
variable {out : Grant → Option Grant} {r : Reason} {g : Grant} {t : State} (h : Sound t)
  (hg : g ∈ t.grant.table)
include h hg

/-- R22: a WAITING grant in its turn. -/
theorem turns_retire_waiting (waits : g.state = .waiting) (left : out g = none) :
    Turns out r g t (retire g r t) := by
  obtain ⟨grant, drive, panel⟩ := retired_waiting h hg r waits
  refine ⟨sound_retire h hg r, ?_, ?_, ?_, fun b _ => apart_of_same drive panel b, fun holds => absurd waits holds⟩
  · rw [grant, left]
    exact tableWithout_eq g t
  · rw [grant]
  · rw [endsOf_none r left]
    exact ended_retire g r t

/-- R22: a holder in its turn, with no grant waiting behind it. -/
theorem turns_retire_holder (holds : g.state ≠ .waiting)
    (alone : (slotOf (resourceOf g.axis) t).waiting = none) (left : out g = none) :
    Turns out r g t (retire g r t) := by
  obtain ⟨grant, stopped, others, -⟩ := retired_holder h hg r holds alone
  refine ⟨sound_retire h hg r, ?_, ?_, ?_, fun b other => others b (other holds), fun _ _ => stopped⟩
  · rw [grant, left]
    exact tableWithout_eq g t
  · rw [grant]
  · rw [endsOf_none r left]
    exact ended_retire g r t

/-- A grant that its turn leaves as it is. -/
theorem turns_kept (left : out g = some g) : Turns out r g t t := by
  refine ⟨h, ?_, rfl, ?_, fun b _ => .refl b t, fun _ e => by rw [left] at e; cases e⟩
  · rw [left]
    refine (List.filterMap_some.symm.trans (List.filterMap_congr fun x hx => ?_))
    by_cases e : x.handle = g.handle
    · rw [if_pos e, h.eq_of_handle hx hg e]
    · rw [if_neg e]
  · rw [endsOf_some r left]
    exact (Drives.refl t).ended

/-- R10: a grant in motion that its turn puts into EASING, or retires at an output of 0. -/
theorem turns_ease (active : g.state = .driving ∨ g.state = .paused)
    (left : out g = if runsDown g.axis t then some (eased g r) else none) :
    Turns out r g t (ease g r t) := by
  obtain ⟨ramped, others⟩ := holderRamped_ease h hg active r
  have holds : g.state ≠ .waiting := by rcases active with e | e <;> rw [e] <;> nofun
  have ended := ended_ease g r t
  have sound : Sound (ease g r t) := sound_ease h hg holds r
  cases runs : runsDown g.axis t with
  | true =>
    obtain ⟨-, grant⟩ := ramped.eases runs
    rw [runs] at left ended
    refine ⟨sound, ?_, by rw [grant], ?_, fun b other => others b (other holds), fun _ e => by
      rw [left] at e; cases e⟩
    · rw [grant, left]
      exact tableWith_eq g (eased g r) t rfl
    · rw [endsOf_some r (k := eased g r) left]
      exact ended
  | false =>
    obtain ⟨stopped, grant⟩ := ramped.ends runs
    rw [runs] at left ended
    refine ⟨sound, ?_, by rw [grant], ?_, fun b other => others b (other holds), fun _ _ => stopped⟩
    · rw [grant, left]
      exact tableWithout_eq g t
    · rw [endsOf_none r left]
      exact ended

end

/-! ## Cut and ramped ending of several grants (R20, R21) -/

/-- R21: a cut leaves nothing. -/
def cutOut : Grant → Option Grant := fun _ => none

/-- R20: what a ramped ending leaves of a grant. -/
def rampOut (r : Reason) (s : State) (g : Grant) : Option Grant :=
  match g.state with
  | .waiting => none
  | .easing => some g
  | .driving | .paused => if runsDown g.axis s then some (eased g r) else none

theorem table_cutOut (sel : Grant → Bool) (s : State) :
    (s.grant.table.filterMap fun g => if sel g = true then cutOut g else some g) =
      s.grant.table.filter fun g => !sel g := by
  rw [← List.filterMap_eq_filter]
  refine List.filterMap_congr fun g _ => ?_
  by_cases c : sel g = true <;> simp [c, cutOut, Option.guard]

theorem endsOf_cutOut (r : Reason) (gs : List Grant) : endsOf cutOut r gs = gs.map fun g => (g, r) := by
  unfold endsOf cutOut
  exact congrArg _ (List.filter_eq_self.mpr fun _ _ => rfl)

theorem table_rampOut (sel : Grant → Bool) (r : Reason) (s : State) :
    (s.grant.table.filterMap fun g => if sel g = true then rampOut r s g else some g) =
      rampedTable sel r s := by
  refine List.filterMap_congr fun g _ => ?_
  cases c : sel g with
  | false => simp
  | true =>
    unfold rampOut
    cases st : g.state <;> cases runs : runsDown g.axis s <;> simp

theorem endsOf_rampOut (sel : Grant → Bool) (r : Reason) (s : State) :
    endsOf (rampOut r s) r (s.grant.table.filter sel) = rampedEnds sel r s := by
  unfold endsOf rampedEnds
  rw [List.filter_filter]
  refine congrArg _ (List.filter_congr fun g _ => ?_)
  unfold rampOut
  cases c : sel g <;> cases st : g.state <;> cases runs : runsDown g.axis s <;> simp

/-- R21: the selected grants cut, where an axis is selected with all of its resource. -/
theorem turned_cut {s : State} (h : Sound s) (r : Reason) {sel : Grant → Bool}
    (whole : ∀ g k, sel g = true → resourceOf g.axis = resourceOf k.axis → sel k = true) :
    Turned cutOut r (inTurn sel s) s (cutGrants r sel s) := by
  refine turned_forGrants h (fun _ _ _ _ e => by cases e) fun t g _ selected sound live _ _ alone => ?_
  by_cases waits : g.state = .waiting
  · exact turns_retire_waiting sound live waits rfl
  · refine turns_retire_holder sound live waits ?_ rfl
    refine Option.eq_none_iff_forall_ne_some.mpr fun x hx => ?_
    obtain ⟨w, hw, -, same, waiting⟩ := (sound.slots.waiting _ x).mp hx
    have unselected := alone waits w hw waiting
    rw [whole g w selected same.symm] at unselected
    cases unselected

/-- R20: a ramped ending of the selected grants. -/
theorem turned_ease {s : State} (h : Sound s) (r : Reason) (sel : Grant → Bool) :
    Turned (rampOut r s) r (inTurn sel s) s (easeGrants r sel s) := by
  refine turned_forGrants h ?_ fun t g _ _ sound live _ apart _ => ?_
  · intro g _ _ k left
    unfold rampOut at left
    cases st : g.state <;> rw [st] at left <;> dsimp only at left
    · cases left
    · split at left <;> cases left
      exact ⟨rfl, nofun⟩
    · cases left
      exact ⟨rfl, by rw [st]; nofun⟩
    · split at left <;> cases left
      exact ⟨rfl, nofun⟩
  · have same (holds : g.state ≠ .waiting) : runsDown g.axis t = runsDown g.axis s := (apart holds).runsDown
    unfold windDown
    cases st : g.state with
    | waiting => exact turns_retire_waiting sound live st (by unfold rampOut; rw [st])
    | easing => exact turns_kept sound live (by unfold rampOut; rw [st])
    | driving | paused =>
      refine turns_ease sound live (by simp [st]) ?_
      rw [same (by rw [st]; nofun)]
      unfold rampOut
      rw [st]

/-- R20: the same, in the words of the statements. -/
theorem ramped_of_turned {sel : Grant → Bool} {r : Reason} {s t : State}
    (h : Turned (rampOut r s) r (inTurn sel s) s t) : Ramped sel r s t where
  table := h.table_of_sel.trans (table_rampOut sel r s)
  handle := h.handle
  stopped := fun e he holds => by
    rw [← endsOf_rampOut] at he
    obtain ⟨g, hg, rfl⟩ := List.mem_map.mp he
    obtain ⟨mem, left⟩ := List.mem_filter.mp hg
    exact h.stopped g ((inTurn_perm sel s).mem_iff.mpr mem) holds (Option.isNone_iff_eq_none.mp left)

end Sys2Proof.Machine.Steps
end

section
/-! Ramped endings by event and message (R20, R24, R26): the permit monitor's events. -/

namespace Sys2Proof.Machine.Steps

open Motion Holds

theorem ramped_of_blocks {sel : Grant → Bool} {r : Reason} {s t u : State} (h : Ramped sel r s t)
    (grant : u.grant = t.grant) (drive : u.drive = t.drive) (panel : u.panel = t.panel) :
    Ramped sel r s u where
  table := by rw [grant]; exact h.table
  handle := by rw [grant]; exact h.handle
  stopped := fun e he holds =>
    axisStopped_of_apart_after (h.stopped e he holds) (apart_of_same drive panel _)

/-- R20: what a ramped ending rests on. -/
structure SameRun (s u : State) : Prop where
  grant : u.grant = s.grant
  drive : u.drive = s.drive
  panel : u.panel = s.panel

section
variable {s u : State} (same : SameRun s u)
include same

theorem rampOut_of_same (r : Reason) : rampOut r u = rampOut r s := by
  funext g
  have runs : runsDown g.axis u = runsDown g.axis s := (apart_of_same same.drive same.panel _).runsDown
  unfold rampOut
  rw [runs]

theorem rampedTable_of_same (sel : Grant → Bool) (r : Reason) :
    rampedTable sel r u = rampedTable sel r s := by
  rw [← table_rampOut, ← table_rampOut, rampOut_of_same same, same.grant]

theorem rampedEnds_of_same (sel : Grant → Bool) (r : Reason) :
    rampedEnds sel r u = rampedEnds sel r s := by
  rw [← endsOf_rampOut, ← endsOf_rampOut, rampOut_of_same same, same.grant]

theorem ramped_rebase {sel : Grant → Bool} {r : Reason} {t : State} (h : Ramped sel r u t) :
    Ramped sel r s t where
  table := h.table.trans (rampedTable_of_same same sel r)
  handle := h.handle.trans (by rw [same.grant])
  stopped := fun e he holds => by
    rw [← rampedEnds_of_same same] at he
    exact axisStopped_of_states (h.stopped e he holds) fun m _ => by rw [same.panel]

end

theorem told_rebase {ends : List (Grant × Reason)} {s u t : State} (h : Told ends u t)
    (port : u.port = s.port) : Told ends s t := fun k => by
  have same : portOf k u = portOf k s := by unfold portOf; rw [port]
  have state : (portOf k s).state = (portOf k u).state := by rw [same]
  rw [h k, gendsTo_congr ends state, same]
  unfold queueOf
  rw [same]

theorem gendNoticed_rebase {ends : List (Grant × Reason)} {s u t : State} (h : GendNoticed ends u t)
    (notice : u.notice = s.notice) : GendNoticed ends s t := by
  unfold GendNoticed at h ⊢
  rwa [notice] at h

/-- R20: a ramped ending within an event that has left the drive and the ports alone until then. -/
theorem eased_effect {s u : State} (h : Sound s) (same : SameRun s u) (port : u.port = s.port)
    (r : Reason) (sel : Grant → Bool) :
    Ramped sel r s (easeGrants r sel u) ∧
      (∃ ends, Told ends s (easeGrants r sel u) ∧ ends.Perm (rampedEnds sel r s)) ∧
      GendNoticed (rampedEnds sel r s) u (easeGrants r sel u) ∧
      easeGrants r sel u = { u with
        grant := (easeGrants r sel u).grant, drive := (easeGrants r sel u).drive
        panel := (easeGrants r sel u).panel, port := (easeGrants r sel u).port
        notice := (easeGrants r sel u).notice } := by
  have turned := turned_ease (h.of_grant same.grant) r sel
  have perm := endsOf_perm (rampOut r u) r sel u
  rw [endsOf_rampOut, rampedEnds_of_same same] at perm
  exact ⟨ramped_rebase same (ramped_of_turned turned), ⟨_, told_rebase turned.ended.told port, perm⟩,
    gendNoticed_perm turned.ended.noticed perm, turned.ended.frame⟩

theorem listed_rampedEnds (sel : Grant → Bool) (r : Reason) {s : State} (h : Sound s) :
    Listed s.grant.table (rampedEnds sel r s) := by
  rw [← endsOf_rampOut]
  exact listed_endsOf _ _ _ h

/-- R20: a ramped ending touches no EASING grant. -/
theorem rampedTable_of_easing {s : State} (easing : ∀ g ∈ s.grant.table, g.state = .easing)
    (sel : Grant → Bool) (r : Reason) : rampedTable sel r s = s.grant.table := by
  refine (List.filterMap_congr fun g hg => ?_).trans List.filterMap_some
  exact if_pos (.inr (easing g hg))

/-- R175: in CLOSEDOWN a ramped ending ends nothing. -/
theorem closedownDone_of_ramped {s v : State} {sel : Grant → Bool} {r : Reason} (easing : EasingOnly s)
    (ramped : Ramped sel r s v) (mode : v.mode.mode = s.mode.mode) (axis : v.axis.deployed = s.axis.deployed) :
    closedownDone s v = false := by
  by_cases closing : s.mode.mode = .closedown
  · refine closedownDone_of_still (fun empty => ?_) axis
    rwa [ramped.table, rampedTable_of_easing (easing closing)] at empty
  · exact closedownDone_of_mode (by rw [mode]; exact closing)

/-- R20, R23: an event that winds grants down and does nothing else to the drive, as it closes. -/
theorem event_eased {f : State → State} {s u : State} {r : Reason} {sel : Grant → Bool} (h : Sound s)
    (easing : EasingOnly s) (effect : f s = easeGrants r sel u) (same : SameRun s u)
    (port : u.port = s.port) (mode : u.mode = s.mode) (axis : u.axis = s.axis) :
    Ramped sel r s (event f s) ∧ Told (rampedEnds sel r s) s (event f s) ∧
      GendNoticed (rampedEnds sel r s) u (event f s) ∧
      event f s = { u with
        grant := (event f s).grant, drive := (event f s).drive, panel := (event f s).panel
        port := (event f s).port, notice := (event f s).notice, beacon := (event f s).beacon } := by
  obtain ⟨ramped, ⟨ends, told, perm⟩, noticed, frame⟩ := eased_effect h same port r sel
  generalize easeGrants r sel u = v at *
  have stays : closedownDone s v = false :=
    closedownDone_of_ramped easing ramped (by rw [frame]; exact congrArg _ mode) (by rw [frame]; exact congrArg _ axis)
  obtain ⟨closed, toldOf⟩ := event_ended effect told perm (listed_rampedEnds sel r h) stays
  generalize event f s = t at closed toldOf ⊢
  refine ⟨ramped_of_blocks ramped (by rw [closed]; rfl) (by rw [closed]; rfl) (by rw [closed]; rfl), toldOf,
    gendNoticed_of_notice noticed (by rw [closed]; rfl) (by rw [closed]; rfl), ?_⟩
  rw [closed, frame]
  rfl

/-! ## The permit map judged again (R73, R74) -/

theorem newlyAbsent_self (c : CauseSet) : newlyAbsent c c = false := by
  simp [newlyAbsent]

theorem easeGrants_none {sel : Grant → Bool} (none : ∀ g, sel g = false) (r : Reason) (s : State) :
    easeGrants r sel s = s := by
  have empty (gs : List Grant) : gs.filter sel = [] := List.filter_eq_nil_iff.mpr fun g _ => by simp [none g]
  unfold easeGrants forGrants
  simp only [empty]
  rfl

/-- R73, R74: the grants that a map judged again newly bars. -/
def barredBy (before after : PerAxis (PerSense CauseSet)) (g : Grant) : Bool :=
  newlyAbsent ((before.get g.axis).get g.sense) ((after.get g.axis).get g.sense)

theorem newlyBarred_eq {s t : State} {m : PerAxis (PerSense CauseSet)} (e : t.permit.map = m) :
    newlyBarred s t = barredBy s.permit.map m := by
  funext g
  unfold newlyBarred barredBy
  rw [e]

theorem barredBy_self (m : PerAxis (PerSense CauseSet)) (g : Grant) : barredBy m m g = false := newlyAbsent_self _

/-- R73: a map judged again. -/
def remapped (s : State) : State := s.setPermit { s.permit with map := permitMap s }

theorem recomputePermits_eq (s : State) : recomputePermits s =
    easeGrants .permit (barredBy s.permit.map (permitMap s)) (remapped s) := rfl

/-- R73, R74: the permit map judged again within an event that does nothing else to the drive, as it closes. -/
theorem event_recomputes {f : State → State} {s u : State} (h : Sound s) (easing : EasingOnly s)
    (effect : f s = recomputePermits u) (same : SameRun s u) (port : u.port = s.port)
    (mode : u.mode = s.mode) (axis : u.axis = s.axis) (map : u.permit.map = s.permit.map) :
    let t := event f s
    t.permit = { u.permit with map := permitMap u } ∧ Ramped (newlyBarred s t) .permit s t ∧
      Told (rampedEnds (newlyBarred s t) .permit s) s t ∧
      GendNoticed (rampedEnds (newlyBarred s t) .permit s) u t ∧
      t = { u with
        grant := t.grant, permit := t.permit, drive := t.drive, panel := t.panel, port := t.port
        notice := t.notice, beacon := t.beacon } := by
  rw [recomputePermits_eq, map] at effect
  obtain ⟨ramped, told, noticed, frame⟩ := event_eased (u := remapped u) h easing effect
    ⟨same.grant, same.drive, same.panel⟩ port mode axis
  dsimp only
  generalize event f s = t at ramped told noticed frame ⊢
  have permit : t.permit = { u.permit with map := permitMap u } := by rw [frame]; rfl
  rw [newlyBarred_eq (m := permitMap u) (by rw [permit])]
  refine ⟨permit, ramped, told, noticed, ?_⟩
  rw [permit]
  exact frame

/-- An event that leaves the permit map and the drive alone bars nothing newly. -/
theorem event_unbarred {f : State → State} {s u : State} (h : Sound s) (easing : EasingOnly s)
    (effect : f s = u) (same : SameRun s u) (port : u.port = s.port)
    (mode : u.mode = s.mode) (axis : u.axis = s.axis) (map : u.permit.map = s.permit.map) :
    let t := event f s
    t.permit = u.permit ∧ Ramped (newlyBarred s t) .permit s t ∧
      Told (rampedEnds (newlyBarred s t) .permit s) s t ∧
      GendNoticed (rampedEnds (newlyBarred s t) .permit s) u t ∧
      t = { u with
        grant := t.grant, permit := t.permit, drive := t.drive, panel := t.panel, port := t.port
        notice := t.notice, beacon := t.beacon } := by
  have effect := effect.trans (easeGrants_none (barredBy_self s.permit.map) .permit u).symm
  obtain ⟨ramped, told, noticed, frame⟩ := event_eased h easing effect same port mode axis
  dsimp only
  generalize event f s = t at ramped told noticed frame ⊢
  have permit : t.permit = u.permit := by rw [frame]
  rw [newlyBarred_eq (m := s.permit.map) (by rw [permit, map])]
  refine ⟨permit, ramped, told, noticed, ?_⟩
  rw [permit]
  exact frame

/-- R73: an event keeps the permit map that of the inputs. -/
theorem map_of_exec {i : Instr} {s t : State} (judged : JudgedOk s) (e : exec i s = .next t) :
    t.permit.map = permitMap t := by
  obtain ⟨u, executed, keeps⟩ := judged_exec i (s := s)
  rw [e] at executed
  cases executed
  exact (keeps judged).map

theorem event_inputs {s : State} {i : Inputs} {f : State → State} (e : f s = s.setInputs i) :
    event f s = s.setInputs i := by
  rw [event_eq, e, orderGends_of_port (b := s) (s := s.setInputs i) rfl]
  exact conclude_of_unjudged rfl rfl rfl rfl

theorem pressureState_eq (level n : Nat) (old : Bool) : pressureState level old (pressureOf n) =
    match (if n < 200 ∨ 3895 < n then none else some ((n - 200) * 400 / 3696) : Option Nat) with
    | none => true
    | some b => decide (level ≤ b) || (old && decide (level ≤ b + 10)) := by
  unfold pressureOf
  split
  · rfl
  · unfold pressureState pressureHysteresis
    generalize (n - 200) * 400 / 3696 = b
    by_cases above : level ≤ b
    · simp [above]
    · by_cases below : b + 10 < level
      · simp [above, below]
      · simp [above, below, Nat.le_of_not_lt below]

/-- R83 to R85: the state once a pressure sample is taken, with the map not judged yet. -/
def sampledPressure (n : Nat) (s : State) : State :=
  (s.setInputs { s.inputs with pressure := n }).setPermit { s.permit with
    pressure := pressureOf n
    overload := pressureState s.config.permit.overload s.permit.overload (pressureOf n)
    derate := pressureState s.config.permit.derate s.permit.derate (pressureOf n) }

theorem pressureEvent_eq {s : State} (works : working s = true) (n : Nat) : pressureEvent n s =
    if (sampledPressure n s).permit.overload = s.permit.overload then sampledPressure n s
    else recomputePermits (sampledPressure n s) := if_pos works

/-- R83: a pressure sample judges the map again where the overload state has changed. -/
theorem event_samples {s : State} (h : Sound s) (easing : EasingOnly s) (works : working s = true) (n : Nat) :
    let t := event (pressureEvent n) s
    t.permit = { (sampledPressure n s).permit with map := t.permit.map } ∧
      Ramped (newlyBarred s t) .permit s t ∧
      Told (rampedEnds (newlyBarred s t) .permit s) s t ∧
      GendNoticed (rampedEnds (newlyBarred s t) .permit s) s t ∧
      t = { sampledPressure n s with
        grant := t.grant, permit := t.permit, drive := t.drive, panel := t.panel, port := t.port
        notice := t.notice, beacon := t.beacon } := by
  have effect := pressureEvent_eq works n
  by_cases still : (sampledPressure n s).permit.overload = s.permit.overload
  · rw [if_pos still] at effect
    obtain ⟨permit, ramped, told, noticed, frame⟩ :=
      event_unbarred h easing effect ⟨rfl, rfl, rfl⟩ rfl rfl rfl rfl
    exact ⟨by rw [permit], ramped, told, gendNoticed_rebase noticed rfl, frame⟩
  · rw [if_neg still] at effect
    obtain ⟨permit, ramped, told, noticed, frame⟩ :=
      event_recomputes h easing effect ⟨rfl, rfl, rfl⟩ rfl rfl rfl rfl
    exact ⟨by rw [permit], ramped, told, gendNoticed_rebase noticed rfl, frame⟩

/-- Settles O38: both events judge the map again, or leave it and what it bars alone. -/
theorem brakeAndPressureJudgePermits : Obligations.BrakeAndPressureJudgePermits := by
  unfold Obligations.BrakeAndPressureJudgePermits
  intro s ok slots judged easing
  have sound : Sound s := ⟨ok, slots⟩
  refine ⟨fun b => ⟨event (pbrkEvent b) s, rfl, ?_⟩, fun n => ⟨event (pressureEvent n) s, rfl, ?_⟩⟩
  · have map := map_of_exec judged (show exec (.pbrkChange b) s = .next (event (pbrkEvent b) s) from rfl)
    by_cases off : s.mode.mode = .off
    · rw [event_inputs (f := pbrkEvent b) (i := { s.inputs with pbrk := b }) (if_pos off)]
      exact ⟨rfl, fun _ => rfl, fun on => absurd off on⟩
    · obtain ⟨permit, ramped, told, noticed, frame⟩ := event_recomputes
        (u := (s.setInputs { s.inputs with pbrk := b }).setPermit { s.permit with pbrk := b })
        sound easing (f := pbrkEvent b) (if_neg off) ⟨rfl, rfl, rfl⟩ rfl rfl rfl rfl
      generalize event (pbrkEvent b) s = t at map permit ramped told noticed frame ⊢
      have inputs : t.inputs = { s.inputs with pbrk := b } := by rw [frame]; rfl
      refine ⟨inputs, fun e => absurd e off, fun _ =>
        ⟨by rw [permit]; rfl, ⟨map, ramped, told, gendNoticed_rebase noticed rfl⟩, ?_⟩⟩
      rw [inputs]
      exact frame
  · have map := map_of_exec judged
      (show exec (.pressureSample n) s = .next (event (pressureEvent n) s) from rfl)
    cases works : working s with
    | false =>
      rw [event_inputs (f := pressureEvent n) (i := { s.inputs with pressure := n }) (if_neg (by
        show ¬ working s = true
        rw [works]
        nofun))]
      exact ⟨rfl, fun _ => rfl, nofun⟩
    | true =>
      obtain ⟨permit, ramped, told, noticed, frame⟩ := event_samples sound easing works n
      generalize event (pressureEvent n) s = t at map permit ramped told noticed frame ⊢
      have inputs : t.inputs = { s.inputs with pressure := n } := by rw [frame]; rfl
      refine ⟨inputs, nofun, fun _ => ⟨?_, ⟨map, ramped, told, noticed⟩, ?_⟩⟩
      · refine permit.trans ?_
        unfold sampledPressure
        rw [State.setPermit_permit, pressureState_eq, pressureState_eq]
        rfl
      · rw [inputs]
        exact frame

/-! ## The road speed (R77 to R79) -/

/-- R87: the deployed-while-moving condition judged. -/
def judgedMove (s : State) : State := s.setPermit { s.permit with deployMove := deployMoveNow s }

theorem judgeDeployMove_eq (s : State) : judgeDeployMove s =
    if (deployMoveNow s && !s.permit.deployMove) = true then raise .deploymove (judgedMove s)
    else judgedMove s := rfl

/-- R87: judging the condition changes the permit monitor and the notices alone. -/
theorem judgeDeployMove_frame (s : State) : judgeDeployMove s =
    (judgedMove s).setNotice (judgeDeployMove s).notice := by
  rw [judgeDeployMove_eq]
  split <;> rfl

/-- R73, R87: what a new speed record leaves, as its event closes. -/
structure Sped (p : PermitMonitor) (s t : State) : Prop where
  permit : t.permit = { p with deployMove := t.permit.deployMove, map := t.permit.map }
  ramped : Ramped (newlyBarred s t) .permit s t
  moved : (t.permit.speed, t.permit.speedValue) ≠ (s.permit.speed, s.permit.speedValue) →
    t.permit.deployMove =
      if s.permit.deployMove then !stationary t
      else decide (t.permit.speed = .running) && decide (50 ≤ t.permit.speedValue) && anyDeployed s
  frame : t = { s with
    grant := t.grant, permit := t.permit, drive := t.drive, panel := t.panel, port := t.port
    notice := t.notice, beacon := t.beacon }

theorem event_speeds {f : State → State} {s : State} {p : PermitMonitor} (h : Sound s)
    (easing : EasingOnly s) (effect : f s = afterSpeed s (s.setPermit p))
    (map : p.map = s.permit.map) (move : p.deployMove = s.permit.deployMove) : Sped p s (event f s) := by
  unfold afterSpeed at effect
  by_cases still : speedPair s = speedPair (s.setPermit p)
  · rw [if_pos still] at effect
    obtain ⟨permit, ramped, -, -, frame⟩ :=
      event_unbarred h easing effect ⟨rfl, rfl, rfl⟩ rfl rfl rfl map
    generalize event f s = t at permit ramped frame ⊢
    refine ⟨by rw [permit]; rfl, ramped, fun changed => absurd ?_ changed, frame⟩
    rw [permit]
    exact still.symm
  · rw [if_neg still] at effect
    have left := judgeDeployMove_frame (s.setPermit p)
    unfold permitEvent at effect
    generalize judgeDeployMove (s.setPermit p) = u at left effect
    obtain ⟨permit, ramped, -, -, frame⟩ := event_recomputes h easing effect
      ⟨by rw [left]; rfl, by rw [left]; rfl, by rw [left]; rfl⟩ (by rw [left]; rfl) (by rw [left]; rfl)
      (by rw [left]; rfl) (by rw [left]; exact map)
    generalize event f s = t at permit ramped frame ⊢
    have now : t.permit = { p with deployMove := deployMoveNow (s.setPermit p), map := permitMap u } := by
      rw [permit, left]
      rfl
    have config : t.config = s.config := by rw [frame, left]; rfl
    refine ⟨by rw [now], ramped, fun _ => ?_, ?_⟩
    · have rests : stationary t = stationary (s.setPermit p) := by
        unfold stationary
        rw [now, config]
        rfl
      rw [rests, now]
      show deployMoveNow (s.setPermit p) = _
      unfold deployMoveNow
      show (if p.deployMove = true then _ else _) = _
      rw [move]
      rfl
    · exact frame.trans (by rw [left]; rfl)

/-- R77: the permit monitor's record after a pulse arrival, with nothing judged yet. -/
def pulsed (n : Nat) (s : State) : PermitMonitor :=
  match s.permit.speed with
  | .unknown | .stopped => { s.permit with
      pulseTimer := some pulseTimerMs, speed := .starting, speedValue := 0, lastPeriod := none }
  | .starting | .running => { s.permit with
      pulseTimer := some pulseTimerMs, speed := .running, lastPeriod := some n
      speedValue := speedOf s.config.permit.pulsesPerKm n }

theorem pulseArrival_eq {s : State} (on : s.mode.mode ≠ .off) (n : Nat) :
    pulseArrival n s = afterSpeed s (s.setPermit (pulsed n s)) := by
  unfold pulseArrival pulsed
  refine (if_neg on).trans ?_
  cases e : s.permit.speed <;> simp only [e]

/-- Settles O39: a new speed record is judged, and the map with it, where the speed has changed. -/
theorem pulsesMeasureRoadSpeed : Obligations.PulsesMeasureRoadSpeed := by
  unfold Obligations.PulsesMeasureRoadSpeed
  intro s ok slots judged on easing
  have sound : Sound s := ⟨ok, slots⟩
  refine ⟨fun n => ⟨event (pulseArrival n) s, rfl, ?_⟩, ⟨event Machine.pulseTimerExpiry s, rfl, ?_, ?_⟩⟩
  · have map := map_of_exec judged
      (show exec (.pulseArrival n) s = .next (event (pulseArrival n) s) from rfl)
    obtain ⟨permit, ramped, moved, frame⟩ := event_speeds sound easing (pulseArrival_eq on n)
      (by unfold pulsed; cases s.permit.speed <;> rfl) (by unfold pulsed; cases s.permit.speed <;> rfl)
    generalize event (pulseArrival n) s = t at map permit ramped moved frame ⊢
    refine ⟨⟨map, ramped, moved, frame⟩, ?_, fun rests => ?_, fun runs => ?_⟩
    · rw [permit]
      unfold pulsed
      cases s.permit.speed <;> rfl
    · rw [permit]
      unfold pulsed
      rcases rests with e | e <;> rw [e] <;> exact ⟨rfl, rfl, rfl⟩
    · rw [permit]
      unfold pulsed
      rcases runs with e | e <;> rw [e] <;> exact ⟨rfl, rfl, rfl⟩
  · intro running
    exact event_fixed (if_neg fun c => running c.1)
  · intro out
    have map := map_of_exec judged
      (show exec .pulseTimerExpiry s = .next (event Machine.pulseTimerExpiry s) from rfl)
    obtain ⟨permit, ramped, moved, frame⟩ := event_speeds (f := Machine.pulseTimerExpiry) sound easing
      (if_pos ⟨out, on⟩) rfl rfl
    generalize event Machine.pulseTimerExpiry s = t at map permit ramped moved frame ⊢
    refine ⟨⟨map, ramped, moved, frame⟩, ?_, ?_, ?_, ?_⟩ <;> rw [permit]

end Sys2Proof.Machine.Steps
end

section
/-! A lockout placed (R38, R24). -/

namespace Sys2Proof.Machine.Steps

open Motion Holds

/-! ## The notices of an event that ends grants and reports something more (R167) -/

theorem noticed_raise (f : NoticeFlag) (s : State) :
    Noticed (addFlag f s.notice.flags) s.notice.mask (raise f s) :=
  ⟨rfl, rfl, congrArg (· && _) decide_not.symm⟩

/-- R23: the GEND flag is set by endings with any reason but RELEASED. -/
theorem gendNoticed_flags {ends : List (Grant × Reason)} {s t : State} (h : GendNoticed ends s t)
    (told : ∀ e ∈ ends, e.2 ≠ .released) : t.notice.mask = s.notice.mask ∧
      t.notice.flags = { s.notice.flags with gend := s.notice.flags.gend || !ends.isEmpty } := by
  unfold GendNoticed at h
  cases ends with
  | nil =>
    rw [if_neg (by simp)] at h
    rw [h]
    exact ⟨rfl, by simp⟩
  | cons e rest =>
    rw [if_pos (List.any_eq_true.mpr ⟨e, List.mem_cons_self, decide_eq_true (told e List.mem_cons_self)⟩)] at h
    obtain ⟨flags, mask, -⟩ := h
    exact ⟨mask, by rw [flags]; simp⟩

theorem rampedEnds_reason {sel : Grant → Bool} {r : Reason} {s : State} :
    ∀ e ∈ rampedEnds sel r s, e.2 = r := by
  intro e he
  obtain ⟨g, -, rfl⟩ := List.mem_map.mp he
  rfl

/-! ## A hold placed for a station (R37) -/

/-- R36, R37: the hold table with a new record. -/
def heldBy (kind : HoldKind) (source : HoldSource) (axes : PerAxis Bool) (s : State) : HoldTable :=
  { s.hold with table := s.hold.table ++ [⟨nextId s, kind, source, axes⟩], lastId := nextId s }

theorem placeLockout_eq (tag : Nat) (source : HoldSource) (axes : PerAxis Bool) (s : State) :
    placeHold (.lockout tag) source axes s =
      raise .hold (easeGrants .held (fun g => axes.get g.axis)
        (s.setHold (heldBy (.lockout tag) source axes s))) := rfl

/-- R37, R39, R43: the answer to a placement carries the new id. -/
theorem placeForStation_eq (kind : HoldKind) (l : Link) (axes : PerAxis Bool) (s : State) :
    placeForStation kind l axes s =
      (placeHold kind (.station l) axes s, some ⟨.ok, [byteOf (nextId s), 0#8]⟩) := by
  unfold placeForStation
  dsimp only
  rw [placeHold_hold]
  rfl

theorem parseFrame_lockt (l : Link) (tag : Word32) (b : Byte) (range : b.toNat < 64) :
    parseFrame l ⟨locktFrame tag b, false⟩ = .msg (.lockt tag.toNat (axisSetOf b.toNat)) := by
  have fields (w x y z : Byte) : parseFrame l ⟨[7#8, w, x, y, z, b], false⟩ =
      coded (axisSetField b.toNat) (.lockt (word32 w x y z).toNat) := rfl
  refine (fields ..).trans ?_
  rw [word32_bytes]
  unfold axisSetField
  rw [if_pos range]
  rfl

theorem axisSetOf_eq_none {n : Nat} (range : n < 64) : axisSetOf n = .all false ↔ n = 0 := by
  have all : ∀ n : Fin 64, axisSetOf n.val = .all false ↔ n.val = 0 := by decide
  exact all ⟨n, range⟩

theorem byte_eq_zero_iff (b : Byte) : b = 0#8 ↔ b.toNat = 0 := by
  rw [← BitVec.toNat_inj]
  rfl

section
variable {l : Link} {tag : Nat} {axes : PerAxis Bool} {s : State}

theorem handleLockt_of_stranger (reader : (s.config.profile.get l).tagReader = false) :
    handleLockt l tag axes s = refuse .notallowed s := if_pos reader

variable (reader : (s.config.profile.get l).tagReader = true)
include reader

theorem handleLockt_of_untagged (untagged : tag = 0) : handleLockt l tag axes s = refuse .badmsg s := by
  unfold handleLockt profileOf
  rw [if_neg (by rw [reader]; nofun), if_pos untagged]

variable (tagged : tag ≠ 0)
include tagged

theorem handleLockt_of_empty (empty : axes = .all false) : handleLockt l tag axes s = refuse .badvalue s := by
  unfold handleLockt profileOf
  rw [if_neg (by rw [reader]; nofun), if_neg tagged, if_pos empty]

variable (covers : axes ≠ .all false)
include covers

theorem handleLockt_of_same {h : Hold} (same : sameLockout tag axes s = some h) :
    handleLockt l tag axes s = (s, placedReply h.id true) := by
  unfold handleLockt profileOf
  rw [if_neg (by rw [reader]; nofun), if_neg tagged, if_neg covers, same]

theorem handleLockt_of_full (same : sameLockout tag axes s = none) (full : 23 ≤ stationHolds s) :
    handleLockt l tag axes s = refuse .noroom s := by
  unfold handleLockt profileOf
  rw [if_neg (by rw [reader]; nofun), if_neg tagged, if_neg covers, same]
  exact if_pos full

theorem handleLockt_of_new (same : sameLockout tag axes s = none) (room : stationHolds s < 23) :
    handleLockt l tag axes s = placeForStation (.lockout tag) l axes s := by
  unfold handleLockt profileOf
  rw [if_neg (by rw [reader]; nofun), if_neg tagged, if_neg covers, same]
  exact if_neg (Nat.not_le.mpr room)

end

section
variable {l : Link} {s : State} (ready : Ready l s) (served : linkMode s.mode.mode = true)
  (h : Sound s) (easing : EasingOnly s) {tag : Nat} {axes : PerAxis Bool} {m : Msg} {bytes : List Byte}
include ready served h easing

/-- R37, R24: a message that places a lockout, as it closes. -/
theorem answered_lockout (short : bytes.length ≤ frameBytes)
    (parsed : parseFrame l ⟨bytes, false⟩ = .msg m)
    (handles : handleMsg l m (handed l bytes s) =
      (placeHold (.lockout tag) (.station l) axes (handed l bytes s),
        some ⟨.ok, [byteOf (nextId s), 0#8]⟩)) :
    let sel := fun g : Grant => axes.get g.axis
    let t := portEvent (receiveFrame l bytes) s
    t.hold = heldBy (.lockout tag) (.station l) axes s ∧ Ramped sel .held s t ∧
      Noticed { s.notice.flags with
          hold := true, gend := s.notice.flags.gend || !(rampedEnds sel .held s).isEmpty }
        s.notice.mask t ∧
      Handled (bytes.length + 1) l (rampedEnds sel .held s)
        (.rply (bytes.headD 0#8) .ok [byteOf (nextId s), 0#8]) s t ∧
      DemandsFollow s t ∧
      t = { s with grant := t.grant, hold := t.hold, drive := t.drive, panel := t.panel
                   port := t.port, notice := t.notice, beacon := t.beacon } := by
  intro sel
  obtain ⟨ramped, ⟨ends, told, perm⟩, noticed, frame⟩ := eased_effect
    (s := handed l bytes s) (u := (handed l bytes s).setHold
      (heldBy (.lockout tag) (.station l) axes (handed l bytes s)))
    (sound_handed h l bytes) ⟨rfl, rfl, rfl⟩ rfl .held sel
  rw [placeLockout_eq] at handles
  have ramped' := ramped_rebase (s := s) (u := handed l bytes s) ⟨rfl, rfl, rfl⟩ ramped
  have same := rampedEnds_of_same (s := s) (u := handed l bytes s) ⟨rfl, rfl, rfl⟩ sel .held
  rw [same] at perm noticed
  obtain ⟨mask, flags⟩ := gendNoticed_flags noticed fun e he => by
    rw [rampedEnds_reason e he]
    nofun
  have raised := noticed_raise .hold (easeGrants .held sel ((handed l bytes s).setHold
    (heldBy (.lockout tag) (.station l) axes (handed l bytes s))))
  rw [flags, mask] at raised
  show let t := portEvent (receiveFrame l bytes) s; _
  change handleMsg l m (handed l bytes s) = (raise .hold (easeGrants .held sel _), _) at handles
  generalize easeGrants .held sel ((handed l bytes s).setHold
    (heldBy (.lockout tag) (.station l) axes (handed l bytes s))) = v at *
  have stays : closedownDone s (raise .hold v) = false :=
    closedownDone_of_ramped easing (ramped_of_blocks ramped' rfl rfl rfl)
      (by show v.mode.mode = _; rw [frame]; rfl) (by show v.axis.deployed = _; rw [frame]; rfl)
  obtain ⟨closed, handled, demands⟩ := answered_ended ready short parsed handles
    (told_of_port told rfl) perm (listed_rampedEnds sel .held h) stays
    (by show linkMode v.mode.mode = true; rw [frame]; exact served)
    (by show v.beacon = _; rw [frame]; rfl) (by show v.config = _; rw [frame]; rfl)
  dsimp only
  generalize portEvent (receiveFrame l bytes) s = t at closed handled demands ⊢
  refine ⟨?_, ramped_of_blocks ramped' (by rw [closed]; rfl) (by rw [closed]; rfl) (by rw [closed]; rfl),
    noticed_of_notice raised (by rw [closed]; rfl) (by rw [closed]; rfl), handled, demands, ?_⟩
  · rw [closed]
    show v.hold = _
    rw [frame]
    rfl
  · rw [closed]
    show ({ v with notice := _, port := _, beacon := _ } : State) = _
    rw [frame]
    rfl

end

/-- Settles O29: each check answers by itself, and a new lockout winds down what it covers. -/
theorem locktPlacesLockout : Obligations.LocktPlacesLockout := by
  unfold Obligations.LocktPlacesLockout
  intro l tag b s ready served ok slots _ range easing axes same sel reader
  refine ⟨portEvent (receiveFrame l (locktFrame tag b)) s, rfl, ?_⟩
  have parsed := parseFrame_lockt l tag b range
  have short : (locktFrame tag b).length ≤ frameBytes := Nat.le_of_ble_eq_true rfl
  have tagged : tag = 0#32 ↔ tag.toNat = 0 := by
    rw [← BitVec.toNat_inj]
    rfl
  have covers : axes = .all false ↔ b = 0#8 := (axisSetOf_eq_none range).trans (byte_eq_zero_iff b).symm
  have found : same = sameLockout tag.toNat axes (handed l (locktFrame tag b) s) := rfl
  refine ⟨fun no => ?_, fun yes zero => ?_, fun yes nz empty => ?_, fun yes nz covered h twice => ?_,
    fun yes nz covered new full => ?_, fun yes nz covered new room => ?_⟩
  · exact answeredOnly_of_query (r := ⟨.notallowed, []⟩) ready short parsed (handleLockt_of_stranger no)
  · exact answeredOnly_of_query (r := ⟨.badmsg, []⟩) ready short parsed
      (handleLockt_of_untagged yes (tagged.mp zero))
  · exact answeredOnly_of_query (r := ⟨.badvalue, []⟩) ready short parsed
      (handleLockt_of_empty yes (mt tagged.mpr nz) (covers.mpr empty))
  · exact answeredOnly_of_query (r := ⟨.ok, [byteOf h.id, 1#8]⟩) ready short parsed
      (handleLockt_of_same (s := handed l (locktFrame tag b) s) yes (mt tagged.mpr nz) (mt covers.mp covered) (found.symm.trans twice))
  · exact answeredOnly_of_query (r := ⟨.noroom, []⟩) ready short parsed
      (handleLockt_of_full (s := handed l (locktFrame tag b) s) yes (mt tagged.mpr nz) (mt covers.mp covered) (found.symm.trans new) full)
  · exact answered_lockout ready served ⟨ok, slots⟩ easing short parsed
      (handleLockt_of_new (s := handed l (locktFrame tag b) s) yes (mt tagged.mpr nz) (mt covers.mp covered) (found.symm.trans new) room |>.trans (placeForStation_eq ..))

end Sys2Proof.Machine.Steps
end

section
/-! The mode changes that cut every grant (R29, R111, R169). -/

namespace Sys2Proof.Machine.Steps

open Motion Holds

/-! ## The beacon controller takes a mode change (R143) -/

/-- The beacon controller alone has changed, with the lamp test as it was. -/
def Shone (s t : State) : Prop := t = s.setBeacon t.beacon ∧ t.beacon.test = s.beacon.test

theorem Shone.refl (s : State) : Shone s s := ⟨rfl, rfl⟩

theorem Shone.trans {s t u : State} (h : Shone s t) (k : Shone t u) : Shone s u := by
  refine ⟨?_, k.2.trans h.2⟩
  calc
    u = t.setBeacon u.beacon := k.1
    _ = (s.setBeacon t.beacon).setBeacon u.beacon := congrArg (fun x : State => x.setBeacon u.beacon) h.1
    _ = s.setBeacon u.beacon := rfl

theorem shone_forEach {α : Type} {f : α → State → State} (hf : ∀ x s, Shone s (f x s)) (l : List α)
    (s : State) : Shone s (forEach f l s) := by
  unfold forEach
  induction l generalizing s with
  | nil => exact .refl s
  | cons x xs ih => exact (hf x s).trans (ih _)

theorem shone_restartZone (z : Zone) (p : Pattern) (s : State) : Shone s (restartZone z p s) := by
  rw [restartZone_eq]
  exact ⟨rfl, rfl⟩

theorem shone_restartAll (s : State) : Shone s (restartAll s) :=
  shone_forEach (fun z t => shone_restartZone z _ t) _ s

theorem shone_judgeDemands (b s : State) : Shone s (judgeDemands b s) := by
  have set (z : Zone) (p : Pattern) (t : State) : Shone t (setDemand z p t) := by
    unfold setDemand
    repeat' split
    · exact .refl t
    · exact ⟨rfl, rfl⟩
    · exact shone_restartZone z p t
  unfold judgeDemands
  split
  · refine shone_forEach (fun z t => ?_) _ s
    split
    · exact set z _ t
    · exact .refl t
  · exact .refl s

/-- R142: the lamp test ended within an event. -/
theorem lampTestEnd_frame (s : State) :
    lampTestEnd s = s.setBeacon (lampTestEnd s).beacon ∧ (lampTestEnd s).beacon.test = none := by
  unfold lampTestEnd
  split
  · obtain ⟨frame, test⟩ := shone_restartAll (dropLampTest s)
    refine ⟨?_, test⟩
    rw [frame]
    rfl
  · next none => exact ⟨rfl, by simpa using none⟩

/-- R143: a mode change leaves the lamp test on in CHECK alone. -/
theorem beaconMode_frame (old m : Mode) (s : State) :
    beaconMode old m s = s.setBeacon (beaconMode old m s).beacon ∧
      (m ≠ .closedown → (beaconMode old m s).beacon.test = if m = .check then some ⟨0, false⟩ else none) := by
  cases m with
  | off | wake => exact ⟨rfl, fun _ => rfl⟩
  | check => exact ⟨rfl, fun _ => rfl⟩
  | closedown =>
    refine ⟨?_, fun e => absurd rfl e⟩
    unfold beaconMode
    dsimp only
    split
    · rw [(shone_restartAll _).1]
      rfl
    · exact (lampTestEnd_frame s).1
  | run | defer | retry | barred => exact ⟨(lampTestEnd_frame s).1, fun _ => (lampTestEnd_frame s).2⟩

/-! ## A mode change that cuts (R29, R111) -/

/-- R29: the modes whose entry cuts every grant. -/
def cutsAll : Mode → Bool
  | .defer | .retry | .barred | .check | .off => true
  | .run | .wake | .closedown => false

theorem cutsAll_spec {m : Mode} (h : cutsAll m = true) :
    shapedMode m = false ∧ ∀ s, reactMode m s = cutGrants .mode (fun _ => true) s := by
  cases m with
  | defer | retry | barred | check | off => exact ⟨rfl, fun _ => rfl⟩
  | run | wake | closedown => cases h

/-- R29, R111: the grants cut and the outputs forced, in the new mode. -/
def cutForced (m : Mode) (t : Option Nat) (s : State) : State :=
  forceOutputs (cutGrants .mode (fun _ => true) (setModeTimer m t s))

/-- R169: a mode change that cuts, as the ports and the notice find it. -/
def cutMode (m : Mode) (t : Option Nat) (s : State) : State :=
  beaconMode s.mode.mode m (recomputePermits (cutForced m t s))

theorem changeMode_of_cut {m : Mode} (h : cutsAll m = true) (t : Option Nat) (s : State) :
    changeMode m t s = noticeMode s.mode.mode m (modePorts m s (cutMode m t s)) := by
  obtain ⟨unshaped, cuts⟩ := cutsAll_spec h
  unfold changeMode cutMode cutForced forceFor
  dsimp only
  rw [cuts, unshaped]
  rfl

theorem cutEnds_told {s : State} {r : Reason} (told : r ≠ .released) :
    ∀ e ∈ s.grant.table.map fun g => (g, r), e.2 ≠ .released := by
  intro e he
  obtain ⟨g, -, rfl⟩ := List.mem_map.mp he
  exact told

/-- R21: every grant cut, within an event. -/
structure AllGone (r : Reason) (s t : State) : Prop where
  table : t.grant.table = []
  handle : t.grant.lastHandle = s.grant.lastHandle
  slots : t.grant.slots = .all ⟨none, none⟩
  told : ∃ ends, Told ends s t ∧ ends.Perm (s.grant.table.map fun g => (g, r))
  flags : t.notice.flags = { s.notice.flags with gend := s.notice.flags.gend || !s.grant.table.isEmpty }
  mask : t.notice.mask = s.notice.mask
  stopped : ∀ g ∈ s.grant.table, g.state ≠ .waiting → AxisStopped g.axis s t
  frame : t = { s with
    grant := t.grant, drive := t.drive, panel := t.panel, port := t.port, notice := t.notice }

/-- R4: with no grant live every slot is FREE. -/
theorem slots_of_empty {t : State} (h : Sound t) (empty : t.grant.table = []) :
    t.grant.slots = .all ⟨none, none⟩ := by
  refine PerResource.ext_get fun q => ?_
  have slot := slotOf_eq h q
  unfold slotOf holderOn waiterOn at slot
  rw [empty] at slot
  rw [slot, PerResource.get_all]
  rfl

theorem allGone_cutGrants {s : State} (h : Sound s) {r : Reason} (told : r ≠ .released) :
    AllGone r s (cutGrants r (fun _ => true) s) := by
  have turned := turned_cut h r (sel := fun _ => true) fun _ _ _ _ => rfl
  have empty := cutGrants_table r s
  have perm := endsOf_perm cutOut r (fun _ => true) s
  rw [endsOf_cutOut r (List.filter _ _), List.filter_true] at perm
  obtain ⟨mask, flags⟩ := gendNoticed_flags (gendNoticed_perm turned.ended.noticed perm) (cutEnds_told told)
  rw [List.isEmpty_map] at flags
  exact
    { table := empty
      handle := turned.handle
      slots := slots_of_empty turned.sound empty
      told := ⟨_, turned.ended.told, perm⟩
      flags := flags
      mask := mask
      stopped := fun g hg holds => turned.stopped g
        ((inTurn_perm _ s).mem_iff.mpr (List.mem_filter.mpr ⟨hg, rfl⟩)) holds rfl
      frame := turned.ended.frame }

theorem outputsOff_forced (s : State) : OutputsOff (forceOutputs s) := ⟨rfl, rfl, rfl, rfl, rfl, rfl, rfl, rfl⟩

/-- R29, R111, R169: a mode change that cuts, before its ports and its notice. -/
structure ModeCut (m : Mode) (time : Option Nat) (s e : State) : Prop where
  cut : AllCut s e
  told : ∃ ends, Told ends s e ∧ ends.Perm (s.grant.table.map fun g => (g, .mode))
  flags : e.notice.flags = { s.notice.flags with gend := s.notice.flags.gend || !s.grant.table.isEmpty }
  mask : e.notice.mask = s.notice.mask
  test : e.beacon.test = if m = .check then some ⟨0, false⟩ else none
  frame : e = { s with
    mode := { s.mode with mode := m, timer := time }, grant := e.grant, drive := e.drive
    panel := e.panel, permit := { s.permit with map := e.permit.map }, beacon := e.beacon
    port := e.port, notice := e.notice }

theorem recomputePermits_of_empty {s : State} (empty : s.grant.table = []) :
    recomputePermits s = remapped s := by
  rw [recomputePermits_eq]
  unfold easeGrants forGrants remapped
  simp only [State.setPermit_grant, empty]
  rfl

theorem modeCut_cutMode {m : Mode} (cuts : cutsAll m = true) (time : Option Nat) {s : State} (h : Sound s) :
    ModeCut m time s (cutMode m time s) := by
  have gone := allGone_cutGrants (s := setModeTimer m time s) (h.of_grant rfl) (r := .mode) nofun
  have off := outputsOff_forced (cutGrants .mode (fun _ => true) (setModeTimer m time s))
  have lit := beaconMode_frame s.mode.mode m (recomputePermits (cutForced m time s))
  have forced : recomputePermits (cutForced m time s) = remapped (cutForced m time s) :=
    recomputePermits_of_empty gone.table
  obtain ⟨ends, told, perm⟩ := gone.told
  have left := gone.frame
  unfold cutMode
  rw [forced] at lit ⊢
  obtain ⟨frame, test⟩ := lit
  generalize beaconMode s.mode.mode m (remapped (cutForced m time s)) = e at frame test ⊢
  unfold cutForced at frame
  generalize cutGrants .mode (fun _ => true) (setModeTimer m time s) = v at *
  have same (k : Link) : portOf k e = portOf k v := by rw [frame]; rfl
  refine
    { cut := ⟨by rw [frame]; exact gone.table, by rw [frame]; exact gone.handle,
        by rw [frame]; exact gone.slots, ?_⟩
      told := ⟨ends, fun k => (same k).trans (told k), perm⟩
      flags := by rw [frame]; exact gone.flags
      mask := by rw [frame]; exact gone.mask
      test := test (by rintro rfl; cases cuts)
      frame := ?_ }
  · rw [frame]
    exact ⟨off.output, off.coil, off.duty, off.pump, off.d1, off.d2, off.near, off.off⟩
  · rw [frame]
    unfold remapped forceOutputs
    dsimp only
    rw [left]
    rfl

end Sys2Proof.Machine.Steps
end

section
/-! Entry into OFF (R155, R158, R170, R175). -/

namespace Sys2Proof.Machine.Steps

open Motion Holds

/-! ## The ports that an entry into OFF closes (R155) -/

/-- R155, R158: what an entry into OFF makes of a port. -/
def offPort (p : Port) : Port :=
  match p.state with
  | .disabled => p
  | .opening | .silenced => restingPort p.rate false
  | .up =>
    match p.close with
    | some c => { p with close := some { c with target := .disabled } }
    | none => if p.queue = [] then restingPort p.rate false else { p with close := some ⟨.disabled, 4⟩ }

section
variable {p : Port}

theorem offPort_disabled (h : p.state = .disabled) : offPort p = p := by
  unfold offPort
  rw [h]

theorem offPort_starting (h : p.state = .opening ∨ p.state = .silenced) :
    offPort p = restingPort p.rate false := by
  unfold offPort
  rcases h with e | e <;> rw [e]

theorem offPort_pending (h : p.state = .up) {c : ClosePending} (close : p.close = some c) :
    offPort p = { p with close := some { c with target := .disabled } } := by
  unfold offPort
  rw [h]
  dsimp only
  rw [close]

theorem offPort_open (h : p.state = .up) (close : p.close = none) :
    offPort p = if p.queue = [] then restingPort p.rate false
      else { p with close := some ⟨.disabled, 4⟩ } := by
  unfold offPort
  rw [h]
  dsimp only
  rw [close]

end

/-- Ports have closed or lost their links with no grant live. -/
structure Shuts (s t : State) : Prop where
  flags : t.notice.flags = { s.notice.flags with link := t.notice.flags.link }
  mask : t.notice.mask = s.notice.mask
  store : t.store = { s.store with resetWaits := t.store.resetWaits }
  frame : t = { s with port := t.port, notice := t.notice, store := t.store }

theorem Shuts.refl (s : State) : Shuts s s := ⟨rfl, rfl, rfl, rfl⟩

theorem Shuts.trans {s t u : State} (h : Shuts s t) (k : Shuts t u) : Shuts s u where
  flags := by rw [k.flags, h.flags]
  mask := k.mask.trans h.mask
  store := by rw [k.store, h.store]
  frame := by
    calc
      u = _ := k.frame
      _ = _ := by rw [h.frame]

theorem reactLinkLoss_of_empty {s : State} (empty : s.grant.table = []) (l : Link) :
    reactLinkLoss l s = s := by
  unfold reactLinkLoss forGrants
  simp only [empty]
  rfl

theorem dropResetReply_frame (l : Link) (s : State) : dropResetReply l s = s.setStore
    { s.store with resetWaits := (dropResetReply l s).store.resetWaits } := by
  unfold dropResetReply
  split <;> rfl

/-- R150 step 4: the loss of a link with no grant live. -/
theorem reportLoss_of_empty {s : State} (empty : s.grant.table = []) (l : Link) :
    reportLoss l s = raise .link (dropResetReply l s) := by
  unfold reportLoss
  rw [reactLinkLoss_of_empty]
  rw [dropResetReply_frame]
  exact empty

theorem shuts_leavePort {s : State} (empty : s.grant.table = []) (l : Link) (p : Port) :
    Shuts s (leavePort l p s) ∧ ∀ k, portOf k (leavePort l p s) = if k = l then p else portOf k s := by
  have put (k : Link) : portOf k (putPort l p s) = if k = l then p else portOf k s := by
    by_cases e : k = l
    · rw [e, if_pos rfl, portOf_putPort_same]
    · rw [if_neg e, portOf_putPort_ne _ _ e]
  unfold leavePort
  split
  · rw [reportLoss_of_empty (s := putPort l p s) empty]
    have left := dropResetReply_frame l (putPort l p s)
    generalize dropResetReply l (putPort l p s) = v at left ⊢
    refine ⟨⟨?_, ?_, ?_, ?_⟩, fun k => ?_⟩
    · rw [left]; rfl
    · rw [left]; rfl
    · rw [left]; rfl
    · rw [left]; rfl
    · rw [left]; exact put k
  · exact ⟨⟨rfl, rfl, rfl, rfl⟩, put⟩

theorem commandedClose_pending {l : Link} {s : State} {c : ClosePending} (h : (portOf l s).close = some c)
    (t : CloseTarget) : commandedClose t l s =
      putPort l { portOf l s with close := some { c with target := joinTarget c.target t } } s := by
  unfold commandedClose
  dsimp only
  rw [h]

theorem commandedClose_open {l : Link} {s : State} (h : (portOf l s).close = none) (t : CloseTarget) :
    commandedClose t l s = if (portOf l s).queue = [] then enterTarget t l s
      else putPort l { portOf l s with close := some ⟨t, 4⟩ } s := by
  unfold commandedClose
  dsimp only
  rw [h]
  rfl

theorem shuts_stopEnabled {s : State} (empty : s.grant.table = []) (l : Link) :
    Shuts s (stopEnabled l s) ∧
      ∀ k, portOf k (stopEnabled l s) = if k = l then offPort (portOf l s) else portOf k s := by
  have put (p : Port) : Shuts s (putPort l p s) ∧
      ∀ k, portOf k (putPort l p s) = if k = l then p else portOf k s := by
    refine ⟨⟨rfl, rfl, rfl, rfl⟩, fun k => ?_⟩
    by_cases e : k = l
    · rw [e, if_pos rfl, portOf_putPort_same]
    · rw [if_neg e, portOf_putPort_ne _ _ e]
  unfold stopEnabled
  cases st : (portOf l s).state with
  | disabled =>
    refine ⟨.refl s, fun k => ?_⟩
    by_cases e : k = l
    · rw [e, if_pos rfl, offPort_disabled st]
    · rw [if_neg e]
  | opening =>
    rw [offPort_starting (.inl st)]
    exact shuts_leavePort empty l (restingPort (portOf l s).rate false)
  | silenced =>
    rw [offPort_starting (.inr st)]
    exact shuts_leavePort empty l (restingPort (portOf l s).rate false)
  | up =>
    dsimp only
    cases close : (portOf l s).close with
    | some c =>
      rw [commandedClose_pending close, offPort_pending st close,
        show joinTarget c.target .disabled = .disabled by cases c.target <;> rfl]
      exact put _
    | none =>
      rw [commandedClose_open close, offPort_open st close]
      by_cases queue : (portOf l s).queue = []
      · rw [if_pos queue, if_pos queue]
        exact shuts_leavePort empty l (restingPort (portOf l s).rate false)
      · rw [if_neg queue, if_neg queue]
        exact put _

/-- R155, R158, R170: every port closed. -/
theorem shuts_closePorts {s : State} (empty : s.grant.table = []) :
    Shuts s (closePorts s) ∧ ∀ k, portOf k (closePorts s) = offPort (portOf k s) := by
  have all (ls : List Link) (distinct : ls.Nodup) (t : State) (empty : t.grant.table = []) :
      Shuts t (forEach stopEnabled ls t) ∧ ∀ k, portOf k (forEach stopEnabled ls t) =
        if k ∈ ls then offPort (portOf k t) else portOf k t := by
    unfold forEach
    induction ls generalizing t with
    | nil => exact ⟨.refl t, fun k => by simp⟩
    | cons l ls ih =>
      obtain ⟨new, distinct⟩ := List.nodup_cons.mp distinct
      obtain ⟨first, one⟩ := shuts_stopEnabled empty l
      obtain ⟨rest, others⟩ := ih distinct (stopEnabled l t) (by rw [first.frame]; exact empty)
      refine ⟨first.trans rest, fun k => ?_⟩
      rw [List.foldl_cons, others k, one k]
      by_cases e : k = l
      · subst e
        rw [if_neg new, if_pos rfl, if_pos List.mem_cons_self]
      · simp [e]
  obtain ⟨shuts, ports⟩ := all Link.list (by decide) s empty
  exact ⟨shuts, fun k => (ports k).trans (if_pos (by cases k <;> decide))⟩

/-! ## Entry into OFF (R170) -/

/-- R170: what an entry into OFF leaves. -/
structure Offs (s t : State) : Prop where
  mode : t.mode = { s.mode with mode := .off, timer := none, history := [], loadWaits := false }
  cut : AllCut s t
  attention : t.notice.attention = false
  flags : t.notice.flags = { s.notice.flags with
    gend := s.notice.flags.gend || !s.grant.table.isEmpty, mode := t.notice.flags.mode
    link := t.notice.flags.link }
  ports : ∃ ends, ends.Perm (s.grant.table.map fun g => (g, Reason.mode)) ∧
    ∀ k, portOf k t = offPort { portOf k s with queue := queueOf k s ++ gendsTo k ends s }
  axis : t.axis = { s.axis with stall := none }
  frame : t = { s with
    mode := t.mode, grant := t.grant, drive := t.drive, panel := t.panel, axis := t.axis
    permit := t.permit, beacon := t.beacon, port := t.port, notice := t.notice, store := t.store }

theorem noticeMode_eq (old new : Mode) (s : State) : noticeMode old new s =
    s.setNotice (noticeMode old new s).notice ∧
    (noticeMode old new s).notice.flags = { s.notice.flags with
      mode := (noticeMode old new s).notice.flags.mode } ∧
    (noticeMode old new s).notice.mask = s.notice.mask := by
  unfold noticeMode
  split <;> exact ⟨rfl, rfl, rfl⟩

theorem offs_enterOff {s : State} (h : Sound s) : Offs s (enterOff s) := by
  have cut := modeCut_cutMode (m := .off) rfl none h
  obtain ⟨shuts, ports⟩ := shuts_closePorts cut.cut.table
  have changed : changeMode .off none s =
      noticeMode s.mode.mode .off (closePorts (cutMode .off none s)) := changeMode_of_cut rfl none s
  have noticed := noticeMode_eq s.mode.mode .off (closePorts (cutMode .off none s))
  obtain ⟨ends, told, perm⟩ := cut.told
  unfold enterOff offBlocks
  rw [changed]
  generalize noticeMode s.mode.mode .off (closePorts (cutMode .off none s)) = v at noticed ⊢
  generalize closePorts (cutMode .off none s) = u at *
  generalize cutMode .off none s = e at *
  obtain ⟨vframe, vflags, -⟩ := noticed
  have uframe := shuts.frame
  have eframe := cut.frame
  have port : v.port = u.port := by rw [vframe]; rfl
  have grant : v.grant = e.grant := by rw [vframe, uframe]; rfl
  have drive : v.drive = e.drive := by rw [vframe, uframe]; rfl
  have panel : v.panel = e.panel := by rw [vframe, uframe]; rfl
  have mode : v.mode = { s.mode with mode := .off, timer := none } := by rw [vframe, uframe, eframe]; rfl
  have axis : v.axis = s.axis := by rw [vframe, uframe, eframe]; rfl
  have off := cut.cut.outputs
  refine
    { mode := ?_
      cut := ⟨?_, ?_, ?_, ⟨rfl, rfl, rfl, rfl, rfl, rfl, ?_, ?_⟩⟩
      attention := ?_
      flags := ?_
      ports := ⟨ends, perm, fun k => ?_⟩
      axis := ?_
      frame := ?_ }
  · show { v.mode with history := [], loadWaits := false } = _
    rw [mode]
  · exact (congrArg GrantEngine.table grant).trans cut.cut.table
  · exact (congrArg GrantEngine.lastHandle grant).trans cut.cut.handle
  · exact (congrArg GrantEngine.slots grant).trans cut.cut.slots
  · show v.panel.latch.ndor.solenoid = false
    rw [panel]
    exact off.near
  · show v.panel.latch.odor.solenoid = false
    rw [panel]
    exact off.off
  · show (v.mode.mode != .off && _) = false
    rw [mode]
    rfl
  · have flags : v.notice.flags = { s.notice.flags with
        gend := s.notice.flags.gend || !s.grant.table.isEmpty, mode := v.notice.flags.mode
        link := v.notice.flags.link } := by
      rw [vflags, shuts.flags, cut.flags]
    exact flags
  · show v.port.get k = _
    rw [port]
    refine (ports k).trans ?_
    rw [told k]
  · show { v.axis with stall := none } = _
    rw [axis]
  · unfold judgeAttention stopDrive
    dsimp only
    rw [vframe, uframe, eframe]
    rfl

/-! ## An event that ends CLOSEDOWN (R175) -/

/-- R175: an event that ends CLOSEDOWN closes with the entry into OFF, which judges no demand. -/
theorem conclude_off {s u : State} (done : closedownDone s u = true) (h : Sound u) :
    conclude s u = enterOff u := by
  have off : (enterOff u).mode.mode = .off := by rw [(offs_enterOff h).mode]
  unfold conclude
  rw [done]
  show judgeDemands s (enterOff u) = _
  unfold judgeDemands demandJudged
  rw [off]
  rfl

/-- R153: a port has taken a message or GENDs: whether it is open and how it closes are as before. -/
structure PortHeld (p q : Port) : Prop where
  state : q.state = p.state
  rate : q.rate = p.rate
  close : q.close = p.close
  disabled : p.state = .disabled → q = p

theorem PortHeld.refl (p : Port) : PortHeld p p := ⟨rfl, rfl, rfl, fun _ => rfl⟩

theorem PortHeld.trans {p q r : Port} (h : PortHeld p q) (k : PortHeld q r) : PortHeld p r :=
  ⟨k.state.trans h.state, k.rate.trans h.rate, k.close.trans h.close, fun d =>
    (k.disabled (h.state.trans d)).trans (h.disabled d)⟩

/-- What an event leaves alone until the entry into OFF that closes it. -/
structure Lasting (s u : State) : Prop where
  mode : u.mode = s.mode
  handle : u.grant.lastHandle = s.grant.lastHandle
  config : u.config = s.config
  log : u.faultLog = s.faultLog
  axis : u.axis = { s.axis with stall := u.axis.stall, liftOutput := u.axis.liftOutput }
  port : ∀ k, PortHeld (portOf k s) (portOf k u)

theorem portHeld_told {ends : List (Grant × Reason)} {s t : State} (h : Told ends s t) (k : Link) :
    PortHeld (portOf k s) (portOf k t) := by
  rw [h k]
  refine ⟨rfl, rfl, rfl, fun d => ?_⟩
  rw [gendsTo_eq, if_neg (by rw [d]; nofun), List.append_nil]
  rfl

theorem wentOff_of_offs {s u t : State} (held : Lasting s u) (h : Offs u t) : WentOff s t := by
  obtain ⟨ends, -, ports⟩ := h.ports
  have queued (k : Link) : PortHeld (portOf k s)
      { portOf k u with queue := queueOf k u ++ gendsTo k ends u } := by
    refine (held.port k).trans ⟨rfl, rfl, rfl, fun d => ?_⟩
    rw [gendsTo_eq, if_neg (by rw [d]; nofun), List.append_nil]
    rfl
  refine
    { mode := by rw [h.mode, held.mode]
      cut := ⟨h.cut.table, h.cut.handle.trans held.handle, h.cut.slots, h.cut.outputs⟩
      attention := h.attention
      config := by rw [h.frame]; exact held.config
      log := by rw [h.frame]; exact held.log
      watches := by rw [h.axis, held.axis]
      disabled := fun l d => ?_
      resting := fun l e => ?_
      closing := fun l up c pending => ?_
      served := fun l up open' => ?_ }
  · have q := queued l
    rw [ports l, offPort_disabled (q.state.trans d), q.disabled d]
  · have q := queued l
    rw [ports l, offPort_starting (by rw [q.state]; exact e), q.rate]
  · have q := queued l
    rw [ports l, offPort_pending (q.state.trans up) (q.close.trans pending)]
    exact ⟨q.state.trans up, rfl⟩
  · have q := queued l
    have port := ports l
    rw [offPort_open (q.state.trans up) (q.close.trans open')] at port
    have queue : queueOf l t = (portOf l t).queue := rfl
    rw [queue, port]
    split
    · refine ⟨fun _ => by rw [q.rate], fun some' => absurd rfl some'⟩
    · next some' => exact ⟨fun none => absurd none some', fun _ => ⟨q.state.trans up, rfl⟩⟩

end Sys2Proof.Machine.Steps
end

section
/-! The stops: STOPZ and the ESTOP line (R43, R46, R25), in CLOSEDOWN too (R175). -/

namespace Sys2Proof.Machine.Steps

open Motion Holds

/-! ## An axis stopped stays so in OFF -/

/-- R111, R170: with no grant live an entry into OFF forces the outputs and touches no sequence. -/
theorem enterOff_drive {u : State} (empty : u.grant.table = []) :
    (enterOff u).drive = { forceDrive u.drive with ditherTimer := none, pumpOver := 0 } ∧
      (enterOff u).panel = (forceOutputs u).panel := by
  have none : cutGrants .mode (fun _ => true) (setModeTimer .off none u) = setModeTimer .off none u := by
    unfold cutGrants forGrants
    simp only [show (setModeTimer .off Option.none u).grant.table = [] from empty]
    rfl
  have forced : cutForced .off Option.none u = forceOutputs (setModeTimer .off Option.none u) := by
    unfold cutForced
    rw [none]
  have judged : recomputePermits (cutForced .off Option.none u) =
      remapped (forceOutputs (setModeTimer .off Option.none u)) := by
    rw [forced]
    exact recomputePermits_of_empty empty
  have cut : cutMode .off Option.none u =
      beaconsDark (remapped (forceOutputs (setModeTimer .off Option.none u))) := by
    unfold cutMode
    rw [judged]
    rfl
  obtain ⟨shuts, -⟩ := shuts_closePorts (s := cutMode .off Option.none u) (by rw [cut]; exact empty)
  have frame := shuts.frame
  have noticed := (noticeMode_eq u.mode.mode .off (closePorts (cutMode .off Option.none u))).1
  have changed : changeMode .off Option.none u =
      noticeMode u.mode.mode .off (closePorts (cutMode .off Option.none u)) :=
    changeMode_of_cut rfl Option.none u
  unfold enterOff offBlocks
  rw [changed]
  generalize noticeMode u.mode.mode .off (closePorts (cutMode .off Option.none u)) = v at noticed ⊢
  generalize closePorts (cutMode .off Option.none u) = w at *
  have drive : v.drive = forceDrive u.drive := by rw [noticed, frame, cut]; rfl
  have panel : v.panel = (forceOutputs u).panel := by rw [noticed, frame, cut]; rfl
  exact ⟨congrArg (fun d => { forceDrive d with ditherTimer := Option.none, pumpOver := 0 }) drive, panel⟩

theorem axisStopped_enterOff {a : Axis} {s u : State} (empty : u.grant.table = [])
    (h : AxisStopped a s u) : AxisStopped a s (enterOff u) := by
  obtain ⟨drive, panel⟩ := enterOff_drive empty
  refine
    { output := by rw [drive]; exact PerAxis.get_all ..
      driving := by rw [drive]; exact h.driving
      delay := by rw [drive]; exact h.delay
      coil := fun c _ => by rw [drive]; exact PerCoil.get_all ..
      duty := fun m e => by rw [drive]; exact ⟨PerMotor.get_all .., (h.duty m e).2⟩
      panel := fun m e => by rw [panel]; exact h.panel m e
      latch := fun d e => ?_
      pump := fun _ => by rw [drive]; rfl }
  obtain ⟨-, pulse, engage⟩ := h.latch d e
  rw [panel]
  cases d <;> exact ⟨rfl, pulse, engage⟩

/-- R175: whether the endings of an event end CLOSEDOWN. -/
theorem closedownDone_eq {s u : State} (mode : u.mode.mode = s.mode.mode) (axis : u.axis = s.axis) :
    closedownDone s u = leavesOff u.grant.table s := by
  unfold closedownDone leavesOff nothingOut anyDeployed
  rw [mode, axis]
  cases s.grant.table <;> cases u.grant.table <;> simp

/-! ## A stop placed (R37, R25) -/

theorem placeStop_eq (z : PerZone Bool) (source : HoldSource) (axes : PerAxis Bool) (s : State) :
    placeHold (.stop z) source axes s =
      raise .hold (cutGrants .stopped (fun g => axes.get g.axis)
        (s.setHold (heldBy (.stop z) source axes s))) := rfl

/-- R25: what a stop leaves within its event. -/
structure StopPlaced (z : PerZone Bool) (source : HoldSource) (axes : PerAxis Bool) (s v : State) : Prop where
  hold : v.hold = heldBy (.stop z) source axes s
  table : v.grant.table = s.grant.table.filter fun g => !axes.get g.axis
  handle : v.grant.lastHandle = s.grant.lastHandle
  sound : Sound v
  stopped : ∀ g ∈ s.grant.table, axes.get g.axis = true → g.state ≠ .waiting → AxisStopped g.axis s v
  told : ∃ ends, Told ends s v ∧
    ends.Perm ((s.grant.table.filter fun g => axes.get g.axis).map fun g => (g, Reason.stopped))
  noticed : Noticed { s.notice.flags with
    hold := true
    gend := s.notice.flags.gend || !(s.grant.table.filter fun g => axes.get g.axis).isEmpty }
    s.notice.mask v
  frame : v = { s with
    grant := v.grant, hold := v.hold, drive := v.drive, panel := v.panel, port := v.port
    notice := v.notice }

theorem stopPlaced {s : State} (h : Sound s) (z : PerZone Bool) (source : HoldSource) {axes : PerAxis Bool}
    (whole : ∀ a b, resourceOf a = resourceOf b → axes.get a = axes.get b) :
    StopPlaced z source axes s (placeHold (.stop z) source axes s) := by
  have turned := turned_cut (s := s.setHold (heldBy (.stop z) source axes s)) (h.of_grant rfl) .stopped
    (sel := fun g => axes.get g.axis) fun g k chosen same => (whole _ _ same).symm.trans chosen
  have perm := endsOf_perm cutOut .stopped (fun g => axes.get g.axis) (s.setHold (heldBy (.stop z) source axes s))
  rw [endsOf_cutOut .stopped (List.filter _ _)] at perm
  obtain ⟨mask, flags⟩ := gendNoticed_flags (gendNoticed_perm turned.ended.noticed perm) fun e he => by
    obtain ⟨g, -, rfl⟩ := List.mem_map.mp he
    nofun
  rw [List.isEmpty_map] at flags
  have raised := noticed_raise .hold (cutGrants .stopped (fun g => axes.get g.axis)
    (s.setHold (heldBy (.stop z) source axes s)))
  rw [flags, mask] at raised
  rw [placeStop_eq]
  have frame := turned.ended.frame
  have table := turned.table_of_sel.trans (table_cutOut _ _)
  generalize cutGrants .stopped (fun g => axes.get g.axis) (s.setHold (heldBy (.stop z) source axes s)) = v at *
  exact
    { hold := by show v.hold = _; rw [frame]; rfl
      table := table
      handle := turned.handle
      sound := turned.sound.of_grant rfl
      stopped := fun g hg chosen holds => axisStopped_of_apart_after
        (axisStopped_of_states (turned.stopped g ((inTurn_perm _ _).mem_iff.mpr
          (List.mem_filter.mpr ⟨hg, chosen⟩)) holds rfl) fun _ _ => rfl)
        (apart_of_same (s := v) (t := raise .hold v) rfl rfl _)
      told := ⟨_, told_of_port (told_rebase turned.ended.told rfl) rfl, perm⟩
      noticed := raised
      frame := by show ({ v with notice := _ } : State) = _; rw [frame]; rfl }

/-! ## STOPZ (R43) -/

theorem parseFrame_stopz (l : Link) {b : Byte} (range : b.toNat < 16) :
    parseFrame l ⟨stopzFrame b, false⟩ = .msg (.stopz (zoneSetOf b.toNat)) := by
  have field : parseFrame l ⟨stopzFrame b, false⟩ = coded (zoneSetField b.toNat) .stopz := rfl
  rw [field]
  unfold zoneSetField
  rw [if_pos range]
  rfl

theorem zoneSetOf_eq_none {n : Nat} (range : n < 16) : zoneSetOf n = .all false ↔ n = 0 := by
  have all : ∀ n : Fin 16, zoneSetOf n.val = .all false ↔ n.val = 0 := by decide
  exact all ⟨n, range⟩

section
variable {l : Link} {z : PerZone Bool} {s : State}

theorem handleStopz_of_empty (empty : z = .all false) : handleStopz l z s = refuse .badvalue s :=
  if_pos empty

variable (covers : z ≠ .all false)
include covers

theorem handleStopz_of_same {h : Hold} (same : sameStop l z s = some h) :
    handleStopz l z s = (s, placedReply h.id true) := by
  unfold handleStopz
  rw [if_neg covers, same]

theorem handleStopz_of_full (same : sameStop l z s = none) (full : 23 ≤ stationHolds s) :
    handleStopz l z s = refuse .noroom s := by
  unfold handleStopz
  rw [if_neg covers, same]
  exact if_pos full

theorem handleStopz_of_new (same : sameStop l z s = none) (room : stationHolds s < 23) :
    handleStopz l z s =
      (placeHold (.stop z) (.station l) (axesOfZones z) s, some ⟨.ok, [byteOf (nextId s), 0#8]⟩) := by
  unfold handleStopz
  rw [if_neg covers, same]
  exact (if_neg (Nat.not_le.mpr room)).trans (placeForStation_eq ..)

end

theorem axesOfZones_whole (z : PerZone Bool) (a b : Axis) (same : resourceOf a = resourceOf b) :
    (axesOfZones z).get a = (axesOfZones z).get b := by
  cases a <;> cases b <;> first | rfl | cases same

/-- R153: a message leaves the ports as they were, but for their queues and what framing took. -/
theorem portHeld_handled {n : Nat} {l : Link} {ends : List (Grant × Reason)} {m : OutMsg} {s t : State}
    (ready : Ready l s) (h : Handled n l ends m s t) (k : Link) : PortHeld (portOf k s) (portOf k t) := by
  by_cases e : k = l
  · subst e
    rw [h.taker]
    exact ⟨rfl, rfl, rfl, fun d => by rw [ready.up] at d; cases d⟩
  · rw [h.others k e]
    refine ⟨rfl, rfl, rfl, fun d => ?_⟩
    rw [h.queue k, gendsTo_eq, if_neg (by rw [d]; nofun), if_neg e, List.append_nil, List.append_nil]
    rfl

/-- R155: an UP port with a message to send keeps its queue through an entry into OFF. -/
theorem queueOf_enterOff {u : State} (h : Sound u) (empty : u.grant.table = []) {l : Link}
    (up : (portOf l u).state = .up) (close : (portOf l u).close = none) (queue : queueOf l u ≠ []) :
    queueOf l (enterOff u) = queueOf l u := by
  obtain ⟨ends, perm, ports⟩ := (offs_enterOff h).ports
  rw [empty] at perm
  have none : ends = [] := List.Perm.eq_nil perm
  have port : portOf l (enterOff u) = offPort (portOf l u) := (ports l).trans (by
    rw [none, gendsTo_nil, List.append_nil]
    rfl)
  rw [offPort_open up close, if_neg (by exact queue)] at port
  unfold queueOf
  rw [port]

section
variable {l : Link} {s : State} (ready : Ready l s) (served : linkMode s.mode.mode = true) (h : Sound s)
  {z : PerZone Bool} {m : Msg} {bytes : List Byte}
include ready served h

/-- R37, R25, R175: a message that places a stop, as it closes. -/
theorem answered_stop (short : bytes.length ≤ frameBytes)
    (parsed : parseFrame l ⟨bytes, false⟩ = .msg m)
    (handles : handleMsg l m (handed l bytes s) =
      (placeHold (.stop z) (.station l) (axesOfZones z) (handed l bytes s),
        some ⟨.ok, [byteOf (nextId s), 0#8]⟩)) :
    let axes := axesOfZones z
    let ends := (s.grant.table.filter fun g => axes.get g.axis).map fun g => (g, Reason.stopped)
    let left := s.grant.table.filter fun g => !axes.get g.axis
    let reply := OutMsg.rply (bytes.headD 0#8) .ok [byteOf (nextId s), 0#8]
    let t := portEvent (receiveFrame l bytes) s
    t.hold = heldBy (.stop z) (.station l) axes s ∧
      t.grant.table = left ∧ t.grant.lastHandle = s.grant.lastHandle ∧
      (∀ e ∈ ends, e.1.state ≠ .waiting → AxisStopped e.1.axis s t) ∧
      (leavesOff left s = false →
        Noticed { s.notice.flags with hold := true
                                      gend := s.notice.flags.gend || !ends.isEmpty } s.notice.mask t ∧
        Handled (bytes.length + 1) l ends reply s t ∧ DemandsFollow s t ∧
        t = { s with grant := t.grant, hold := t.hold, drive := t.drive, panel := t.panel
                     port := t.port, notice := t.notice, beacon := t.beacon }) ∧
      (leavesOff left s = true → WentOff s t ∧ t.notice.flags.hold = true ∧
        queueOf l t = queueOf l s ++ gendsTo l ends s ++ [reply]) := by
  intro axes ends left reply
  have placed := stopPlaced (sound_handed h l bytes) z (.station l) (axesOfZones_whole z)
  have listed : Listed s.grant.table ends := by
    have := listed_endsOf cutOut .stopped (fun g => axes.get g.axis) h
    rwa [endsOf_cutOut .stopped (List.filter _ _)] at this
  have flags : ends.isEmpty = (s.grant.table.filter fun g => axes.get g.axis).isEmpty := List.isEmpty_map
  generalize placeHold (.stop z) (.station l) (axesOfZones z) (handed l bytes s) = v at placed handles
  obtain ⟨endings, told, perm⟩ := placed.told
  have frame := placed.frame
  have leaves : closedownDone s v = leavesOff left s :=
    (closedownDone_eq (by rw [frame]; rfl) (by rw [frame]; rfl)).trans (by rw [placed.table]; rfl)
  have stopped (t : State) (drive : t.drive = v.drive) (panel : t.panel = v.panel) :
      ∀ e ∈ ends, e.1.state ≠ .waiting → AxisStopped e.1.axis s t := by
    intro e he holds
    obtain ⟨g, hg, rfl⟩ := List.mem_map.mp he
    obtain ⟨mem, chosen⟩ := List.mem_filter.mp hg
    exact axisStopped_of_apart_after (axisStopped_of_states (placed.stopped g mem chosen holds)
      fun _ _ => rfl) (apart_of_same drive panel _)
  cases ending : leavesOff left s with
  | false =>
    obtain ⟨closed, handled, demands⟩ := answered_ended ready short parsed handles told perm listed
      (leaves.trans ending) (by rw [frame]; exact served) (by rw [frame]; rfl) (by rw [frame]; rfl)
    dsimp only
    generalize portEvent (receiveFrame l bytes) s = t at closed handled demands ⊢
    refine ⟨by rw [closed]; exact placed.hold, by rw [closed]; exact placed.table,
      by rw [closed]; exact placed.handle, stopped t (by rw [closed]; rfl) (by rw [closed]; rfl),
      fun _ => ⟨?_, handled, demands, ?_⟩, nofun⟩
    · rw [flags]
      exact noticed_of_notice placed.noticed (by rw [closed]; rfl) (by rw [closed]; rfl)
    · rw [closed, frame]
      rfl
  | true =>
    obtain ⟨received, handled⟩ := receiveFrame_ended ready short parsed handles told perm listed
    have grant : (receiveFrame l bytes s).grant = v.grant := by rw [received]; rfl
    have sound := placed.sound.of_grant grant
    have done : closedownDone s (receiveFrame l bytes s) = true := by
      rw [received]
      exact leaves.trans ending
    have closed : portEvent (receiveFrame l bytes) s = enterOff (receiveFrame l bytes s) :=
      conclude_off done sound
    have offs := offs_enterOff sound
    have empty : (receiveFrame l bytes s).grant.table = [] := by
      unfold closedownDone nothingOut at done
      simp only [Bool.and_eq_true, List.isEmpty_iff] at done
      exact done.2.2
    dsimp only
    rw [closed]
    have up := (portHeld_handled ready handled l).state.trans ready.up
    have open' := (portHeld_handled ready handled l).close.trans ready.close
    have queue : queueOf l (receiveFrame l bytes s) = queueOf l s ++ gendsTo l ends s ++ [reply] := by
      rw [handled.queue l, if_pos rfl]
      rfl
    have kept := queueOf_enterOff sound empty up open' (by rw [queue]; simp)
    have rests (e : Grant × Reason) (he : e ∈ ends) (holds : e.1.state ≠ .waiting) :=
      axisStopped_enterOff empty (stopped (receiveFrame l bytes s) (by rw [received]; rfl)
        (by rw [received]; rfl) e he holds)
    have lasting : Lasting s (receiveFrame l bytes s) :=
      { mode := by rw [received]; show v.mode = _; rw [frame]; rfl
        handle := by rw [grant]; exact placed.handle
        config := by rw [received]; show v.config = _; rw [frame]; rfl
        log := by rw [received]; show v.faultLog = _; rw [frame]; rfl
        axis := by
          rw [received]
          show v.axis = { s.axis with stall := v.axis.stall, liftOutput := v.axis.liftOutput }
          rw [frame]
          rfl
        port := portHeld_handled ready handled }
    have hold : (receiveFrame l bytes s).hold = heldBy (.stop z) (.station l) axes s := by
      rw [received]
      exact placed.hold
    have flag : (receiveFrame l bytes s).notice.flags.hold = true := by
      rw [received]
      show v.notice.flags.hold = true
      rw [placed.noticed.1]
    have handle : (receiveFrame l bytes s).grant.lastHandle = s.grant.lastHandle := by
      rw [grant]
      exact placed.handle
    have none : left = [] := by
      rw [← empty, grant, placed.table]
      rfl
    generalize receiveFrame l bytes s = u at *
    refine ⟨by rw [offs.frame]; exact hold, offs.cut.table.trans none.symm, offs.cut.handle.trans handle,
      rests, nofun, fun _ => ⟨wentOff_of_offs lasting offs, ?_, kept.trans queue⟩⟩
    rw [offs.flags]
    exact flag

end

/-- Settles O28: each check answers by itself, and a new stop cuts what it covers. -/
theorem stopzPlacesStop : Obligations.StopzPlacesStop := by
  unfold Obligations.StopzPlacesStop
  intro l b s ready served ok slots _ range z axes same ends left
  refine ⟨portEvent (receiveFrame l (stopzFrame b)) s, rfl, ?_⟩
  have parsed := parseFrame_stopz l range
  have short : (stopzFrame b).length ≤ frameBytes := Nat.le_of_ble_eq_true rfl
  have covers : z = .all false ↔ b = 0#8 := (zoneSetOf_eq_none range).trans (byte_eq_zero_iff b).symm
  have found : same = sameStop l z (handed l (stopzFrame b) s) := rfl
  refine ⟨fun empty => ?_, fun covered h twice => ?_, fun covered new full => ?_, fun covered new room => ?_⟩
  · exact answeredOnly_of_query (r := ⟨.badvalue, []⟩) ready short parsed
      (handleStopz_of_empty (covers.mpr empty))
  · exact answeredOnly_of_query (r := ⟨.ok, [byteOf h.id, 1#8]⟩) ready short parsed
      (handleStopz_of_same (s := handed l (stopzFrame b) s) (mt covers.mp covered) (found.symm.trans twice))
  · exact answeredOnly_of_query (r := ⟨.noroom, []⟩) ready short parsed
      (handleStopz_of_full (s := handed l (stopzFrame b) s) (mt covers.mp covered) (found.symm.trans new) full)
  · exact answered_stop ready served ⟨ok, slots⟩ short parsed
      (handleStopz_of_new (s := handed l (stopzFrame b) s) (mt covers.mp covered) (found.symm.trans new) room)

end Sys2Proof.Machine.Steps
end

section
/-! The ESTOP line (R46, R25, R175). -/

namespace Sys2Proof.Machine.Steps

open Motion Holds

theorem judgeDemands_of_same {s t : State} (same : ∀ z, zoneDemand z t = zoneDemand z s) :
    judgeDemands s t = t := by
  have still (z : Zone) : demandChanged s z t = false := by
    unfold demandChanged
    rw [same z]
    simp
  unfold judgeDemands
  split
  · exact forEach_fixed (fun z => by rw [still z]; rfl) _
  · rfl

/-- R134, R175: an event that moves no demand, no grant and no axis flag closes with nothing more done. -/
theorem event_undemanding {f : State → State} {s u : State} (effect : f s = u) (port : u.port = s.port)
    (grant : u.grant = s.grant) (axis : u.axis = s.axis) (same : ∀ z, zoneDemand z u = zoneDemand z s) :
    event f s = u := by
  rw [event_eq, effect, orderGends_of_port port, conclude_of_kept grant axis]
  exact judgeDemands_of_same same

/-- R23: ordering an event's GENDs leaves everything but the ports. -/
theorem sound_orderGends {b s : State} (h : Sound s) : Sound (orderGends b s) :=
  h.of_grant (by rw [orderGends_frame, State.setPort_grant])

theorem cutGrants_of_empty {s : State} (empty : s.grant.table = []) (r : Reason) (sel : Grant → Bool) :
    cutGrants r sel s = s := by
  unfold cutGrants forGrants
  simp only [empty]
  rfl

/-! ## The line (R46) -/

/-- R46: the state with the ESTOP line asserted, before anything is placed. -/
def lineTaken (s : State) : State :=
  (s.setInputs { s.inputs with estop := true }).setHold { s.hold with line := true }

theorem estopAssert_live {s : State} (on : s.mode.mode ≠ .off) (live : lineStopLive s = true) :
    estopAssert s = lineTaken s := (if_neg on).trans (if_pos live)

theorem estopAssert_places {s : State} (on : s.mode.mode ≠ .off) (none : lineStopLive s = false) :
    estopAssert s = placeHold (.stop roofOnly) .line (.all true) (lineTaken s) :=
  (if_neg on).trans (if_neg (by
    show ¬ lineStopLive s = true
    rw [none]
    nofun))

theorem lineTaken_demand (s : State) (z : Zone) : zoneDemand z (lineTaken s) = zoneDemand z s := by
  cases z <;> rfl

/-- R25, R46: the LINE stop as its event leaves it. -/
theorem linePlaced {s : State} (h : Sound s) : StopPlaced roofOnly .line (.all true) (lineTaken s)
    (placeHold (.stop roofOnly) .line (.all true) (lineTaken s)) :=
  stopPlaced (s := lineTaken s) (h.of_grant rfl) roofOnly .line fun a b _ => by rw [PerAxis.get_all, PerAxis.get_all]

theorem all_selected (gs : List Grant) :
    (gs.filter fun g => (PerAxis.all true).get g.axis) = gs ∧
      (gs.filter fun g => !(PerAxis.all true).get g.axis) = [] := by
  have all (a : Axis) : (PerAxis.all true).get a = true := PerAxis.get_all ..
  simp [all]

/-- R46, R25, R175: an assertion of the line with no LINE stop live, where links are served. -/
theorem estopAssertion_served {s : State} (h : Sound s) (served : linkMode s.mode.mode = true)
    (none : lineStopLive s = false) :
    let t := event estopAssert s
    t.inputs = { s.inputs with estop := true } ∧
      t.hold = ⟨s.hold.table ++ [⟨nextId s, .stop ⟨false, false, false, true⟩, .line, .all true⟩],
        nextId s, true⟩ ∧
      t.grant.table = [] ∧ t.grant.slots = .all ⟨Option.none, Option.none⟩ ∧
      (∀ g ∈ s.grant.table, g.state ≠ .waiting → AxisStopped g.axis s t) ∧
      (leavesOff [] s = false →
        Told (s.grant.table.map fun g => (g, .stopped)) s t ∧
        Noticed { s.notice.flags with hold := true
                                      gend := s.notice.flags.gend || !s.grant.table.isEmpty }
          s.notice.mask t ∧ DemandsFollow s t ∧
        t = { s with inputs := t.inputs, grant := t.grant, hold := t.hold, drive := t.drive
                     panel := t.panel, port := t.port, notice := t.notice
                     beacon := t.beacon }) ∧
      (leavesOff [] s = true → WentOff s t ∧ t.notice.flags.hold = true) := by
  have on : s.mode.mode ≠ .off := fun e => by rw [e] at served; cases served
  have effect := estopAssert_places on none
  have placed := linePlaced h
  generalize placeHold (.stop roofOnly) .line (.all true) (lineTaken s) = v at placed effect
  obtain ⟨ends, told, perm⟩ := placed.told
  have table := placed.table
  have noticed := placed.noticed
  rw [(all_selected _).1] at perm noticed
  rw [(all_selected _).2] at table
  have frame := placed.frame
  have listed : Listed s.grant.table (s.grant.table.map fun g => (g, Reason.stopped)) := by
    have := listed_endsOf cutOut .stopped (fun _ => true) h
    rwa [endsOf_cutOut .stopped (List.filter _ _), List.filter_true] at this
  have leaves : closedownDone s v = leavesOff [] s :=
    (closedownDone_eq (by rw [frame]; rfl) (by rw [frame]; rfl)).trans (by rw [table])
  have slots := slots_of_empty placed.sound table
  have stopped (t : State) (drive : t.drive = v.drive) (panel : t.panel = v.panel) :
      ∀ g ∈ s.grant.table, g.state ≠ .waiting → AxisStopped g.axis s t := fun g hg holds =>
    axisStopped_of_apart_after (axisStopped_of_states
      (placed.stopped g hg (PerAxis.get_all ..) holds) fun _ _ => rfl) (apart_of_same drive panel _)
  cases ending : leavesOff [] s with
  | false =>
    obtain ⟨closed, toldOf⟩ := event_ended (f := estopAssert) effect (told_rebase told rfl) perm listed
      (leaves.trans ending)
    have demands := demandsFollow_event (f := estopAssert) effect (leaves.trans ending)
      (by rw [frame]; exact served) (by rw [frame]; rfl) (by rw [frame]; rfl)
    dsimp only
    generalize event estopAssert s = t at closed toldOf demands ⊢
    have inputs : t.inputs = { s.inputs with estop := true } := by
      rw [closed]
      show v.inputs = _
      rw [frame]
      rfl
    refine ⟨inputs, by rw [closed]; exact placed.hold, by rw [closed]; exact table,
      by rw [closed]; exact slots, stopped t (by rw [closed]; rfl) (by rw [closed]; rfl),
      fun _ => ⟨toldOf, noticed_of_notice noticed (by rw [closed]; rfl) (by rw [closed]; rfl), demands, ?_⟩,
      nofun⟩
    rw [inputs, closed, frame]
    rfl
  | true =>
    have sorted := told_orderGends (s := s) (told_rebase told rfl) perm listed
    have ordered := orderGends_frame s v
    have sound := sound_orderGends (b := s) placed.sound
    have concluded := event_eq estopAssert s
    rw [effect] at concluded
    generalize orderGends s v = u at *
    have done : closedownDone s u = true := by
      rw [ordered]
      exact leaves.trans ending
    have closed : event estopAssert s = enterOff u := concluded.trans (conclude_off done sound)
    have offs := offs_enterOff sound
    dsimp only
    rw [closed]
    have empty : u.grant.table = [] := by rw [ordered]; exact table
    have rests (g : Grant) (hg : g ∈ s.grant.table) (holds : g.state ≠ .waiting) :=
      axisStopped_enterOff empty (stopped u (by rw [ordered]; rfl) (by rw [ordered]; rfl) g hg holds)
    have lasting : Lasting s u :=
      { mode := by rw [ordered]; show v.mode = _; rw [frame]; rfl
        handle := by rw [ordered]; exact placed.handle
        config := by rw [ordered]; show v.config = _; rw [frame]; rfl
        log := by rw [ordered]; show v.faultLog = _; rw [frame]; rfl
        axis := by
          rw [ordered]
          show v.axis = { s.axis with stall := v.axis.stall, liftOutput := v.axis.liftOutput }
          rw [frame]
          rfl
        port := portHeld_told sorted }
    refine ⟨?_, ?_, offs.cut.table, offs.cut.slots, rests, nofun, fun _ =>
      ⟨wentOff_of_offs lasting offs, ?_⟩⟩
    · rw [offs.frame, ordered]
      show v.inputs = _
      rw [frame]
      rfl
    · rw [offs.frame, ordered]
      exact placed.hold
    · rw [offs.flags, ordered]
      show v.notice.flags.hold = true
      rw [placed.noticed.1]

/-- R46: an assertion of the line in WAKE, where no grant is live. -/
theorem estopAssertion_wake {s : State} (wake : s.mode.mode = .wake) (empty : s.grant.table = [])
    (none : lineStopLive s = false) :
    event estopAssert s = raise .hold ((lineTaken s).setHold
      (heldBy (.stop roofOnly) .line (.all true) (lineTaken s))) := by
  have effect := estopAssert_places (by rw [wake]; nofun) none
  rw [placeStop_eq, cutGrants_of_empty (by exact empty)] at effect
  rw [event_eq, effect, orderGends_of_port (b := s) (s := raise .hold ((lineTaken s).setHold
    (heldBy (.stop roofOnly) .line (.all true) (lineTaken s)))) rfl]
  refine conclude_unserved (closedownDone_of_mode ?_) ?_
  · show s.mode.mode ≠ _
    rw [wake]
    nofun
  · show linkMode s.mode.mode = _
    rw [wake]
    rfl

/-- Settles O32: the assertion places the LINE stop or only takes the line, and the release only leaves it. -/
theorem estopLineStopsEverything : Obligations.EstopLineStopsEverything := by
  unfold Obligations.EstopLineStopsEverything
  refine fun s => ⟨fun served ok slots _ none => ⟨_, rfl, estopAssertion_served ⟨ok, slots⟩ served none⟩,
    fun wake empty none => ⟨_, rfl, ?_⟩, fun on live => ⟨_, rfl, ?_⟩, ⟨_, rfl, ?_⟩, fun off => ⟨_, rfl, ?_⟩⟩
  · have raised := noticed_raise .hold ((lineTaken s).setHold
      (heldBy (.stop roofOnly) .line (.all true) (lineTaken s)))
    have closed := estopAssertion_wake wake empty none
    generalize event estopAssert s = t at closed ⊢
    rw [closed]
    exact ⟨rfl, raised⟩
  · exact event_undemanding (estopAssert_live on live) rfl rfl rfl (lineTaken_demand s)
  · by_cases off : s.mode.mode = .off
    · rw [if_pos off]
      exact event_inputs (f := Machine.estopRelease) (if_pos off)
    · rw [if_neg off]
      exact event_undemanding (f := Machine.estopRelease) (if_neg off) rfl rfl rfl fun z => by
        cases z <;> rfl
  · exact event_inputs (f := estopAssert) (if_pos off)

end Sys2Proof.Machine.Steps
end

section
/-! Mode changes, as their events close (R169 to R175). -/

namespace Sys2Proof.Machine.Steps

open Motion Holds

/-! ## What the ports' own reactions leave alone (R147, R150, R155) -/

/-- Only the grants, what drives, the ports, the notices and the store have changed. -/
def Ported (s t : State) : Prop :=
  t = { s with grant := t.grant, drive := t.drive, panel := t.panel, port := t.port
               notice := t.notice, store := t.store }

theorem Ported.refl (s : State) : Ported s s := rfl

theorem Ported.trans {s t u : State} (h : Ported s t) (k : Ported t u) : Ported s u := by
  calc
    u = { t with grant := u.grant, drive := u.drive, panel := u.panel, port := u.port
                 notice := u.notice, store := u.store } := k
    _ = { ({ s with grant := t.grant, drive := t.drive, panel := t.panel, port := t.port
                    notice := t.notice, store := t.store } : State) with
          grant := u.grant, drive := u.drive, panel := u.panel, port := u.port
          notice := u.notice, store := u.store } :=
      congrArg (fun x : State => ({ x with grant := u.grant, drive := u.drive, panel := u.panel
                                           port := u.port, notice := u.notice
                                           store := u.store } : State)) h
    _ = _ := rfl

theorem ported_of_reacts {s t : State} (h : Reacts s t) : Ported s t := by
  obtain ⟨pending, inputs, hold, axis, permit, beacon, mode, log, config, store, -⟩ := h
  cases s
  cases t
  dsimp only at *
  subst pending inputs hold axis permit beacon mode log config store
  rfl

theorem ported_forEach {α : Type} {f : α → State → State} (hf : ∀ x s, Ported s (f x s)) (l : List α)
    (s : State) : Ported s (forEach f l s) := by
  unfold forEach
  induction l generalizing s with
  | nil => exact .refl s
  | cons x xs ih => exact (hf x s).trans (ih _)

section
variable (s : State)

theorem ported_putPort (l : Link) (p : Port) : Ported s (putPort l p s) := rfl

theorem ported_raise (f : NoticeFlag) : Ported s (raise f s) := rfl

theorem ported_reportLoss (l : Link) : Ported s (reportLoss l s) := by
  have dropped : Ported s (dropResetReply l s) := by
    rw [dropResetReply_frame]
    rfl
  exact (dropped.trans (ported_of_reacts (reacts_reactLinkLoss l _))).trans (ported_raise _ _)

theorem ported_leavePort (l : Link) (p : Port) : Ported s (leavePort l p s) := by
  unfold leavePort
  split
  · exact (ported_putPort s l p).trans (ported_reportLoss _ l)
  · exact ported_putPort s l p

theorem ported_enterTarget (t : CloseTarget) (l : Link) : Ported s (enterTarget t l s) := by
  cases t <;> exact ported_leavePort s l _

theorem ported_commandedClose (t : CloseTarget) (l : Link) : Ported s (commandedClose t l s) := by
  unfold commandedClose
  dsimp only
  split
  · exact ported_putPort s l _
  · split
    · exact ported_enterTarget s t l
    · exact ported_putPort s l _

theorem ported_stopEnabled (l : Link) : Ported s (stopEnabled l s) := by
  unfold stopEnabled
  split
  · exact ported_commandedClose s .disabled l
  · exact ported_leavePort s l _
  · exact ported_leavePort s l _
  · exact .refl s

theorem ported_judgePort (b : State) (l : Link) : Ported s (judgePort b l s) := by
  unfold judgePort
  split
  · unfold startEnabled
    split
    · exact ported_putPort s l _
    · exact .refl s
  · exact ported_stopEnabled s l
  · exact .refl s

theorem ported_judgePorts (b : State) : Ported s (judgePorts b s) :=
  ported_forEach (fun l t => ported_judgePort t b l) _ s

theorem ported_modePorts (m : Mode) (b : State) : Ported s (modePorts m b s) := by
  unfold modePorts
  split
  · exact ported_forEach (fun l t => ported_stopEnabled t l) _ s
  · exact ported_judgePorts s b

end

theorem Ported.mode {s t : State} (h : Ported s t) : t.mode = s.mode := by
  unfold Ported at h
  rw [h]

/-! ## The new mode (R169) -/

theorem changeMode_mode (m : Mode) (t : Option Nat) (s : State) :
    (changeMode m t s).mode = { s.mode with mode := m, timer := t } := by
  have reacted := (reacts_reactMode m (setModeTimer m t s)).mode
  have forced (u : State) : (forceFor m u).mode = u.mode := by
    unfold forceFor
    split <;> rfl
  have permits (u : State) : (recomputePermits u).mode = u.mode := (judges_recomputePermits u).mode
  have beacons (u : State) : (beaconMode s.mode.mode m u).mode = u.mode := by
    rw [(beaconMode_frame s.mode.mode m u).1]
    rfl
  unfold changeMode
  dsimp only
  rw [(noticeMode_eq _ _ _).1]
  show (modePorts m s _).mode = _
  rw [(ported_modePorts _ m s).mode, beacons, permits, forced, reacted]
  rfl

theorem enterOff_mode (s : State) : (enterOff s).mode.mode = .off := by
  unfold enterOff offBlocks
  exact congrArg ModeController.mode (changeMode_mode .off none s)

theorem conclude_mode (s u : State) :
    (conclude s u).mode.mode = u.mode.mode ∨ (conclude s u).mode.mode = .off := by
  unfold conclude
  rw [(shone_judgeDemands s _).1]
  split
  · exact .inr (enterOff_mode u)
  · exact .inl rfl

theorem event_mode (f : State → State) (s : State) :
    (event f s).mode.mode = (f s).mode.mode ∨ (event f s).mode.mode = .off := by
  rw [event_eq]
  have frame := orderGends_frame s (f s)
  generalize orderGends s (f s) = u at frame ⊢
  have concluded := conclude_mode s u
  rwa [show u.mode.mode = (f s).mode.mode by rw [frame]; rfl] at concluded

theorem event_mode_of_open {f : State → State} {s : State} (h : (f s).mode.mode ≠ .closedown) :
    (event f s).mode = (f s).mode ∧ (event f s).beacon.test = (f s).beacon.test := by
  have frame := orderGends_frame s (f s)
  have closes : event f s = judgeDemands s (orderGends s (f s)) := by
    rw [event_eq]
    unfold conclude
    rw [closedownDone_of_mode (by rw [frame]; exact h)]
    rfl
  obtain ⟨shone, test⟩ := shone_judgeDemands s (orderGends s (f s))
  rw [closes, test]
  rw [shone]
  generalize orderGends s (f s) = u at frame ⊢
  rw [frame]
  exact ⟨rfl, rfl⟩

/-- R175: CLOSEDOWN is entered, or left at once. -/
theorem enterClosedown_mode (s : State) :
    (enterClosedown s).mode.mode = .closedown ∨ (enterClosedown s).mode.mode = .off := by
  unfold enterClosedown
  dsimp only
  split
  · exact .inr (enterOff_mode _)
  · exact .inl (congrArg ModeController.mode (changeMode_mode .closedown _ s))

theorem event_enterClosedown {f : State → State} {s u : State} (effect : f s = enterClosedown u) :
    (event f s).mode.mode = .closedown ∨ (event f s).mode.mode = .off := by
  rcases event_mode f s with e | e
  · rw [e, effect]
    exact enterClosedown_mode u
  · exact .inr e

/-! ## A mode change that cuts, as its event closes (R29, R169) -/

theorem portEnabled_of_same {b s : State} (mode : linkMode b.mode.mode = linkMode s.mode.mode)
    (strap : s.mode.strapLinks = b.mode.strapLinks) (config : s.config = b.config) (l : Link) :
    portEnabled l b = portEnabled l s := by
  unfold portEnabled
  rw [mode, strap, config]

theorem judgePorts_of_same {b s : State} (same : ∀ l, portEnabled l b = portEnabled l s) :
    judgePorts b s = s := by
  refine forEach_fixed (fun l => ?_) _
  unfold judgePort
  rw [same l]
  cases portEnabled l s <;> rfl

/-- R147: between modes that serve links no port is judged anew. -/
theorem changeMode_served {m : Mode} (cuts : cutsAll m = true) (served : linkMode m = true) {s : State}
    (was : linkMode s.mode.mode = true) (h : Sound s) (t : Option Nat) :
    changeMode m t s = noticeMode s.mode.mode m (cutMode m t s) := by
  have frame := (modeCut_cutMode cuts t h).frame
  rw [changeMode_of_cut cuts]
  have on : m ≠ .off := by rintro rfl; cases served
  unfold modePorts
  rw [if_neg on, judgePorts_of_same fun l => portEnabled_of_same (by rw [was, frame]; exact served.symm)
    (by rw [frame]) (by rw [frame]) l]

/-- R29, R111, R169: what a mode change that cuts leaves, as its event closes. -/
structure CutTo (m : Mode) (time : Option Nat) (s u t : State) : Prop where
  cut : AllCut s t
  told : Told (s.grant.table.map fun g => (g, .mode)) s t
  mode : t.mode = { u.mode with mode := m, timer := time }
  test : t.beacon.test = if m = .check then some ⟨0, false⟩ else none
  notice : u.mode.mode ≠ m → Noticed { u.notice.flags with
    gend := u.notice.flags.gend || !s.grant.table.isEmpty, mode := true } u.notice.mask t
  frame : t = { u with
    mode := t.mode, grant := t.grant, drive := t.drive, panel := t.panel, permit := t.permit
    beacon := t.beacon, port := t.port, notice := t.notice }

theorem event_cuts {f : State → State} {s u : State} {m : Mode} {time : Option Nat} (h : Sound s)
    (cuts : cutsAll m = true) (served : linkMode m = true) (was : linkMode u.mode.mode = true)
    (grant : u.grant = s.grant) (port : u.port = s.port) (effect : f s = changeMode m time u) :
    CutTo m time s u (event f s) := by
  have sound := h.of_grant grant
  have cut := modeCut_cutMode cuts time sound
  rw [changeMode_served cuts served was sound] at effect
  have noticed := noticeMode_eq u.mode.mode m (cutMode m time u)
  have raised (change : u.mode.mode ≠ m) : noticeMode u.mode.mode m (cutMode m time u) =
      raise .mode (cutMode m time u) := if_neg change
  generalize noticeMode u.mode.mode m (cutMode m time u) = v at effect noticed raised
  generalize cutMode m time u = e at cut noticed raised
  obtain ⟨ends, told, perm⟩ := cut.told
  have eframe := cut.frame
  obtain ⟨vframe, -, -⟩ := noticed
  have mode : v.mode = { u.mode with mode := m, timer := time } := by rw [vframe, eframe]; rfl
  have stays : closedownDone s v = false := closedownDone_of_mode (by
    rw [mode]
    rintro rfl
    cases cuts)
  have told' : Told ends s v := told_of_port (told_rebase told port) (by rw [vframe]; rfl)
  rw [grant] at perm
  have listed : Listed s.grant.table (s.grant.table.map fun g => (g, Reason.mode)) := by
    have := listed_endsOf cutOut .mode (fun _ => true) h
    rwa [endsOf_cutOut .mode (List.filter _ _), List.filter_true] at this
  obtain ⟨closed, toldOf⟩ := event_ended effect told' perm listed stays
  obtain ⟨-, test⟩ := event_mode_of_open (f := f) (s := s) (by
    rw [effect, mode]
    rintro rfl
    cases cuts)
  rw [effect] at test
  generalize event f s = t at closed toldOf test ⊢
  have off := cut.cut.outputs
  have same : t.grant = e.grant := by rw [closed, vframe]; rfl
  have drive : t.drive = e.drive := by rw [closed, vframe]; rfl
  have panel : t.panel = e.panel := by rw [closed, vframe]; rfl
  refine
    { cut := ⟨by rw [same]; exact cut.cut.table, ?_, by rw [same]; exact cut.cut.slots,
        ⟨by rw [drive]; exact off.output, by rw [drive]; exact off.coil, by rw [drive]; exact off.duty,
          by rw [drive]; exact off.pump, by rw [drive]; exact off.d1, by rw [drive]; exact off.d2,
          by rw [panel]; exact off.near, by rw [panel]; exact off.off⟩⟩
      told := toldOf
      mode := by rw [closed]; exact mode
      test := ?_
      notice := fun change => ?_
      frame := ?_ }
  · rw [same, cut.cut.handle, grant]
  · rw [test, vframe]
    exact cut.test
  · have notice := noticed_raise .mode e
    rw [cut.flags, cut.mask, grant] at notice
    refine noticed_of_notice notice ?_ ?_
    · rw [closed]
      show v.notice = _
      rw [raised change]
    · rw [closed]
      show v.mode = _
      rw [raised change]
  · rw [closed, vframe, eframe]
    rfl

end Sys2Proof.Machine.Steps
end

section
/-! The supply and temperature trips (R173, R177). -/

namespace Sys2Proof.Machine.Steps

open Motion Holds

/-- R134, R175: an event that changes nothing that is judged closes with nothing more done. -/
theorem event_unjudged {f : State → State} {s u : State} (effect : f s = u) (port : u.port = s.port)
    (grant : u.grant = s.grant) (hold : u.hold = s.hold) (axis : u.axis = s.axis)
    (permit : u.permit = s.permit) : event f s = u := by
  rw [event_eq, effect, orderGends_of_port port]
  exact conclude_of_unjudged (by rw [grant]) hold axis permit

/-! ## The counts of the mode controller through a mode change -/

/-- A mode change keeps the samples, the counts, the ignition and the straps. -/
def Moded (s t : State) : Prop :=
  t.mode = { s.mode with mode := t.mode.mode, timer := t.mode.timer, history := t.mode.history
                         loadWaits := t.mode.loadWaits }

theorem moded_of_mode {s t : State} (h : t.mode = s.mode) : Moded s t := by
  unfold Moded
  rw [h]

theorem Moded.trans {s t u : State} (h : Moded s t) (k : Moded t u) : Moded s u := by
  unfold Moded at *
  rw [k, h]

theorem moded_changeMode (m : Mode) (t : Option Nat) (s : State) : Moded s (changeMode m t s) := by
  unfold Moded
  rw [changeMode_mode]

theorem moded_enterOff (s : State) : Moded s (enterOff s) := by
  have change := moded_changeMode .off none s
  unfold enterOff offBlocks
  generalize changeMode .off none s = v at change ⊢
  unfold Moded at change ⊢
  show { v.mode with history := [], loadWaits := false } = { s.mode with
    mode := v.mode.mode, timer := v.mode.timer, history := [], loadWaits := false }
  rw [change]

theorem moded_enterClosedown (s : State) : Moded s (enterClosedown s) := by
  unfold enterClosedown
  dsimp only
  split
  all_goals
    have change := moded_changeMode .closedown (some (closedownMs s)) s
    generalize changeMode .closedown _ s = v at change ⊢
  · exact change.trans (moded_enterOff v)
  · exact change

theorem moded_conclude (s u : State) : Moded u (conclude s u) := by
  unfold conclude
  have shone := (shone_judgeDemands s (if closedownDone s u = true then enterOff u else u)).1
  have mode : (judgeDemands s (if closedownDone s u = true then enterOff u else u)).mode =
      (if closedownDone s u = true then enterOff u else u).mode := by rw [shone]; rfl
  refine Moded.trans ?_ (moded_of_mode mode)
  split
  · exact moded_enterOff u
  · exact moded_of_mode rfl

theorem moded_event (f : State → State) (s : State) : Moded (f s) (event f s) := by
  rw [event_eq]
  have concluded := moded_conclude s (orderGends s (f s))
  have frame := orderGends_frame s (f s)
  generalize orderGends s (f s) = u at concluded frame ⊢
  exact (moded_of_mode (by rw [frame]; rfl)).trans concluded

/-! ## Faults of the part (R177) -/

/-- R177: a fault entered. -/
theorem enterFault_frame (r : FaultRecord) (s : State) :
    enterFault r s = (s.setFaultLog (loggedFault r s.faultLog)).setNotice (enterFault r s).notice ∧
      (enterFault r s).notice.flags = { s.notice.flags with
        fltrec := s.notice.flags.fltrec || s.faultLog.record.isNone } ∧
      (enterFault r s).notice.mask = s.notice.mask := by
  unfold enterFault loggedFault
  cases e : s.faultLog.record with
  | none => exact ⟨rfl, by simp [raise, judgeAttention, addFlag], rfl⟩
  | some k =>
    refine ⟨?_, by simp, rfl⟩
    show s.setFaultLog { s.faultLog with further := _ } = (s.setFaultLog
      { record := some k, further := min 255 (s.faultLog.further + 1) }).setNotice s.notice
    rw [← e]
    rfl

/-- R173, R177: the faults of several trips. -/
theorem partFaults_frame (ks : List FaultKind) (s : State) : forEach enterPartFault ks s =
    (s.setFaultLog (forEach enterPartFault ks s).faultLog).setNotice (forEach enterPartFault ks s).notice := by
  unfold forEach
  induction ks generalizing s with
  | nil => rfl
  | cons k ks ih =>
    have first := (enterFault_frame
      { kind := k, axis := none, coil := none, position := none, mode := s.mode.mode } s).1
    rw [List.foldl_cons]
    refine (ih _).trans ?_
    show ((enterFault _ s).setFaultLog _).setNotice _ = _
    rw [first]
    rfl

theorem takeTrips_of_trips {ks : List FaultKind} {s : State} (trips : ks ≠ [])
    (mode : s.mode.mode = .check ∨ s.mode.mode = .run) :
    takeTrips ks s = changeMode .defer none (forEach enterPartFault ks s) := by
  unfold takeTrips
  rcases mode with e | e <;> rw [e] <;> exact if_neg trips

theorem takeTrips_of_none (s : State) : takeTrips [] s = s := by
  unfold takeTrips
  cases s.mode.mode <;> rfl

theorem takeTrips_elsewhere {s : State} (check : s.mode.mode ≠ .check) (run : s.mode.mode ≠ .run)
    (ks : List FaultKind) : takeTrips ks s = s := by
  unfold takeTrips
  cases e : s.mode.mode <;> first | rfl | exact absurd e check | exact absurd e run

/-- R173, R29: trips taken in CHECK or RUN. -/
theorem event_trips {f : State → State} {s : State} {c : ModeController} {ks : List FaultKind} (h : Sound s)
    (trips : ks ≠ []) (mode : s.mode.mode = .check ∨ s.mode.mode = .run) (same : c.mode = s.mode.mode)
    (effect : f s = takeTrips ks (s.setMode c)) :
    CutTo .defer none s (forEach enterPartFault ks (s.setMode c)) (event f s) := by
  have frame := partFaults_frame ks (s.setMode c)
  rw [takeTrips_of_trips trips (by rw [State.setMode_mode, same]; exact mode)] at effect
  generalize forEach enterPartFault ks (s.setMode c) = u at frame effect ⊢
  refine event_cuts h rfl rfl ?_ (by rw [frame]; rfl) (by rw [frame]; rfl) effect
  rw [frame]
  show linkMode c.mode = true
  rw [same]
  rcases mode with e | e <;> rw [e] <;> rfl

theorem partFault_log (k : FaultKind) (s : State) : (forEach enterPartFault [k] s).faultLog = loggedFault
    { kind := k, axis := none, coil := none, position := none, mode := s.mode.mode } s.faultLog := by
  have frame := (enterFault_frame
    { kind := k, axis := none, coil := none, position := none, mode := s.mode.mode } s).1
  show (enterFault _ s).faultLog = _
  rw [frame]
  rfl

theorem partFaults_mode (ks : List FaultKind) (s : State) : (forEach enterPartFault ks s).mode = s.mode := by
  rw [partFaults_frame]
  rfl

/-! ## A supply sample (R173) -/

/-- R173: the mode controller's record of a sample. -/
def sampled (n : Nat) (u : Int) (s : State) : ModeController :=
  { s.mode with
    supply := n, temperature := u
    lowCount := countTripped lowTripMs (countStep (decide (n < 180)) s.mode.lowCount)
    highCount := countTripped highTripMs (countStep (decide (320 < n)) s.mode.highCount)
    returnCount := countTripped returnMs
      (countStep (decide (200 ≤ n ∧ n ≤ 300 ∧ u < 135)) s.mode.returnCount) }

/-- R173: the trips of a sample. -/
def tripsOf (n : Nat) (u : Int) (s : State) : List FaultKind :=
  sampleTrips (countStep (decide (n < 180)) s.mode.lowCount)
    (countStep (decide (320 < n)) s.mode.highCount) u

/-- R173: a sample that completes the return count. -/
def returns (n : Nat) (u : Int) (s : State) : Bool :=
  decide (returnMs ≤ countStep (decide (200 ≤ n ∧ n ≤ 300 ∧ u < 135)) s.mode.returnCount)

theorem supplySample_eq {s : State} (works : working s = true) (n : Nat) (u : Int) :
    supplySample n u s =
      if returns n u s = true then returnComplete (takeTrips (tripsOf n u s) (s.setMode (sampled n u s)))
      else takeTrips (tripsOf n u s) (s.setMode (sampled n u s)) := by
  unfold supplySample returns
  rw [if_pos works]
  simp only [decide_eq_true_eq]
  rfl

theorem countTripped_eq (rises : Prop) [Decidable rises] (limit n : Nat) :
    countTripped limit (countStep (decide rises) n) =
      (let x := if rises then n + 10 else 0; if limit ≤ x then 0 else x) := by
  unfold countTripped countStep periodMs
  by_cases e : rises <;> simp [e]

theorem tripsOf_eq (n : Nat) (u : Int) (s : State) : tripsOf n u s =
    (if n < 180 ∧ 490 ≤ s.mode.lowCount then [.supplylow] else []) ++
    (if 320 < n ∧ 90 ≤ s.mode.highCount then [.supplyhigh] else []) ++
    (if 150 ≤ u then [.overtemp] else []) := by
  unfold tripsOf sampleTrips countStep lowTripMs highTripMs periodMs
  have low : (500 ≤ if decide (n < 180) = true then s.mode.lowCount + 10 else 0) ↔
      n < 180 ∧ 490 ≤ s.mode.lowCount := by
    by_cases e : n < 180 <;> simp [e]
  have high : (100 ≤ if decide (320 < n) = true then s.mode.highCount + 10 else 0) ↔
      320 < n ∧ 90 ≤ s.mode.highCount := by
    by_cases e : 320 < n <;> simp [e]
  simp only [low, high]

/-- R173: what a trip reported by itself leaves. -/
theorem event_trip {f : State → State} {s : State} {c : ModeController} {k : FaultKind} (h : Sound s)
    (same : c.mode = s.mode.mode) (effect : f s = takeTrips [k] (s.setMode c)) :
    (event f s).mode = { c with mode := (event f s).mode.mode, timer := (event f s).mode.timer } ∧
    (s.mode.mode = .check ∨ s.mode.mode = .run →
      (event f s).mode.mode = .defer ∧ (event f s).mode.timer = none ∧ AllCut s (event f s) ∧
      (event f s).faultLog = loggedFault
        { kind := k, axis := none, coil := none, position := none, mode := s.mode.mode } s.faultLog ∧
      Told (s.grant.table.map fun g => (g, .mode)) s (event f s)) ∧
    (s.mode.mode ≠ .check → s.mode.mode ≠ .run → event f s = s.setMode c) := by
  by_cases trips : s.mode.mode = .check ∨ s.mode.mode = .run
  · have entered := event_trips h (List.cons_ne_nil k []) trips same effect
    have log := partFault_log k (s.setMode c)
    rw [State.setMode_mode, same, State.setMode_faultLog] at log
    have controller := partFaults_mode [k] (s.setMode c)
    have mode := entered.mode
    rw [controller, State.setMode_mode] at mode
    have frame := entered.frame
    generalize event f s = t at entered mode frame ⊢
    generalize forEach enterPartFault [k] (s.setMode c) = u at entered frame log
    exact ⟨by rw [mode], fun _ => ⟨by rw [mode], by rw [mode], entered.cut,
      by rw [frame]; exact log, entered.told⟩, fun check run => (trips.elim check run).elim⟩
  · have elsewhere := not_or.mp trips
    rw [takeTrips_elsewhere (by rw [State.setMode_mode, same]; exact elsewhere.1)
      (by rw [State.setMode_mode, same]; exact elsewhere.2)] at effect
    have closed := event_unjudged (f := f) effect rfl rfl rfl rfl rfl
    rw [closed]
    exact ⟨rfl, fun mode => absurd mode trips, fun _ _ => rfl⟩

theorem returnComplete_of_ign {s : State} (mode : s.mode.mode = .defer) (ign : s.mode.ign = true) :
    returnComplete s = enterRun (s.setMode { s.mode with returnCount := 0 }) := by
  unfold returnComplete
  rw [if_pos mode]
  exact if_pos ign

theorem returnComplete_of_off {s : State} (mode : s.mode.mode = .defer) (ign : s.mode.ign = false) :
    returnComplete s = enterClosedown (s.setMode { s.mode with returnCount := 0 }) := by
  unfold returnComplete
  rw [if_pos mode]
  exact if_neg (by rw [State.setMode_mode, ign]; nofun)

theorem returnComplete_elsewhere {s : State} (mode : s.mode.mode ≠ .defer) : returnComplete s = s :=
  if_neg mode

/-- R173: the samples and counts stand through the completion, but for the return count. -/
theorem moded_returnComplete (s : State) :
    ∃ n, Moded (s.setMode { s.mode with returnCount := n }) (returnComplete s) ∧
      (s.mode.mode ≠ .defer → n = s.mode.returnCount) := by
  by_cases mode : s.mode.mode = .defer
  · refine ⟨0, ?_, fun other => absurd mode other⟩
    cases ign : s.mode.ign
    · rw [returnComplete_of_off mode ign]
      exact moded_enterClosedown _
    · rw [returnComplete_of_ign mode ign]
      exact moded_changeMode _ _ _
  · rw [returnComplete_elsewhere mode]
    exact ⟨s.mode.returnCount, moded_of_mode rfl, fun _ => rfl⟩

theorem moded_takeTrips (ks : List FaultKind) (s : State) : Moded s (takeTrips ks s) := by
  by_cases trips : ks = []
  · rw [trips, takeTrips_of_none]
    exact moded_of_mode rfl
  · by_cases mode : s.mode.mode = .check ∨ s.mode.mode = .run
    · rw [takeTrips_of_trips trips mode]
      exact (moded_of_mode (partFaults_mode ks s)).trans (moded_changeMode _ _ _)
    · rw [takeTrips_elsewhere (not_or.mp mode).1 (not_or.mp mode).2]
      exact moded_of_mode rfl

/-- R173: inside the window nothing trips. -/
theorem tripsOf_of_returns {n : Nat} {u : Int} {s : State} (done : returns n u s = true) :
    tripsOf n u s = [] := by
  have window : 200 ≤ n ∧ n ≤ 300 ∧ u < 135 := by
    by_contra outside
    unfold returns countStep at done
    rw [decide_eq_false outside] at done
    cases done
  rw [tripsOf_eq, if_neg (by omega), if_neg (by omega), if_neg (by omega)]
  rfl

/-- R173: what a sample leaves of the mode controller. -/
theorem moded_sample {s : State} (works : working s = true) (n : Nat) (u : Int) :
    ∃ m, Moded (s.setMode { sampled n u s with returnCount := m }) (supplySample n u s) ∧
      (s.mode.mode ≠ .defer → m = (sampled n u s).returnCount) := by
  rw [supplySample_eq works]
  split
  next done =>
    rw [tripsOf_of_returns done, takeTrips_of_none]
    obtain ⟨m, kept, same⟩ := moded_returnComplete (s.setMode (sampled n u s))
    exact ⟨m, kept, same⟩
  next => exact ⟨(sampled n u s).returnCount, moded_takeTrips _ _, fun _ => rfl⟩

/-- R173: a sample in CHECK or RUN gives its trips. -/
theorem supplySample_of_trips {s : State} (works : working s = true) (n : Nat) (u : Int)
    (mode : s.mode.mode = .check ∨ s.mode.mode = .run) :
    supplySample n u s = takeTrips (tripsOf n u s) (s.setMode (sampled n u s)) := by
  rw [supplySample_eq works]
  split
  next done =>
    rw [tripsOf_of_returns done, takeTrips_of_none]
    refine returnComplete_elsewhere (fun e => ?_)
    rcases mode with m | m <;> exact nomatch m.symm.trans e
  next => rfl

/-- Settles O57: a trip is entered before the mode changes, and a sample inside the window trips
nothing. -/
theorem supplyTripsDefer : Obligations.SupplyTripsDefer := by
  unfold Obligations.SupplyTripsDefer
  intro c k n u s ok slots
  have sound : Sound s := ⟨ok, slots⟩
  refine ⟨fun trip => ?_, ⟨event returnComplete s, rfl, fun other => ?_, fun defer ign => ?_,
    fun defer ign => ?_⟩, ⟨event (supplySample n u) s, rfl, fun rests => ?_, fun works => ?_⟩⟩
  · rcases List.mem_pair.mp trip with e | e <;> cases e
    · obtain ⟨mode, trips, elsewhere⟩ := event_trip (f := lowTrip) (s := s)
        (c := { s.mode with lowCount := 0 }) (k := .supplylow) sound rfl rfl
      refine ⟨_, rfl, fun _ => by rw [mode], nofun, trips, fun check run => ?_⟩
      rw [elsewhere check run]
      exact ⟨rfl, rfl⟩
    · obtain ⟨mode, trips, elsewhere⟩ := event_trip (f := highTrip) (s := s)
        (c := { s.mode with highCount := 0 }) (k := .supplyhigh) sound rfl rfl
      refine ⟨_, rfl, nofun, fun _ => by rw [mode], trips, fun check run => ?_⟩
      rw [elsewhere check run]
      exact ⟨rfl, rfl⟩
  · exact event_fixed (returnComplete_elsewhere other)
  · have effect := returnComplete_of_ign defer ign
    have mode : (returnComplete s).mode = { s.mode with mode := .run, timer := none, returnCount := 0 } := by
      rw [effect]
      exact changeMode_mode .run none _
    exact (event_mode_of_open (by rw [mode]; exact fun e => nomatch e)).1.trans mode
  · exact event_enterClosedown (returnComplete_of_off defer ign)
  · exact event_fixed (if_neg (by rw [rests]; nofun))
  · obtain ⟨m, kept, same⟩ := moded_sample works n u
    have mode := kept.trans (moded_event (supplySample n u) s)
    have counts := countTripped_eq (200 ≤ n ∧ n ≤ 300 ∧ u < 135) returnMs s.mode.returnCount
    have low := countTripped_eq (n < 180) lowTripMs s.mode.lowCount
    have high := countTripped_eq (320 < n) highTripMs s.mode.highCount
    unfold Moded at mode
    refine ⟨by rw [mode]; rfl, by rw [mode]; rfl, fun other => ?_, ?_, ?_, fun judged => ?_⟩
    · rw [mode]
      exact (same other).trans counts
    · rw [mode]
      exact low
    · rw [mode]
      exact high
    have effect := supplySample_of_trips works n u judged
    refine ⟨fun trips => ?_, fun inLow inHigh => ⟨fun hot => ?_, fun cool => ?_⟩⟩
    · have entered := event_trips (c := sampled n u s) (ks := tripsOf n u s) sound (by
        rw [tripsOf_eq]
        rcases trips with e | e | e <;> rw [if_pos e] <;> simp) judged rfl effect
      exact ⟨by rw [entered.mode], entered.cut⟩
    · rw [tripsOf_eq, if_neg (by omega), if_neg (by omega), if_pos hot] at effect
      exact ((event_trip (c := sampled n u s) (k := .overtemp) sound rfl effect).2.1 judged).2.2.2.1
    · rw [tripsOf_eq, if_neg (by omega), if_neg (by omega), if_neg (by omega)] at effect
      replace effect := effect.trans (takeTrips_of_none _)
      rw [event_unjudged effect rfl rfl rfl rfl rfl]
      exact ⟨rfl, rfl⟩

end Sys2Proof.Machine.Steps
end

section
/-! The dither flip and the start delay (R101, R107). -/

namespace Sys2Proof.Machine.Steps

open Motion Holds

/-- The drive record with its coil commands replaced. -/
def withCoils (c : PerCoil Nat) (s : State) : State := s.setDrive { s.drive with coil := c }

theorem coilCommand_withCoils (k : Coil) (c : PerCoil Nat) (s : State) :
    coilCommand k (withCoils c s) = coilCommand k s := rfl

/-- R107: every coil command set from its base current. -/
theorem setCoils_eq (s : State) : forEach setCoil Coil.list s =
    withCoils ⟨coilCommand .c1 s, coilCommand .c2 s, coilCommand .c3 s, coilCommand .c4 s⟩ s := by
  have one (k : Coil) (c : PerCoil Nat) :
      setCoil k (withCoils c s) = withCoils (c.set k (coilCommand k s)) s := by
    unfold setCoil
    rw [coilCommand_withCoils]
    rfl
  show setCoil .c4 (setCoil .c3 (setCoil .c2 (setCoil .c1 (withCoils s.drive.coil s)))) = _
  rw [one, one, one, one]
  rfl

/-- R107: the drive record after a flip, its coil commands still those before. -/
def flipped (s : State) : State :=
  s.setDrive { s.drive with
    ditherPhase := flipPhase s.drive.ditherPhase, ditherTimer := some s.drive.halfPeriodInForce }

theorem coilCommand_of_base (k : Coil) (s : State) :
    (channelBase k s = 0 → coilCommand k s = 0) ∧
    (channelBase k s ≠ 0 → s.drive.ditherPhase = .plus → coilCommand k s =
      min (s.config.drive.imax.get k) (channelBase k s + s.config.drive.ditherAmplitude)) ∧
    (channelBase k s ≠ 0 → s.drive.ditherPhase = .minus →
      coilCommand k s = channelBase k s - s.config.drive.ditherAmplitude) := by
  unfold coilCommand ditherCommand
  exact ⟨fun base => if_pos base, fun base phase => by rw [if_neg base, phase],
    fun base phase => by rw [if_neg base, phase]⟩

theorem flipPhase_ne (p : DitherPhase) : flipPhase p ≠ p := by cases p <;> nofun

/-- Settles O41: the base currents do not read what a flip changes. -/
theorem ditherAndStartDelayRunOut : Obligations.DitherAndStartDelayRunOut := by
  unfold Obligations.DitherAndStartDelayRunOut
  intro s
  refine ⟨⟨event ditherFlip s, rfl, fun runs => event_fixed (if_neg runs), fun due => ?_⟩,
    ⟨event Machine.startDelayExpiry s, rfl, event_unjudged rfl rfl rfl rfl rfl rfl⟩⟩
  have effect : ditherFlip s = _ := (if_pos due).trans (setCoils_eq (flipped s))
  rw [event_unjudged effect rfl rfl rfl rfl rfl]
  refine ⟨rfl, rfl, flipPhase_ne _, fun k => ?_⟩
  have command : (withCoils ⟨coilCommand .c1 (flipped s), coilCommand .c2 (flipped s),
      coilCommand .c3 (flipped s), coilCommand .c4 (flipped s)⟩ (flipped s)).drive.coil.get k =
        coilCommand k (flipped s) := by
    cases k <;> rfl
  rw [command]
  exact coilCommand_of_base k (flipped s)

end Sys2Proof.Machine.Steps
end

section
/-! What the steps of WAKE leave alone (R171). -/

namespace Sys2Proof.Machine.Steps

open Motion Holds

/-! ## The notices a reaction reports (R23, R167) -/

/-- Of the notice flags a change may set GEND alone. -/
structure Gends (s t : State) : Prop where
  flags : t.notice.flags = { s.notice.flags with gend := t.notice.flags.gend }
  mask : t.notice.mask = s.notice.mask

theorem Gends.refl (s : State) : Gends s s := ⟨rfl, rfl⟩

theorem Gends.trans {s t u : State} (h : Gends s t) (k : Gends t u) : Gends s u :=
  ⟨by rw [k.flags, h.flags], k.mask.trans h.mask⟩

theorem gends_of_notice {s t : State} (h : t.notice = s.notice) : Gends s t := ⟨by rw [h], by rw [h]⟩

theorem gends_forEach {α : Type} {f : α → State → State} (hf : ∀ x s, Gends s (f x s)) (l : List α)
    (s : State) : Gends s (forEach f l s) := by
  unfold forEach
  induction l generalizing s with
  | nil => exact .refl s
  | cons x xs ih => exact (hf x s).trans (ih _)

section
variable (s : State)

theorem gends_setPanel {t : State} (h : t = s.setPanel t.panel) : Gends s t :=
  gends_of_notice (by rw [h]; rfl)

theorem gends_placeMessage (l : Link) (m : OutMsg) : Gends s (placeMessage l m s) :=
  gends_of_notice (by rw [placeMessage_frame]; rfl)

theorem gends_gendDue (g : Grant) (r : Reason) : Gends s (gendDue g r s) := by
  unfold gendDue
  split
  · exact .refl s
  · exact (gends_placeMessage s _ _).trans ⟨rfl, rfl⟩

theorem gends_startGrant (g : Grant) : Gends s (startGrant g s) :=
  (gends_of_notice (s := s) (t := driveStart g s) rfl).trans (gends_setPanel _ (panelStart_frame _ g))

theorem gends_passSlot (r : Resource) : Gends s (passSlot r s) := by
  unfold passSlot
  split
  · exact gends_of_notice rfl
  · split
    · exact gends_of_notice rfl
    · exact (gends_of_notice (s := s) (by rfl)).trans (gends_startGrant _ _)

theorem gends_leaveSlot (g : Grant) : Gends s (leaveSlot g s) := by
  unfold leaveSlot
  dsimp only
  split
  · exact ((gends_of_notice (s := s) (t := driveEnd g.axis s) rfl).trans
      (gends_setPanel _ (panelStop_frame _ g.axis))).trans (gends_passSlot _ _)
  · split
    · exact gends_of_notice rfl
    · exact .refl s

theorem gends_retire (g : Grant) (r : Reason) : Gends s (retire g r s) :=
  ((gends_of_notice (s := s) (t := dropGrant g.handle s) rfl).trans (gends_leaveSlot _ g)).trans
    (gends_gendDue _ g r)

theorem gends_gatedStop (a : Axis) : Gends s (gatedStop a s) := by
  unfold gatedStop
  split
  · exact .refl s
  · split <;> exact gends_of_notice rfl

theorem gends_ease (g : Grant) (r : Reason) : Gends s (ease g r s) := by
  have wound (x : Grant) : Gends s (panelWindDown g.axis (gatedStop g.axis (putGrant x s))) :=
    ((gends_of_notice (s := s) (t := putGrant x s) rfl).trans (gends_gatedStop _ g.axis)).trans
      (gends_setPanel _ (panelWindDown_frame _ g.axis))
  unfold ease
  dsimp only
  split
  · exact (wound _).trans (gends_retire _ g r)
  · exact wound _

theorem gends_windDown (r : Reason) (g : Grant) : Gends s (windDown r g s) := by
  unfold windDown
  split
  · exact gends_retire s g r
  · exact gends_ease s g r
  · exact gends_ease s g r
  · exact .refl s

theorem gends_forGrants (sel : Grant → Bool) {f : Grant → State → State}
    (hf : ∀ g s, Gends s (f g s)) : Gends s (forGrants sel f s) := by
  have one (h : Nat) (t : State) : Gends t (onGrant h f t) := by
    unfold onGrant
    split
    · exact .refl t
    · exact hf _ t
  exact (gends_forEach one _ s).trans (gends_forEach one _ _)

theorem gends_easeGrants (r : Reason) (sel : Grant → Bool) : Gends s (easeGrants r sel s) :=
  gends_forGrants s sel fun g t => gends_windDown t r g

theorem gends_cutGrants (r : Reason) (sel : Grant → Bool) : Gends s (cutGrants r sel s) :=
  gends_forGrants s sel fun g t => gends_retire t g r

theorem gends_recomputePermits : Gends s (recomputePermits s) :=
  (gends_of_notice (s := s) (t := remapped s) rfl).trans (gends_easeGrants _ _ _)

end

theorem forGrants_of_empty {s : State} (empty : s.grant.table = []) (sel : Grant → Bool)
    (f : Grant → State → State) : forGrants sel f s = s := by
  unfold forGrants
  simp only [empty]
  rfl

/-! ## What the steps of WAKE leave alone -/

/-- The mode, the inputs, the configuration and the store are as they were, so are the fitted axes, the
line, and of the permit monitor the lines and the speed record; with no grant live the grants are too. -/
structure Wakes (s t : State) : Prop where
  mode : t.mode = s.mode
  inputs : t.inputs = s.inputs
  config : t.config = s.config
  store : t.store = s.store
  fitted : t.axis.fitted = s.axis.fitted
  line : t.hold.line = s.hold.line
  permit : t.permit = { s.permit with
    pressure := t.permit.pressure, overload := t.permit.overload, derate := t.permit.derate
    deployMove := t.permit.deployMove, map := t.permit.map }
  cfgdef : t.notice.flags.cfgdef = s.notice.flags.cfgdef
  grant : s.grant.table = [] → t.grant = s.grant

theorem Wakes.refl (s : State) : Wakes s s := ⟨rfl, rfl, rfl, rfl, rfl, rfl, rfl, rfl, fun _ => rfl⟩

theorem Wakes.trans {s t u : State} (h : Wakes s t) (k : Wakes t u) : Wakes s u where
  mode := k.mode.trans h.mode
  inputs := k.inputs.trans h.inputs
  config := k.config.trans h.config
  store := k.store.trans h.store
  fitted := k.fitted.trans h.fitted
  line := k.line.trans h.line
  permit := by rw [k.permit, h.permit]
  cfgdef := k.cfgdef.trans h.cfgdef
  grant := fun e => (k.grant (by rw [h.grant e, e])).trans (h.grant e)

theorem wakes_forEach {α : Type} {f : α → State → State} (hf : ∀ x s, Wakes s (f x s)) (l : List α)
    (s : State) : Wakes s (forEach f l s) := by
  unfold forEach
  induction l generalizing s with
  | nil => exact .refl s
  | cons x xs ih => exact (hf x s).trans (ih _)

section
variable (s : State)

theorem wakes_forGrants (sel : Grant → Bool) {f : Grant → State → State} (reacts : ∀ g s, Reacts s (f g s))
    (gends : ∀ g s, Gends s (f g s)) : Wakes s (forGrants sel f s) := by
  have h := reacts_forGrants sel reacts s
  have k := gends_forGrants s sel gends
  exact
    { mode := h.mode, inputs := h.inputs, config := h.config, store := h.store
      fitted := by rw [h.axis], line := by rw [h.hold], permit := by rw [h.permit]
      cfgdef := by rw [k.flags], grant := fun e => by rw [forGrants_of_empty e] }

theorem wakes_easeGrants (r : Reason) (sel : Grant → Bool) : Wakes s (easeGrants r sel s) :=
  wakes_forGrants s sel (fun g t => reacts_windDown r g t) fun g t => gends_windDown t r g

theorem wakes_cutGrants (r : Reason) (sel : Grant → Bool) : Wakes s (cutGrants r sel s) :=
  wakes_forGrants s sel (fun g t => reacts_retire g r t) fun g t => gends_retire t g r

theorem wakes_setAxis {v : AxisUnit} (h : v.fitted = s.axis.fitted) : Wakes s (s.setAxis v) :=
  ⟨rfl, rfl, rfl, rfl, h, rfl, rfl, rfl, fun _ => rfl⟩

theorem wakes_setBeacon (v : BeaconController) : Wakes s (s.setBeacon v) :=
  ⟨rfl, rfl, rfl, rfl, rfl, rfl, rfl, rfl, fun _ => rfl⟩

theorem wakes_setDrive (v : DriveShaper) : Wakes s (s.setDrive v) :=
  ⟨rfl, rfl, rfl, rfl, rfl, rfl, rfl, rfl, fun _ => rfl⟩

theorem wakes_setPanel (v : PanelSequencer) : Wakes s (s.setPanel v) :=
  ⟨rfl, rfl, rfl, rfl, rfl, rfl, rfl, rfl, fun _ => rfl⟩

theorem wakes_setFaultLog (v : FaultLog) : Wakes s (s.setFaultLog v) :=
  ⟨rfl, rfl, rfl, rfl, rfl, rfl, rfl, rfl, fun _ => rfl⟩

theorem wakes_setPermit {v : PermitMonitor} (h : v = { s.permit with
    pressure := v.pressure, overload := v.overload, derate := v.derate
    deployMove := v.deployMove, map := v.map }) : Wakes s (s.setPermit v) :=
  ⟨rfl, rfl, rfl, rfl, rfl, rfl, h, rfl, fun _ => rfl⟩

theorem wakes_judgeAttention : Wakes s (judgeAttention s) :=
  ⟨rfl, rfl, rfl, rfl, rfl, rfl, rfl, rfl, fun _ => rfl⟩

theorem wakes_raise {f : NoticeFlag} (h : f ≠ .cfgdef) : Wakes s (raise f s) := by
  refine ⟨rfl, rfl, rfl, rfl, rfl, rfl, rfl, ?_, fun _ => rfl⟩
  show (addFlag f s.notice.flags).cfgdef = _
  cases f <;> first | rfl | exact absurd rfl h

theorem wakes_recomputePermits : Wakes s (recomputePermits s) :=
  (wakes_setPermit s rfl).trans (wakes_easeGrants _ _ _)

theorem wakes_judgeDeployMove : Wakes s (judgeDeployMove s) := by
  unfold judgeDeployMove
  dsimp only
  split
  · exact (wakes_setPermit s rfl).trans (wakes_raise _ nofun)
  · exact wakes_setPermit s rfl

theorem wakes_permitEvent : Wakes s (permitEvent s) :=
  (wakes_judgeDeployMove s).trans (wakes_recomputePermits _)

theorem wakes_samplePressure : Wakes s (samplePressure s) := by
  unfold samplePressure
  dsimp only
  split
  · exact wakes_setPermit s rfl
  · exact (wakes_setPermit s rfl).trans (wakes_recomputePermits _)

theorem wakes_judgeHealth : Wakes s (judgeHealth s) := by
  unfold judgeHealth
  dsimp only
  split
  · exact wakes_setBeacon s _
  · exact (wakes_setBeacon s _).trans (wakes_recomputePermits _)

theorem wakes_enterFault (r : FaultRecord) : Wakes s (enterFault r s) := by
  unfold enterFault
  split
  · exact (wakes_setFaultLog s _).trans (wakes_raise _ nofun)
  · exact wakes_setFaultLog s _

theorem wakes_setFault (a : Axis) (c : FaultCode) (k : Option Coil) : Wakes s (setFault a c k s) := by
  unfold setFault
  dsimp only
  split
  · exact (((wakes_setAxis s (by rfl)).trans (wakes_cutGrants _ _ _)).trans
      (wakes_raise _ (f := .fault) nofun)).trans (wakes_enterFault _ _)
  · exact .refl s

theorem wakes_conditionFaultStep (a : Axis) : Wakes s (conditionFaultStep a s) := by
  unfold conditionFaultStep
  split
  · exact wakes_setFault s _ _ _
  · exact .refl s

theorem wakes_stallStep : Wakes s (stallStep s) := by
  unfold stallStep
  dsimp only
  split
  · exact wakes_setAxis s rfl
  · split
    · exact wakes_setAxis s rfl
    · split
      · exact wakes_setAxis s rfl
      · split
        · exact wakes_setFault s _ _ _
        · exact wakes_setAxis s rfl

/-- R52: a sample changes no fitted axis. -/
theorem computeAxes_fitted (c : WorkingConfig) (u : AxisUnit) : (computeAxes c u).fitted = u.fitted := by
  have lift (u : AxisUnit) : (computeLift c u).fitted = u.fitted := by
    unfold computeLift
    dsimp only
    split <;> rfl
  have tilt (u : AxisUnit) : (computeTilt c u).fitted = u.fitted := by
    unfold computeTilt
    dsimp only
    split <;> rfl
  have guard (b : Bool) (f : AxisUnit → AxisUnit) (hf : ∀ u, (f u).fitted = u.fitted) (u : AxisUnit) :
      (if b = true then f u else u).fitted = u.fitted := by
    split
    · exact hf u
    · rfl
  unfold computeAxes
  extract_lets a b c d e
  rw [guard _ (computeDoor .odor) (fun _ => rfl), guard _ (computeDoor .ndor) (fun _ => rfl),
    guard _ computeShut (fun _ => rfl), guard _ computeFold (fun _ => rfl), guard _ _ tilt, guard _ _ lift]

theorem wakes_evaluateSample (b : Bool) : Wakes s (evaluateSample b s) := by
  have computed := (wakes_setAxis s (computeAxes_fitted s.config s.axis)).trans
    (wakes_forEach (fun a t => wakes_conditionFaultStep t a) Axis.list _)
  unfold evaluateSample
  dsimp only
  split
  · exact computed.trans (wakes_stallStep _)
  · exact computed

theorem wakes_takeSample : Wakes s (takeSample s) := by
  have taken := (wakes_setAxis s (v := (takeReadings s).axis) rfl).trans (wakes_evaluateSample _ true)
  unfold takeSample reportFlags
  split
  · exact taken
  · exact taken.trans (wakes_permitEvent _)

theorem wakes_placeLineStop : Wakes s (placeLineStop s) := by
  have held (v : HoldTable) (e : v.line = s.hold.line) : Wakes s (s.setHold v) :=
    ⟨rfl, rfl, rfl, rfl, rfl, e, rfl, rfl, fun _ => rfl⟩
  unfold placeLineStop
  split
  · exact .refl s
  · exact ((held _ (by rfl)).trans (wakes_cutGrants _ _ _)).trans (wakes_raise _ (f := .hold) nofun)

theorem wakes_wakeHolds : Wakes (setLine s.inputs.estop s) (wakeHolds s) := by
  unfold wakeHolds
  dsimp only
  split
  · exact wakes_placeLineStop _
  · exact .refl _

theorem wakes_wakePanel : Wakes s (wakePanel s) := by
  unfold wakePanel
  extract_lets i rest loose door w t panel u
  have shut : Wakes s u := wakes_setPanel s _
  have each (d : Door) (v : State) : Wakes v (door d v) := wakes_setPanel v _
  exact (shut.trans (each .ndor u)).trans (each .odor _)

end

theorem applyFitted_fitted (u : AxisUnit) : (applyFitted u).fitted = u.fitted := by
  have one (u : AxisUnit) (a : Axis) : (if u.fitted.get a then u else unfittedAxis a u).fitted = u.fitted := by
    split
    · rfl
    · cases a <;> rfl
  unfold applyFitted Axis.list
  simp only [List.foldl_cons, List.foldl_nil]
  rw [one, one, one, one, one, one]

/-- R47, R89: what the steps of WAKE set before the first sample. -/
def wakeLines (s : State) : State := setLine s.inputs.estop (wakePermits s)

/-- R171: the steps of WAKE after the load. -/
theorem wakes_wakeBlocks (before : PerLamp (Option Zone)) (s : State) :
    Wakes (wakeLines s) (wakeBlocks before s) := by
  have axes : Wakes (wakeLines s) (setLine s.inputs.estop (wakePermits (wakeAxes s))) :=
    ⟨rfl, rfl, rfl, rfl, applyFitted_fitted _, rfl, rfl, rfl, fun _ => rfl⟩
  have lined := axes.trans (wakes_wakeHolds (wakePermits (wakeAxes s)))
  have driven (u : State) : Wakes u (wakeDrive u) := wakes_setDrive u _
  have lit (u : State) : Wakes u (wakeBeacons before u) :=
    (wakes_setBeacon u (clearExclusions before u).beacon).trans (wakes_judgeHealth _)
  have sampled := (((lined.trans (wakes_wakePanel _)).trans (driven _)).trans (lit _)).trans
    (wakes_takeSample _)
  exact ((sampled.trans (wakes_samplePressure _)).trans (wakes_recomputePermits _)).trans
    (wakes_judgeAttention _)

/-- R166, R171: the configuration a load takes. -/
def storedConfig (s : State) : WorkingConfig := if s.store.valid then s.store.stored else defaultConfig

theorem loadConfig_eq (s : State) : (loadConfig s).config = storedConfig s ∧
    loadConfig s = { s with config := (loadConfig s).config, notice := (loadConfig s).notice } ∧
    (loadConfig s).notice.flags.cfgdef = (s.notice.flags.cfgdef || !s.store.valid) := by
  unfold loadConfig storedConfig
  cases s.store.valid
  · exact ⟨rfl, rfl, by simp [raise, judgeAttention, addFlag]⟩
  · exact ⟨rfl, rfl, by simp⟩

/-- R171: a WAKE whose load has been taken. -/
structure Finished (s t : State) : Prop where
  mode : t.mode = { s.mode with loadWaits := false, timer := if s.mode.mode = .wake then some 50 else s.mode.timer }
  inputs : t.inputs = s.inputs
  config : t.config = storedConfig s
  store : t.store = s.store
  fitted : t.axis.fitted = s.axis.fitted
  line : t.hold.line = s.inputs.estop
  ign : t.permit.ign = s.mode.ign
  pbrk : t.permit.pbrk = s.inputs.pbrk
  speed : t.permit.speed = .unknown
  pulse : t.permit.pulseTimer = some 1000
  cfgdef : t.notice.flags.cfgdef = (s.notice.flags.cfgdef || !s.store.valid)
  grant : s.grant.table = [] → t.grant = s.grant

theorem finished_finishWake (s : State) : Finished s (finishWake s) := by
  obtain ⟨config, frame, cfgdef⟩ := loadConfig_eq (s.setMode { s.mode with loadWaits := false })
  have woken := wakes_wakeBlocks s.config.lamp.zone (loadConfig (s.setMode { s.mode with loadWaits := false }))
  unfold finishWake
  dsimp only
  generalize loadConfig (s.setMode { s.mode with loadWaits := false }) = u at config frame cfgdef woken ⊢
  generalize wakeBlocks s.config.lamp.zone u = v at woken ⊢
  have mode : v.mode = { s.mode with loadWaits := false } := by rw [woken.mode]; show u.mode = _; rw [frame]; rfl
  have permit := woken.permit
  have done : Finished s (v.setMode { s.mode with
      loadWaits := false, timer := if s.mode.mode = .wake then some 50 else s.mode.timer }) :=
    { mode := rfl
      inputs := by rw [State.setMode_inputs, woken.inputs]; show u.inputs = _; rw [frame]; rfl
      config := by rw [State.setMode_config, woken.config]; exact config
      store := by rw [State.setMode_store, woken.store]; show u.store = _; rw [frame]; rfl
      fitted := by rw [State.setMode_axis, woken.fitted]; show u.axis.fitted = _; rw [frame]; rfl
      line := by rw [State.setMode_hold, woken.line]; show u.inputs.estop = _; rw [frame]; rfl
      ign := by rw [State.setMode_permit, permit]; show u.mode.ign = _; rw [frame]; rfl
      pbrk := by rw [State.setMode_permit, permit]; show u.inputs.pbrk = _; rw [frame]; rfl
      speed := by rw [State.setMode_permit, permit]; rfl
      pulse := by rw [State.setMode_permit, permit]; rfl
      cfgdef := by rw [State.setMode_notice, woken.cfgdef]; exact cfgdef
      grant := fun empty => by
        have same : u.grant = s.grant := by rw [frame]; rfl
        exact (woken.grant (by show u.grant.table = []; rw [same, empty])).trans same }
  rw [show v.mode.mode = s.mode.mode by rw [mode]]
  split
  next wake =>
    rw [if_pos wake] at done
    rw [mode]
    exact done
  next other =>
    rw [if_neg other] at done
    have self : v.setMode { s.mode with loadWaits := false, timer := s.mode.timer } = v := by
      show v.setMode { s.mode with loadWaits := false } = v
      rw [← mode]
      rfl
    rwa [self] at done

end Sys2Proof.Machine.Steps
end

section
/-! Entry into WAKE (R171) and power-on (R170). -/

namespace Sys2Proof.Machine.Steps

open Motion Holds

/-! ## Entry into WAKE (R169, R171) -/

/-- R169: entry into WAKE from a mode that serves no links, but for the outputs and the mode itself. -/
theorem wakes_changeMode {s : State} (unserved : linkMode s.mode.mode = false) (t : Option Nat) :
    Wakes (setModeTimer .wake t s) (changeMode .wake t s) := by
  have permits := (wakes_setDrive (setModeTimer .wake t s) (forceOutputs (setModeTimer .wake t s)).drive).trans
    (wakes_setPanel _ (forceOutputs (setModeTimer .wake t s)).panel)
  have mapped := permits.trans (wakes_recomputePermits (forceFor .wake (setModeTimer .wake t s)))
  have lit (u : State) : Wakes u (beaconMode s.mode.mode .wake u) := by
    rw [(beaconMode_frame s.mode.mode .wake u).1]
    exact wakes_setBeacon u _
  have dark := mapped.trans (lit _)
  have noticed (u : State) : Wakes u (noticeMode s.mode.mode .wake u) := by
    unfold noticeMode
    split
    · exact .refl u
    · exact wakes_raise u (f := .mode) nofun
  have mode := dark.mode
  unfold changeMode
  dsimp only
  show Wakes _ (noticeMode _ _ (modePorts .wake s (beaconMode s.mode.mode .wake
    (recomputePermits (forceFor .wake (setModeTimer .wake t s))))))
  generalize beaconMode s.mode.mode .wake
    (recomputePermits (forceFor .wake (setModeTimer .wake t s))) = u at dark mode ⊢
  have ports : modePorts .wake s u = u := judgePorts_of_same fun l => by
    unfold portEnabled
    rw [unserved, mode]
    rfl
  rw [ports]
  exact dark.trans (noticed u)

/-- R171: the straps read. -/
theorem readStraps_frame (s : State) : ∃ n : Notices, readStraps s = ((s.setAxis { s.axis with
      fitted := (variantAxes s.inputs.straps.variant).getD (.all true) }).setMode { s.mode with
        strapLinks := (stationLinks s.inputs.straps.stations).getD (firstLinks 3) }).setNotice n ∧
      n.flags.cfgdef = s.notice.flags.cfgdef := by
  unfold readStraps
  dsimp only
  split
  · exact ⟨_, rfl, rfl⟩
  · exact ⟨s.notice, rfl, rfl⟩

/-- R171, R173: a WAKE entered, before its load. -/
structure Woke (s t : State) : Prop where
  mode : t.mode = { s.mode with
    mode := .wake, timer := none, lowCount := 0, highCount := 0, returnCount := 0
    strapLinks := (stationLinks s.inputs.straps.stations).getD (firstLinks 3) }
  inputs : t.inputs = s.inputs
  config : t.config = s.config
  store : t.store = s.store
  fitted : t.axis.fitted = (variantAxes s.inputs.straps.variant).getD (.all true)
  cfgdef : t.notice.flags.cfgdef = s.notice.flags.cfgdef
  grant : s.grant.table = [] → t.grant = s.grant

theorem woke_of_unserved {s : State} (unserved : linkMode s.mode.mode = false) :
    Woke s (readStraps (wakeSupply (changeMode .wake none s))) := by
  have changed := wakes_changeMode unserved none
  have mode := changeMode_mode .wake none s
  generalize changeMode .wake none s = u at changed mode ⊢
  obtain ⟨n, read, cfgdef⟩ := readStraps_frame (wakeSupply u)
  rw [read]
  have inputs : u.inputs = s.inputs := changed.inputs
  refine ⟨?_, inputs, changed.config, changed.store, ?_, cfgdef.trans changed.cfgdef, changed.grant⟩
  · show ({ u.mode with
      lowCount := 0, highCount := 0, returnCount := 0
      strapLinks := (stationLinks u.inputs.straps.stations).getD (firstLinks 3) } : ModeController) = _
    rw [mode, inputs]
  · show (variantAxes u.inputs.straps.variant).getD _ = _
    rw [inputs]

theorem enterWake_waits {s : State} (saves : s.store.save.isSome = true)
    (unserved : linkMode s.mode.mode = false) :
    ∃ u, Woke s u ∧ enterWake s = u.setMode { u.mode with loadWaits := true } := by
  have woke := woke_of_unserved unserved
  refine ⟨_, woke, ?_⟩
  unfold enterWake
  exact if_pos (by rw [woke.store, saves])

theorem enterWake_loads {s : State} (free : s.store.save = none) (unserved : linkMode s.mode.mode = false) :
    ∃ u, Woke s u ∧ enterWake s = finishWake u := by
  have woke := woke_of_unserved unserved
  refine ⟨_, woke, ?_⟩
  unfold enterWake
  exact if_neg (by rw [woke.store, free]; nofun)

/-! ## The close of an event that leaves CLOSEDOWN alone -/

/-- R134: an event that does not leave CLOSEDOWN in force closes with its GENDs in order and the demands
judged. -/
theorem event_open {f : State → State} {s u : State} (effect : f s = u) (mode : u.mode.mode ≠ .closedown) :
    ∃ b, event f s = (u.setPort (orderGends s u).port).setBeacon b ∧ b.test = u.beacon.test := by
  have test := (event_mode_of_open (f := f) (s := s) (by rw [effect]; exact mode)).2
  rw [event_eq, effect] at test ⊢
  have frame := orderGends_frame s u
  generalize orderGends s u = v at test frame ⊢
  have closes := conclude_frame (s := s) (u := v) (closedownDone_of_mode (by rw [frame]; exact mode))
  generalize conclude s v = w at test closes ⊢
  refine ⟨w.beacon, ?_, test⟩
  rw [closes]
  show v.setBeacon w.beacon = _
  rw [frame]
  rfl

theorem outputsOff_of_blocks {t w : State} (h : OutputsOff t) (drive : w.drive = t.drive)
    (panel : w.panel = t.panel) : OutputsOff w :=
  ⟨by rw [drive]; exact h.output, by rw [drive]; exact h.coil, by rw [drive]; exact h.duty,
    by rw [drive]; exact h.pump, by rw [drive]; exact h.d1, by rw [drive]; exact h.d2,
    by rw [panel]; exact h.near, by rw [panel]; exact h.off⟩

theorem allCut_of_blocks {s u t w : State} (h : AllCut u t) (handle : u.grant.lastHandle = s.grant.lastHandle)
    (grant : w.grant = t.grant) (drive : w.drive = t.drive) (panel : w.panel = t.panel) : AllCut s w :=
  ⟨by rw [grant]; exact h.table, by rw [grant]; exact h.handle.trans handle, by rw [grant]; exact h.slots,
    outputsOff_of_blocks h.outputs drive panel⟩

/-- R29, R169: a mode that cuts is entered from a state in which grants may have ended before. -/
theorem event_enters {f : State → State} {s u : State} {m : Mode} {time : Option Nat} (h : Sound u)
    (cuts : cutsAll m = true) (served : linkMode m = true) (was : linkMode u.mode.mode = true)
    (handle : u.grant.lastHandle = s.grant.lastHandle) (effect : f s = changeMode m time u) :
    (event f s).mode = { u.mode with mode := m, timer := time } ∧ AllCut s (event f s) ∧
      (event f s).beacon.test = (if m = .check then some ⟨0, false⟩ else none) := by
  have mode := changeMode_mode m time u
  have cut := modeCut_cutMode cuts time h
  have changed := changeMode_served cuts served was h time
  have noticed := (noticeMode_eq u.mode.mode m (cutMode m time u)).1
  rw [← changed] at noticed
  have closed : m ≠ .closedown := by
    rintro rfl
    cases cuts
  obtain ⟨b, closes, test⟩ := event_open effect (by rw [mode]; exact closed)
  generalize cutMode m time u = e at cut noticed changed
  generalize changeMode m time u = v at noticed mode closes test changed
  generalize (orderGends s v).port = p at closes
  rw [closes]
  refine ⟨mode, allCut_of_blocks cut.cut handle ?_ ?_ ?_, test.trans ?_⟩
  · show v.grant = _
    rw [noticed]
    rfl
  · show v.drive = _
    rw [noticed]
    rfl
  · show v.panel = _
    rw [noticed]
    rfl
  · rw [noticed]
    exact cut.test

/-! ## IGN on (R76, R169) -/

/-- R76: IGN taken on. -/
def ignTaken (p : Straps) (s : State) : State :=
  (s.setInputs { s.inputs with straps := p }).setMode { s.mode with ign := true }

theorem ignOn_of_on {s : State} (on : s.mode.ign = true) (p : Straps) :
    ignOn p s = s.setInputs { s.inputs with straps := p } := if_pos on

theorem ignOn_of_off {s : State} (off : s.mode.ign = false) (p : Straps) :
    ignOn p s = modeIgnOn (permitIgn true (ignTaken p s)) :=
  if_neg (by rw [State.setInputs_mode, off]; nofun)

theorem modeIgnOn_of_off {s : State} (mode : s.mode.mode = .off) : modeIgnOn s = enterWake s := by
  unfold modeIgnOn
  rw [mode]

theorem modeIgnOn_of_closedown {s : State} (mode : s.mode.mode = .closedown) :
    modeIgnOn s = enterCheck s := by
  unfold modeIgnOn
  rw [mode]

theorem modeIgnOn_elsewhere {s : State} (off : s.mode.mode ≠ .off) (closedown : s.mode.mode ≠ .closedown) :
    modeIgnOn s = s := by
  unfold modeIgnOn
  cases e : s.mode.mode <;> first | rfl | exact absurd e off | exact absurd e closedown

theorem permitIgn_of_off {s : State} (mode : s.mode.mode = .off) (on : Bool) : permitIgn on s = s := if_pos mode

/-- R76: the permit monitor's own part of an IGN level leaves the mode, the inputs and the store alone. -/
theorem judges_permitIgn (on : Bool) (s : State) : Judges s (permitIgn on s) := by
  unfold permitIgn
  split
  · exact .refl s
  · exact (judges_setPermit s _).trans (judges_recomputePermits _)

/-- R26: permits judged again retire and end grants, and take no handle. -/
theorem sound_recomputePermits {s : State} (h : Sound s) :
    Sound (recomputePermits s) ∧ (recomputePermits s).grant.lastHandle = s.grant.lastHandle := by
  have turned := turned_ease (s := remapped s) (h.of_grant rfl) .permit (barredBy s.permit.map (permitMap s))
  rw [recomputePermits_eq]
  exact ⟨turned.sound, turned.handle⟩

theorem permitIgn_axis (on : Bool) (s : State) : (permitIgn on s).axis = s.axis := by
  unfold permitIgn
  split
  · rfl
  · exact (reacts_easeGrants _ _ _).axis

theorem sound_permitIgn {s : State} (h : Sound s) (on : Bool) :
    Sound (permitIgn on s) ∧ (permitIgn on s).grant.lastHandle = s.grant.lastHandle := by
  unfold permitIgn
  split
  · exact ⟨h, rfl⟩
  · exact sound_recomputePermits (s := s.setPermit { s.permit with ign := on }) (h.of_grant rfl)

theorem event_inputs_mode (f : State → State) (s : State) :
    (event f s).inputs = (f s).inputs ∧ (event f s).mode.ign = (f s).mode.ign := by
  have moved := (moves_conclude s (orderGends s (f s))).inputs
  have moded := moded_event f s
  unfold Moded at moded
  refine ⟨?_, by rw [moded]⟩
  have frame := orderGends_frame s (f s)
  rw [event_eq, moved]
  generalize orderGends s (f s) = u at frame ⊢
  rw [frame]
  rfl

/-- R169: taking IGN on leaves the inputs and the line's level alone. -/
theorem modeIgnOn_keeps (u : State) :
    (modeIgnOn u).inputs = u.inputs ∧ (modeIgnOn u).mode.ign = u.mode.ign := by
  by_cases off : u.mode.mode = .off
  · rw [modeIgnOn_of_off off]
    have unserved : linkMode u.mode.mode = false := by rw [off]; rfl
    by_cases saves : u.store.save.isSome = true
    · obtain ⟨v, woke, entered⟩ := enterWake_waits saves unserved
      rw [entered]
      exact ⟨woke.inputs, by rw [State.setMode_mode, woke.mode]⟩
    · obtain ⟨v, woke, entered⟩ := enterWake_loads (Option.not_isSome_iff_eq_none.mp saves) unserved
      have finished := finished_finishWake v
      rw [entered, finished.inputs, finished.mode]
      exact ⟨woke.inputs, by rw [woke.mode]⟩
  · by_cases closedown : u.mode.mode = .closedown
    · have moved := (moves_changeMode .check (some checkMs) u).inputs
      have mode := changeMode_mode .check (some checkMs) u
      rw [modeIgnOn_of_closedown closedown]
      unfold enterCheck
      generalize changeMode .check (some checkMs) u = v at moved mode ⊢
      exact ⟨moved, by rw [mode]⟩
    · rw [modeIgnOn_elsewhere off closedown]
      exact ⟨rfl, rfl⟩

theorem ignOn_keeps (p : Straps) (s : State) :
    (ignOn p s).inputs = { s.inputs with straps := p } ∧ (ignOn p s).mode.ign = true := by
  by_cases on : s.mode.ign = true
  · rw [ignOn_of_on on]
    exact ⟨rfl, on⟩
  · rw [ignOn_of_off (Bool.eq_false_iff.mpr on)]
    have judged := judges_permitIgn true (ignTaken p s)
    have kept := modeIgnOn_keeps (permitIgn true (ignTaken p s))
    rw [kept.1, kept.2, judged.inputs, judged.mode]
    exact ⟨rfl, rfl⟩

/-! ## Ports that become enabled (R147, R148) -/

theorem judgePorts_opens {b s : State} (only : ∀ l, portEnabled l b = true → portEnabled l s = true) :
    judgePorts b s = s.setPort (judgePorts b s).port ∧ ∀ k, portOf k (judgePorts b s) =
      if portEnabled k b = false ∧ portEnabled k s = true ∧ (portOf k s).state = .disabled
      then openingPort (s.config.rate.get k) else portOf k s := by
  have one (l : Link) (p : PerLink Port) : judgePort b l (s.setPort p) = if portEnabled l b = false ∧
      portEnabled l s = true ∧ (p.get l).state = .disabled
      then s.setPort (p.set l (openingPort (s.config.rate.get l))) else s.setPort p := by
    unfold judgePort
    rw [show portEnabled l (s.setPort p) = portEnabled l s from rfl]
    cases before : portEnabled l b <;> cases after : portEnabled l s
    · simp
    · show startEnabled l (s.setPort p) = _
      unfold startEnabled portOf
      simp only [State.setPort_port, true_and]
      rfl
    · exact absurd (only l before) (by rw [after]; nofun)
    · simp
  have all (ls : List Link) (distinct : ls.Nodup) (p : PerLink Port) :
      ∃ q, forEach (judgePort b) ls (s.setPort p) = s.setPort q ∧ ∀ k, q.get k =
        if k ∈ ls ∧ portEnabled k b = false ∧ portEnabled k s = true ∧ (p.get k).state = .disabled
        then openingPort (s.config.rate.get k) else p.get k := by
    unfold forEach
    induction ls generalizing p with
    | nil => exact ⟨p, rfl, fun k => by simp⟩
    | cons l ls ih =>
      obtain ⟨new, distinct⟩ := List.nodup_cons.mp distinct
      rw [List.foldl_cons, one l p]
      split
      next opens =>
        obtain ⟨q, rest, ports⟩ := ih distinct (p.set l (openingPort (s.config.rate.get l)))
        refine ⟨q, rest, fun k => ?_⟩
        rw [ports k, PerLink.get_set]
        by_cases e : l = k
        · subst e
          simp [new, opens]
        · simp [Ne.symm e]
      next shut =>
        obtain ⟨q, rest, ports⟩ := ih distinct p
        refine ⟨q, rest, fun k => ?_⟩
        rw [ports k]
        by_cases e : l = k
        · subst e
          simp [new, shut]
        · simp [Ne.symm e]
  obtain ⟨q, closed, ports⟩ := all Link.list (by decide) s.port
  have mem (k : Link) : k ∈ Link.list := by cases k <;> decide
  replace closed : judgePorts b s = s.setPort q := closed
  rw [closed]
  refine ⟨rfl, fun k => (ports k).trans ?_⟩
  simp only [mem k, true_and]
  rfl

/-! ## Entry into CLOSEDOWN (R29, R175) -/

/-- R29, R175: every grant is EASING or gone, and nothing else that CLOSEDOWN judges has changed. -/
structure Wound (s u : State) : Prop where
  sound : Sound u
  easing : ∀ g ∈ u.grant.table, g.state = .easing
  handle : u.grant.lastHandle = s.grant.lastHandle
  axis : u.axis = s.axis
  config : u.config = s.config

theorem Wound.of_blocks {s u t : State} (h : Wound s u) (grant : t.grant = u.grant) (axis : t.axis = u.axis)
    (config : t.config = u.config) : Wound s t :=
  ⟨h.sound.of_grant grant, by rw [grant]; exact h.easing, by rw [grant]; exact h.handle,
    axis.trans h.axis, config.trans h.config⟩

theorem easing_of_rampOut {r : Reason} {s : State} {g k : Grant} (h : rampOut r s g = some k) :
    k.state = .easing := by
  unfold rampOut at h
  split at h
  · cases h
  · next e =>
    cases h
    exact e
  all_goals
    split at h
    · cases h
      rfl
    · cases h

theorem wound_easeGrants {s : State} (h : Sound s) (r : Reason) :
    Wound s (easeGrants r (fun _ => true) s) := by
  have turned := turned_ease h r fun _ => true
  have reacted := reacts_easeGrants r (fun _ => true) s
  refine ⟨turned.sound, fun k hk => ?_, turned.handle, reacted.axis, reacted.config⟩
  rw [turned.table] at hk
  obtain ⟨g, hg, left⟩ := List.mem_filterMap.mp hk
  rw [if_pos ((inTurn_perm _ s).mem_iff.mpr (List.mem_filter.mpr ⟨hg, rfl⟩))] at left
  exact easing_of_rampOut left

/-- R26: permits judged again find every grant EASING. -/
theorem Wound.recomputePermits {s u : State} (h : Wound s u) : Wound s (recomputePermits u) := by
  have turned := turned_ease (s := remapped u) (h.sound.of_grant rfl) .permit
    (barredBy u.permit.map (permitMap u))
  have judged := reacts_easeGrants .permit (barredBy u.permit.map (permitMap u)) (remapped u)
  rw [recomputePermits_eq]
  refine ⟨turned.sound, fun k hk => ?_, turned.handle.trans h.handle, judged.axis.trans h.axis,
    judged.config.trans h.config⟩
  rw [turned.table] at hk
  obtain ⟨g, hg, left⟩ := List.mem_filterMap.mp hk
  split at left
  · exact easing_of_rampOut left
  · cases left
    exact h.easing k hg

theorem wound_closing {s : State} (h : Sound s) (t : Option Nat) :
    Wound s (changeMode .closedown t s) := by
  have eased := (wound_easeGrants (s := setModeTimer .closedown t s) (h.of_grant rfl) .mode).recomputePermits
  have frame := (beaconMode_frame s.mode.mode .closedown
    (recomputePermits (easeGrants .mode (fun _ => true) (setModeTimer .closedown t s)))).1
  have moved := (judges_recomputePermits
    (easeGrants .mode (fun _ => true) (setModeTimer .closedown t s)))
  have mode := moved.mode.trans (reacts_easeGrants .mode (fun _ => true) (setModeTimer .closedown t s)).mode
  have config := eased.config
  unfold changeMode
  dsimp only
  show Wound s (noticeMode _ _ (judgePorts s (beaconMode s.mode.mode .closedown
    (recomputePermits (easeGrants .mode (fun _ => true) (setModeTimer .closedown t s))))))
  generalize recomputePermits (easeGrants .mode (fun _ => true) (setModeTimer .closedown t s)) = u
    at eased frame mode config ⊢
  generalize beaconMode s.mode.mode .closedown u = v at frame ⊢
  have ports := (judgePorts_opens (b := s) (s := v) fun l enabled => by
    unfold portEnabled at enabled ⊢
    rw [frame]
    show (linkMode u.mode.mode && (decide (l = .sl0) ||
      (u.mode.strapLinks.get l && (u.config.profile.get l).enabled))) = true
    rw [mode, config]
    exact Bool.and_eq_true_iff.mpr ⟨rfl, (Bool.and_eq_true_iff.mp enabled).2⟩).1
  generalize judgePorts s v = w at ports ⊢
  have noticed := (noticeMode_eq s.mode.mode .closedown w).1
  generalize noticeMode s.mode.mode .closedown w = x at noticed ⊢
  have grounded : Wound s u := ⟨eased.sound, eased.easing, eased.handle, eased.axis, eased.config⟩
  exact grounded.of_blocks (by rw [noticed, ports, frame]; rfl) (by rw [noticed, ports, frame]; rfl)
    (by rw [noticed, ports, frame]; rfl)

/-- R20: permits judged again leave a table of EASING grants as it is. -/
theorem recomputePermits_of_easing {u : State} (h : Sound u) (easing : ∀ g ∈ u.grant.table, g.state = .easing) :
    (recomputePermits u).grant.table = u.grant.table := by
  have turned := turned_ease (s := remapped u) (h.of_grant rfl) .permit
    (barredBy u.permit.map (permitMap u))
  rw [recomputePermits_eq, (ramped_of_turned turned).table]
  exact rampedTable_of_easing (s := remapped u) easing _ _

/-- R175: an event that has left CLOSEDOWN in force with every grant EASING stays in it or ends it. -/
theorem event_wound {f : State → State} {s w : State} (h : Wound s w) (effect : f s = w) :
    ((event f s).mode = w.mode ∧ (event f s).grant = w.grant) ∨
      ((event f s).mode.mode = .off ∧ AllCut s (event f s) ∧ (event f s).mode.timer = none ∧
        (event f s).mode.history = [] ∧ anyDeployed s = false) := by
  have frame := orderGends_frame s w
  have sound := sound_orderGends (b := s) h.sound
  rw [event_eq, effect]
  generalize orderGends s w = v at frame sound ⊢
  have grant : v.grant = w.grant := by rw [frame]; rfl
  have axis : v.axis = s.axis := by rw [frame]; exact h.axis
  cases done : closedownDone s v with
  | false =>
    have closes := conclude_frame done
    generalize conclude s v = t at closes ⊢
    rw [closes, frame]
    exact .inl ⟨rfl, rfl⟩
  | true =>
    rw [conclude_off done sound]
    have off := offs_enterOff sound
    generalize enterOff v = t at off ⊢
    refine .inr ⟨by rw [off.mode], ⟨off.cut.table, ?_, off.cut.slots, off.cut.outputs⟩,
      by rw [off.mode], by rw [off.mode], ?_⟩
    · rw [off.cut.handle, grant]
      exact h.handle
    · unfold closedownDone nothingOut anyDeployed at done
      rw [axis] at done
      unfold anyDeployed
      exact (Bool.not_eq_true' _).mp (Bool.and_eq_true_iff.mp (Bool.and_eq_true_iff.mp done).2).1

/-- R175: an event that has entered OFF. -/
theorem event_offed {f : State → State} {s u : State} (h : Wound s u) (effect : f s = enterOff u) :
    (event f s).mode.mode = .off ∧ AllCut s (event f s) ∧ (event f s).mode.timer = none ∧
      (event f s).mode.history = [] := by
  have off := offs_enterOff h.sound
  generalize enterOff u = v at off effect
  obtain ⟨b, closes, -⟩ := event_open effect (by rw [off.mode]; nofun)
  generalize (orderGends s v).port = p at closes
  rw [closes]
  refine ⟨by rw [State.setBeacon_mode, State.setPort_mode, off.mode],
    allCut_of_blocks off.cut h.handle rfl rfl rfl, ?_, ?_⟩ <;>
  rw [State.setBeacon_mode, State.setPort_mode, off.mode]

/-! ## IGN off (R76, R169, R175) -/

/-- R76: IGN taken off. -/
def ignDropped (s : State) : State := s.setMode { s.mode with ign := false }

theorem modeIgnOff_eq {s : State} (off : s.mode.mode ≠ .off) (closedown : s.mode.mode ≠ .closedown) :
    modeIgnOff s = enterClosedown s := by
  unfold modeIgnOff
  cases e : s.mode.mode <;> first | rfl | exact absurd e off | exact absurd e closedown

theorem modeIgnOff_rests {s : State} (rests : s.mode.mode = .off ∨ s.mode.mode = .closedown) :
    modeIgnOff s = s := by
  unfold modeIgnOff
  rcases rests with e | e <;> rw [e]

/-- R175: CLOSEDOWN entered with all that has ended it looked at, or OFF. -/
theorem enterClosedown_cases {s : State} (h : Sound s) :
    ∃ u, Wound s u ∧ u.mode = { s.mode with mode := .closedown, timer := some (closedownMs s) } ∧
      ((closedownMs s = 0 ∨ anyDeployed s = false) ∧ enterClosedown s = enterOff u ∨
        closedownMs s ≠ 0 ∧ (anyDeployed s = true ∨ u.grant.table ≠ []) ∧ enterClosedown s = u) := by
  have wound := wound_closing h (some (closedownMs s))
  have mode := changeMode_mode .closedown (some (closedownMs s)) s
  unfold enterClosedown
  dsimp only
  generalize changeMode .closedown (some (closedownMs s)) s = u at wound mode ⊢
  have deployed : anyDeployed u = anyDeployed s := by
    unfold anyDeployed
    rw [wound.axis]
  refine ⟨u, wound, mode, ?_⟩
  unfold nothingOut
  rw [deployed]
  split
  next ends =>
    refine .inl ⟨ends.imp_right fun e => ?_, rfl⟩
    exact (Bool.not_eq_true' _).mp (Bool.and_eq_true_iff.mp e).1
  next stays =>
    obtain ⟨time, out⟩ := not_or.mp stays
    refine .inr ⟨time, ?_, rfl⟩
    cases d : anyDeployed s
    · refine .inr fun empty => out ?_
      rw [d, empty]
      rfl
    · exact .inl rfl

/-- R76, R175: IGN off, from a mode that takes it. -/
structure Ignites (s t : State) : Prop where
  ign : t.mode.ign = false
  ends : (t.mode.mode = .closedown ∧ s.config.lamp.closedownTime ≠ 0 ∧
      t.mode.timer = some (s.config.lamp.closedownTime * 1000) ∧ (∀ g ∈ t.grant.table, g.state = .easing) ∧
      (anyDeployed s = true ∨ t.grant.table ≠ [])) ∨
    (t.mode.mode = .off ∧ AllCut s t ∧ t.mode.timer = none ∧ t.mode.history = [] ∧
      (s.config.lamp.closedownTime = 0 ∨ anyDeployed s = false))

/-- R175: what IGN off leaves, where it has entered CLOSEDOWN or OFF. -/
theorem ignites_of_wound {f : State → State} {s u w : State} (h : Wound s u)
    (ign : (event f s).mode.ign = false)
    (mode : u.mode = { s.mode with ign := false, mode := .closedown, timer := some (closedownMs s) })
    (ends : (closedownMs s = 0 ∨ anyDeployed s = false) ∧ f s = enterOff u ∨
      closedownMs s ≠ 0 ∧ (anyDeployed s = true ∨ u.grant.table ≠ []) ∧ f s = w ∧ Wound s w ∧
        w.mode = u.mode ∧ w.grant.table = u.grant.table) : Ignites s (event f s) := by
  have zero : closedownMs s = 0 ↔ s.config.lamp.closedownTime = 0 := by
    unfold closedownMs
    omega
  refine ⟨ign, ?_⟩
  rcases ends with ⟨why, effect⟩ | ⟨time, out, effect, wound, same, table⟩
  · obtain ⟨off, cut, timer, history⟩ := event_offed h effect
    exact .inr ⟨off, cut, timer, history, why.imp_left zero.mp⟩
  · rcases event_wound wound effect with ⟨moded, grant⟩ | ⟨off, cut, timer, history, out⟩
    · refine .inl ⟨by rw [moded, same, mode], fun e => time (zero.mpr e), by rw [moded, same, mode]; rfl, ?_, ?_⟩
      · rw [grant]
        exact wound.easing
      · rw [grant, table]
        exact out
    · exact .inr ⟨off, cut, timer, history, .inr out⟩

theorem Wound.trans {s t u : State} (h : Wound t u) (handle : t.grant.lastHandle = s.grant.lastHandle)
    (axis : t.axis = s.axis) (config : t.config = s.config) : Wound s u :=
  ⟨h.sound, h.easing, h.handle.trans handle, h.axis.trans axis, h.config.trans config⟩

theorem ignOff_ign (o : IgnOrder) {s : State} (on : s.mode.ign = true) : (ignOff o s).mode.ign = false := by
  have taken (u : State) : (modeIgnOff u).mode.ign = u.mode.ign := by
    by_cases rests : u.mode.mode = .off ∨ u.mode.mode = .closedown
    · rw [modeIgnOff_rests rests]
    · rw [modeIgnOff_eq (not_or.mp rests).1 (not_or.mp rests).2]
      have moded := moded_enterClosedown u
      unfold Moded at moded
      rw [moded]
  unfold ignOff
  rw [if_pos on]
  cases o with
  | permitFirst =>
    have judged := (judges_permitIgn false (ignDropped s)).mode
    show (modeIgnOff (permitIgn false (ignDropped s))).mode.ign = _
    rw [taken, judged]
    rfl
  | modeFirst =>
    have judged := (judges_permitIgn false (modeIgnOff (ignDropped s))).mode
    show (permitIgn false (modeIgnOff (ignDropped s))).mode.ign = _
    rw [judged, taken]
    rfl

theorem ignites_ignOff (o : IgnOrder) {s : State} (h : Sound s) (on : s.mode.ign = true)
    (off : s.mode.mode ≠ .off) (closedown : s.mode.mode ≠ .closedown) : Ignites s (event (ignOff o) s) := by
  have ign := (event_inputs_mode (ignOff o) s).2.trans (ignOff_ign o on)
  cases o with
  | permitFirst =>
    have judged := judges_permitIgn false (ignDropped s)
    obtain ⟨sound, handle⟩ := sound_permitIgn (s := ignDropped s) (h.of_grant rfl) false
    have axis := permitIgn_axis false (ignDropped s)
    have effect : ignOff .permitFirst s = modeIgnOff (permitIgn false (ignDropped s)) := if_pos on
    generalize permitIgn false (ignDropped s) = v at *
    rw [modeIgnOff_eq (by rw [judged.mode]; exact off) (by rw [judged.mode]; exact closedown)] at effect
    obtain ⟨u, wound, mode, ends⟩ := enterClosedown_cases sound
    have config : v.config = s.config := judged.config
    have same : closedownMs v = closedownMs s := by unfold closedownMs; rw [config]
    have deployed : anyDeployed v = anyDeployed s := by unfold anyDeployed; rw [axis]; rfl
    rw [same, deployed] at ends
    have grounded : Wound s u := wound.trans handle axis config
    refine ignites_of_wound (w := u) grounded ign (by rw [mode, same, judged.mode]; rfl) ?_
    rw [effect]
    exact ends.imp_right fun ⟨time, out, e⟩ => ⟨time, out, e, grounded, rfl, rfl⟩
  | modeFirst =>
    have effect : ignOff .modeFirst s = permitIgn false (modeIgnOff (ignDropped s)) := if_pos on
    rw [modeIgnOff_eq (s := ignDropped s) off closedown] at effect
    obtain ⟨u, wound, mode, ends⟩ := enterClosedown_cases (s := ignDropped s) (h.of_grant rfl)
    have grounded : Wound s u := wound.trans rfl rfl rfl
    have taken := Wound.recomputePermits (s := s) (u := u.setPermit { u.permit with ign := false })
      (grounded.of_blocks rfl rfl rfl)
    have table := recomputePermits_of_easing (u := u.setPermit { u.permit with ign := false })
      (wound.sound.of_grant rfl) wound.easing
    have moded := (judges_recomputePermits (u.setPermit { u.permit with ign := false })).mode
    refine ignites_of_wound (w := recomputePermits (u.setPermit { u.permit with ign := false }))
      grounded ign (by rw [mode]; rfl) ?_
    rw [effect]
    rcases ends with ⟨why, e⟩ | ⟨time, out, e⟩
    · refine .inl ⟨why, ?_⟩
      rw [e]
      exact permitIgn_of_off (enterOff_mode u) false
    · refine .inr ⟨time, out, ?_, taken, moded, table⟩
      rw [e]
      exact if_neg (by rw [mode]; nofun)

/-- Settles O56: a WAKE keeps what the line brought until its load, and CLOSEDOWN is entered with every
grant EASING or gone. -/
theorem ignitionStartsAndStops : Obligations.IgnitionStartsAndStops := by
  unfold Obligations.IgnitionStartsAndStops
  intro p o s ok slots
  have sound : Sound s := ⟨ok, slots⟩
  have kept := event_inputs_mode (ignOn p) s
  rw [(ignOn_keeps p s).1, (ignOn_keeps p s).2] at kept
  refine ⟨⟨event (ignOn p) s, rfl, kept.1, kept.2, fun on => ?_, fun off mode free => ?_,
    fun off mode saves => ?_, fun off mode => ?_⟩, ⟨event (ignOff o) s, rfl, ?_, fun off => ?_,
      fun on off closedown => (ignites_ignOff o sound on off closedown).ends⟩⟩
  · rw [event_unjudged (ignOn_of_on on p) rfl rfl rfl rfl rfl]
    rfl
  · have unserved : linkMode (ignTaken p s).mode.mode = false := by
      show linkMode s.mode.mode = false
      rw [mode]
      rfl
    obtain ⟨u, woke, entered⟩ := enterWake_loads (s := ignTaken p s) free unserved
    have effect := ignOn_of_off off p
    rw [permitIgn_of_off (s := ignTaken p s) mode, modeIgnOn_of_off (s := ignTaken p s) mode, entered] at effect
    have done := finished_finishWake u
    generalize finishWake u = v at effect done
    have finished : v.mode.mode = .wake ∧ v.mode.timer = some 50 := by
      rw [done.mode, woke.mode]
      exact ⟨rfl, rfl⟩
    obtain ⟨b, closes, -⟩ := event_open effect (by rw [finished.1]; nofun)
    generalize (orderGends s v).port = q at closes
    generalize event (ignOn p) s = t at closes
    subst closes
    refine ⟨finished.1, finished.2, ?_, ?_, ?_, ?_, ?_, ?_, done.speed, done.pulse, ?_, ?_, ?_, ?_⟩
    · exact done.fitted.trans woke.fitted
    · show v.mode.strapLinks = _
      rw [done.mode]
      show u.mode.strapLinks = _
      rw [woke.mode]
      rfl
    · refine done.config.trans ?_
      unfold storedConfig
      rw [woke.store]
      rfl
    · show v.mode.lowCount = 0
      rw [done.mode]
      show u.mode.lowCount = 0
      rw [woke.mode]
    · show v.mode.highCount = 0
      rw [done.mode]
      show u.mode.highCount = 0
      rw [woke.mode]
    · show v.mode.returnCount = 0
      rw [done.mode]
      show u.mode.returnCount = 0
      rw [woke.mode]
    · refine done.ign.trans ?_
      rw [woke.mode]
      rfl
    · refine done.pbrk.trans ?_
      rw [woke.inputs]
      rfl
    · refine done.line.trans ?_
      rw [woke.inputs]
      rfl
    · refine done.cfgdef.trans ?_
      rw [woke.cfgdef, woke.store]
      rfl
  · have unserved : linkMode (ignTaken p s).mode.mode = false := by
      show linkMode s.mode.mode = false
      rw [mode]
      rfl
    obtain ⟨u, woke, entered⟩ := enterWake_waits (s := ignTaken p s) saves unserved
    have effect := ignOn_of_off off p
    rw [permitIgn_of_off (s := ignTaken p s) mode, modeIgnOn_of_off (s := ignTaken p s) mode, entered] at effect
    obtain ⟨b, closes, -⟩ := event_open effect (by rw [State.setMode_mode, woke.mode]; nofun)
    generalize (orderGends s _).port = q at closes
    generalize event (ignOn p) s = t at closes
    subst closes
    have waits : ((((u.setMode { u.mode with loadWaits := true }).setPort q).setBeacon b).mode) =
        { u.mode with loadWaits := true } := rfl
    refine ⟨?_, ?_, ?_, ?_, ?_, ?_, woke.fitted, woke.config, woke.store⟩ <;> rw [waits, woke.mode]
  · have effect := ignOn_of_off off p
    have judged := judges_permitIgn true (ignTaken p s)
    obtain ⟨soundly, handle⟩ := sound_permitIgn (s := ignTaken p s) (sound.of_grant rfl) true
    generalize permitIgn true (ignTaken p s) = u at *
    have closed : u.mode.mode = .closedown := by rw [judged.mode]; exact mode
    rw [modeIgnOn_of_closedown closed] at effect
    obtain ⟨moded, cut, test⟩ := event_enters (f := ignOn p) (s := s) soundly (m := .check) rfl rfl
      (by rw [closed]; rfl) handle effect
    exact ⟨by rw [moded], by rw [moded]; rfl, cut, test⟩
  · by_cases on : s.mode.ign = true
    · exact (event_inputs_mode (ignOff o) s).2.trans (ignOff_ign o on)
    · rw [event_fixed (f := ignOff o) (s := s) (if_neg on)]
      exact Bool.eq_false_iff.mpr on
  · exact event_fixed (if_neg (by rw [off]; nofun))

end Sys2Proof.Machine.Steps
end

section
/-! Power-on reset (R170) and the mode timers (R171 to R175). -/

namespace Sys2Proof.Machine.Steps

open Motion Holds

/-! ## Power-on reset (R170) -/

/-- R23: with every queue empty there is nothing to order. -/
theorem orderGends_of_empty {b s : State} (empty : ∀ k, queueOf k s = []) : orderGends b s = s := by
  have ports : (orderGends b s).port = s.port := by
    refine PerLink.ext_get fun k => ?_
    have port := portOf_orderGends b s k
    have queue := empty k
    unfold queueOf at port queue
    rw [queue, List.take_nil, List.drop_nil, sortGends_nil] at port
    refine port.trans ?_
    unfold portOf at queue ⊢
    rw [List.append_nil, ← queue]
  rw [orderGends_frame, ports]
  rfl

theorem queueOf_powerOn (c : ConfigStore) (i : Inputs) (p : List Instr) (k : Link) :
    queueOf k (State.powerOn c i p) = [] := by
  cases k <;> rfl

theorem judgeDemands_of_off {b s : State} (off : s.mode.mode = .off) : judgeDemands b s = s := by
  unfold judgeDemands demandJudged
  rw [off]
  rfl

/-- Settles O60: a WAKE is entered from power-on values with no grant live. -/
theorem powerOnResetRestores : Obligations.PowerOnResetRestores := by
  unfold Obligations.PowerOnResetRestores
  intro i s
  refine ⟨⟨event (powerOnReset false i) s, rfl, ?_⟩, ⟨event (powerOnReset true i) s, rfl, ?_⟩⟩
  · have effect : powerOnReset false i s = State.powerOn s.store i s.pending := rfl
    rw [event_eq, effect, orderGends_of_empty (queueOf_powerOn _ _ _)]
    unfold conclude
    rw [closedownDone_of_mode (show Mode.off ≠ .closedown by decide)]
    exact judgeDemands_of_off rfl
  · have effect : powerOnReset true i s = enterWake ((State.powerOn s.store i s.pending).setMode
        { (State.powerOn s.store i s.pending).mode with ign := true }) := by
      unfold powerOnReset
      exact if_pos rfl
    obtain ⟨u, woke, entered⟩ := enterWake_loads (s := (State.powerOn s.store i s.pending).setMode
        { (State.powerOn s.store i s.pending).mode with ign := true }) rfl rfl
    rw [entered] at effect
    have done := finished_finishWake u
    generalize finishWake u = v at effect done
    have mode : v.mode.mode = .wake ∧ v.mode.timer = some 50 ∧ v.mode.ign = true := by
      rw [done.mode, woke.mode]
      exact ⟨rfl, rfl, rfl⟩
    have grant : u.grant = .powerOn := woke.grant rfl
    obtain ⟨b, closes, -⟩ := event_open effect (by rw [mode.1]; decide)
    generalize (orderGends s v).port = q at closes
    generalize event (powerOnReset true i) s = t at closes ⊢
    subst closes
    refine ⟨mode.1, mode.2.1, mode.2.2, ?_, ?_, ?_, ?_, ?_⟩
    · exact (done.grant (by rw [grant]; rfl)).trans grant
    · refine done.line.trans ?_
      rw [woke.inputs]
      rfl
    · exact done.inputs.trans woke.inputs
    · refine done.config.trans ?_
      unfold storedConfig
      rw [woke.store]
      rfl
    · exact done.fitted.trans woke.fitted

/-! ## The close of CLOSEDOWN by a sample (R65, R175) -/

/-- CLOSEDOWN with no grant live; LIFT alone is fitted, deployed at the bed's height, with the output its
last grant left and a stall window 10 ms from its end. -/
def stalling : State :=
  (State.reset.setMode { State.reset.mode with mode := .closedown }).setAxis { State.reset.axis with
    fitted := ⟨true, false, false, false, false, false⟩
    deployed := ⟨true, false, false, false, false, false⟩
    stall := some ⟨defaultCalibration.bedHeight, 1990⟩, liftOutput := 200 }

/-- The inputs of the axis status unit with LIFT on its bed. -/
def bedInputs : AxisInputs := ⟨defaultCalibration.bed, 0, false, false⟩

/-- R65, R177: the sample that finds LIFT on its bed completes the stall window too, and its fault is
entered. -/
theorem stalling_sampled :
    (event (axisSampleEvent bedInputs) stalling).axis.deployed ≠ stalling.axis.deployed ∧
    anyDeployed (event (axisSampleEvent bedInputs) stalling) = false ∧
    (event (axisSampleEvent bedInputs) stalling).faultLog ≠ stalling.faultLog := by decide

/-- Refutes O58: the sample that ends CLOSEDOWN may set a fault before it, which the fault record takes. -/
theorem not_modeTimersLeaveModes : ¬ Obligations.ModeTimersLeaveModes := by
  unfold Obligations.ModeTimersLeaveModes
  rintro ⟨-, sample, -⟩
  obtain ⟨changed, out, log⟩ := stalling_sampled
  obtain ⟨t, sampled, off⟩ := sample bedInputs stalling rfl rfl rfl
  cases sampled
  exact log (off changed out).log

end Sys2Proof.Machine.Steps
end

section
/-! What a reset of the second half does with no grant live (R147, R155, R176). -/

namespace Sys2Proof.Machine.Steps

open Motion Holds

/-! ## Ports that close, link by link (R150, R155) -/

/-- R150: what the loss of a link reports, and whom the store's waiting reply is kept for. -/
structure Tells (s t : State) : Prop where
  kept : s.notice.flags.link = true → t.notice.flags.link = true
  lost : ∀ k, (portOf k s).state = .up → (portOf k t).state ≠ .up → t.notice.flags.link = true
  store : s.store.resetWaits = none → t.store = s.store

theorem Tells.refl (s : State) : Tells s s := ⟨id, fun _ up off => absurd up off, fun _ => rfl⟩

theorem Tells.trans {s t u : State} (h : Tells s t) (k : Tells t u) : Tells s u where
  kept := fun e => k.kept (h.kept e)
  lost := fun l up off => by
    by_cases mid : (portOf l t).state = .up
    · exact k.lost l mid off
    · exact k.kept (h.lost l up mid)
  store := fun none => (k.store (by rw [h.store none, none])).trans (h.store none)

/-- One port has been given a new record, with its loss told. -/
structure Closes (l : Link) (p : Port) (s t : State) : Prop where
  shuts : Shuts s t
  tells : Tells s t
  port : ∀ k, portOf k t = if k = l then p else portOf k s

theorem Closes.refl (l : Link) (s : State) : Closes l (portOf l s) s s :=
  ⟨.refl s, .refl s, fun k => by
    by_cases e : k = l
    · rw [e, if_pos rfl]
    · rw [if_neg e]⟩

theorem portOf_putPort (l k : Link) (p : Port) (s : State) :
    portOf k (putPort l p s) = if k = l then p else portOf k s := by
  by_cases e : k = l
  · rw [e, if_pos rfl, portOf_putPort_same]
  · rw [if_neg e, portOf_putPort_ne _ _ e]

/-- A port rewritten that stays UP, or was not UP, tells nothing. -/
theorem closes_putPort {l : Link} {s : State} (p : Port) (stays : (portOf l s).state = .up → p.state = .up) :
    Closes l p s (putPort l p s) where
  shuts := ⟨rfl, rfl, rfl, rfl⟩
  tells := ⟨id, fun k up off => by
    rw [portOf_putPort] at off
    split at off
    next e => exact absurd (stays (e ▸ up)) off
    next => exact absurd up off, fun _ => rfl⟩
  port := fun k => portOf_putPort l k p s

theorem closes_leavePort {s : State} (empty : s.grant.table = []) (l : Link) (p : Port) :
    Closes l p s (leavePort l p s) := by
  obtain ⟨shuts, port⟩ := shuts_leavePort empty l p
  refine ⟨shuts, ?_, port⟩
  unfold leavePort at port ⊢
  by_cases up : (portOf l s).state = .up
  · rw [if_pos up, reportLoss_of_empty (s := putPort l p s) empty] at port ⊢
    have left := dropResetReply_frame l (putPort l p s)
    have kept : s.store.resetWaits = none → (dropResetReply l (putPort l p s)).store = s.store := fun none => by
      unfold dropResetReply
      split
      · show ({ s.store with resetWaits := s.store.resetWaits.map fun _ => ReplyWait.dropped } : ConfigStore) = _
        rw [none, Option.map_none, ← none]
      · rfl
    generalize dropResetReply l (putPort l p s) = v at left port kept ⊢
    exact ⟨fun _ => rfl, fun _ _ _ => rfl, kept⟩
  · rw [if_neg up]
    exact (closes_putPort p fun e => absurd e up).tells

/-- R155: what a commanded close makes of an UP port. -/
def closedPort (t : CloseTarget) (p : Port) : Port :=
  match p.close with
  | some c => { p with close := some { c with target := joinTarget c.target t } }
  | none => if p.queue = [] then restingPort p.rate (decide (t = .silenced))
      else { p with close := some ⟨t, 4⟩ }

theorem closes_commandedClose {s : State} (empty : s.grant.table = []) {l : Link} (up : (portOf l s).state = .up)
    (t : CloseTarget) : Closes l (closedPort t (portOf l s)) s (commandedClose t l s) := by
  unfold closedPort
  cases close : (portOf l s).close with
  | some c =>
    rw [commandedClose_pending close]
    exact closes_putPort _ fun _ => up
  | none =>
    rw [commandedClose_open close]
    dsimp only
    split
    · cases t
      · exact closes_leavePort empty l (restingPort (portOf l s).rate true)
      · exact closes_leavePort empty l (restingPort (portOf l s).rate false)
    · exact closes_putPort _ fun _ => up

theorem closes_stopEnabled {s : State} (empty : s.grant.table = []) (l : Link) :
    Closes l (offPort (portOf l s)) s (stopEnabled l s) := by
  obtain ⟨shuts, port⟩ := shuts_stopEnabled empty l
  refine ⟨shuts, ?_, port⟩
  unfold stopEnabled
  cases st : (portOf l s).state with
  | disabled => exact .refl s
  | opening | silenced => exact (closes_leavePort empty l _).tells
  | up => exact (closes_commandedClose empty st .disabled).tells

theorem closes_startEnabled (l : Link) (s : State) : Closes l
    (if (portOf l s).state = .disabled then openingPort (s.config.rate.get l) else portOf l s) s
    (startEnabled l s) := by
  unfold startEnabled
  split
  next off => exact closes_putPort (openingPort (s.config.rate.get l)) fun e => nomatch off.symm.trans e
  next => exact .refl l s

/-- R147: what a change of its being enabled makes of a port. -/
def judgedPort (before after : Bool) (rate : Nat) (p : Port) : Port :=
  match before, after with
  | false, true => if p.state = .disabled then openingPort rate else p
  | true, false => offPort p
  | false, false | true, true => p

theorem closes_judgePort {s : State} (empty : s.grant.table = []) (b : State) (l : Link) : Closes l
    (judgedPort (portEnabled l b) (portEnabled l s) (s.config.rate.get l) (portOf l s)) s (judgePort b l s) := by
  unfold judgePort judgedPort
  cases portEnabled l b <;> cases portEnabled l s
  · exact .refl l s
  · exact closes_startEnabled l s
  · exact closes_stopEnabled empty l
  · exact .refl l s

/-- R176: what RSTLVL 1 makes of an operator port once it is judged. -/
def silencedBy (p : Port) : Port :=
  match p.state with
  | .up => closedPort .silenced p
  | .opening => restingPort p.rate true
  | .silenced | .disabled => p

theorem closes_closeForReset {s : State} (empty : s.grant.table = []) (l : Link) :
    Closes l (silencedBy (portOf l s)) s (closeForReset l s) := by
  unfold closeForReset silencedBy
  cases st : (portOf l s).state with
  | up => exact closes_commandedClose empty st .silenced
  | opening => exact closes_leavePort empty l (restingPort (portOf l s).rate true)
  | silenced | disabled => exact .refl l s

/-- Each of several links treated in turn, by what it has alone. -/
theorem closes_forEach {s : State} {f : Link → State → State} {F : Link → Port → Port}
    (one : ∀ l t, Shuts s t → Closes l (F l (portOf l t)) t (f l t)) {ls : List Link} (distinct : ls.Nodup) :
    Shuts s (forEach f ls s) ∧ Tells s (forEach f ls s) ∧
      ∀ k, portOf k (forEach f ls s) = if k ∈ ls then F k (portOf k s) else portOf k s := by
  have all (t : State) (h : Shuts s t) : Shuts t (forEach f ls t) ∧ Tells t (forEach f ls t) ∧
      ∀ k, portOf k (forEach f ls t) = if k ∈ ls then F k (portOf k t) else portOf k t := by
    unfold forEach
    induction ls generalizing t with
    | nil => exact ⟨.refl t, .refl t, fun k => by simp⟩
    | cons l ls ih =>
      obtain ⟨new, distinct⟩ := List.nodup_cons.mp distinct
      have first := one l t h
      obtain ⟨shuts, tells, ports⟩ := ih distinct (f l t) (h.trans first.shuts)
      refine ⟨first.shuts.trans shuts, first.tells.trans tells, fun k => ?_⟩
      rw [List.foldl_cons, ports k, first.port k]
      by_cases e : k = l
      · subst e
        rw [if_neg new, if_pos rfl, if_pos List.mem_cons_self]
      · simp [e]
  exact all s (.refl s)

theorem Shuts.grant {s t : State} (h : Shuts s t) : t.grant = s.grant := by rw [h.frame]

theorem closes_judgePorts {b s : State} (empty : s.grant.table = []) :
    Shuts s (judgePorts b s) ∧ Tells s (judgePorts b s) ∧ ∀ k, portOf k (judgePorts b s) =
      judgedPort (portEnabled k b) (portEnabled k s) (s.config.rate.get k) (portOf k s) := by
  obtain ⟨shuts, tells, ports⟩ := closes_forEach (s := s) (f := judgePort b) (ls := Link.list)
    (F := fun k => judgedPort (portEnabled k b) (portEnabled k s) (s.config.rate.get k))
    (fun l t h => by
      have closes := closes_judgePort (s := t) (by rw [h.grant]; exact empty) b l
      have same : portEnabled l t = portEnabled l s ∧ t.config = s.config := by
        rw [h.frame]
        exact ⟨rfl, rfl⟩
      rw [same.1, same.2] at closes
      exact closes) (by decide)
  exact ⟨shuts, tells, fun k => (ports k).trans (if_pos (by cases k <;> decide))⟩

theorem closes_resetLinks {s : State} (empty : s.grant.table = []) :
    Shuts s (resetLinks s) ∧ Tells s (resetLinks s) ∧ ∀ k, portOf k (resetLinks s) =
      if k = .sl0 then portOf k s else silencedBy (portOf k s) := by
  obtain ⟨shuts, tells, ports⟩ := closes_forEach (s := s) (f := closeForReset) (ls := Link.operators)
    (F := fun _ => silencedBy)
    (fun l t h => closes_closeForReset (s := t) (by rw [h.grant]; exact empty) l) (by decide)
  refine ⟨shuts, tells, fun k => (ports k).trans ?_⟩
  cases k <;> rfl

theorem silencedBy_rests {p : Port} (h : p.state = .silenced ∨ p.state = .disabled) : silencedBy p = p := by
  unfold silencedBy
  rcases h with e | e <;> rw [e]

theorem silencedBy_opening {p : Port} (h : p.state = .opening) : silencedBy p = restingPort p.rate true := by
  unfold silencedBy
  rw [h]

theorem silencedBy_pending {p : Port} (h : p.state = .up) {c : ClosePending} (close : p.close = some c) :
    silencedBy p = { p with close := some { c with target := joinTarget c.target .silenced } } := by
  unfold silencedBy closedPort
  rw [h]
  dsimp only
  rw [close]

theorem silencedBy_open {p : Port} (h : p.state = .up) (close : p.close = none) :
    silencedBy p = if p.queue = [] then restingPort p.rate true
      else { p with close := some ⟨.silenced, 4⟩ } := by
  unfold silencedBy closedPort
  rw [h]
  dsimp only
  rw [close]
  rfl

theorem silencedBy_offPort (p : Port) : silencedBy (offPort p) = offPort p := by
  cases st : p.state with
  | disabled =>
    rw [offPort_disabled st]
    exact silencedBy_rests (.inr st)
  | opening =>
    rw [offPort_starting (.inl st)]
    exact silencedBy_rests (.inr rfl)
  | silenced =>
    rw [offPort_starting (.inr st)]
    exact silencedBy_rests (.inr rfl)
  | up =>
    cases close : p.close with
    | some c =>
      rw [offPort_pending st close]
      exact silencedBy_pending (p := { p with close := some { c with target := .disabled } }) st rfl
    | none =>
      rw [offPort_open st close]
      split
      · exact silencedBy_rests (.inr rfl)
      · exact silencedBy_pending (p := { p with close := some ⟨.disabled, 4⟩ }) st rfl

/-! The cases of `resetPort`. -/

section
variable {k : Link} {q : List OutMsg} {s t : State}

theorem resetPort_pending (h : (portOf k s).state = .up) {c : ClosePending} (close : (portOf k s).close = some c) :
    resetPort k q s t = { portOf k s with
      queue := q
      close := some { c with target := closeTarget (portEnabled k s && !portEnabled k t) c.target } } := by
  unfold resetPort
  dsimp only
  rw [h, close]

theorem resetPort_open (h : (portOf k s).state = .up) (close : (portOf k s).close = none) :
    resetPort k q s t = if q = [] then restingPort (portOf k s).rate !(portEnabled k s && !portEnabled k t)
      else { portOf k s with
        queue := q, close := some ⟨closeTarget (portEnabled k s && !portEnabled k t) .silenced, 4⟩ } := by
  unfold resetPort
  dsimp only
  rw [h, close]

theorem resetPort_opening (h : (portOf k s).state = .opening) :
    resetPort k q s t = restingPort (portOf k s).rate !(portEnabled k s && !portEnabled k t) := by
  unfold resetPort
  dsimp only
  rw [h]

theorem resetPort_silenced (h : (portOf k s).state = .silenced) :
    resetPort k q s t = if (portEnabled k s && !portEnabled k t) = true
      then restingPort (portOf k s).rate false else portOf k s := by
  unfold resetPort
  dsimp only
  rw [h]

theorem resetPort_disabled (h : (portOf k s).state = .disabled) :
    resetPort k q s t = if (!portEnabled k s && portEnabled k t) = true
      then restingPort (t.config.rate.get k) true else portOf k s := by
  unfold resetPort
  dsimp only
  rw [h]

end

/-- R147, R176: a port that stops being enabled, as RSTLVL 1 leaves it. -/
theorem resetPort_of_ended {k : Link} {s t : State} (ended : (portEnabled k s && !portEnabled k t) = true) :
    resetPort k (portOf k s).queue s t = offPort (portOf k s) := by
  have off (c : CloseTarget) : closeTarget true c = .disabled := by cases c <;> rfl
  cases st : (portOf k s).state with
  | disabled =>
    rw [resetPort_disabled st, offPort_disabled st, if_neg]
    cases portEnabled k s <;> simp_all
  | opening => rw [resetPort_opening st, offPort_starting (.inl st), ended]; rfl
  | silenced => rw [resetPort_silenced st, offPort_starting (.inr st), if_pos ended]
  | up =>
    cases close : (portOf k s).close with
    | some c => rw [resetPort_pending st close, offPort_pending st close, ended, off]
    | none => rw [resetPort_open st close, offPort_open st close, ended, off]; rfl

/-- R147, R176: a port that goes on as it is, or becomes enabled. -/
theorem resetPort_of_going {k : Link} {s t : State} (going : (portEnabled k s && !portEnabled k t) = false)
    (starts : ¬ (portEnabled k s = false ∧ portEnabled k t = true ∧ (portOf k s).state = .disabled)) :
    resetPort k (portOf k s).queue s t = silencedBy (portOf k s) := by
  have on (c : CloseTarget) : closeTarget false c = joinTarget c .silenced := by cases c <;> rfl
  cases st : (portOf k s).state with
  | disabled =>
    rw [resetPort_disabled st, silencedBy_rests (.inr st), if_neg fun e => starts ?_]
    obtain ⟨before, after⟩ := Bool.and_eq_true_iff.mp e
    exact ⟨(Bool.not_eq_true' _).mp before, after, st⟩
  | opening => rw [resetPort_opening st, silencedBy_opening st, going]; rfl
  | silenced => rw [resetPort_silenced st, silencedBy_rests (.inl st), going]; rfl
  | up =>
    cases close : (portOf k s).close with
    | some c => rw [resetPort_pending st close, silencedBy_pending st close, going, on]
    | none => rw [resetPort_open st close, silencedBy_open st close, going, on]; rfl

/-- R147, R176: the ports judged and then silenced. -/
theorem silencedBy_judgedPort (k : Link) (s t : State) :
    silencedBy (judgedPort (portEnabled k s) (portEnabled k t) (t.config.rate.get k) (portOf k s)) =
      resetPort k (portOf k s).queue s t := by
  by_cases ended : (portEnabled k s && !portEnabled k t) = true
  · obtain ⟨before, after⟩ := Bool.and_eq_true_iff.mp ended
    rw [resetPort_of_ended ended, before, (Bool.not_eq_true' _).mp after]
    exact silencedBy_offPort _
  · have going := Bool.eq_false_iff.mpr ended
    have judged : judgedPort (portEnabled k s) (portEnabled k t) (t.config.rate.get k) (portOf k s) =
        if portEnabled k s = false ∧ portEnabled k t = true ∧ (portOf k s).state = .disabled
        then openingPort (t.config.rate.get k) else portOf k s := by
      unfold judgedPort
      cases b : portEnabled k s <;> cases a : portEnabled k t <;> simp_all
    rw [judged]
    split
    next starts =>
      rw [resetPort_disabled starts.2.2, if_pos (by rw [starts.1, starts.2.1]; rfl)]
      rfl
    next starts => exact (resetPort_of_going going starts).symm

end Sys2Proof.Machine.Steps
end

section
/-! RSTLVL 1 once every grant is cut (R176). -/

namespace Sys2Proof.Machine.Steps

open Motion Holds

/-! ## The reload (R71, R89, R176 step 2) -/

/-- R176: what the reload and the closes leave of the rest of the part. -/
structure Reloaded (e t : State) : Prop where
  grant : t.grant = e.grant
  mode : t.mode = e.mode
  hold : t.hold = e.hold
  log : t.faultLog = e.faultLog
  beacon : t.beacon = e.beacon
  config : t.config = storedConfig e
  mask : t.notice.mask = e.notice.mask
  tells : Tells e t

theorem Reloaded.trans_shuts {e t u : State} (h : Reloaded e t) (shuts : Shuts t u) (tells : Tells t u) :
    Reloaded e u := by
  have frame := shuts.frame
  exact ⟨by rw [frame]; exact h.grant, by rw [frame]; exact h.mode, by rw [frame]; exact h.hold,
    by rw [frame]; exact h.log, by rw [frame]; exact h.beacon, by rw [frame]; exact h.config,
    shuts.mask.trans h.mask, h.tells.trans tells⟩

/-- R176 step 2: the items loaded, with what is computed from them. -/
def reloadedAs (v : AxisUnit) (p : PermitMonitor) (n : Notices) (s : State) : State :=
  { s with config := storedConfig s, axis := v, permit := p, notice := n }

theorem recomputeSpeed_frame (s : State) : recomputeSpeed s = s.setPermit (recomputeSpeed s).permit := by
  unfold recomputeSpeed
  split <;> rfl

theorem loadConfig_notice (s : State) : loadConfig s = (s.setConfig (storedConfig s)).setNotice (loadConfig s).notice ∧
    (loadConfig s).notice.flags.link = s.notice.flags.link ∧ (loadConfig s).notice.mask = s.notice.mask := by
  unfold loadConfig storedConfig
  cases s.store.valid <;> exact ⟨rfl, rfl, rfl⟩

theorem judgeDeployMove_notice (s : State) : (judgeDeployMove s).notice.flags.link = s.notice.flags.link ∧
    (judgeDeployMove s).notice.mask = s.notice.mask := by
  rw [judgeDeployMove_eq]
  split <;> exact ⟨rfl, rfl⟩

/-- R176 step 2: the items loaded and everything computed from them, with no grant live. -/
theorem resetConfig_loads {e : State} (empty : e.grant.table = []) : ∃ v p n,
    resetConfig e = judgePorts e (reloadedAs v p n e) ∧ n.flags.link = e.notice.flags.link ∧
      n.mask = e.notice.mask := by
  obtain ⟨loaded, link, mask⟩ := loadConfig_notice e
  have speed := recomputeSpeed_frame (recomputeAxes (loadConfig e))
  have move := judgeDeployMove_frame (recomputeSpeed (recomputeAxes (loadConfig e)))
  obtain ⟨moveLink, moveMask⟩ := judgeDeployMove_notice (recomputeSpeed (recomputeAxes (loadConfig e)))
  unfold resetConfig
  dsimp only
  generalize judgeDeployMove (recomputeSpeed (recomputeAxes (loadConfig e))) = w at move moveLink moveMask ⊢
  generalize recomputeSpeed (recomputeAxes (loadConfig e)) = u at speed move moveLink moveMask ⊢
  unfold recomputeAxes at speed
  generalize loadConfig e = x at loaded link mask speed
  have left : u = reloadedAs u.axis u.permit u.notice e := by
    rw [speed, loaded]
    rfl
  have notice : u.notice = x.notice := by rw [speed]; rfl
  split
  · have frame : w = reloadedAs u.axis w.permit w.notice e := by
      rw [move, left]
      rfl
    refine ⟨u.axis, { w.permit with map := permitMap w }, w.notice, ?_, ?_, ?_⟩
    · rw [recomputePermits_of_empty (by rw [frame]; exact empty)]
      unfold remapped
      generalize permitMap w = m
      rw [frame]
      rfl
    · rw [moveLink, notice, link]
    · rw [moveMask, notice, mask]
  · refine ⟨u.axis, { u.permit with map := permitMap u }, u.notice, ?_, ?_, ?_⟩
    · rw [recomputePermits_of_empty (by rw [left]; exact empty)]
      unfold remapped
      generalize permitMap u = m
      rw [left]
      rfl
    · rw [notice, link]
    · rw [notice, mask]

/-- R176 steps 2 and 3, with no grant live. -/
theorem reloaded_resetLinks {e : State} (empty : e.grant.table = []) :
    Reloaded e (resetLinks (resetConfig e)) ∧ ∀ k, portOf k (resetLinks (resetConfig e)) =
      if k = .sl0 then judgedPort (portEnabled k e) (portEnabled k (resetLinks (resetConfig e)))
        ((storedConfig e).rate.get k) (portOf k e)
      else resetPort k (queueOf k e) e (resetLinks (resetConfig e)) := by
  obtain ⟨v, p, n, loads, link, mask⟩ := resetConfig_loads empty
  obtain ⟨shuts, tells, ports⟩ := closes_judgePorts (b := e) (s := reloadedAs v p n e) empty
  have read : Reloaded e (reloadedAs v p n e) :=
    ⟨rfl, rfl, rfl, rfl, rfl, rfl, mask, ⟨fun h => link.trans h, fun _ up off => absurd up off, fun _ => rfl⟩⟩
  have judged := read.trans_shuts shuts tells
  rw [← loads] at ports judged
  obtain ⟨closed, told, silenced⟩ := closes_resetLinks (s := resetConfig e) (by rw [judged.grant]; exact empty)
  have done := judged.trans_shuts closed told
  generalize resetLinks (resetConfig e) = t at closed done silenced ⊢
  refine ⟨done, fun k => ?_⟩
  have enabled : portEnabled k (reloadedAs v p n e) = portEnabled k t := by
    unfold portEnabled
    rw [done.mode, done.config]
    rfl
  have rate : (reloadedAs v p n e).config = t.config := done.config.symm
  have before : portOf k (reloadedAs v p n e) = portOf k e := rfl
  rw [silenced k, ports k, enabled, before, rate]
  split
  · rw [done.config]
  · exact silencedBy_judgedPort k e t

/-! ## The clearing (R176 step 4) -/

/-- R137, R142, R176: the lamps with their exclusions cleared. -/
def clearedLamp (before : PerLamp (Option Zone)) (s : State) (c : Lamp) : LampRecord :=
  match s.config.lamp.zone.get c with
  | none => ⟨.unassigned, none, none, false⟩
  | some z => ⟨.ok, some 0, if before.get c = some z then (lampOf c s).position else none, false⟩

theorem clearExclusions_eq (before : PerLamp (Option Zone)) (s : State) : clearExclusions before s =
    s.setBeacon { s.beacon with lamp := .mk' (clearedLamp before s) } := by
  refine congrArg (fun f => s.setBeacon { s.beacon with lamp := .mk' f }) (funext fun c => ?_)
  unfold clearedLamp
  cases s.config.lamp.zone.get c <;> rfl

/-- R139: the health judged with no grant live. -/
theorem judgeHealth_of_empty {s : State} (empty : s.grant.table = []) : ∃ b p,
    judgeHealth s = (s.setBeacon b).setPermit p ∧ b.lamp = s.beacon.lamp ∧ b.test = s.beacon.test := by
  rcases judgeHealth_cases s with e | ⟨e, -⟩
  · rw [e, recomputePermits_of_empty (s := s.setBeacon { s.beacon with zone := judgedZones s }) empty]
    exact ⟨_, _, rfl, rfl, rfl⟩
  · exact ⟨{ s.beacon with zone := judgedZones s }, s.permit, e, rfl, rfl⟩

theorem noticePending_of_empty {n : Notices} (h : n.mask = .empty) : noticePending n = false := by
  unfold noticePending
  rw [h]
  simp [NoticeSet.empty]

theorem judgeAttention_of_empty {s : State} (h : s.notice.mask = .empty) :
    judgeAttention s = s.setNotice { s.notice with attention := false } := by
  unfold judgeAttention
  rw [noticePending_of_empty h, Bool.and_false]

/-- R71, R167, R176: the fault codes, the retry history and the mask cleared. -/
def clearing (s : State) : State :=
  ((s.setAxis { s.axis with fault := .all none }).setMode { s.mode with history := [] }).setNotice
    { flags := s.notice.flags, mask := .empty, attention := false }

theorem resetClear_eq (before : PerLamp (Option Zone)) (s : State) :
    resetClear before s = clearing (judgeHealth (clearExclusions before s)) := by
  unfold resetClear
  generalize judgeHealth (clearExclusions before s) = u
  exact judgeAttention_of_empty (s := ((u.setAxis { u.axis with fault := .all none }).setMode
    { u.mode with history := [] }).setNotice { u.notice with mask := .empty }) rfl

/-- R176 step 4, with no grant live. -/
structure Cleared (lamp : Lamp → LampRecord) (s t : State) : Prop where
  grant : t.grant = s.grant
  port : t.port = s.port
  config : t.config = s.config
  hold : t.hold = s.hold
  log : t.faultLog = s.faultLog
  store : t.store = s.store
  mode : t.mode = { s.mode with history := [] }
  fault : t.axis.fault = .all none
  mask : t.notice.mask = .empty
  attention : t.notice.attention = false
  flags : t.notice.flags = s.notice.flags
  lamp : ∀ c, lampOf c t = lamp c

theorem cleared_clearing (s : State) : Cleared (fun c => lampOf c s) s (clearing s) :=
  ⟨rfl, rfl, rfl, rfl, rfl, rfl, rfl, rfl, rfl, rfl, rfl, fun _ => rfl⟩

theorem cleared_resetClear (before : PerLamp (Option Zone)) {s : State} (empty : s.grant.table = []) :
    Cleared (clearedLamp before s) s (resetClear before s) := by
  have judged := judgeHealth_of_empty (s := clearExclusions before s) empty
  have lamp (c : Lamp) : (PerLamp.mk' (clearedLamp before s)).get c = clearedLamp before s c :=
    PerLamp.get_mk' _ c
  rw [resetClear_eq]
  rw [clearExclusions_eq] at judged ⊢
  generalize judgeHealth (s.setBeacon { s.beacon with lamp := PerLamp.mk' (clearedLamp before s) }) = u
    at judged ⊢
  obtain ⟨b, p, rfl, lamps, -⟩ := judged
  replace lamps : b.lamp = PerLamp.mk' (clearedLamp before s) := lamps
  generalize ({ s.beacon with lamp := PerLamp.mk' (clearedLamp before s) } : BeaconController) = x
  have left := cleared_clearing (((s.setBeacon x).setBeacon b).setPermit p)
  exact ⟨left.grant, left.port, left.config, left.hold, left.log, left.store, left.mode, left.fault,
    left.mask, left.attention, left.flags, fun c => by rw [← lamp, ← lamps, left.lamp]; rfl⟩

/-! ## CHECK entered with no grant live (R142, R172, R176 step 5) -/

/-- R142: a lamp as the test lights it. -/
def testedLamp (s : State) (c : Lamp) : LampRecord :=
  { lampOf c s with driven := decide ((lampOf c s).state = .ok) && (s.config.lamp.zone.get c).isSome }

/-- R111, R142, R172: CHECK entered with no grant live. -/
structure Checked (s t : State) : Prop where
  grant : t.grant = s.grant
  outputs : OutputsOff t
  mode : t.mode = { s.mode with mode := .check, timer := some 300 }
  config : t.config = s.config
  hold : t.hold = s.hold
  log : t.faultLog = s.faultLog
  axis : t.axis = s.axis
  mask : t.notice.mask = s.notice.mask
  test : t.beacon.test = some ⟨0, false⟩
  lamp : ∀ c, lampOf c t = testedLamp s c
  tells : Tells s t

/-- R111, R142, R172: CHECK before its ports and its notice. -/
def checkLit (s : State) : State := startLampTest (remapped (forceOutputs (setModeTimer .check (some 300) s)))

theorem enterCheck_of_empty {s : State} (empty : s.grant.table = []) :
    enterCheck s = noticeMode s.mode.mode .check (judgePorts s (checkLit s)) := by
  have cut : cutForced .check (some 300) s = forceOutputs (setModeTimer .check (some 300) s) := by
    unfold cutForced
    rw [cutGrants_of_empty (s := setModeTimer .check (some 300) s) empty]
  have lit : cutMode .check (some 300) s = checkLit s := by
    unfold cutMode
    rw [cut, recomputePermits_of_empty (s := forceOutputs (setModeTimer .check (some 300) s)) empty]
    rfl
  refine (changeMode_of_cut (m := .check) rfl (some 300) s).trans ?_
  rw [lit]
  rfl

theorem noticeMode_tells (old new : Mode) (s : State) : Tells s (noticeMode old new s) := by
  unfold noticeMode
  split
  · exact .refl s
  · exact ⟨id, fun _ up off => absurd up off, fun _ => rfl⟩

/-- R111, R142: what CHECK lights and forces. -/
theorem checkLit_spec (s : State) : ∃ d p m b, checkLit s = ((((s.setMode { s.mode with
      mode := .check, timer := some 300 }).setDrive d).setPanel p).setPermit m).setBeacon b ∧
    OutputsOff (checkLit s) ∧ b.test = some ⟨0, false⟩ ∧ ∀ c, b.lamp.get c = testedLamp s c := by
  have off := outputsOff_forced (setModeTimer .check (some 300) s)
  refine ⟨_, _, _, _, rfl, ⟨off.output, off.coil, off.duty, off.pump, off.d1, off.d2, off.near, off.off⟩,
    rfl, fun c => ?_⟩
  exact PerLamp.get_mk' _ c

theorem checked_enterCheck {s : State} (empty : s.grant.table = []) :
    Checked s (enterCheck s) ∧ (linkMode s.mode.mode = true → (enterCheck s).port = s.port ∧
      (s.notice.mask = .empty → s.notice.attention = false → (enterCheck s).notice.attention = false)) := by
  rw [enterCheck_of_empty empty]
  obtain ⟨d, p, m, b, lit, off, test, lamp⟩ := checkLit_spec s
  generalize checkLit s = u at lit off ⊢
  have still : linkMode s.mode.mode = true → judgePorts s u = u := fun served =>
    judgePorts_of_same fun l => portEnabled_of_same (by rw [served, lit]; rfl) (by rw [lit]; rfl)
      (by rw [lit]; rfl) l
  obtain ⟨shuts, tells, -⟩ := closes_judgePorts (b := s) (s := u) (by rw [lit]; exact empty)
  have frame := shuts.frame
  have mask := shuts.mask
  have begun : Tells s u := by
    subst lit
    exact ⟨id, fun _ up off => absurd up off, fun _ => rfl⟩
  have told := (begun.trans tells).trans (noticeMode_tells s.mode.mode .check (judgePorts s u))
  generalize judgePorts s u = v at still frame mask told ⊢
  obtain ⟨noticed, -, noticeMask⟩ := noticeMode_eq s.mode.mode .check v
  have quiet : v.notice.mask = .empty → v.notice.attention = false →
      (noticeMode s.mode.mode .check v).notice.attention = false := fun masked silent => by
    unfold noticeMode
    split
    · exact silent
    · exact Bool.and_eq_false_iff.mpr (.inr (noticePending_of_empty masked))
  generalize noticeMode s.mode.mode .check v = w at noticed noticeMask told quiet ⊢
  have blocks : w.grant = u.grant ∧ w.drive = u.drive ∧ w.panel = u.panel ∧ w.mode = u.mode ∧
      w.config = u.config ∧ w.hold = u.hold ∧ w.faultLog = u.faultLog ∧ w.axis = u.axis ∧ w.beacon = u.beacon := by
    rw [noticed, frame]
    exact ⟨rfl, rfl, rfl, rfl, rfl, rfl, rfl, rfl, rfl⟩
  obtain ⟨grant, drive, panel, mode, config, hold, log, axis, beacon⟩ := blocks
  refine ⟨{ grant := ?_, outputs := outputsOff_of_blocks off drive panel, mode := ?_, config := ?_, hold := ?_
            log := ?_, axis := ?_, mask := ?_, test := ?_, lamp := fun c => ?_, tells := told },
    fun served => ⟨?_, fun masked silent => quiet ?_ ?_⟩⟩
  · rw [grant, lit]; rfl
  · rw [mode, lit]; rfl
  · rw [config, lit]; rfl
  · rw [hold, lit]; rfl
  · rw [log, lit]; rfl
  · rw [axis, lit]; rfl
  · rw [noticeMask, mask, lit]; rfl
  · rw [beacon, lit]; exact test
  · show w.beacon.lamp.get c = _
    rw [beacon, lit]
    exact lamp c
  · rw [noticed]
    show v.port = _
    rw [still served, lit]
    rfl
  · rw [still served, lit]
    exact masked
  · rw [still served, lit]
    exact silent

/-! ## RSTLVL 1 (R176) -/

/-- R176 steps 2 to 5, with no grant live. -/
structure Renewed (e t : State) : Prop where
  grant : t.grant = e.grant
  outputs : OutputsOff t
  mode : t.mode = { e.mode with mode := .check, timer := some 300, history := [] }
  config : t.config = storedConfig e
  hold : t.hold = e.hold
  log : t.faultLog = e.faultLog
  fault : t.axis.fault = .all none
  mask : t.notice.mask = .empty
  test : t.beacon.test = some ⟨0, false⟩
  lamp : ∀ c, lampOf c t =
    match t.config.lamp.zone.get c with
    | none => ⟨.unassigned, none, none, false⟩
    | some z => ⟨.ok, some 0,
        if e.config.lamp.zone.get c = some z then (lampOf c e).position else none, true⟩
  tells : Tells e t
  attention : linkMode e.mode.mode = true → t.notice.attention = false
  port : linkMode e.mode.mode = true → ∀ k, portOf k t =
    if k = .sl0 then portOf k e else resetPort k (queueOf k e) e t

theorem resetPort_congr {k : Link} {q : List OutMsg} {s t u : State} (enabled : portEnabled k u = portEnabled k t)
    (config : u.config = t.config) : resetPort k q s u = resetPort k q s t := by
  unfold resetPort
  rw [enabled, config]

theorem renewed_of_empty {e : State} (empty : e.grant.table = []) :
    Renewed e (enterCheck (resetClear e.config.lamp.zone (resetLinks (resetConfig e)))) := by
  obtain ⟨reloaded, ports⟩ := reloaded_resetLinks empty
  generalize resetLinks (resetConfig e) = r at reloaded ports ⊢
  have noGrant : r.grant.table = [] := by rw [reloaded.grant]; exact empty
  have cleared := cleared_resetClear e.config.lamp.zone noGrant
  generalize resetClear e.config.lamp.zone r = u at cleared ⊢
  obtain ⟨checked, served⟩ := checked_enterCheck (s := u) (by rw [cleared.grant]; exact noGrant)
  have mode : u.mode.mode = e.mode.mode := by rw [cleared.mode, reloaded.mode]
  rw [mode] at served
  generalize enterCheck u = t at checked served ⊢
  have config : t.config = r.config := checked.config.trans cleared.config
  exact
    { grant := checked.grant.trans (cleared.grant.trans reloaded.grant)
      outputs := checked.outputs
      mode := by rw [checked.mode, cleared.mode, reloaded.mode]
      config := config.trans reloaded.config
      hold := checked.hold.trans (cleared.hold.trans reloaded.hold)
      log := checked.log.trans (cleared.log.trans reloaded.log)
      fault := by rw [checked.axis]; exact cleared.fault
      mask := checked.mask.trans cleared.mask
      test := checked.test
      lamp := fun c => by
        have lamp : lampOf c r = lampOf c e := by unfold lampOf; rw [reloaded.beacon]
        rw [checked.lamp c, config]
        unfold testedLamp
        rw [cleared.lamp c, cleared.config]
        unfold clearedLamp
        rw [lamp]
        cases r.config.lamp.zone.get c <;> rfl
      tells := reloaded.tells.trans (Tells.trans ⟨fun h => by rw [cleared.flags]; exact h, fun k up off => by
        unfold portOf at up off
        rw [cleared.port] at off
        exact absurd up off, fun _ => cleared.store⟩ checked.tells)
      attention := fun link => (served link).2 cleared.mask cleared.attention
      port := fun link k => by
        have kept : portOf k t = portOf k r := by
          unfold portOf
          rw [(served link).1, cleared.port]
        have enabled : portEnabled k t = portEnabled k r := by
          unfold portEnabled
          rw [config, checked.mode, cleared.mode, reloaded.mode, link]
          rfl
        rw [kept, ports k]
        split
        next super =>
          subst super
          have on (x : State) (h : linkMode x.mode.mode = true) : portEnabled .sl0 x = true := by
            unfold portEnabled
            rw [h]
            rfl
          rw [on e link, on r (by rw [reloaded.mode]; exact link)]
          rfl
        next => exact (resetPort_congr enabled config).symm }

/-- R176 step 1: every grant cut. -/
theorem resetGrants_frame (s : State) : ∃ d x, resetGrants s =
    ((cutGrants .reset (fun _ => true) s).setDrive d).setAxis x ∧
    d = { (cutGrants .reset (fun _ => true) s).drive with pumpOver := 0 } ∧
    x = { (cutGrants .reset (fun _ => true) s).axis with liftOutput := d.output.lift } :=
  ⟨_, _, rfl, rfl, rfl⟩

theorem resetGrants_table (s : State) : (resetGrants s).grant.table = [] := cutGrants_table .reset s

theorem renewed_resetLevel1 (s : State) : Renewed (resetGrants s) (resetLevel1 s) := by
  have config : (resetGrants s).config = s.config := (reacts_cutGrants .reset (fun _ => true) s).config
  have renewed := renewed_of_empty (resetGrants_table s)
  rw [config] at renewed
  exact renewed

end Sys2Proof.Machine.Steps
end

section
/-! The completion of a save (R166, R171, R176). -/

namespace Sys2Proof.Machine.Steps

open Motion Holds

/-! ## The waiting reply through an entry into OFF (R150, R176) -/

theorem cutMode_store (m : Mode) (time : Option Nat) (s : State) :
    (cutMode m time s).store = s.store ∧ (cutMode m time s).grant.table = [] := by
  have gone : (cutForced m time s).grant.table = [] := cutGrants_table .mode (setModeTimer m time s)
  have kept : (cutForced m time s).store = s.store :=
    (reacts_cutGrants .mode (fun _ => true) (setModeTimer m time s)).store
  unfold cutMode
  rw [(beaconMode_frame _ _ _).1, recomputePermits_of_empty gone]
  exact ⟨kept, gone⟩

/-- R150: with no reply waiting in the store an entry into OFF leaves the store alone. -/
theorem enterOff_store {s : State} (free : s.store.resetWaits = none) : (enterOff s).store = s.store := by
  obtain ⟨kept, gone⟩ := cutMode_store .off none s
  have changed : changeMode .off none s =
      noticeMode s.mode.mode .off (closePorts (cutMode .off none s)) := changeMode_of_cut rfl none s
  obtain ⟨-, tells, -⟩ := closes_forEach (s := cutMode .off none s) (f := stopEnabled) (ls := Link.list)
    (F := fun _ => offPort) (fun l t h => closes_stopEnabled (by rw [h.grant]; exact gone) l) (by decide)
  have told := tells.store (by rw [kept]; exact free)
  have noticed := (noticeMode_tells s.mode.mode .off (closePorts (cutMode .off none s))).store
  unfold enterOff offBlocks
  rw [changed]
  generalize noticeMode s.mode.mode .off (closePorts (cutMode .off none s)) = v at noticed ⊢
  have closed : (closePorts (cutMode .off none s)).store = s.store := told.trans kept
  generalize closePorts (cutMode .off none s) = u at noticed closed
  exact (noticed (by rw [closed]; exact free)).trans closed

theorem conclude_store {b s : State} (free : s.store.resetWaits = none) : (conclude b s).store = s.store := by
  unfold conclude
  rw [(judges_judgeDemands _ _).store]
  split
  · exact enterOff_store free
  · rfl

/-- R134: an event of a port that does not leave CLOSEDOWN in force. -/
theorem conclude_open {b s : State} (mode : s.mode.mode ≠ .closedown) :
    conclude b s = s.setBeacon (conclude b s).beacon := conclude_frame (closedownDone_of_mode mode)

/-! ## The completion (R166) -/

section
variable {s : State} {v : Save}

theorem saveCompletion_of_none (none : s.store.save = none) : saveCompletion s = s := by
  unfold saveCompletion
  rw [none]

theorem saveCompletion_of_left (save : s.store.save = some v) (left : v.remaining ≠ 0) : saveCompletion s = s := by
  unfold saveCompletion
  rw [save]
  exact if_neg left

theorem saveCompletion_of_done (save : s.store.save = some v) (done : v.remaining = 0) :
    saveCompletion s = finishSave v s := by
  unfold saveCompletion
  rw [save]
  exact if_pos done

theorem resumeWake_of_running (runs : s.mode.loadWaits = false) : resumeWake s = s :=
  if_neg (by rw [runs]; nofun)

theorem resumeWake_of_waiting (waits : s.mode.loadWaits = true) : resumeWake s = finishWake s := if_pos waits

/-- R176: an RSTLVL 1 no longer waits. -/
def unwaiting (s : State) : State := s.setStore { s.store with resetWaits := none }

theorem finishSave_of_free (free : (resumeWake (storeSaved v s)).store.resetWaits = none) :
    finishSave v s = orderGends s (resumeWake (storeSaved v s)) := by
  unfold finishSave
  dsimp only
  rw [free]

theorem finishSave_of_waits {w : ReplyWait} (waits : (resumeWake (storeSaved v s)).store.resetWaits = some w) :
    finishSave v s = placeResetReply w (waitingReset (resumeWake (storeSaved v s))).2
      (orderGends s (waitingReset (resumeWake (storeSaved v s))).1) := by
  unfold finishSave
  dsimp only
  rw [waits]

theorem waitingReset_refused (mode : s.mode.mode = .closedown ∨ s.mode.mode = .off) :
    waitingReset s = (unwaiting s, some ⟨.mode, []⟩) := by
  unfold waitingReset
  dsimp only
  rcases mode with e | e <;> rw [State.setStore_mode, e] <;> rfl

theorem waitingReset_carried (closedown : s.mode.mode ≠ .closedown) (off : s.mode.mode ≠ .off) :
    waitingReset s = (resetLevel1 (unwaiting s), some ⟨.ok, [1#8]⟩) := by
  unfold waitingReset
  dsimp only
  rw [State.setStore_mode]
  cases e : s.mode.mode <;> first | rfl | exact absurd e closedown | exact absurd e off

theorem placeResetReply_frame (w : ReplyWait) (r : Option Reply) (s : State) :
    placeResetReply w r s = s.setPort (placeResetReply w r s).port := by
  unfold placeResetReply
  split
  · exact placeMessage_frame _ _ s
  · rfl

/-- R166: the store after the completion, whatever waits for it. -/
theorem finishSave_store : (finishSave v s).store =
    { s.store with stored := v.copy, valid := true, save := none, resetWaits := none } := by
  have resumed : (resumeWake (storeSaved v s)).store = (storeSaved v s).store := by
    unfold resumeWake
    split
    · exact (finished_finishWake _).store
    · rfl
  cases waits : (resumeWake (storeSaved v s)).store.resetWaits with
  | none =>
    have order := orderGends_frame s (resumeWake (storeSaved v s))
    rw [finishSave_of_free waits]
    generalize orderGends s (resumeWake (storeSaved v s)) = u at order ⊢
    rw [order]
    show (resumeWake (storeSaved v s)).store = _
    rw [resumed] at waits ⊢
    show (⟨v.copy, true, none, s.store.resetWaits⟩ : ConfigStore) = _
    rw [show s.store.resetWaits = none from waits]
  | some w =>
    have reset : (waitingReset (resumeWake (storeSaved v s))).1.store =
        (unwaiting (resumeWake (storeSaved v s))).store := by
      by_cases mode : (resumeWake (storeSaved v s)).mode.mode = .closedown ∨
          (resumeWake (storeSaved v s)).mode.mode = .off
      · rw [waitingReset_refused mode]
      · obtain ⟨closedown, off⟩ := not_or.mp mode
        rw [waitingReset_carried closedown off]
        have cut : (resetGrants (unwaiting (resumeWake (storeSaved v s)))).store =
            (unwaiting (resumeWake (storeSaved v s))).store :=
          (reacts_cutGrants .reset (fun _ => true) _).store
        exact ((renewed_resetLevel1 _).tells.store (by rw [cut]; rfl)).trans cut
    rw [finishSave_of_waits waits]
    generalize waitingReset (resumeWake (storeSaved v s)) = a at reset ⊢
    have order := orderGends_frame s a.1
    generalize orderGends s a.1 = u at order ⊢
    rw [placeResetReply_frame, State.setPort_store, order, State.setPort_store, reset]
    show ({ (resumeWake (storeSaved v s)).store with resetWaits := none } : ConfigStore) = _
    rw [resumed]
    rfl

end

/-- R166, R176: a completion with nothing waiting. -/
theorem finishSave_alone {v : Save} {s : State} (runs : s.mode.loadWaits = false) (free : s.store.resetWaits = none) :
    finishSave v s = storeSaved v s := by
  have resumed : resumeWake (storeSaved v s) = storeSaved v s := resumeWake_of_running runs
  rw [finishSave_of_free (by rw [resumed]; exact free), resumed]
  exact orderGends_of_port rfl

/-- R176: a completion that answers a waiting RSTLVL 1 with MODE. -/
theorem finishSave_refuses {v : Save} {s : State} {w : ReplyWait} (runs : s.mode.loadWaits = false)
    (waits : s.store.resetWaits = some w) (mode : s.mode.mode = .closedown ∨ s.mode.mode = .off) :
    finishSave v s = placeResetReply w (some ⟨.mode, []⟩) (unwaiting (storeSaved v s)) := by
  have resumed : resumeWake (storeSaved v s) = storeSaved v s := resumeWake_of_running runs
  rw [finishSave_of_waits (by rw [resumed]; exact waits), resumed, waitingReset_refused (s := storeSaved v s) mode]
  exact congrArg _ (orderGends_of_port rfl)

/-- R176, R150: where the reply of an RSTLVL 1 that waited goes. -/
theorem portOf_placeResetReply (w : ReplyWait) (r : Reply) (s : State) (l : Link) :
    portOf l (placeResetReply w (some r) s) = { portOf l s with
      queue := queueOf l s ++ if l = .sl0 ∧ w = .awaited ∧ (portOf l s).state = .up
        then [.rply 36#8 r.status r.fields] else [] } := by
  have same (p : Port) : { p with queue := p.queue ++ [] } = p := by rw [List.append_nil]
  unfold placeResetReply
  cases w with
  | dropped =>
    dsimp only
    rw [if_neg (by simp)]
    exact (same _).symm
  | awaited =>
    dsimp only
    rw [portOf_placeMessage]
    by_cases e : l = .sl0
    · subst e
      by_cases up : (portOf .sl0 s).state = .up <;> simp [up, queueOf]
    · simp [e, queueOf]

/-- Settles O54: what waits for the completion finds the copy in the store. -/
theorem saveWritesStore : Obligations.SaveWritesStore := by
  unfold Obligations.SaveWritesStore
  intro s
  refine ⟨fun l station ready => ⟨_, rfl, ?_⟩, fun ready => ⟨_, rfl, fun saves => ?_, fun free => ?_⟩,
    ⟨portEvent saveCompletion s, rfl, ?_, fun v save done => ?_⟩⟩
  · exact answeredOnly_notsuper (k := .cfgsave) ready station rfl rfl (Nat.le_of_ble_eq_true rfl)
  · exact answeredOnly_of_query (r := ⟨.busy, []⟩) ready (Nat.le_of_ble_eq_true rfl)
      (show parseFrame .sl0 ⟨cfgsaveFrame, false⟩ = .msg .cfgsave from rfl)
      (show handleCfgsave (handed .sl0 cfgsaveFrame s) = _ from if_pos saves)
  · have handles : handleMsg .sl0 .cfgsave (handed .sl0 cfgsaveFrame s) =
        ((handed .sl0 cfgsaveFrame s).setStore { s.store with save := some ⟨40, s.config⟩ }, some ⟨.ok, []⟩) :=
      if_neg (show ¬ s.store.save.isSome = true by rw [free]; nofun)
    obtain ⟨frame, handled⟩ := answered_unjudged ready (Nat.le_of_ble_eq_true rfl)
      (show parseFrame .sl0 ⟨cfgsaveFrame, false⟩ = .msg .cfgsave from rfl) handles rfl rfl rfl rfl rfl
    generalize portEvent (receiveFrame .sl0 cfgsaveFrame) s = t at frame handled ⊢
    exact ⟨frame, handled⟩
  · rintro (none | left)
    · have rests := saveCompletion_of_none none
      unfold portEvent
      rw [rests]
      exact conclude_of_unjudged rfl rfl rfl rfl
    · have rests : saveCompletion s = s := by
        cases save : s.store.save with
        | none => exact saveCompletion_of_none save
        | some v => exact saveCompletion_of_left save (left v save)
      unfold portEvent
      rw [rests]
      exact conclude_of_unjudged rfl rfl rfl rfl
  · have event : portEvent saveCompletion s = conclude s (finishSave v s) := by
      unfold portEvent
      rw [saveCompletion_of_done save done]
    have store : (conclude s (finishSave v s)).store = (finishSave v s).store :=
      conclude_store (by rw [finishSave_store])
    rw [finishSave_store] at store
    rw [event]
    refine ⟨by rw [store], by rw [store], by rw [store], by rw [store], fun free runs => ?_,
      fun x waits runs mode => ?_, fun free waits wake => ?_, fun waits runs off closedown => ?_⟩
    · rw [finishSave_alone runs free]
      rw [conclude_of_unjudged (s := s) (t := storeSaved v s) rfl rfl rfl rfl]
      rfl
    · have ports := portOf_placeResetReply x ⟨.mode, []⟩ (unwaiting (storeSaved v s))
      have frame := placeResetReply_frame x (some ⟨.mode, []⟩) (unwaiting (storeSaved v s))
      rw [finishSave_refuses runs waits mode]
      generalize placeResetReply x (some ⟨.mode, []⟩) (unwaiting (storeSaved v s)) = u at ports frame ⊢
      rw [conclude_of_unjudged (by rw [frame]; rfl) (by rw [frame]; rfl) (by rw [frame]; rfl) (by rw [frame]; rfl)]
      exact ⟨by rw [frame]; rfl, ports⟩
    · have resumed : resumeWake (storeSaved v s) = finishWake (storeSaved v s) := resumeWake_of_waiting waits
      have finished := finished_finishWake (storeSaved v s)
      rw [finishSave_of_free (by rw [resumed, finished.store]; exact free), resumed]
      have order := orderGends_frame s (finishWake (storeSaved v s))
      generalize orderGends s (finishWake (storeSaved v s)) = u at order ⊢
      generalize finishWake (storeSaved v s) = w at finished order
      have mode : w.mode = { s.mode with loadWaits := false, timer := some 50 } := by
        rw [finished.mode]
        show ({ s.mode with loadWaits := false, timer := if s.mode.mode = .wake then _ else _ } : ModeController) = _
        rw [if_pos wake]
      have open' := conclude_open (b := s) (s := u) (by
        rw [order, State.setPort_mode, mode]
        show s.mode.mode ≠ _
        rw [wake]
        decide)
      generalize conclude s u = t at open' ⊢
      rw [open', order]
      refine ⟨finished.config, ?_, ?_, ?_, finished.speed, finished.pulse, finished.pbrk, finished.line⟩
      · show w.mode.mode = _
        rw [mode]
        exact wake
      · show w.mode.timer = _
        rw [mode]
      · show w.mode.loadWaits = _
        rw [mode]
    · obtain ⟨x, waits⟩ := Option.isSome_iff_exists.mp waits
      have resumed : resumeWake (storeSaved v s) = storeSaved v s := resumeWake_of_running runs
      rw [finishSave_of_waits (by rw [resumed]; exact waits), resumed,
        waitingReset_carried (s := storeSaved v s) closedown off]
      have renewed := renewed_resetLevel1 (unwaiting (storeSaved v s))
      have reacted := reacts_cutGrants .reset (fun _ => true) (unwaiting (storeSaved v s))
      have table := resetGrants_table (unwaiting (storeSaved v s))
      have config : storedConfig (resetGrants (unwaiting (storeSaved v s))) = v.copy := by
        unfold storedConfig
        rw [show (resetGrants (unwaiting (storeSaved v s))).store = (unwaiting (storeSaved v s)).store from
          reacted.store]
        rfl
      generalize resetGrants (unwaiting (storeSaved v s)) = g at renewed table config
      generalize resetLevel1 (unwaiting (storeSaved v s)) = r at renewed ⊢
      have order := orderGends_frame s r
      dsimp only
      generalize orderGends s r = o at order ⊢
      have frame := placeResetReply_frame x (some ⟨.ok, [1#8]⟩) o
      generalize placeResetReply x (some ⟨.ok, [1#8]⟩) o = u at frame ⊢
      have open' := conclude_open (b := s) (s := u) (by
        rw [frame, order]
        show r.mode.mode ≠ _
        rw [renewed.mode]
        exact (by decide : Mode.check ≠ .closedown))
      generalize conclude s u = t at open' ⊢
      rw [open', frame, order]
      refine ⟨?_, renewed.config.trans config, ?_, renewed.fault⟩
      · show r.mode.mode = _
        rw [renewed.mode]
      · show r.grant.table = _
        rw [renewed.grant, table]

end Sys2Proof.Machine.Steps
end

section
/-! RSTLVL 1 and RSTLVL 2 as their messages close (R176). -/

namespace Sys2Proof.Machine.Steps

open Motion Holds

/-! ## A message that ends CLOSEDOWN (R175) -/

section
variable {l : Link} {bytes : List Byte} {s v : State}

/-- R175: what a handler that ends grants leaves alone. -/
structure Brief (s v : State) : Prop where
  mode : v.mode = s.mode
  handle : v.grant.lastHandle = s.grant.lastHandle
  config : v.config = s.config
  log : v.faultLog = s.faultLog
  axis : v.axis = { s.axis with stall := v.axis.stall, liftOutput := v.axis.liftOutput }

/-- R153, R175, R155: a message that ends CLOSEDOWN closes with the entry into OFF, its reply queued. -/
theorem answered_leaves {m : Msg} {r : Reply} {ends listed : List (Grant × Reason)} (ready : Ready l s)
    (short : bytes.length ≤ frameBytes) (parsed : parseFrame l ⟨bytes, false⟩ = .msg m)
    (handles : handleMsg l m (handed l bytes s) = (v, some r)) (told : Told ends (handed l bytes s) v)
    (perm : ends.Perm listed) (order : Listed s.grant.table listed) (sound : Sound v) (last : Brief s v)
    (done : closedownDone s v = true) : ∃ u, portEvent (receiveFrame l bytes) s = enterOff u ∧
      u = v.setPort u.port ∧ u.grant.table = [] ∧ WentOff s (enterOff u) ∧
      queueOf l (enterOff u) =
        queueOf l s ++ gendsTo l listed s ++ [.rply (bytes.headD 0#8) r.status r.fields] := by
  obtain ⟨received, handled⟩ := receiveFrame_ended ready short parsed handles told perm order
  have grant : (receiveFrame l bytes s).grant = v.grant := by rw [received]; rfl
  have keeps := sound.of_grant grant
  have ended : closedownDone s (receiveFrame l bytes s) = true := by
    rw [received]
    exact done
  have empty : (receiveFrame l bytes s).grant.table = [] := by
    unfold closedownDone nothingOut at ended
    simp only [Bool.and_eq_true, List.isEmpty_iff] at ended
    exact ended.2.2
  have queue : queueOf l (receiveFrame l bytes s) = queueOf l s ++ gendsTo l listed s ++
      [.rply (bytes.headD 0#8) r.status r.fields] := by
    rw [handled.queue l, if_pos rfl]
  have kept := queueOf_enterOff keeps empty ((portHeld_handled ready handled l).state.trans ready.up)
    ((portHeld_handled ready handled l).close.trans ready.close) (by rw [queue]; simp)
  refine ⟨receiveFrame l bytes s, conclude_off ended keeps, received, empty,
    wentOff_of_offs ?_ (offs_enterOff keeps), kept.trans queue⟩
  exact
    { mode := by rw [received]; exact last.mode
      handle := by rw [grant]; exact last.handle
      config := by rw [received]; exact last.config
      log := by rw [received]; exact last.log
      axis := by rw [received]; exact last.axis
      port := portHeld_handled ready handled }

end

/-! ## RSTLVL 2 (R176) -/

/-- R176, R71: every grant cut, before anything else. -/
theorem gone_resetGrants {s : State} (h : Sound s) : AllGone .reset s (cutGrants .reset (fun _ => true) s) :=
  allGone_cutGrants h nofun

/-- R176, R31, R71: what RSTLVL 2 leaves. -/
structure Level2 (s v : State) : Prop where
  grant : v.grant = { s.grant with table := [], slots := .all ⟨none, none⟩ }
  sound : Sound v
  stopped : ∀ g ∈ s.grant.table, g.state ≠ .waiting → AxisStopped g.axis s v
  pump : v.drive.pumpOver = 0
  told : ∃ ends, Told ends s v ∧ ends.Perm (s.grant.table.map fun g => (g, Reason.reset))
  frame : v = { s with
    grant := v.grant, axis := { s.axis with stall := none, liftOutput := v.drive.output.lift }
    drive := v.drive, panel := v.panel, port := v.port, notice := v.notice }

theorem axisStopped_of_outputs {a : Axis} {s t : State} (h : AxisStopped a s t) (n : Nat) (x : AxisUnit) :
    AxisStopped a s ((t.setDrive { t.drive with pumpOver := n }).setAxis x) :=
  ⟨h.output, h.driving, h.delay, h.coil, h.duty, h.panel, h.latch, h.pump⟩

theorem sound_cutAll {s : State} (h : Sound s) (r : Reason) : Sound (cutGrants r (fun _ => true) s) :=
  (turned_cut h r (sel := fun _ => true) fun _ _ _ _ => rfl).sound

/-- R71, R113, R176: what RSTLVL 2 does once the grants are cut. -/
def unstalled (t : State) : State :=
  (t.setDrive { t.drive with pumpOver := 0 }).setAxis
    { t.axis with stall := none, liftOutput := t.drive.output.lift }

theorem resetLevel2_eq (s : State) : resetLevel2 s = unstalled (cutGrants .reset (fun _ => true) s) := rfl

theorem level2_resetLevel2 {s : State} (h : Sound s) : Level2 s (resetLevel2 s) := by
  have gone := gone_resetGrants h
  have sound := sound_cutAll h .reset
  rw [resetLevel2_eq]
  generalize cutGrants .reset (fun _ => true) s = t at gone sound ⊢
  have frame := gone.frame
  refine
    { grant := ?_
      sound := sound.of_grant rfl
      stopped := fun g hg holds => axisStopped_of_outputs (gone.stopped g hg holds) 0 _
      pump := rfl
      told := gone.told
      frame := ?_ }
  · show t.grant = ⟨[], s.grant.lastHandle, .all ⟨none, none⟩⟩
    rw [← gone.table, ← gone.slots, ← gone.handle]
  · unfold unstalled
    have axis : t.axis = s.axis := by rw [frame]
    rw [axis]
    rw [frame]
    rfl

theorem handleMsg_rstlvl2 {s : State} (mode : s.mode.mode ≠ .barred) :
    handleMsg .sl0 (.rstlvl 2) s = (resetLevel2 s, some ⟨.ok, [2#8]⟩) := if_neg mode

/-- R176, R175: RSTLVL 2 carried out, as it closes. -/
theorem answered_level2 {s : State} (ready : Ready .sl0 s) (h : Sound s) (served : linkMode s.mode.mode = true)
    (mode : s.mode.mode ≠ .barred) :
    let ends := s.grant.table.map fun g => (g, Reason.reset)
    let t := portEvent (receiveFrame .sl0 (rstlvlFrame 2#8)) s
    t.grant = { s.grant with table := [], slots := .all ⟨none, none⟩ } ∧
      (∀ g ∈ s.grant.table, g.state ≠ .waiting → AxisStopped g.axis s t) ∧
      t.drive.pumpOver = 0 ∧
      (leavesOff [] s = false →
        Handled 3 .sl0 ends (.rply 36#8 .ok [2#8]) s t ∧
        t = { s with
          grant := t.grant
          axis := { s.axis with stall := none, liftOutput := t.drive.output.lift }
          drive := t.drive, panel := t.panel, port := t.port, notice := t.notice
          beacon := t.beacon }) ∧
      (leavesOff [] s = true → WentOff s t ∧
        queueOf .sl0 t = queueOf .sl0 s ++ gendsTo .sl0 ends s ++ [.rply 36#8 .ok [2#8]]) := by
  intro ends
  have level := level2_resetLevel2 (sound_handed h .sl0 (rstlvlFrame 2#8))
  have handles := handleMsg_rstlvl2 (s := handed .sl0 (rstlvlFrame 2#8) s) mode
  have short : (rstlvlFrame 2#8).length ≤ frameBytes := Nat.le_of_ble_eq_true rfl
  have parsed : parseFrame .sl0 ⟨rstlvlFrame 2#8, false⟩ = .msg (.rstlvl 2) := rfl
  have listed : Listed s.grant.table ends := by
    have := listed_endsOf cutOut .reset (fun _ => true) h
    rwa [endsOf_cutOut .reset (List.filter _ _), List.filter_true] at this
  generalize resetLevel2 (handed .sl0 (rstlvlFrame 2#8) s) = v at level handles
  obtain ⟨endings, told, perm⟩ := level.told
  have grant : v.grant = { s.grant with table := [], slots := .all ⟨none, none⟩ } := level.grant
  have frame := level.frame
  have stopped (t : State) (drive : t.drive = v.drive) (panel : t.panel = v.panel) :
      ∀ g ∈ s.grant.table, g.state ≠ .waiting → AxisStopped g.axis s t := fun g hg holds =>
    axisStopped_of_apart_after (axisStopped_of_states (level.stopped g hg holds) fun _ _ => rfl)
      (apart_of_same drive panel _)
  have leaves : closedownDone s v = leavesOff [] s := by
    have axes : closedownDone s v = closedownDone s (v.setAxis s.axis) := by
      unfold closedownDone nothingOut anyDeployed
      rw [frame]
      rfl
    have stays : v.mode.mode = s.mode.mode := by
      rw [frame]
      rfl
    refine axes.trans ((closedownDone_eq (s := s) (u := v.setAxis s.axis) stays rfl).trans ?_)
    show leavesOff v.grant.table s = _
    rw [grant]
  cases ending : leavesOff [] s with
  | false =>
    obtain ⟨closed, handled, -⟩ := answered_ended ready short parsed handles told perm listed
      (leaves.trans ending) (by rw [frame]; exact served) (by rw [frame]; rfl) (by rw [frame]; rfl)
    dsimp only
    generalize portEvent (receiveFrame .sl0 (rstlvlFrame 2#8)) s = t at closed handled ⊢
    refine ⟨by rw [closed]; exact grant, stopped t (by rw [closed]; rfl) (by rw [closed]; rfl),
      by rw [closed]; exact level.pump, fun _ => ⟨handled, ?_⟩, nofun⟩
    rw [closed, frame]
    rfl
  | true =>
    obtain ⟨u, closed, left, empty, off, queue⟩ := answered_leaves ready short parsed handles told perm
      listed level.sound
      { mode := by rw [frame]; rfl, handle := by rw [grant], config := by rw [frame]; rfl
        log := by rw [frame]; rfl, axis := by rw [frame]; rfl } (leaves.trans ending)
    dsimp only
    rw [closed]
    refine ⟨?_, fun g hg holds => axisStopped_enterOff empty (stopped u (by rw [left]; rfl)
      (by rw [left]; rfl) g hg holds), by rw [(enterOff_drive empty).1], nofun, fun _ => ⟨off, queue⟩⟩
    show _ = (⟨[], s.grant.lastHandle, .all ⟨none, none⟩⟩ : GrantEngine)
    rw [← off.cut.table, ← off.cut.slots, ← off.cut.handle]

/-! ## RSTLVL 1 (R176) -/

/-- R134, R142: while the lamp test runs the demands judged light nothing. -/
theorem judgeDemands_of_test {b s : State} (test : s.beacon.test.isSome = true) :
    (judgeDemands b s).beacon.lamp = s.beacon.lamp ∧ (judgeDemands b s).beacon.test = s.beacon.test := by
  have all (l : List Zone) (t : State) (same : t.beacon.lamp = s.beacon.lamp ∧ t.beacon.test = s.beacon.test) :
      (forEach (fun z t => if demandChanged b z s then setDemand z (zoneDemand z s) t else t) l t).beacon.lamp =
        s.beacon.lamp ∧
      (forEach (fun z t => if demandChanged b z s then setDemand z (zoneDemand z s) t else t) l t).beacon.test =
        s.beacon.test := by
    unfold forEach
    induction l generalizing t with
    | nil => exact same
    | cons z l ih =>
      refine ih _ ?_
      dsimp only
      split
      · unfold setDemand
        rw [same.2, test]
        split <;> exact same
      · exact same
  unfold judgeDemands
  split
  · exact all _ s ⟨rfl, rfl⟩
  · exact ⟨rfl, rfl⟩

section
variable {k : Link} {ends listed : List (Grant × Reason)} {b g r : State}

/-- R23: the GENDs at the end of a port's queue put in order. -/
theorem portOf_ordered (perm : ends.Perm listed) (order : Listed b.grant.table listed)
    (queue : queueOf k r = queueOf k b ++ gendsTo k ends b) : portOf k (orderGends b r) =
      { portOf k r with queue := queueOf k b ++ gendsTo k listed b } := by
  have sorted : sortGends b.grant.table (gendsTo k ends b) = gendsTo k listed b := by
    rw [gendsTo_eq, gendsTo_eq]
    split
    · refine sortGends_gends (perm.filter _) ⟨?_, order.distinct⟩
      exact (List.filter_sublist.map _).trans order.order
    · rfl
  rw [portOf_orderGends, queue, List.take_left', List.drop_left', sorted] <;> rfl

/-- R23: a queue that holds no new GEND is left as it is. -/
theorem portOf_unordered (short : (queueOf k r).length ≤ (queueOf k b).length) :
    portOf k (orderGends b r) = portOf k r := by
  rw [portOf_orderGends, List.take_of_length_le short, List.drop_of_length_le short, sortGends_nil,
    List.append_nil]
  rfl

/-- R176, R23: the port that RSTLVL 1 makes with the GENDs of the cuts in order. -/
theorem portOf_reset_ordered (told : Told ends b g) (perm : ends.Perm listed)
    (order : Listed b.grant.table listed) (port : portOf k r = resetPort k (queueOf k g) g r)
    (enabled : portEnabled k g = portEnabled k b) :
    portOf k (orderGends b r) = resetPort k (queueOf k b ++ gendsTo k listed b) b r := by
  have before := told k
  have queue := told_queue told k
  have quiet (state : (portOf k b).state ≠ .up) : portOf k g = portOf k b := by
    rw [before, gendsTo_eq, if_neg state, List.append_nil]
    rfl
  have rests {rate : Nat} {silent : Bool} (rest : portOf k r = restingPort rate silent) :
      portOf k (orderGends b r) = restingPort rate silent := by
    rw [portOf_unordered (by unfold queueOf; rw [rest]; exact Nat.zero_le _), rest]
  have stays (same : portOf k r = portOf k b) : portOf k (orderGends b r) = portOf k b := by
    rw [portOf_unordered (by unfold queueOf; rw [same]), same]
  have none : gendsTo k listed b = [] ↔ gendsTo k ends b = [] := by
    have same : (gendsTo k ends b).Perm (gendsTo k listed b) := by
      rw [gendsTo_eq, gendsTo_eq]
      split
      · exact (perm.filter _).map _
      · rfl
    rw [← List.length_eq_zero_iff, ← same.length_eq, List.length_eq_zero_iff]
  cases st : (portOf k b).state with
  | up =>
    have up : (portOf k g).state = .up := (told_state told k).trans st
    have same : (portOf k g).close = (portOf k b).close := by rw [before]
    cases close : (portOf k b).close with
    | some c =>
      rw [resetPort_pending up (same.trans close), enabled] at port
      rw [portOf_ordered perm order ((congrArg Port.queue port).trans queue), port, before,
        resetPort_pending st close]
    | none =>
      rw [resetPort_open up (same.trans close), enabled] at port
      rw [resetPort_open st close]
      by_cases empty : queueOf k g = []
      · rw [if_pos empty] at port
        rw [queue, List.append_eq_nil_iff] at empty
        rw [rests port, if_pos (List.append_eq_nil_iff.mpr ⟨empty.1, none.mpr empty.2⟩), before]
      · rw [if_neg empty] at port
        have left : queueOf k b ++ gendsTo k listed b ≠ [] := fun e => empty (by
          rw [queue]
          obtain ⟨first, rest⟩ := List.append_eq_nil_iff.mp e
          rw [first, none.mp rest]
          rfl)
        rw [portOf_ordered perm order ((congrArg Port.queue port).trans queue), port, before,
          if_neg left]
  | opening =>
    have same := quiet (by rw [st]; nofun)
    rw [resetPort_opening (by rw [same]; exact st), same, enabled] at port
    rw [resetPort_opening st]
    exact rests port
  | silenced =>
    have same := quiet (by rw [st]; nofun)
    rw [resetPort_silenced (by rw [same]; exact st), same, enabled] at port
    rw [resetPort_silenced st]
    split
    next ended =>
      rw [if_pos ended] at port
      exact rests port
    next on =>
      rw [if_neg on] at port
      exact stays port
  | disabled =>
    have same := quiet (by rw [st]; nofun)
    rw [resetPort_disabled (by rw [same]; exact st), same, enabled] at port
    rw [resetPort_disabled st]
    split
    next starts =>
      rw [if_pos starts] at port
      exact rests port
    next off =>
      rw [if_neg off] at port
      exact stays port

end

theorem handleMsg_rstlvl1 {s : State} (mode : s.mode.mode ≠ .closedown) (free : s.store.save = none) :
    handleMsg .sl0 (.rstlvl 1) s = (resetLevel1 s, some ⟨.ok, [1#8]⟩) :=
  (if_neg mode).trans (if_neg (by unfold saving; rw [free]; nofun))

theorem handleMsg_rstlvl1_waits {s : State} (mode : s.mode.mode ≠ .closedown) (busy : s.store.save.isSome = true) :
    handleMsg .sl0 (.rstlvl 1) s = (s.setStore { s.store with resetWaits := some .awaited }, none) :=
  (if_neg mode).trans (if_pos busy)

/-- R176: an RSTLVL 1 that waits for a save keeps its message in hand. -/
theorem answered_level1_waits {s : State} (ready : Ready .sl0 s) (mode : s.mode.mode ≠ .closedown)
    (busy : s.store.save.isSome = true) :
    let t := portEvent (receiveFrame .sl0 (rstlvlFrame 1#8)) s
    t = { s with store := { s.store with resetWaits := some .awaited }, port := t.port } ∧
      queueOf .sl0 t = queueOf .sl0 s ∧ (portOf .sl0 t).inHand = true := by
  have handles := handleMsg_rstlvl1_waits (s := handed .sl0 (rstlvlFrame 1#8) s) mode busy
  have delivered : deliver .sl0 ⟨rstlvlFrame 1#8, false⟩ (handed .sl0 (rstlvlFrame 1#8) s) =
      (handed .sl0 (rstlvlFrame 1#8) s).setStore { s.store with resetWaits := some .awaited } := by
    unfold deliver
    rw [handleFrame_eq (m := .rstlvl 1) rfl handles]
    exact orderGends_of_port rfl
  have port := portOf_handed (bytes := rstlvlFrame 1#8) ready .sl0
  have queue := queueOf_handed (bytes := rstlvlFrame 1#8) ready .sl0
  have received := receiveFrame_delivers ready (bytes := rstlvlFrame 1#8) (Nat.le_of_ble_eq_true rfl) (by
    show (portOf .sl0 (deliver .sl0 ⟨rstlvlFrame 1#8, false⟩ (handed .sl0 (rstlvlFrame 1#8) s))).buffer = []
    rw [delivered]
    show (portOf .sl0 (handed .sl0 (rstlvlFrame 1#8) s)).buffer = []
    rw [port, if_pos rfl]
    exact ready.buffer)
  have closed : portEvent (receiveFrame .sl0 (rstlvlFrame 1#8)) s =
      (handed .sl0 (rstlvlFrame 1#8) s).setStore { s.store with resetWaits := some .awaited } := by
    unfold portEvent
    rw [received.trans delivered]
    exact conclude_of_unjudged rfl rfl rfl rfl
  dsimp only
  rw [closed]
  refine ⟨rfl, queue, ?_⟩
  show (portOf .sl0 (handed .sl0 (rstlvlFrame 1#8) s)).inHand = true
  rw [port, if_pos rfl]

/-- R176: what RSTLVL 1 carried out leaves, as its message closes. -/
structure Level1 (s t : State) : Prop where
  mode : t.mode = { s.mode with mode := .check, timer := some 300, history := [] }
  cut : AllCut s t
  config : t.config = storedConfig s
  fault : t.axis.fault = .all none
  hold : t.hold = s.hold
  log : t.faultLog = s.faultLog
  mask : t.notice.mask = .empty
  attention : t.notice.attention = false
  test : t.beacon.test = some ⟨0, false⟩
  port : ∀ k, k ≠ .sl0 → portOf k t =
    resetPort k (queueOf k s ++ gendsTo k (s.grant.table.map fun g => (g, Reason.reset)) s) s t
  link : ∀ k, k ≠ .sl0 → (portOf k s).state = .up → (portOf k t).state ≠ .up → t.notice.flags.link = true
  lamp : ∀ c, lampOf c t =
    match t.config.lamp.zone.get c with
    | none => ⟨.unassigned, none, none, false⟩
    | some z => ⟨.ok, some 0,
        if s.config.lamp.zone.get c = some z then (lampOf c s).position else none, true⟩
  judged : JudgedOk t
  super : portOf .sl0 t = { taken 3 (portOf .sl0 s) with
    inHand := true
    queue := queueOf .sl0 s ++ gendsTo .sl0 (s.grant.table.map fun g => (g, Reason.reset)) s ++
      [.rply 36#8 .ok [1#8]] }

/-- R176 steps 1 to 5, on the state its message finds. -/
theorem level1_resetLevel1 {s : State} (h : Sound s) :
    Renewed (resetGrants s) (resetLevel1 s) ∧ JudgedOk (resetLevel1 s) ∧ AllCut s (resetLevel1 s) ∧
    ∃ ends, ends.Perm (s.grant.table.map fun g => (g, Reason.reset)) ∧ Told ends s (resetGrants s) ∧
      (resetGrants s).mode = s.mode ∧ (resetGrants s).config = s.config ∧ (resetGrants s).store = s.store ∧
      (resetGrants s).hold = s.hold ∧ (resetGrants s).faultLog = s.faultLog ∧
      (resetGrants s).beacon = s.beacon := by
  have gone := gone_resetGrants h
  have renewed := renewed_resetLevel1 s
  have judged := judgedOk_resetLevel1 s
  obtain ⟨d, x, cut, -, -⟩ := resetGrants_frame s
  obtain ⟨ends, told, perm⟩ := gone.told
  generalize resetLevel1 s = t at renewed judged ⊢
  rw [cut] at renewed ⊢
  generalize cutGrants .reset (fun _ => true) s = v at gone renewed told ⊢
  have frame := gone.frame
  refine ⟨renewed, judged, ⟨?_, ?_, ?_, renewed.outputs⟩, ends, perm, told, ?_, ?_, ?_, ?_, ?_, ?_⟩
  · rw [renewed.grant]
    exact gone.table
  · rw [renewed.grant]
    exact gone.handle
  · rw [renewed.grant]
    exact gone.slots
  all_goals
    rw [frame]
    rfl

/-- R176, R23: RSTLVL 1's ports with its GENDs in order and its reply after them. -/
theorem placed_level1 {b g r : State} {ends listed : List (Grant × Reason)} {bytes : List Byte} {a : Reply}
    (renewed : Renewed g r) (told : Told ends b g) (perm : ends.Perm listed)
    (order : Listed b.grant.table listed) (served : linkMode b.mode.mode = true) (mode : g.mode = b.mode)
    (config : g.config = b.config) (up : (portOf .sl0 b).state = .up) :
    let u := replied .sl0 bytes a (orderGends b r)
    u = r.setPort u.port ∧
      (∀ k, k ≠ .sl0 → portOf k u = resetPort k (queueOf k b ++ gendsTo k listed b) b r) ∧
      portOf .sl0 u = { portOf .sl0 b with
        queue := queueOf .sl0 b ++ gendsTo .sl0 listed b ++ [.rply (bytes.headD 0#8) a.status a.fields] } ∧
      ∀ k, (portOf k u).state = (portOf k r).state := by
  have ports := renewed.port (by rw [mode]; exact served)
  have enabled (k : Link) : portEnabled k g = portEnabled k b := by
    unfold portEnabled
    rw [mode, config]
  have kept : portOf .sl0 r = portOf .sl0 g := (ports .sl0).trans (if_pos rfl)
  have super : portOf .sl0 (orderGends b r) =
      { portOf .sl0 b with queue := queueOf .sl0 b ++ gendsTo .sl0 listed b } := by
    rw [portOf_ordered perm order ((congrArg Port.queue kept).trans (told_queue told .sl0)), kept, told .sl0]
  have ordered := orderGends_frame b r
  have others (k : Link) (other : k ≠ .sl0) := portOf_reset_ordered told perm order
    ((ports k).trans (if_neg other)) (enabled k)
  have states (k : Link) : (portOf k (orderGends b r)).state = (portOf k r).state := by rw [portOf_orderGends]
  generalize orderGends b r = o at super ordered others states
  refine ⟨?_, fun k other => ?_, ?_, fun k => ?_⟩
  · have placed : replied .sl0 bytes a o = o.setPort (replied .sl0 bytes a o).port := placeMessage_frame ..
    generalize replied .sl0 bytes a o = u at placed ⊢
    rw [placed, ordered]
    rfl
  · refine (portOf_placeMessage ..).trans ?_
    rw [if_neg fun e => other e.1, List.append_nil]
    exact others k other
  · refine (portOf_placeMessage ..).trans ?_
    rw [if_pos ⟨rfl, by rw [super]; exact up⟩]
    unfold queueOf at super ⊢
    rw [super]
    rfl
  · exact (congrArg Port.state (portOf_placeMessage ..)).trans (states k)

theorem answered_level1 {s : State} (ready : Ready .sl0 s) (h : Sound s) (served : linkMode s.mode.mode = true)
    (mode : s.mode.mode ≠ .closedown) (free : s.store.save = none) :
    Level1 s (portEvent (receiveFrame .sl0 (rstlvlFrame 1#8)) s) := by
  have sound := sound_handed h .sl0 (rstlvlFrame 1#8)
  have handles := handleMsg_rstlvl1 (s := handed .sl0 (rstlvlFrame 1#8) s) mode free
  obtain ⟨renewed, judged, cut, ends, perm, told, gmode, config, store, hold, log, beacon⟩ :=
    level1_resetLevel1 sound
  have listed : Listed s.grant.table (s.grant.table.map fun g => (g, Reason.reset)) := by
    have := listed_endsOf cutOut .reset (fun _ => true) h
    rwa [endsOf_cutOut .reset (List.filter _ _), List.filter_true] at this
  have handedPort (k : Link) := portOf_handed (bytes := rstlvlFrame 1#8) ready k
  have handedQueue (k : Link) := queueOf_handed (bytes := rstlvlFrame 1#8) ready k
  have handedTo (k : Link) := gendsTo_handed (bytes := rstlvlFrame 1#8) ready k
  have handedUp : (portOf .sl0 (handed .sl0 (rstlvlFrame 1#8) s)).state = .up := by
    rw [handedPort, if_pos rfl]
    exact ready.up
  obtain ⟨left, others, super, states⟩ := placed_level1 (bytes := rstlvlFrame 1#8) (a := ⟨.ok, [1#8]⟩) renewed told perm
    listed served gmode config handedUp
  have same (k : Link) (q : List OutMsg) (t : State) (other : k ≠ .sl0) :
      resetPort k q (handed .sl0 (rstlvlFrame 1#8) s) t = resetPort k q s t := by
    unfold resetPort
    rw [handedPort k, if_neg other]
    rfl
  have received : receiveFrame .sl0 (rstlvlFrame 1#8) s =
      replied .sl0 (rstlvlFrame 1#8) ⟨.ok, [1#8]⟩ (orderGends (handed .sl0 (rstlvlFrame 1#8) s)
        (resetLevel1 (handed .sl0 (rstlvlFrame 1#8) s))) := by
    have delivered : deliver .sl0 ⟨rstlvlFrame 1#8, false⟩ (handed .sl0 (rstlvlFrame 1#8) s) =
        replied .sl0 (rstlvlFrame 1#8) ⟨.ok, [1#8]⟩ (orderGends (handed .sl0 (rstlvlFrame 1#8) s)
          (resetLevel1 (handed .sl0 (rstlvlFrame 1#8) s))) := by
      unfold deliver
      rw [handleFrame_eq (m := .rstlvl 1) rfl handles]
      rfl
    rw [← delivered]
    refine receiveFrame_delivers ready (bytes := rstlvlFrame 1#8) (Nat.le_of_ble_eq_true rfl) ?_
    show (portOf .sl0 (deliver .sl0 ⟨rstlvlFrame 1#8, false⟩ (handed .sl0 (rstlvlFrame 1#8) s))).buffer = []
    rw [delivered, super, handedPort, if_pos rfl]
    exact ready.buffer
  have judgedReply : JudgedOk (replied .sl0 (rstlvlFrame 1#8) ⟨.ok, [1#8]⟩
      (orderGends (handed .sl0 (rstlvlFrame 1#8) s) (resetLevel1 (handed .sl0 (rstlvlFrame 1#8) s)))) :=
    (alike_placeMessage _ .sl0 _).judged ((alike_orderGends _ _).judged judged)
  unfold portEvent
  rw [received]
  generalize replied .sl0 (rstlvlFrame 1#8) ⟨.ok, [1#8]⟩ (orderGends (handed .sl0 (rstlvlFrame 1#8) s)
    (resetLevel1 (handed .sl0 (rstlvlFrame 1#8) s))) = u at left others super states judgedReply ⊢
  generalize resetLevel1 (handed .sl0 (rstlvlFrame 1#8) s) = r at renewed cut left others states
  have mode' : u.mode.mode ≠ .closedown := by
    rw [left, State.setPort_mode, renewed.mode]
    exact (by decide : Mode.check ≠ .closedown)
  have closes : conclude s u = judgeDemands s u := by
    unfold conclude
    rw [closedownDone_of_mode mode']
    rfl
  obtain ⟨lamps, test⟩ := judgeDemands_of_test (b := s) (s := u) (by rw [left, State.setPort_beacon, renewed.test]; rfl)
  have judgedClose := judged_conclude u s judgedReply
  rw [closes] at judgedClose ⊢
  have frame := judgeDemands_frame s u
  generalize judgeDemands s u = t at lamps test judgedClose frame ⊢
  have lasts : t = (r.setPort u.port).setBeacon t.beacon := by rw [frame, left]; rfl
  have ports : t.port = u.port := by rw [frame]; rfl
  have stored : r.config = storedConfig s := by
    rw [renewed.config]
    unfold storedConfig
    rw [store]
    rfl
  have config' : t.config = r.config := by rw [lasts]; rfl
  have enabled (k : Link) : portEnabled k t = portEnabled k r := by
    unfold portEnabled
    rw [lasts]
    rfl
  have read (k : Link) : portOf k t = portOf k u := by
    unfold portOf
    rw [ports]
  exact
    { mode := by rw [lasts]; exact renewed.mode.trans (by rw [gmode]; rfl)
      cut := by rw [lasts]; exact ⟨cut.table, cut.handle, cut.slots, outputsOff_of_blocks cut.outputs rfl rfl⟩
      config := config'.trans stored
      fault := by rw [lasts]; exact renewed.fault
      hold := by rw [lasts]; exact renewed.hold.trans hold
      log := by rw [lasts]; exact renewed.log.trans log
      mask := by rw [lasts]; exact renewed.mask
      attention := by rw [lasts]; exact renewed.attention (by rw [gmode]; exact served)
      test := by rw [test, left]; exact renewed.test
      port := fun k other => by
        rw [read k, others k other, same k _ _ other, handedQueue k, handedTo k]
        exact (resetPort_congr (enabled k) config').symm
      link := fun k other up off => by
        rw [read k, states k] at off
        rw [lasts]
        refine renewed.tells.lost k ?_ off
        rw [told_state told k, handedPort k, if_neg other]
        exact up
      lamp := fun c => by
        have lit : lampOf c t = lampOf c r := by
          unfold lampOf
          rw [lamps, left]
          rfl
        have before : lampOf c (resetGrants (handed .sl0 (rstlvlFrame 1#8) s)) = lampOf c s := by
          unfold lampOf
          rw [beacon]
          rfl
        rw [lit, renewed.lamp c, config', config, before]
        rfl
      judged := judgedClose
      super := by rw [read, super, handedQueue, handedTo, handedPort, if_pos rfl]; rfl }

/-- Settles O59: with every grant cut, RSTLVL 1 works on ports that only close and lamps that only light. -/
theorem resetLevelsCutGrants : Obligations.ResetLevelsCutGrants := by
  unfold Obligations.ResetLevelsCutGrants
  refine ⟨fun l s other ready => ⟨⟨_, rfl, ?_⟩, ⟨_, rfl, ?_⟩⟩, fun s ready ok slots served => ?_⟩
  · exact answeredOnly_notsuper (k := .rstlvl) ready other rfl rfl (Nat.le_of_ble_eq_true rfl)
  · exact answeredOnly_notsuper (k := .rstlvl) ready other rfl rfl (Nat.le_of_ble_eq_true rfl)
  · have h : Sound s := ⟨ok, slots⟩
    refine ⟨⟨_, rfl, fun mode => ?_, fun mode busy => ?_, fun mode free => ?_⟩,
      ⟨_, rfl, fun mode => ?_, fun mode => ?_⟩⟩
    · exact answeredOnly_of_query (r := ⟨.mode, []⟩) ready (Nat.le_of_ble_eq_true rfl)
        (show parseFrame .sl0 ⟨rstlvlFrame 1#8, false⟩ = .msg (.rstlvl 1) from rfl)
        (show handleRstlvl1 (handed .sl0 (rstlvlFrame 1#8) s) = _ from if_pos mode)
    · exact answered_level1_waits ready mode busy
    · have level := answered_level1 ready h served mode free
      generalize portEvent (receiveFrame .sl0 (rstlvlFrame 1#8)) s = t at level ⊢
      exact ⟨level.mode, level.cut, level.config, level.fault, level.hold, level.log, level.mask,
        level.attention, level.test, level.port, level.link, level.lamp, level.judged.health, level.judged.map,
        level.super⟩
    · exact answeredOnly_of_query (r := ⟨.mode, []⟩) ready (Nat.le_of_ble_eq_true rfl)
        (show parseFrame .sl0 ⟨rstlvlFrame 2#8, false⟩ = .msg (.rstlvl 2) from rfl)
        (show handleRstlvl2 (handed .sl0 (rstlvlFrame 2#8) s) = _ from if_pos mode)
    · exact answered_level2 ready h served mode

end Sys2Proof.Machine.Steps
end

section
/-! The loss of a link (R30, R149, R150, R155). -/

namespace Sys2Proof.Machine.Steps

open Motion Holds

/-! ## A pause among several grants (R11, R30) -/

theorem gatedStop_setGrant (a : Axis) (v : GrantEngine) (s : State) :
    gatedStop a (s.setGrant v) = (gatedStop a s).setGrant v := by
  unfold gatedStop
  cases motorOf a with
  | none => rfl
  | some m =>
    by_cases pass : (s.panel.axis.get m).gate = .pass
    · exact (if_pos pass).trans (congrArg (fun u : State => u.setGrant v) (if_pos pass).symm)
    · refine (if_neg pass).trans (Eq.trans ?_ (congrArg (fun u : State => u.setGrant v) (if_neg pass).symm))
      rfl

theorem panelWindDown_setGrant (a : Axis) (v : GrantEngine) (s : State) :
    panelWindDown a (s.setGrant v) = (panelWindDown a s).setGrant v := by
  unfold panelWindDown
  cases motorOf a with
  | none => rfl
  | some m =>
    have same : panelOf m (s.setGrant v) = panelOf m s := rfl
    dsimp only
    rw [same]
    cases (panelOf m s).state <;> cases m <;> rfl

/-- R11: a grant that has entered PAUSED. -/
def pausedAs (g : Grant) (s : State) : Grant :=
  { g with state := .paused, deadman := none, pause := some s.config.pauseWindow }

theorem pauseGrant_eq (g : Grant) (r : Reason) (s : State) :
    pauseGrant g s = (easing g r s).setGrant (putGrant (pausedAs g s) s).grant := by
  have paused : putGrant (pausedAs g s) s = (putGrant (eased g r) s).setGrant (putGrant (pausedAs g s) s).grant := rfl
  show panelWindDown g.axis (gatedStop g.axis (putGrant (pausedAs g s) s)) = _
  rw [paused, gatedStop_setGrant, panelWindDown_setGrant]
  rfl

theorem turns_pause {out : Grant → Option Grant} {r : Reason} {g : Grant} {t : State} (h : Sound t)
    (hg : g ∈ t.grant.table) (drives : g.state = .driving) (left : out g = some (pausedAs g t)) :
    Turns out r g t (pauseGrant g t) := by
  have paused := pauseGrant_eq g r t
  have grant : (pauseGrant g t).grant = (putGrant (pausedAs g t) t).grant := by
    rw [paused]
    rfl
  refine ⟨sound_pauseGrant h hg drives, ?_, by rw [grant]; rfl, ?_, fun b other => ?_, fun _ none => ?_⟩
  · rw [grant, left]
    exact tableWith_eq g (pausedAs g t) t rfl
  · rw [endsOf_some r left]
    exact (drives_pauseGrant g t).ended
  · rw [paused]
    exact (apart_easing (fun e => other (by rw [drives]; nofun) (by rw [e])) r t).trans (apart_of_same (s := easing g r t)
      (t := (easing g r t).setGrant (putGrant (pausedAs g t) t).grant) rfl rfl b)
  · rw [left] at none
    cases none

/-! ## The grants of a lost link's station (R30) -/

/-- R30: what the loss of a link leaves of a grant of its station. -/
def lossOut (m : LinkMode) (s : State) (g : Grant) : Option Grant :=
  match m with
  | .strict => rampOut .linkLost s g
  | .tolerant =>
    match g.state with
    | .waiting => none
    | .driving => some (pausedAs g s)
    | .easing | .paused => some g

theorem lossOut_tolerant {s : State} {g k : Grant} (left : lossOut .tolerant s g = some k) :
    k.handle = g.handle ∧ k.state ≠ .waiting := by
  unfold lossOut at left
  cases st : g.state <;> rw [st] at left <;> cases left
  · exact ⟨rfl, nofun⟩
  · exact ⟨rfl, by rw [st]; nofun⟩
  · exact ⟨rfl, by rw [st]; nofun⟩

theorem loseLink_strict : loseLink .strict = windDown .linkLost := by
  funext g s
  unfold loseLink
  cases g.state <;> rfl

/-- R30: the grants of a station whose link is lost. -/
theorem turned_loseLink {s : State} (h : Sound s) (m : LinkMode) (sel : Grant → Bool) :
    Turned (lossOut m s) .linkLost (inTurn sel s) s (forGrants sel (loseLink m) s) := by
  cases m with
  | strict =>
    rw [loseLink_strict]
    exact turned_ease h .linkLost sel
  | tolerant =>
    refine turned_forGrants h (fun _ _ _ _ left => lossOut_tolerant left) fun t g _ _ sound live config _ _ => ?_
    have window : pausedAs g t = pausedAs g s := by
      unfold pausedAs
      rw [config]
    unfold loseLink windDown
    cases st : g.state with
    | waiting => exact turns_retire_waiting sound live st (by unfold lossOut; rw [st])
    | driving => exact turns_pause sound live st (by unfold lossOut; rw [st, window])
    | easing => exact turns_kept sound live (by unfold lossOut; rw [st])
    | paused => exact turns_kept sound live (by unfold lossOut; rw [st])

/-- R30, R32: the loss of a link does nothing to grants that all are EASING. -/
theorem reactLinkLoss_of_easing {s : State} (easing : ∀ g ∈ s.grant.table, g.state = .easing) (l : Link) :
    reactLinkLoss l s = s := by
  have one (h : Nat) : onGrant h (loseLink (s.config.profile.get l).mode) s = s := by
    unfold onGrant
    cases found : findGrant h s with
    | none => rfl
    | some g =>
      dsimp only
      unfold loseLink windDown
      rw [easing g (findGrant_some found).1]
  have all (hs : List Nat) : forEach (fun h => onGrant h (loseLink (s.config.profile.get l).mode)) hs s = s :=
    forEach_fixed one hs
  unfold reactLinkLoss forGrants
  dsimp only
  rw [all, all]

/-! ## The loss reported (R150) -/

/-- R150: a port that is not UP keeps what it holds through the grant engine's reactions. -/
theorem portKept_rest {p q : Port} (h : PortKept p q) (down : p.state ≠ .up) (empty : p.queue = []) : q = p := by
  have queue := h.quiet down empty
  rw [h.eq, queue, ← empty]

/-- R150: what the loss of a link leaves, with no premise on the grants but R32's in CLOSEDOWN. -/
structure Dropped (l : Link) (p : Port) (s u : State) : Prop where
  port : portOf l u = p
  kept : ∀ k, PortKept (portOf k (putPort l p s)) (portOf k u)
  link : u.notice.flags.link = true
  mode : u.mode = s.mode
  axis : u.axis = s.axis
  still : s.mode.mode = .closedown → u.grant = s.grant

theorem dropped_reportLoss {s : State} {l : Link} {p : Port} (easing : EasingOnly s) (down : p.state ≠ .up)
    (empty : p.queue = []) : Dropped l p s (reportLoss l (putPort l p s)) := by
  have dropped := dropResetReply_frame l (putPort l p s)
  have reacts := reacts_reactLinkLoss l (dropResetReply l (putPort l p s))
  have still : s.mode.mode = .closedown → reactLinkLoss l (dropResetReply l (putPort l p s)) =
      dropResetReply l (putPort l p s) := fun closing => reactLinkLoss_of_easing (by
    rw [dropped]
    exact easing closing) l
  have port : portOf l (dropResetReply l (putPort l p s)) = p := by
    rw [dropped]
    exact portOf_putPort_same ..
  have kept := portKept_rest (reacts.port l) (by rw [port]; exact down) (by rw [port]; exact empty)
  unfold reportLoss
  generalize dropResetReply l (putPort l p s) = e at dropped reacts still port kept ⊢
  have same (k : Link) : portOf k (putPort l p s) = portOf k e := by
    rw [dropped]
    rfl
  have mode : e.mode = s.mode := by rw [dropped]; rfl
  have axis : e.axis = s.axis := by rw [dropped]; rfl
  have grant : e.grant = s.grant := by rw [dropped]; rfl
  generalize reactLinkLoss l e = w at reacts still kept ⊢
  refine ⟨kept.trans port, fun k => ?_, rfl, reacts.mode.trans mode, reacts.axis.trans axis, fun closing =>
    (congrArg State.grant (still closing)).trans grant⟩
  rw [same]
  exact reacts.port k

/-- R175: with R32's premise a link's loss does not end CLOSEDOWN. -/
theorem Dropped.stays {s u : State} {l : Link} {p : Port} (h : Dropped l p s u) : closedownDone s u = false := by
  by_cases closing : s.mode.mode = .closedown
  · exact closedownDone_of_still (fun none => by rwa [h.still closing] at none) (by rw [h.axis])
  · exact closedownDone_of_mode (by rw [h.mode]; exact closing)

/-- R150: the loss of a link, and the close of its event. -/
theorem lost_port {s : State} {l : Link} {p : Port} (serving : Serving s) (down : p.state ≠ .up)
    (empty : p.queue = []) :
    portOf l (conclude s (reportLoss l (putPort l p s))) = p ∧
      (conclude s (reportLoss l (putPort l p s))).notice.flags.link = true := by
  have dropped := dropped_reportLoss (l := l) serving.2 down empty
  generalize reportLoss l (putPort l p s) = u at dropped
  have frame := conclude_frame dropped.stays
  generalize conclude s u = t at frame ⊢
  rw [frame]
  exact ⟨dropped.port, dropped.link⟩

theorem lossEnds_reason {m : LinkMode} {s u : State} {sel : Grant → Bool} :
    ∀ e ∈ endsOf (lossOut m s) .linkLost (inTurn sel u), e.2 ≠ .released := by
  intro e he
  obtain ⟨g, -, rfl⟩ := List.mem_map.mp he
  nofun

/-- R30: the records of a lost link's station, in the words of the statements. -/
theorem table_lossOut_tolerant (l : Link) (s : State) :
    (s.grant.table.filterMap fun g => if decide (g.station = l) = true then lossOut .tolerant s g else some g) =
      s.grant.table.filterMap (fun g =>
        if g.station ≠ l then some g
        else
          match g.state with
          | .waiting => none
          | .driving => some { g with
              state := .paused, deadman := none, pause := some s.config.pauseWindow }
          | .easing | .paused => some g) := by
  refine List.filterMap_congr fun g _ => ?_
  by_cases e : g.station = l
  · rw [if_pos (decide_eq_true e), if_neg (not_not.mpr e)]
    rfl
  · rw [if_neg (by rw [decide_eq_false e]; nofun), if_pos e]

theorem gend_of_loss {m : LinkMode} (l : Link) (s : State) :
    (!(endsOf (lossOut m s) .linkLost (inTurn (fun g => decide (g.station = l)) s)).isEmpty) =
      match m with
      | .strict => (rampedEnds (fun g => decide (g.station = l)) .linkLost s).any fun _ => true
      | .tolerant => s.grant.table.any fun g => decide (g.station = l ∧ g.state = .waiting) := by
  have perm := endsOf_perm (lossOut m s) .linkLost (fun g => decide (g.station = l)) s
  rw [perm.isEmpty_eq]
  cases m with
  | strict =>
    show (!(endsOf (rampOut .linkLost s) .linkLost _).isEmpty) = _
    rw [endsOf_rampOut]
    cases rampedEnds (fun g => decide (g.station = l)) .linkLost s <;> rfl
  | tolerant =>
    have gone (g : Grant) : (lossOut .tolerant s g).isNone = decide (g.state = .waiting) := by
      unfold lossOut
      cases e : g.state <;> rfl
    unfold endsOf
    simp only [gone, List.isEmpty_map, List.filter_filter]
    rw [Bool.eq_iff_iff]
    simp [and_comm]

/-- R30, R150: the loss of a link with its reactions, before its event closes. -/
structure Lost (l : Link) (p : Port) (s v : State) : Prop where
  port : ∀ k, portOf k v = if k = l then p else portOf k s
  table : v.grant.table = s.grant.table.filterMap fun g =>
    if decide (g.station = l) = true then lossOut (s.config.profile.get l).mode s g else some g
  ramped : (s.config.profile.get l).mode = .strict → Ramped (fun g => decide (g.station = l)) .linkLost s v
  noticed : Noticed { s.notice.flags with
    link := true
    gend := s.notice.flags.gend ||
      !(endsOf (lossOut (s.config.profile.get l).mode s) .linkLost
        (inTurn (fun g => decide (g.station = l)) s)).isEmpty } s.notice.mask v
  store : v.store = { s.store with
    resetWaits := if l = .sl0 then s.store.resetWaits.map fun _ => .dropped else s.store.resetWaits }
  frame : v = { s with
    grant := v.grant, drive := v.drive, panel := v.panel, port := v.port, notice := v.notice
    store := v.store }

/-- R22, R23: no GEND of a station reaches another, nor a link that is down. -/
theorem toldTo_station {l k : Link} {ends : List (Grant × Reason)} {s : State}
    (mine : ∀ e ∈ ends, e.1.station = l) (down : (portOf l s).state ≠ .up) : gendsTo k ends s = [] := by
  rw [gendsTo_eq]
  split
  next up =>
    have none : toldTo k ends = [] := List.filter_eq_nil_iff.mpr fun e he c => by
      have same := (of_decide_eq_true c).1
      rw [mine e he] at same
      exact down (same ▸ up)
    rw [none]
    rfl
  next => rfl

theorem dropResetReply_store (l : Link) (s : State) : (dropResetReply l s).store = { s.store with
    resetWaits := if l = .sl0 then s.store.resetWaits.map fun _ => .dropped else s.store.resetWaits } := by
  unfold dropResetReply
  split <;> rfl

theorem lost_reportLoss {s : State} (h : Sound s) {l : Link} {p : Port} (down : p.state ≠ .up) :
    Lost l p s (reportLoss l (putPort l p s)) := by
  have dropped := dropResetReply_frame l (putPort l p s)
  have store := dropResetReply_store l (putPort l p s)
  generalize put : dropResetReply l (putPort l p s) = e at dropped store
  have grant : e.grant = s.grant := by rw [dropped]; rfl
  have profile : e.config = s.config := by rw [dropped]; rfl
  have drive : e.drive = s.drive := by rw [dropped]; rfl
  have panel : e.panel = s.panel := by rw [dropped]; rfl
  have notice : e.notice = s.notice := by rw [dropped]; rfl
  have ports (k : Link) : portOf k e = if k = l then p else portOf k s := by
    rw [dropped]
    exact portOf_putPort l k p s
  have out : lossOut (e.config.profile.get l).mode e = lossOut (s.config.profile.get l).mode s := by
    funext g
    unfold lossOut rampOut runsDown gateOf pausedAs
    rw [profile, drive, panel]
  have turned := turned_loseLink (h.of_grant grant) (e.config.profile.get l).mode fun g => decide (g.station = l)
  have turn : inTurn (fun g => decide (g.station = l)) e = inTurn (fun g => decide (g.station = l)) s := by
    unfold inTurn
    rw [grant]
  have ramped (strict : (s.config.profile.get l).mode = .strict) :
      Ramped (fun g => decide (g.station = l)) .linkLost s (reactLinkLoss l e) := by
    refine ramped_rebase ⟨grant, drive, panel⟩ (ramped_of_turned ?_)
    have wound := turned
    rw [profile, strict] at wound
    unfold reactLinkLoss
    rw [profile, strict]
    exact wound
  have table := turned.table_of_sel
  rw [out, grant] at table
  rw [out, turn] at turned
  have ended := turned.ended
  have told : ∀ k, portOf k (reactLinkLoss l e) = portOf k e := fun k => by
    refine (ended.told k).trans ?_
    rw [toldTo_station (l := l) (fun x hx => ?_) (by rw [ports, if_pos rfl]; exact down), List.append_nil]
    · rfl
    · obtain ⟨g, hg, rfl⟩ := List.mem_map.mp hx
      exact of_decide_eq_true (List.mem_filter.mp ((inTurn_perm _ s).mem_iff.mp (List.mem_filter.mp hg).1)).2
  obtain ⟨mask, flags⟩ := gendNoticed_flags ended.noticed lossEnds_reason
  have frame := ended.frame
  unfold reportLoss
  rw [put]
  have raised := noticed_raise .link (reactLinkLoss l e)
  change (reactLinkLoss l e).notice.mask = _ at mask
  change (reactLinkLoss l e).notice.flags = _ at flags
  change reactLinkLoss l e = _ at frame
  change (reactLinkLoss l e).grant.table = _ at table
  rw [flags, mask, notice] at raised
  generalize reactLinkLoss l e = v at *
  refine
    { port := fun k => (told k).trans (ports k)
      table := table
      ramped := fun strict => ramped_of_blocks (ramped strict) rfl rfl rfl
      noticed := raised
      store := ?_
      frame := ?_ }
  · show v.store = _
    rw [frame, store]
    rfl
  · show ({ v with notice := _ } : State) = _
    rw [frame, dropped]
    rfl

/-- R30, R150, R155: an UP port that leaves for a resting record, as its event closes. -/
theorem linkLost_of_lost {s v : State} {l : Link} {p : Port} (h : Lost l p s v) (serving : Serving s) :
    LinkLost l p s (conclude s v) := by
  have frame := h.frame
  have still : s.mode.mode = .closedown → v.grant.table = s.grant.table := fun closing => by
    rw [h.table]
    refine (List.filterMap_congr fun g hg => ?_).trans List.filterMap_some
    have easing := serving.2 closing g hg
    split
    · unfold lossOut rampOut
      cases (s.config.profile.get l).mode <;> rw [easing]
    · rfl
  have stays : closedownDone s v = false := by
    by_cases closing : s.mode.mode = .closedown
    · exact closedownDone_of_still (fun empty => by rwa [still closing] at empty) (by rw [frame])
    · exact closedownDone_of_mode (by rw [frame]; exact closing)
  obtain ⟨demands, closed⟩ := conclude_judged stays (by rw [frame]; exact serving.1) (by rw [frame]) (by rw [frame])
  generalize conclude s v = t at demands closed ⊢
  have port (k : Link) : portOf k t = portOf k v := by rw [closed]; rfl
  have gend := gend_of_loss (m := (s.config.profile.get l).mode) l s
  exact
    { port := (port l).trans ((h.port l).trans (if_pos rfl))
      others := fun k other => (port k).trans ((h.port k).trans (if_neg other))
      strict := fun strict => by
        refine ⟨ramped_of_blocks (h.ramped strict) (by rw [closed]; rfl) (by rw [closed]; rfl) (by rw [closed]; rfl), ?_⟩
        rw [strict] at gend
        have noticed := h.noticed
        rw [strict, gend] at noticed
        exact noticed_of_notice noticed (by rw [closed]; rfl) (by rw [closed]; rfl)
      tolerant := fun tolerant => by
        have table := h.table
        rw [tolerant, table_lossOut_tolerant] at table
        rw [tolerant] at gend
        have noticed := h.noticed
        rw [tolerant, gend] at noticed
        exact ⟨(congrArg (fun x : State => x.grant.table) closed).trans table,
          noticed_of_notice noticed (by rw [closed]; rfl) (by rw [closed]; rfl)⟩
      frame := by
        rw [closed]
        show ({ v with beacon := _ } : State) = _
        rw [frame]
        rfl
      demands := demands
      store := by rw [closed]; exact h.store }

end Sys2Proof.Machine.Steps
end

section
/-! The ports' own commands: credit, the timers, transmission, closes and RSTLINK (R148 to R156). -/

namespace Sys2Proof.Machine.Steps

open Motion Holds

/-! ## What a port's command comes to -/

section
variable {l : Link} {s : State}

/-- R134, R175: a command that moves one port alone closes with nothing more done. -/
theorem portEvent_moves {f : State → State} {p : Port} (effect : f s = putPort l p s) :
    portEvent f s = putPort l p s := by
  unfold portEvent
  rw [effect]
  exact conclude_of_unjudged rfl rfl rfl rfl

theorem portEvent_rests {f : State → State} (effect : f s = s) : portEvent f s = s := by
  unfold portEvent
  rw [effect]
  exact conclude_of_unjudged rfl rfl rfl rfl

theorem leavePort_up (up : (portOf l s).state = .up) (p : Port) :
    leavePort l p s = reportLoss l (putPort l p s) := if_pos up

theorem leavePort_down (down : (portOf l s).state ≠ .up) (p : Port) : leavePort l p s = putPort l p s :=
  if_neg down

theorem linkError_up (up : (portOf l s).state = .up) :
    linkError l s = reportLoss l (putPort l (restingPort (portOf l s).rate true) s) := leavePort_up up _

theorem enterTarget_up (up : (portOf l s).state = .up) (t : CloseTarget) :
    enterTarget t l s =
      reportLoss l (putPort l (restingPort (portOf l s).rate (decide (t = .silenced))) s) := by
  cases t <;> exact leavePort_up up _

theorem restingPort_down (rate : Nat) (silenced : Bool) : (restingPort rate silenced).state ≠ .up := by
  cases silenced <;> exact nofun

/-- R150, R155: an UP port that a command makes leave, with the grants sound. -/
theorem linkLost_event {f : State → State} {rate : Nat} {silenced : Bool} (h : Sound s) (serving : Serving s)
    (effect : f s = reportLoss l (putPort l (restingPort rate silenced) s)) :
    LinkLost l (restingPort rate silenced) s (portEvent f s) := by
  unfold portEvent
  rw [effect]
  exact linkLost_of_lost (lost_reportLoss h (restingPort_down rate silenced)) serving

theorem receiveLine_encode (x : Symbol) : receiveLine l (encodeSymbol x) s = receiveSymbol l x s :=
  receiveLine_encodeSymbol l x s

theorem receiveSymbol_resting (rest : (portOf l s).state = .disabled ∨ (portOf l s).state = .silenced)
    (x : Symbol) : receiveSymbol l x s = s := by
  unfold receiveSymbol
  rcases rest with e | e <;> rw [e]

theorem receiveSymbol_up (up : (portOf l s).state = .up) (x : Symbol) :
    receiveSymbol l x s = takeSymbol l x s := by
  unfold receiveSymbol
  rw [up]

theorem receiveSymbol_opening (opening : (portOf l s).state = .opening) (x : Symbol) :
    receiveSymbol l x s = takeSymbol l x (enterUp l s) := by
  unfold receiveSymbol
  rw [opening]

/-- R148, R149: an UP or OPENING port as a symbol without a check error leaves it, before it acts. -/
def entered (p : Port) : Port := { p with state := .up, silence := some 0 }

theorem heard_of_up {p : Port} (up : p.state = .up) : heard p = entered p := by
  unfold heard entered
  rw [← up]

/-- R148, R149: the symbol is taken on the port as it then stands. -/
theorem receiveSymbol_served (served : (portOf l s).state = .up ∨ (portOf l s).state = .opening) (x : Symbol) :
    receiveSymbol l x s = takeSymbol l x (putPort l (entered (portOf l s)) s) := by
  rcases served with up | opening
  · rw [receiveSymbol_up up]
    unfold takeSymbol linkError enterSilenced leavePort
    simp only [portOf_putPort_same, putPort_putPort, up]
    rw [heard_of_up up, heard_of_up (p := entered (portOf l s)) rfl]
    rfl
  · exact receiveSymbol_opening opening x

theorem fillReceived_served (served : (portOf l s).state = .up ∨ (portOf l s).state = .opening) :
    receiveLine l (encodeSymbol .fill) s = putPort l (entered (portOf l s)) s := by
  rw [receiveLine_encode, receiveSymbol_served served]
  unfold takeSymbol
  dsimp only
  rw [portOf_putPort_same, putPort_putPort, heard_of_up (p := entered (portOf l s)) rfl]
  rfl

theorem creditReceived_served (served : (portOf l s).state = .up ∨ (portOf l s).state = .opening)
    (room : (portOf l s).creditHeld ≤ 24) :
    receiveLine l (encodeSymbol .credit) s = putPort l { portOf l s with
      state := .up, silence := some 0, creditHeld := (portOf l s).creditHeld + 8 } s := by
  rw [receiveLine_encode, receiveSymbol_served served]
  unfold takeSymbol
  dsimp only
  rw [portOf_putPort_same, putPort_putPort, heard_of_up (p := entered (portOf l s)) rfl]
  refine (if_neg ?_).trans rfl
  show ¬ decide (32 < (portOf l s).creditHeld + 8) = true
  simp
  omega

theorem creditReceived_overflow (served : (portOf l s).state = .up ∨ (portOf l s).state = .opening)
    (full : 24 < (portOf l s).creditHeld) : receiveLine l (encodeSymbol .credit) s =
      reportLoss l (putPort l (restingPort (portOf l s).rate true) s) := by
  rw [receiveLine_encode, receiveSymbol_served served]
  unfold takeSymbol
  dsimp only
  rw [portOf_putPort_same, heard_of_up (p := entered (portOf l s)) rfl]
  refine (if_pos ?_).trans ?_
  · show decide (32 < (portOf l s).creditHeld + 8) = true
    simp
    omega
  · rw [linkError_up (by rw [portOf_putPort_same]; rfl), portOf_putPort_same, putPort_putPort]
    rfl

/-- R149, R151: a message symbol that finds no credit given. -/
theorem overrun_up (up : (portOf l s).state = .up) (m : MsgSymbol) (none : (portOf l s).creditGiven = 0) :
    receiveLine l (encodeSymbol (.msg m)) s =
      reportLoss l (putPort l (restingPort (portOf l s).rate true) s) := by
  rw [receiveLine_encode, receiveSymbol_up up]
  exact (if_pos none).trans (linkError_up up)

/-! ## Transmission (R152, R154, R155) -/

theorem frameBuffer_of_empty (empty : (portOf l s).buffer = []) : frameBuffer l s = s := drain_of_empty empty _

theorem closeIfEmpty_of_none (none : (portOf l s).close = none) : closeIfEmpty l s = s := by
  unfold closeIfEmpty
  dsimp only
  rw [none]

theorem closeIfEmpty_of_some {c : CloseTarget} {n : Nat} (close : (portOf l s).close = some ⟨c, n⟩) :
    closeIfEmpty l s = if (portOf l s).queue = [] then enterTarget c l s else s := by
  unfold closeIfEmpty
  dsimp only
  rw [close]

theorem afterSending_open {p : Port} (open' : p.close = none) (empty : p.buffer = []) :
    afterSending l p s = putPort l p s := by
  unfold afterSending
  rw [closeIfEmpty_of_none (by rw [portOf_putPort_same]; exact open'),
    frameBuffer_of_empty (by rw [portOf_putPort_same]; exact empty)]

/-- R155: a close whose queue has gone out is taken. -/
theorem afterSending_closes {p : Port} (up : p.state = .up) {x : ClosePending} (close : p.close = some x)
    (sent : p.queue = []) : afterSending l p s =
      reportLoss l (putPort l (restingPort p.rate (decide (x.target = .silenced))) s) := by
  have closes : closeIfEmpty l (putPort l p s) =
      reportLoss l (putPort l (restingPort p.rate (decide (x.target = .silenced))) s) := by
    rw [closeIfEmpty_of_some (c := x.target) (n := x.remaining) (by rw [portOf_putPort_same]; exact close),
      if_pos (by rw [portOf_putPort_same]; exact sent), enterTarget_up (by rw [portOf_putPort_same]; exact up),
      portOf_putPort_same, putPort_putPort]
  unfold afterSending
  rw [closes]
  refine frameBuffer_of_empty ?_
  have kept := (reacts_reactLinkLoss l (dropResetReply l
    (putPort l (restingPort p.rate (decide (x.target = .silenced))) s))).port l
  have port : portOf l (dropResetReply l (putPort l (restingPort p.rate (decide (x.target = .silenced))) s)) =
      restingPort p.rate (decide (x.target = .silenced)) := by
    rw [dropResetReply_frame]
    exact portOf_putPort_same ..
  have rests := portKept_rest kept (by rw [port]; exact restingPort_down _ _) (by rw [port]; rfl)
  exact (congrArg Port.buffer (rests.trans port)).trans rfl

end

/-! ## What a port sends (R152, R154) -/

section
variable {p : Port} {m : OutMsg} {rest : List OutMsg}

theorem messageSymbols_length (m : OutMsg) : (messageSymbols m).length = (outBytes m).length + 1 := by
  simp [messageSymbols]

theorem endsInHand_eq (m : OutMsg) (b : Bool) :
    endsInHand m b = if byteAt (outBytes m) 0 = 128 then false else b := by
  cases m <;> rfl

/-- R152: what is sent within the credit held. -/
def sentSymbols (n : Nat) (m : OutMsg) (p : Port) : List SentSymbol :=
  ((messageSymbols m).drop p.position).take (min n p.creditHeld)

theorem sentSymbols_length (n : Nat) (m : OutMsg) (p : Port) : (sentSymbols n m p).length =
    min (min n p.creditHeld) ((outBytes m).length + 1 - p.position) := by
  unfold sentSymbols
  rw [List.length_take, List.length_drop, messageSymbols_length]

/-- R152, R154: the oldest message sent whole. -/
theorem sendOldest_whole (queue : p.queue = m :: rest) {n : Nat} (begun : p.position ≤ (outBytes m).length)
    (credit : (outBytes m).length + 1 - p.position ≤ min n p.creditHeld) : sendOldest n p = { p with
      queue := rest, position := 0
      creditHeld := p.creditHeld - ((outBytes m).length + 1 - p.position)
      inHand := if byteAt (outBytes m) 0 = 128 then false else p.inHand
      idle := some 0, lastSent := some .eom } := by
  have all : ((messageSymbols m).drop p.position).take (min n p.creditHeld) = (messageSymbols m).drop p.position :=
    List.take_of_length_le (by rw [List.length_drop, messageSymbols_length]; exact credit)
  have last : ((messageSymbols m).drop p.position).getLast? = some .eom := by
    rw [List.getLast?_drop, if_neg (by rw [messageSymbols_length]; omega)]
    simp [messageSymbols]
  have within : sendWithinCredit n m p = { p with
      position := p.position + ((messageSymbols m).drop p.position).length
      creditHeld := p.creditHeld - ((messageSymbols m).drop p.position).length
      idle := some 0, lastSent := some .eom } := by
    unfold sendWithinCredit
    dsimp only
    rw [all, last]
  unfold sendOldest
  rw [queue]
  dsimp only
  rw [within, if_pos, ← endsInHand_eq, List.length_drop, messageSymbols_length]
  unfold whollySent
  dsimp only
  rw [List.length_drop, messageSymbols_length]
  exact decide_eq_true (by omega)

/-- R152: the oldest message sent in part. -/
theorem sendOldest_part (queue : p.queue = m :: rest) {n k : Nat}
    (credit : min n p.creditHeld = k + 1) (left : p.position + k < (outBytes m).length) :
    sendOldest n p = { p with
      position := p.position + (k + 1), creditHeld := p.creditHeld - (k + 1)
      idle := some 0, lastSent := ((outBytes m)[p.position + k]?).map .data } := by
  have length := sentSymbols_length n m p
  rw [credit] at length
  have last : (((messageSymbols m).drop p.position).take (min n p.creditHeld)).getLast? =
      ((outBytes m)[p.position + k]?).map .data := by
    rw [List.getLast?_eq_getElem?]
    show (sentSymbols n m p)[(sentSymbols n m p).length - 1]? = _
    rw [length, Nat.min_eq_left (by omega), Nat.add_sub_cancel]
    unfold sentSymbols messageSymbols
    rw [credit, List.getElem?_take_of_lt (by omega), List.getElem?_drop,
      List.getElem?_append_left (by rw [List.length_map]; exact left), List.getElem?_map]
  obtain ⟨b, hb⟩ : ∃ b, (outBytes m)[p.position + k]? = some b := ⟨_, List.getElem?_eq_getElem left⟩
  rw [hb] at last
  have within : sendWithinCredit n m p = { p with
      position := p.position + (k + 1), creditHeld := p.creditHeld - (k + 1)
      idle := some 0, lastSent := some (.data b) } := by
    unfold sendWithinCredit
    dsimp only
    have count : (((messageSymbols m).drop p.position).take (min n p.creditHeld)).length = k + 1 := by
      show (sentSymbols n m p).length = k + 1
      rw [length, Nat.min_eq_left (by omega)]
    rw [last, count]
    rfl
  unfold sendOldest
  rw [queue]
  dsimp only
  rw [within, if_neg, hb]
  · rw [← queue]
    rfl
  · unfold whollySent
    dsimp only
    rw [messageSymbols_length]
    simp
    omega

/-- R152: with no credit nothing is sent. -/
theorem sendOldest_none (queue : p.queue = m :: rest) {n : Nat} (credit : min n p.creditHeld = 0)
    (begun : p.position ≤ (outBytes m).length) : sendOldest n p = p := by
  have within : sendWithinCredit n m p = p := by
    unfold sendWithinCredit
    dsimp only
    rw [credit, List.take_zero]
    rfl
  unfold sendOldest
  rw [queue]
  dsimp only
  rw [within, if_neg]
  unfold whollySent
  rw [messageSymbols_length]
  simp
  omega

end

/-! ## The whole queue (R155) -/

/-- R155: what sending leaves alone of a port. -/
structure Sends (p q : Port) : Prop where
  state : q.state = p.state
  rate : q.rate = p.rate
  buffer : q.buffer = p.buffer
  given : q.creditGiven = p.creditGiven
  frame : q.frame = p.frame
  close : q.close = p.close

theorem Sends.refl (p : Port) : Sends p p := ⟨rfl, rfl, rfl, rfl, rfl, rfl⟩

theorem Sends.trans {p q r : Port} (h : Sends p q) (k : Sends q r) : Sends p r :=
  ⟨k.state.trans h.state, k.rate.trans h.rate, k.buffer.trans h.buffer, k.given.trans h.given,
    k.frame.trans h.frame, k.close.trans h.close⟩

theorem symbolsIn_cons (m : OutMsg) (rest : List OutMsg) :
    symbolsIn (m :: rest) = (outBytes m).length + 1 + symbolsIn rest := by
  simp [symbolsIn]

/-- R152: without credit nothing more is sent. -/
theorem foldl_sendOldest_none {m : OutMsg} {rest : List OutMsg} {p : Port} (queue : p.queue = m :: rest)
    (none : p.creditHeld = 0) (begun : p.position ≤ (outBytes m).length) (xs : List OutMsg) :
    xs.foldl (fun p _ => sendOldest p.creditHeld p) p = p := by
  induction xs with
  | nil => rfl
  | cons x xs ih =>
    rw [List.foldl_cons, sendOldest_none queue (by rw [none]; rfl) begun]
    exact ih

/-- R155: the queue sent as far as the credit goes: whole, or up to a message it stops within. -/
structure QueueSent (p q : Port) : Prop where
  sends : Sends p q
  whole : symbolsIn p.queue ≤ p.position + p.creditHeld → q.queue = []
  part : p.position + p.creditHeld < symbolsIn p.queue → q.creditHeld = 0 ∧ q.queue <:+ p.queue ∧
    q.queue ≠ [] ∧ symbolsIn p.queue + q.position = symbolsIn q.queue + p.position + p.creditHeld

theorem queueSent_foldl {queue : List OutMsg} {p : Port} (e : p.queue = queue)
    (begun : ∀ m rest, queue = m :: rest → p.position ≤ (outBytes m).length) :
    QueueSent p (queue.foldl (fun p _ => sendOldest p.creditHeld p) p) := by
  induction queue generalizing p with
  | nil =>
    refine ⟨.refl p, fun _ => e, fun left => ?_⟩
    rw [e] at left
    exact absurd left (Nat.not_lt_zero _)
  | cons m rest ih =>
    have first := begun m rest rfl
    rw [List.foldl_cons]
    by_cases whole : (outBytes m).length + 1 - p.position ≤ p.creditHeld
    · have sent := sendOldest_whole (n := p.creditHeld) e first (by rw [Nat.min_self]; exact whole)
      rw [sent]
      obtain ⟨sends, all, some'⟩ := ih (p := { p with
        queue := rest, position := 0
        creditHeld := p.creditHeld - ((outBytes m).length + 1 - p.position)
        inHand := if byteAt (outBytes m) 0 = 128 then false else p.inHand
        idle := some 0, lastSent := some .eom }) rfl fun _ _ _ => Nat.zero_le _
      dsimp only at all some'
      refine ⟨⟨sends.state, sends.rate, sends.buffer, sends.given, sends.frame, sends.close⟩, fun credit => ?_,
        fun credit => ?_⟩
      · rw [e, symbolsIn_cons] at credit
        exact all (by omega)
      · rw [e, symbolsIn_cons] at credit ⊢
        obtain ⟨held, suffix, left, count⟩ := some' (by omega)
        exact ⟨held, suffix.trans (List.suffix_cons m rest), left, by omega⟩
    · have stops : QueueSent p (sendOldest p.creditHeld p) ∧
          (sendOldest p.creditHeld p).queue = m :: rest ∧ (sendOldest p.creditHeld p).creditHeld = 0 ∧
          (sendOldest p.creditHeld p).position ≤ (outBytes m).length := by
        cases held : p.creditHeld with
        | zero =>
          rw [sendOldest_none e (by rw [held]; rfl) first]
          refine ⟨⟨.refl p, fun credit => ?_, fun _ => ⟨held, List.suffix_rfl, by rw [e]; nofun, by omega⟩⟩,
            e, held, first⟩
          rw [e, symbolsIn_cons] at credit
          omega
        | succ k =>
          rw [sendOldest_part (n := k + 1) (k := k) e (by rw [held, Nat.min_self]) (by omega)]
          refine ⟨⟨⟨rfl, rfl, rfl, rfl, rfl, rfl⟩, fun credit => ?_, fun _ => ⟨?_, List.suffix_rfl,
            by rw [e]; nofun, ?_⟩⟩, e, ?_, ?_⟩
          · rw [e, symbolsIn_cons] at credit
            omega
          · show p.creditHeld - (k + 1) = 0
            omega
          · show symbolsIn p.queue + (p.position + (k + 1)) = symbolsIn p.queue + p.position + p.creditHeld
            omega
          · show p.creditHeld - (k + 1) = 0
            omega
          · show p.position + (k + 1) ≤ _
            omega
      obtain ⟨sent, queue, none, left⟩ := stops
      rw [foldl_sendOldest_none queue none left]
      exact sent

end Sys2Proof.Machine.Steps
end

section
/-! The statements about the ports' commands (R148 to R156). -/

namespace Sys2Proof.Machine.Steps

open Motion Holds

section
variable {l : Link} {s : State}

/-! ## The idle timer and the held-low time (R148, R150, R152) -/

theorem idleExpiry_of_early (early : (portOf l s).idle = none ∨ (portOf l s).idle = some 0) :
    idleExpiry l s = s := by
  unfold idleExpiry idleReached
  dsimp only
  rcases early with e | e <;> rw [e] <;> rfl

theorem idleExpiry_of_resting (rest : (portOf l s).state = .disabled ∨ (portOf l s).state = .silenced) :
    idleExpiry l s = s := by
  unfold idleExpiry
  dsimp only
  rcases rest with e | e <;> rw [e] <;> exact ite_self _

theorem idleExpiry_of_due {n : Nat} (idle : (portOf l s).idle = some n) (due : 1 ≤ n) : idleExpiry l s =
    match (portOf l s).state with
    | .opening => putPort l (sendFill (portOf l s)) s
    | .up => if mayTransmit (portOf l s) then afterSending l (sendOldest 1 (portOf l s)) s
        else putPort l (sendFill (portOf l s)) s
    | .disabled | .silenced => s := by
  unfold idleExpiry idleReached
  dsimp only
  rw [idle]
  exact if_pos (decide_eq_true due)

theorem idleExpiry_fills {n : Nat} (idle : (portOf l s).idle = some n) (due : 1 ≤ n)
    (served : (portOf l s).state = .up ∨ (portOf l s).state = .opening)
    (quiet : (portOf l s).state = .opening ∨ (portOf l s).queue = [] ∨ (portOf l s).creditHeld = 0) :
    idleExpiry l s = putPort l { portOf l s with idle := some 0, lastSent := some .fill } s := by
  rw [idleExpiry_of_due idle due]
  rcases served with up | opening
  · rw [up]
    refine if_neg ?_
    unfold mayTransmit
    rcases quiet with c | c | c
    · rw [up] at c
      cases c
    · rw [c]
      nofun
    · rw [c]
      simp
  · rw [opening]
    rfl

theorem idleExpiry_sends {n : Nat} (idle : (portOf l s).idle = some n) (due : 1 ≤ n)
    (up : (portOf l s).state = .up) (queue : (portOf l s).queue ≠ []) (credit : (portOf l s).creditHeld ≠ 0) :
    idleExpiry l s = afterSending l (sendOldest 1 (portOf l s)) s := by
  rw [idleExpiry_of_due idle due, up]
  refine if_pos ?_
  unfold mayTransmit
  rw [decide_eq_true queue, decide_eq_true credit]
  rfl

theorem heldLowExpiry_of_early (early : (portOf l s).state ≠ .silenced ∨ (portOf l s).heldLow ≠ some 0) :
    heldLowExpiry l s = s := if_neg fun c => early.elim (· c.1) (· c.2)

theorem heldLowExpiry_of_due (silenced : (portOf l s).state = .silenced) (due : (portOf l s).heldLow = some 0) :
    heldLowExpiry l s = putPort l (if portEnabled l s then openingPort (s.config.rate.get l)
      else restingPort (portOf l s).rate false) s := by
  refine (if_pos ⟨silenced, due⟩).trans ?_
  split
  · rfl
  · exact leavePort_down (by rw [silenced]; nofun) _

/-- Settles O49: each command comes to one record put in a port's place, or to the loss of its link. -/
theorem creditFillAndHeldLowTaken : Obligations.CreditFillAndHeldLowTaken := by
  unfold Obligations.CreditFillAndHeldLowTaken
  intro l s p
  refine ⟨fun served => ⟨fun room => ⟨_, rfl, ?_⟩, fun full serving => ⟨_, rfl, ?_⟩, ⟨_, rfl, ?_⟩,
    fun n idle due quiet => ⟨_, rfl, ?_⟩⟩, fun n idle due up open' empty credit m rest queue => ⟨?_, ?_⟩,
    fun early => ?_, fun rest => ⟨?_, ?_, ?_⟩, fun silenced due => ⟨_, rfl, ?_⟩, fun early => ?_⟩
  · exact portEvent_moves (creditReceived_served served room)
  · unfold portEvent
    rw [creditReceived_overflow served full]
    exact lost_port serving (restingPort_down _ _) rfl
  · exact portEvent_moves (fillReceived_served served)
  · exact portEvent_moves (idleExpiry_fills idle due served quiet)
  · intro b next
    have left : p.position < (outBytes m).length := List.getElem?_eq_some_iff.mp next |>.1
    have sent := sendOldest_part (n := 1) (k := 0) queue (by omega) left
    refine ⟨_, rfl, portEvent_moves ?_⟩
    rw [idleExpiry_sends idle due up (by rw [queue]; nofun) credit]
    refine (afterSending_open (by rw [sent]; exact open') (by rw [sent]; exact empty)).trans ?_
    rw [sent]
    simp only [Nat.add_zero, Nat.zero_add, next]
    rfl
  · intro last
    have sent := sendOldest_whole (n := 1) queue (by omega) (by omega)
    refine ⟨_, rfl, portEvent_moves ?_⟩
    rw [idleExpiry_sends idle due up (by rw [queue]; nofun) credit]
    refine (afterSending_open (by rw [sent]; exact open') (by rw [sent]; exact empty)).trans ?_
    rw [sent, show (outBytes m).length + 1 - p.position = 1 by omega]
  · exact congrArg _ (portEvent_rests (idleExpiry_of_early early))
  · exact congrArg _ (portEvent_rests ((receiveLine_encode .credit).trans (receiveSymbol_resting rest .credit)))
  · exact congrArg _ (portEvent_rests ((receiveLine_encode .fill).trans (receiveSymbol_resting rest .fill)))
  · exact congrArg _ (portEvent_rests (idleExpiry_of_resting rest))
  · exact portEvent_moves (heldLowExpiry_of_due silenced due)
  · exact congrArg _ (portEvent_rests (heldLowExpiry_of_early early))

end

/-! ## Losses and closes (R149 to R151, R155) -/

section
variable {l : Link} {s : State}

theorem receiveError_up (up : (portOf l s).state = .up) : receiveError l s =
    reportLoss l (putPort l (restingPort (portOf l s).rate true) s) := (if_pos up).trans (linkError_up up)

theorem silenceExpiry_due (up : (portOf l s).state = .up) {n : Nat} (silence : (portOf l s).silence = some n)
    (due : 4 ≤ n) : silenceExpiry l s =
      reportLoss l (putPort l (restingPort (portOf l s).rate true) s) := by
  refine (if_pos ⟨up, ?_⟩).trans (linkError_up up)
  unfold silenceReached
  rw [silence]
  exact decide_eq_true due

theorem silenceExpiry_early (early : (portOf l s).silence = none ∨
    ∀ n, (portOf l s).silence = some n → n < 4) : silenceExpiry l s = s := by
  refine if_neg fun c => ?_
  have reached := c.2
  unfold silenceReached at reached
  cases silence : (portOf l s).silence with
  | none =>
    rw [silence] at reached
    cases reached
  | some n =>
    rw [silence] at reached
    have few := early.elim (fun e => nomatch silence.symm.trans e) fun e => e n silence
    exact absurd (of_decide_eq_true reached) (Nat.not_le.mpr few)

theorem closeExpiry_due (up : (portOf l s).state = .up) {x : ClosePending}
    (close : (portOf l s).close = some x) (due : x.remaining = 0) : closeExpiry l s = reportLoss l
      (putPort l (restingPort (portOf l s).rate (decide (x.target = .silenced))) s) := by
  unfold closeExpiry
  rw [close]
  exact (if_pos due).trans (enterTarget_up up x.target)

theorem closeExpiry_early (early : (portOf l s).close = none ∨
    ∀ x, (portOf l s).close = some x → x.remaining ≠ 0) : closeExpiry l s = s := by
  unfold closeExpiry
  cases close : (portOf l s).close with
  | none => rfl
  | some x => exact if_neg (early.elim (fun e => nomatch close.symm.trans e) fun e => e x close)

theorem closeQueueEmpty_of_some {x : ClosePending} (close : (portOf l s).close = some x) :
    closeQueueEmpty l s = afterSending l (sendQueue (portOf l s)) s := if_pos (by rw [close]; rfl)

theorem queueSent_sendQueue {p : Port}
    (begun : ∀ m rest, p.queue = m :: rest → p.position ≤ (outBytes m).length) : QueueSent p (sendQueue p) :=
  queueSent_foldl rfl begun

/-- R155: a queue sent whole closes the link. -/
theorem closeQueueEmpty_closes (up : (portOf l s).state = .up) {x : ClosePending}
    (close : (portOf l s).close = some x)
    (begun : ∀ m rest, (portOf l s).queue = m :: rest → (portOf l s).position ≤ (outBytes m).length)
    (credit : symbolsIn (portOf l s).queue ≤ (portOf l s).position + (portOf l s).creditHeld) :
    closeQueueEmpty l s = reportLoss l
      (putPort l (restingPort (portOf l s).rate (decide (x.target = .silenced))) s) := by
  obtain ⟨sends, whole, -⟩ := queueSent_sendQueue begun
  rw [closeQueueEmpty_of_some close, afterSending_closes (sends.state.trans up) (sends.close.trans close)
    (whole credit), sends.rate]

/-- R155: short of credit the port stays UP with its close. -/
theorem closeQueueEmpty_stays {x : ClosePending} (close : (portOf l s).close = some x)
    (empty : (portOf l s).buffer = []) {q : Port} (sends : Sends (portOf l s) q) (sent : sendQueue (portOf l s) = q)
    (left : q.queue ≠ []) : closeQueueEmpty l s = putPort l q s := by
  rw [closeQueueEmpty_of_some close, sent]
  unfold afterSending
  rw [closeIfEmpty_of_some (c := x.target) (n := x.remaining)
      (by rw [portOf_putPort_same]; exact sends.close.trans close),
    if_neg (by rw [portOf_putPort_same]; exact left),
    frameBuffer_of_empty (by rw [portOf_putPort_same]; exact sends.buffer.trans empty)]

end

/-- Settles O50: each command that takes an UP link down is the same loss, of a port put to rest. -/
theorem linkErrorsAndClosesLoseLink : Obligations.LinkErrorsAndClosesLoseLink := by
  unfold Obligations.LinkErrorsAndClosesLoseLink
  intro l s p
  refine ⟨fun up serving ok slots => ⟨⟨_, rfl, ?_⟩, fun n silence due => ⟨_, rfl, ?_⟩,
    fun m none => ⟨_, rfl, ?_⟩, fun x close => ⟨fun due => ⟨_, rfl, ?_⟩, fun queue => ⟨_, rfl, ?_⟩,
      fun m rest queue begun => ⟨fun credit => ⟨_, rfl, ?_⟩, fun short empty => ⟨_, rfl, ?_⟩⟩⟩⟩,
    fun early => ?_, fun early => ?_, fun down => ⟨?_, ?_⟩⟩
  · exact linkLost_event ⟨ok, slots⟩ serving (receiveError_up up)
  · exact linkLost_event ⟨ok, slots⟩ serving (silenceExpiry_due up silence due)
  · exact linkLost_event ⟨ok, slots⟩ serving (overrun_up up m none)
  · exact linkLost_event ⟨ok, slots⟩ serving (closeExpiry_due up close due)
  · refine linkLost_event ⟨ok, slots⟩ serving (closeQueueEmpty_closes up close ?_ ?_)
    · intro m rest e
      cases queue.symm.trans e
    · rw [show (portOf l s).queue = [] from queue]
      exact Nat.zero_le _
  · refine linkLost_event ⟨ok, slots⟩ serving (closeQueueEmpty_closes up close ?_ credit)
    intro k more e
    cases queue.symm.trans e
    exact begun
  · obtain ⟨sends, -, part⟩ := queueSent_sendQueue (p := p) fun k more e => by
      cases queue.symm.trans e
      exact begun
    obtain ⟨held, suffix, left, count⟩ := part short
    have stays := portEvent_moves (closeQueueEmpty_stays close empty sends rfl left)
    rw [stays, portOf_putPort_same]
    exact ⟨rfl, sends.state.trans up, sends.close, held, sends.buffer.trans empty, sends.frame, sends.given,
      suffix, left, count⟩
  · exact congrArg _ (portEvent_rests (silenceExpiry_early early))
  · exact congrArg _ (portEvent_rests (closeExpiry_early early))
  · exact congrArg _ (portEvent_rests (if_neg down))
  · exact congrArg _ (portEvent_rests (if_neg fun c => down c.1))

end Sys2Proof.Machine.Steps
end

section
/-! A message that waits in the buffer, and RSTLINK (R153, R154, R156). -/

namespace Sys2Proof.Machine.Steps

open Motion Holds

/-! ## What no message fills: an empty buffer (R151, R153) -/

/-- A port with nothing buffered has nothing buffered afterwards. -/
def Empties (l : Link) (s t : State) : Prop := (portOf l s).buffer = [] → (portOf l t).buffer = []

section
variable {l : Link} {s t u : State}

theorem Empties.refl (l : Link) (s : State) : Empties l s s := id

theorem Empties.trans (h : Empties l s t) (k : Empties l t u) : Empties l s u := fun e => k (h e)

theorem empties_of_kept (h : PortKept (portOf l s) (portOf l t)) : Empties l s t := fun e => by
  rw [h.eq]
  exact e

theorem empties_judges (l : Link) (h : Judges s t) : Empties l s t := empties_of_kept (h.port l)

theorem empties_reacts (l : Link) (h : Reacts s t) : Empties l s t := empties_of_kept (h.port l)

theorem empties_of_port (e : t.port = s.port) (l : Link) : Empties l s t := fun h => by
  unfold portOf at h ⊢
  rw [e]
  exact h

theorem empties_forEach {α : Type} {f : α → State → State} (hf : ∀ x s, Empties l s (f x s)) (xs : List α)
    (s : State) : Empties l s (forEach f xs s) := by
  unfold forEach
  induction xs generalizing s with
  | nil => exact .refl l s
  | cons x xs ih => exact (hf x s).trans (ih _)

end

section
variable (l : Link) (s : State)

theorem empties_putPort {k : Link} {p : Port} (h : (portOf k s).buffer = [] → p.buffer = []) :
    Empties l s (putPort k p s) := fun e => by
  rw [portOf_putPort]
  split
  next same =>
    subst same
    exact h e
  next => exact e

theorem empties_leavePort (k : Link) {p : Port} (h : p.buffer = []) : Empties l s (leavePort k p s) := by
  have put : Empties l s (putPort k p s) := empties_putPort l s fun _ => h
  unfold leavePort
  split
  · have dropped : Empties l (putPort k p s) (dropResetReply k (putPort k p s)) :=
      empties_of_port (by rw [dropResetReply_frame]; rfl) l
    exact (put.trans dropped).trans (empties_reacts l ((reacts_reactLinkLoss k _).trans (reacts_raise _ _)))
  · exact put

theorem empties_commandedClose (t : CloseTarget) (k : Link) : Empties l s (commandedClose t k s) := by
  unfold commandedClose
  dsimp only
  split
  · exact empties_putPort l s id
  · split
    · cases t <;> exact empties_leavePort l s k rfl
    · exact empties_putPort l s id

theorem empties_stopEnabled (k : Link) : Empties l s (stopEnabled k s) := by
  unfold stopEnabled
  split
  · exact empties_commandedClose l s _ k
  · exact empties_leavePort l s k rfl
  · exact empties_leavePort l s k rfl
  · exact .refl l s

theorem empties_judgePort (b : State) (k : Link) : Empties l s (judgePort b k s) := by
  unfold judgePort startEnabled
  split
  · split
    · exact empties_putPort l s fun _ => rfl
    · exact .refl l s
  · exact empties_stopEnabled l s k
  · exact .refl l s

theorem empties_judgePorts (b : State) : Empties l s (judgePorts b s) :=
  empties_forEach (fun k t => empties_judgePort l t b k) _ s

theorem empties_closeForReset (k : Link) : Empties l s (closeForReset k s) := by
  unfold closeForReset
  split
  · exact empties_commandedClose l s _ k
  · exact empties_leavePort l s k rfl
  · exact .refl l s
  · exact .refl l s

theorem empties_resetLink (k : Link) : Empties l s (resetLink k s) := by
  unfold resetLink
  dsimp only
  split
  · exact .refl l s
  · exact empties_leavePort l s k rfl
  · exact empties_commandedClose l s _ k
  · exact empties_putPort l s id

theorem empties_changeMode (m : Mode) (t : Option Nat) : Empties l s (changeMode m t s) := by
  have forced (u : State) : (forceFor m u).port = u.port := by
    unfold forceFor
    split <;> rfl
  have set : Empties l s (setModeTimer m t s) := empties_of_port rfl l
  have force (u : State) : Empties l u (forceFor m u) := empties_of_port (forced u) l
  have cut : Empties l s (beaconMode s.mode.mode m (recomputePermits (forceFor m (reactMode m (setModeTimer m t s))))) :=
    ((set.trans (empties_reacts l (reacts_reactMode m _))).trans (force _)).trans
      (empties_judges l ((judges_recomputePermits _).trans (judges_beaconMode _ _ _)))
  have noticed (u : State) : Empties l u (noticeMode s.mode.mode m u) :=
    empties_of_port (congrArg State.port (noticeMode_eq _ _ u).1) l
  unfold changeMode
  dsimp only
  refine (cut.trans ?_).trans (noticed _)
  unfold modePorts
  split
  · exact empties_forEach (fun k t => empties_stopEnabled l t k) _ _
  · exact empties_judgePorts l _ s

theorem empties_loadConfig : Empties l s (loadConfig s) := by
  unfold loadConfig
  split <;> exact empties_of_port rfl l

theorem empties_resetLevel1 : Empties l s (resetLevel1 s) := by
  have loaded (t : State) : Empties l t (resetConfig t) := by
    have read : Empties l t (recomputeSpeed (recomputeAxes (loadConfig t))) := (empties_loadConfig l t).trans
      (empties_judges l ((judges_recomputeAxes _).trans (judges_recomputeSpeed _)))
    unfold resetConfig
    dsimp only
    split
    · exact (read.trans (empties_judges l ((judges_judgeDeployMove _).trans (judges_recomputePermits _)))).trans
        (empties_judgePorts l _ t)
    · exact (read.trans (empties_judges l (judges_recomputePermits _))).trans (empties_judgePorts l _ t)
  have cleared (b : PerLamp (Option Zone)) (t : State) : Empties l t (resetClear b t) := by
    rw [resetClear_eq]
    have done (u : State) : Empties l u (clearing u) := empties_of_port rfl l
    exact (empties_judges l ((judges_clearExclusions b t).trans (judges_judgeHealth _))).trans (done _)
  have cut : Empties l s (resetGrants s) := by
    obtain ⟨d, x, e, -, -⟩ := resetGrants_frame s
    rw [e]
    have set (u : State) : Empties l u ((u.setDrive d).setAxis x) := empties_of_port rfl l
    exact (empties_reacts l (reacts_cutGrants _ _ s)).trans (set _)
  have links (t : State) : Empties l t (resetLinks t) :=
    empties_forEach (fun k t => empties_closeForReset l t k) _ t
  have checks (t : State) : Empties l t (enterCheck t) := empties_changeMode l t .check _
  unfold resetLevel1
  exact (((cut.trans (loaded _)).trans (links _)).trans (cleared _ _)).trans (checks _)

theorem empties_placeHold (k : HoldKind) (src : HoldSource) (x : PerAxis Bool) :
    Empties l s (placeHold k src x s) := by
  have held : Empties l s (s.setHold (placeHold k src x s).hold) := empties_of_port rfl l
  exact held.trans (empties_reacts l (placeHold_reacts k src x s))

/-! ## The messages -/

theorem empties_takeWrite (i : Item) (v : Int) : Empties l s (takeWrite i v s) := by
  have written (c : WorkingConfig) : Empties l s (s.setConfig c) := empties_of_port rfl l
  unfold takeWrite
  dsimp only
  split
  · unfold writeLampZone
    exact (written _).trans (empties_judges l ((judges_putLamp _ _ _).trans (judges_judgeHealth _)))
  · exact (written _).trans (empties_judgePorts l _ s)
  · unfold afterSpeed
    split
    · exact (written _).trans (empties_judges l ((judges_recomputeSpeed _).trans (judges_recomputePermits _)))
    · exact (written _).trans (empties_judges l (((judges_recomputeSpeed _).trans (judges_permitEvent _)).trans
        (judges_recomputePermits _)))
  · exact (written _).trans (empties_judges l (judges_permitEvent _))
  · split
    · exact (written _).trans (empties_judges l (judges_sampleHeld _))
    · split
      · exact (written _).trans (empties_judges l (judges_recomputePermits _))
      · exact written _

theorem empties_handleCfgwr (i : Nat) (v : Int) : Empties l s (handleCfgwr i v s).1 := by
  unfold handleCfgwr refuse
  dsimp only
  repeat' split
  all_goals first | exact .refl l s | exact empties_takeWrite l s _ _

theorem empties_handleCfgband (b : List Band) : Empties l s (handleCfgband b s).1 := by
  have taken : Empties l s (takeBands b s) := by
    have written (c : WorkingConfig) : Empties l s (s.setConfig c) := empties_of_port rfl l
    unfold takeBands
    exact (written _).trans (empties_judges l ((judges_sampleHeld _).trans (judges_recomputePermits _)))
  unfold handleCfgband
  split
  · exact .refl l s
  · split
    · exact .refl l s
    · split
      · exact .refl l s
      · dsimp only
        exact taken

theorem empties_handleRstlvl (n : Nat) : Empties l s (handleRstlvl n s).1 := by
  have level2 : Empties l s (resetLevel2 s) := by
    have set (u : State) : Empties l u (unstalled u) := empties_of_port rfl l
    rw [resetLevel2_eq]
    exact (empties_reacts l (reacts_cutGrants _ _ s)).trans (set _)
  unfold handleRstlvl handleRstlvl1 handleRstlvl2 refuse
  repeat' split
  all_goals first
    | exact .refl l s
    | exact empties_of_port rfl l
    | exact empties_resetLevel1 l s
    | exact level2

theorem empties_handleRstlink (n : Nat) : Empties l s (handleRstlink n s).1 := by
  unfold handleRstlink refuse
  split
  · exact .refl l s
  · exact .refl l s
  · exact empties_resetLink l s _

/-- R32, R36: the messages that place and retire holds. -/
theorem empties_holds (k : Link) (z : PerZone Bool) (x : PerAxis Bool) (id n : Nat) :
    Empties l s (handleStopz k z s).1 ∧ Empties l s (handleClrstop k id s).1 ∧
      Empties l s (handleLockt k n x s).1 ∧ Empties l s (handleUlockt k id n s).1 ∧
      Empties l s (handleFreelock id s).1 := by
  refine ⟨?_, ?_, ?_, ?_, ?_⟩
  · unfold handleStopz refuse
    repeat' split
    all_goals first | exact .refl l s | exact empties_placeHold l s _ _ _
  · unfold handleClrstop clearStop retireForStation refuse
    repeat' split
    all_goals exact empties_of_port rfl l
  · unfold handleLockt refuse
    repeat' split
    all_goals first | exact .refl l s | exact empties_placeHold l s _ _ _
  · unfold handleUlockt retireForStation refuse
    repeat' split
    all_goals exact empties_of_port rfl l
  · unfold handleFreelock refuse
    repeat' split
    all_goals exact empties_of_port rfl l

theorem empties_handleMsg (k : Link) (m : Msg) : Empties l s (handleMsg k m s).1 := by
  unfold handleMsg
  split
  · exact empties_reacts l (reacts_handleRqgrant _ _ _ _ _ s)
  · exact empties_reacts l (reacts_handleKeep _ _ _ _ _ s)
  · exact empties_reacts l (reacts_handleLtgrant _ _ _ _ s)
  · exact empties_reacts l (reacts_handleRsgrant _ _ _ _ s)
  · exact (empties_holds l s _ _ (.all false) 0 0).1
  · exact (empties_holds l s _ (.all false) (.all false) _ 0).2.1
  · exact (empties_holds l s _ (.all false) _ 0 _).2.2.1
  · exact (empties_holds l s _ (.all false) (.all false) _ _).2.2.2.1
  · exact empties_judges l (judges_handleAckflt _ _ s)
  · rw [handleQgrants_state]; exact .refl l s
  · rw [handleQholds_state]; exact .refl l s
  · rw [handleQaxes_state]; exact .refl l s
  · rw [handleCfgrd_state]; exact .refl l s
  · exact empties_handleCfgwr l s _ _
  · exact empties_handleCfgband l s _
  · unfold handleCfgsave refuse
    split
    · exact .refl l s
    · exact empties_of_port rfl l
  · exact empties_handleRstlvl l s _
  · exact empties_handleRstlink l s _
  · exact (empties_holds l s .sl0 (.all false) (.all false) _ 0).2.2.2.2
  · exact empties_judges l ((judges_setNotice _ _).trans (judges_judgeAttention _))
  · exact empties_judges l ((judges_setNotice _ _).trans (judges_judgeAttention _))
  · exact empties_judges l (judges_rearm _ s)
  · exact empties_judges l (judges_setFaultLog _ _)

theorem empties_deliver (k : Link) (f : Frame) : Empties l s (deliver k f s) := by
  have handled : Empties l s (handleFrame k f s).1 := by
    unfold handleFrame refuse
    split
    · exact .refl l s
    · exact empties_handleMsg l s k _
  unfold deliver
  dsimp only
  split
  · exact handled.trans (empties_reacts l (reacts_orderGends _ _))
  · exact (handled.trans (empties_reacts l (reacts_orderGends _ _))).trans (empties_reacts l (reacts_placeMessage _ _ _))

end

/-! ## Framing over the buffer (R151, R153) -/

/-- R151: the credit given once every place of the buffer is free. -/
def creditAfter (given : Nat) : Nat := given + 8 * ((32 - given) / 8)

/-- R151, R153: the port whose framing has taken a whole message from the buffer. -/
def framedPort (p : Port) : Port :=
  { p with
    buffer := [], frame := none, inHand := true, creditGiven := creditAfter p.creditGiven
    lastSent := if p.creditGiven ≤ 24 then some .credit else p.lastSent }

/-- R153: framing may take any symbol. -/
structure Framing (p : Port) : Prop where
  up : p.state = .up
  hand : p.inHand = false
  close : p.close = none
  idle : p.idle = some 0

theorem framingTakes_of_framing {p : Port} (h : Framing p) (m : MsgSymbol) : framingTakes p m = true := by
  unfold framingTakes
  rw [decide_eq_true h.up, h.hand, h.close]
  rfl

/-- R151: what taking one symbol returns. -/
theorem takeFromBuffer_eq {p : Port} (h : Framing p) (m : MsgSymbol) (rest : List MsgSymbol) :
    ∃ given sent, takeFromBuffer m rest p = { p with
        buffer := rest, creditGiven := given, lastSent := sent, frame := frameAfter m p.frame
        inHand := (frameHanded m p.frame).isSome || p.inHand } ∧
      given = p.creditGiven + 8 * ((32 - rest.length - p.creditGiven) / 8) ∧
      sent = if 32 - rest.length - p.creditGiven < 8 then p.lastSent else some .credit := by
  have owed : placesOwed { p with buffer := rest } = 32 - rest.length - p.creditGiven := rfl
  refine ⟨_, _, ?_, rfl, rfl⟩
  unfold takeFromBuffer returnCredit
  rw [owed]
  by_cases few : 32 - rest.length - p.creditGiven < 8
  · have none : (32 - rest.length - p.creditGiven) / 8 = 0 := Nat.div_eq_of_lt few
    rw [if_pos few, if_pos (show _ < creditUnit from few), none]
    rfl
  · rw [if_neg few, if_neg (show ¬ _ < creditUnit from few), ← h.idle]
    rfl

theorem drain_data {l : Link} {s : State} {p : Port} (h : Framing p) {b : Byte} {rest : List MsgSymbol}
    (buffer : p.buffer = .data b :: rest) (n : Nat) : drain l (n + 1) (putPort l p s) =
      drain l n (putPort l (takeFromBuffer (.data b) rest p) s) := by
  rw [drain]
  dsimp only
  rw [portOf_putPort_same, buffer]
  dsimp only
  rw [if_pos (framingTakes_of_framing h _), putPort_putPort]
  rfl

theorem drain_eom {l : Link} {s : State} {p : Port} (h : Framing p) (buffer : p.buffer = [.eom]) (n : Nat) :
    drain l (n + 1) (putPort l p s) =
      drain l n (deliver l (p.frame.getD ⟨[], false⟩) (putPort l (framedPort p) s)) := by
  obtain ⟨given, sent, taken, credit, last⟩ := takeFromBuffer_eq h .eom []
  have framed : takeFromBuffer .eom [] p = framedPort p := by
    rw [taken, credit, last]
    unfold framedPort creditAfter
    have few : (32 - ([] : List MsgSymbol).length - p.creditGiven < 8) ↔ ¬ p.creditGiven ≤ 24 := by
      simp only [List.length_nil]
      omega
    simp only [few, ite_not]
    rfl
  rw [drain]
  dsimp only
  rw [portOf_putPort_same, buffer]
  dsimp only
  rw [if_pos (framingTakes_of_framing h _), putPort_putPort, framed]
  rfl

/-- R151, R153: a whole message in the buffer is framed, its credit returned, and handed over. -/
theorem drain_message {l : Link} {s : State} {bytes : List Byte} {p : Port} (h : Framing p)
    (buffer : p.buffer = bytes.map .data ++ [.eom]) (n : Nat) :
    drain l (bytes.length + 1 + n) (putPort l p s) =
      drain l n (deliver l ((frameOf bytes p.frame).getD ⟨[], false⟩) (putPort l (framedPort p) s)) := by
  induction bytes generalizing p with
  | nil =>
    rw [List.length_nil, Nat.zero_add, Nat.add_comm]
    exact drain_eom h buffer n
  | cons b bytes ih =>
    obtain ⟨given, sent, taken, credit, last⟩ :=
      takeFromBuffer_eq h (.data b) (bytes.map MsgSymbol.data ++ [.eom])
    rw [List.length_cons, show bytes.length + 1 + 1 + n = bytes.length + 1 + n + 1 by omega,
      drain_data (rest := bytes.map MsgSymbol.data ++ [.eom]) h (by rw [buffer]; rfl)]
    have framing : Framing (takeFromBuffer (.data b) (bytes.map MsgSymbol.data ++ [.eom]) p) := by
      rw [taken]
      exact ⟨h.up, h.hand, h.close, h.idle⟩
    have frame : (takeFromBuffer (.data b) (bytes.map MsgSymbol.data ++ [.eom]) p).frame =
        some (addByte b p.frame) := by
      rw [taken]
      rfl
    have same : framedPort (takeFromBuffer (.data b) (bytes.map MsgSymbol.data ++ [.eom]) p) = framedPort p := by
      rw [taken]
      have few : 1 ≤ (bytes.map MsgSymbol.data ++ [MsgSymbol.eom]).length := by simp
      generalize (bytes.map MsgSymbol.data ++ [MsgSymbol.eom]).length = r at few credit last
      have left : creditAfter given = creditAfter p.creditGiven := by
        unfold creditAfter
        omega
      have sends : (if given ≤ 24 then some SentSymbol.credit else sent) =
          if p.creditGiven ≤ 24 then some .credit else p.lastSent := by
        rw [last]
        split_ifs <;> first | rfl | omega
      unfold framedPort
      dsimp only
      rw [left, sends]
    rw [ih framing (by rw [taken]), same, frame]
    rfl

/-- Settles O51: what is sent is one port record, and a released buffer is framed from it. -/
theorem transmissionUsesCredit : Obligations.TransmissionUsesCredit := by
  unfold Obligations.TransmissionUsesCredit
  intro l s p up open' m rest queue left begun
  have sends : messageTransmitted l s = afterSending l (sendOldest p.creditHeld p) s := if_pos up
  refine ⟨fun credit empty => ⟨_, rfl, ?_⟩, fun credit reply frame bytes buffer short => ⟨_, rfl, ?_⟩,
    fun credit empty => ⟨_, rfl, ?_⟩⟩
  · have sent := sendOldest_whole (n := p.creditHeld) queue begun (by rw [Nat.min_self]; exact credit)
    refine portEvent_moves (sends.trans ?_)
    exact (afterSending_open (by rw [sent]; exact open') (by rw [sent]; exact empty)).trans (by rw [sent])
  · have sent := sendOldest_whole (n := p.creditHeld) queue begun (by rw [Nat.min_self]; exact credit)
    rw [if_pos reply] at sent
    have framing : Framing (sendOldest p.creditHeld p) := by
      rw [sent]
      exact ⟨up, rfl, open', rfl⟩
    have held : (sendOldest p.creditHeld p).buffer = bytes.map .data ++ [.eom] := by
      rw [sent]
      exact buffer
    have count : (sendOldest p.creditHeld p).buffer.length + 1 = bytes.length + 1 + 1 := by
      rw [held, List.length_append, List.length_map]
      rfl
    unfold portEvent
    rw [sends]
    unfold afterSending frameBuffer
    rw [closeIfEmpty_of_none (by rw [portOf_putPort_same]; exact framing.close), portOf_putPort_same, count,
      drain_message framing held]
    have message : (frameOf bytes (sendOldest p.creditHeld p).frame).getD ⟨[], false⟩ = ⟨bytes, false⟩ := by
      rw [sent]
      show (frameOf bytes p.frame).getD _ = _
      rw [frame]
      exact frameOf_none bytes short
    rw [message, sent, drain_of_empty (empties_deliver l _ l _ (by rw [portOf_putPort_same]; rfl))]
    unfold framedPort
    dsimp only
    rw [frame]
    rfl
  · refine portEvent_moves (sends.trans ?_)
    cases held : p.creditHeld with
    | zero =>
      rw [sendOldest_none queue (by rw [held]; rfl) begun, afterSending_open open' empty, if_pos rfl, if_pos rfl]
      show putPort l p s = putPort l { p with creditHeld := 0 } s
      rw [← held]
    | succ k =>
      have sent := sendOldest_part (n := k + 1) (k := k) queue (by rw [held, Nat.min_self]) (by omega)
      refine (afterSending_open (by rw [sent]; exact open') (by rw [sent]; exact empty)).trans ?_
      rw [sent, held, Nat.sub_self]
      rfl

/-! ## RSTLINK (R156) -/

/-- R23: queues that have not grown hold no new GEND. -/
theorem orderGends_of_short {b r : State} (short : ∀ k, (queueOf k r).length ≤ (queueOf k b).length) :
    orderGends b r = r := by
  have ports : (orderGends b r).port = r.port := PerLink.ext_get fun k => portOf_unordered (short k)
  rw [orderGends_frame, ports]
  rfl

theorem setPort_putPort (l : Link) (p : Port) (v : PerLink Port) (s : State) :
    (putPort l p s).setPort v = s.setPort v := rfl

section
variable {s v : State} {bytes : List Byte} {m : Msg} {r : Reply} (ready : Ready .sl0 s)
  (short : bytes.length ≤ frameBytes) (parsed : parseFrame .sl0 ⟨bytes, false⟩ = .msg m)
  (handles : handleMsg .sl0 m (handed .sl0 bytes s) = (v, some r))
  (queues : ∀ k, (queueOf k v).length ≤ (queueOf k (handed .sl0 bytes s)).length)
  (kept : portOf .sl0 v = portOf .sl0 (handed .sl0 bytes s))
include ready short parsed handles queues kept

/-- R153, R160: a message from link 0 whose handler moves other ports and queues nothing. -/
theorem receiveFrame_portly : receiveFrame .sl0 bytes s = replied .sl0 bytes r v ∧
    portOf .sl0 (replied .sl0 bytes r v) = { taken (bytes.length + 1) (portOf .sl0 s) with
      inHand := true, queue := queueOf .sl0 s ++ [.rply (bytes.headD 0#8) r.status r.fields] } := by
  have port : portOf .sl0 (replied .sl0 bytes r v) = { taken (bytes.length + 1) (portOf .sl0 s) with
      inHand := true, queue := queueOf .sl0 s ++ [.rply (bytes.headD 0#8) r.status r.fields] } := by
    have handedPort := portOf_handed (bytes := bytes) ready .sl0
    rw [if_pos rfl] at handedPort
    have up : (portOf .sl0 v).state = .up := by
      rw [kept, handedPort]
      exact ready.up
    refine (portOf_placeMessage ..).trans ?_
    rw [if_pos ⟨rfl, up⟩]
    unfold queueOf
    rw [kept, handedPort]
    rfl
  have delivered : deliver .sl0 ⟨bytes, false⟩ (handed .sl0 bytes s) = replied .sl0 bytes r v := by
    unfold deliver
    rw [handleFrame_eq parsed handles]
    dsimp only
    rw [orderGends_of_short queues]
    rfl
  refine ⟨?_, port⟩
  rw [← delivered]
  refine receiveFrame_delivers ready short ?_
  show (portOf .sl0 (deliver .sl0 ⟨bytes, false⟩ (handed .sl0 bytes s))).buffer = []
  rw [delivered, port]
  exact ready.buffer

end

theorem linkOfNat_linkNum {k : Link} (operator : k ≠ .sl0) : linkOfNat (linkNum k) = some k := by
  cases k <;> first | exact absurd rfl operator | rfl

theorem byteOf_linkNum (k : Link) : (byteOf (linkNum k)).toNat = linkNum k := by cases k <;> rfl

theorem handleRstlink_of_bad {n : Nat} (bad : n = 0 ∨ 5 < n) (s : State) :
    handleRstlink n s = (s, some ⟨.badvalue, []⟩) := by
  unfold handleRstlink
  rcases bad with rfl | large
  · rfl
  · rw [show linkOfNat n = none by unfold linkOfNat; split <;> first | omega | rfl]
    rfl

theorem handleRstlink_of_link {k : Link} (operator : k ≠ .sl0) (s : State) : handleRstlink (linkNum k) s =
    (resetLink k s, some ⟨.ok, [byteOf (linkNum k), byteOf (linkStateCode (portOf k s).state)]⟩) := by
  unfold handleRstlink
  rw [linkOfNat_linkNum operator]
  cases k <;> first | exact absurd rfl operator | rfl

theorem resetLink_disabled {k : Link} {s : State} (off : (portOf k s).state = .disabled) : resetLink k s = s := by
  unfold resetLink
  dsimp only
  rw [off]

theorem resetLink_up {k : Link} {s : State} (up : (portOf k s).state = .up) :
    resetLink k s = commandedClose .silenced k s := by
  unfold resetLink
  dsimp only
  rw [up]

theorem resetLink_opening {k : Link} {s : State} (opening : (portOf k s).state = .opening) :
    resetLink k s = putPort k (restingPort (portOf k s).rate true) s := by
  unfold resetLink
  dsimp only
  rw [opening]
  exact leavePort_down (by rw [opening]; nofun) _

theorem resetLink_silenced {k : Link} {s : State} (silenced : (portOf k s).state = .silenced) :
    resetLink k s = putPort k { portOf k s with heldLow := some 10 } s := by
  unfold resetLink
  dsimp only
  rw [silenced]
  rfl

/-- R155: a close pending already is not changed by another to SILENCED. -/
theorem resetLink_pending {k : Link} {s : State} (up : (portOf k s).state = .up)
    (pending : (portOf k s).close.isSome = true) : resetLink k s = s := by
  obtain ⟨c, close⟩ := Option.isSome_iff_exists.mp pending
  rw [resetLink_up up, commandedClose_pending close,
    show joinTarget c.target .silenced = c.target by cases c.target <;> rfl]
  have same : { portOf k s with close := some { c with target := c.target } } = portOf k s := by rw [← close]
  rw [same]
  exact putPort_self k s

theorem resetLink_closes {k : Link} {s : State} (up : (portOf k s).state = .up) (close : (portOf k s).close = none)
    (queue : (portOf k s).queue ≠ []) :
    resetLink k s = putPort k { portOf k s with close := some ⟨.silenced, 4⟩ } s := by
  rw [resetLink_up up, commandedClose_open close, if_neg queue]

theorem resetLink_lost {k : Link} {s : State} (up : (portOf k s).state = .up) (close : (portOf k s).close = none)
    (queue : (portOf k s).queue = []) :
    resetLink k s = reportLoss k (putPort k (restingPort (portOf k s).rate true) s) := by
  rw [resetLink_up up, commandedClose_open close, if_pos queue, enterTarget_up up]
  rfl

/-- R156: the port of RSTLINK, where its link is not lost by it. -/
def relinkedPort (p : Port) : Port :=
  match p.state with
  | .disabled => p
  | .opening => restingPort p.rate true
  | .up => { p with close := some ⟨.silenced, 4⟩ }
  | .silenced => { p with heldLow := some 10 }

theorem relinkedPort_opening {p : Port} (h : p.state = .opening) : relinkedPort p = restingPort p.rate true := by
  unfold relinkedPort
  rw [h]

theorem relinkedPort_silenced {p : Port} (h : p.state = .silenced) : relinkedPort p = { p with heldLow := some 10 } := by
  unfold relinkedPort
  rw [h]

theorem relinkedPort_up {p : Port} (h : p.state = .up) : relinkedPort p = { p with close := some ⟨.silenced, 4⟩ } := by
  unfold relinkedPort
  rw [h]

theorem resetLink_put {k : Link} {s : State} (on : (portOf k s).state ≠ .disabled)
    (stays : (portOf k s).state ≠ .up ∨ (portOf k s).queue ≠ [] ∧ (portOf k s).close = none) :
    resetLink k s = putPort k (relinkedPort (portOf k s)) s ∧
      (queueOf k (putPort k (relinkedPort (portOf k s)) s)).length ≤ (queueOf k s).length := by
  unfold queueOf
  rw [portOf_putPort_same]
  cases st : (portOf k s).state with
  | disabled => exact absurd st on
  | opening =>
    rw [relinkedPort_opening st]
    exact ⟨resetLink_opening st, Nat.zero_le _⟩
  | silenced =>
    rw [relinkedPort_silenced st]
    exact ⟨resetLink_silenced st, Nat.le_refl _⟩
  | up =>
    obtain ⟨queue, close⟩ := stays.resolve_left (fun c => c st)
    rw [relinkedPort_up st]
    exact ⟨resetLink_closes st close queue, Nat.le_refl _⟩

/-- R156: RSTLINK from UP with nothing queued, its reply queued on link 0. -/
theorem answered_lost {s v : State} {bytes : List Byte} {m : Msg} {r : Reply} {k : Link} {rate : Nat}
    (ready : Ready .sl0 s) (short : bytes.length ≤ frameBytes)
    (parsed : parseFrame .sl0 ⟨bytes, false⟩ = .msg m) (operator : k ≠ .sl0)
    (handles : handleMsg .sl0 m (handed .sl0 bytes s) = (v, some r))
    (lost : Dropped k (restingPort rate true) (handed .sl0 bytes s) v) :
    let t := portEvent (receiveFrame .sl0 bytes) s
    portOf k t = restingPort rate true ∧ t.notice.flags.link = true := by
  have delivered : deliver .sl0 ⟨bytes, false⟩ (handed .sl0 bytes s) =
      replied .sl0 bytes r (orderGends (handed .sl0 bytes s) v) := by
    unfold deliver
    rw [handleFrame_eq parsed handles]
    rfl
  have received : receiveFrame .sl0 bytes s = deliver .sl0 ⟨bytes, false⟩ (handed .sl0 bytes s) := by
    refine receiveFrame_delivers ready short (empties_deliver .sl0 _ .sl0 _ ?_)
    have port := portOf_handed (bytes := bytes) ready .sl0
    rw [if_pos rfl] at port
    exact (congrArg Port.buffer port).trans ready.buffer
  have ordered := orderGends_frame (handed .sl0 bytes s) v
  have port : portOf k (orderGends (handed .sl0 bytes s) v) = restingPort rate true := by
    rw [portOf_unordered (by unfold queueOf; rw [lost.port]; exact Nat.zero_le _), lost.port]
  have stays : closedownDone s v = false := lost.stays
  generalize orderGends (handed .sl0 bytes s) v = o at delivered ordered port
  have placed : replied .sl0 bytes r o = o.setPort (replied .sl0 bytes r o).port := placeMessage_frame ..
  have kept : portOf k (replied .sl0 bytes r o) = restingPort rate true := by
    refine (portOf_placeMessage ..).trans ?_
    rw [if_neg fun c => operator c.1, List.append_nil]
    exact port
  unfold portEvent
  rw [received, delivered]
  generalize replied .sl0 bytes r o = u at placed kept
  have frame := conclude_frame (s := s) (u := u) (by rw [placed, ordered]; exact stays)
  dsimp only
  generalize conclude s u = t at frame ⊢
  rw [frame]
  refine ⟨kept, ?_⟩
  rw [placed, ordered]
  exact lost.link

/-- Settles O52: link 0 is untouched by what RSTLINK does to another port. -/
theorem rstlinkResetsPort : Obligations.RstlinkResetsPort := by
  unfold Obligations.RstlinkResetsPort
  intro l k b s ready
  refine ⟨fun other => ⟨_, rfl, ?_⟩, fun super bad => ⟨_, rfl, ?_⟩, fun super operator named => ⟨_, rfl, ?_⟩⟩
  · exact answeredOnly_notsuper (k := .rstlink) ready other rfl rfl (Nat.le_of_ble_eq_true rfl)
  · subst super
    exact answeredOnly_of_query (r := ⟨.badvalue, []⟩) ready (Nat.le_of_ble_eq_true rfl)
      (show parseFrame .sl0 ⟨rstlinkFrame b, false⟩ = .msg (.rstlink b.toNat) from rfl)
      (handleRstlink_of_bad bad _)
  · subst super
    have number : b.toNat = linkNum k := by rw [named, byteOf_linkNum]
    have parsed : parseFrame .sl0 ⟨rstlinkFrame b, false⟩ = .msg (.rstlink (linkNum k)) := by
      rw [← number]
      rfl
    have short : (rstlinkFrame b).length ≤ frameBytes := Nat.le_of_ble_eq_true rfl
    have port : portOf k (handed .sl0 (rstlinkFrame b) s) = portOf k s :=
      (portOf_handed ready k).trans (if_neg operator)
    have handles := handleRstlink_of_link operator (handed .sl0 (rstlinkFrame b) s)
    rw [port, ← named] at handles
    change handleMsg .sl0 (.rstlink (linkNum k)) (handed .sl0 (rstlinkFrame b) s) = _ at handles
    refine ⟨fun rests => ?_, fun on stays => ?_, fun up queue close serving => ?_⟩
    · have same : resetLink k (handed .sl0 (rstlinkFrame b) s) = handed .sl0 (rstlinkFrame b) s := by
        rcases rests with off | ⟨up, pending⟩
        · exact resetLink_disabled (by rw [port]; exact off)
        · exact resetLink_pending (by rw [port]; exact up) (by rw [port]; exact pending)
      rw [same] at handles
      exact answeredOnly_of_query ready short parsed handles
    · obtain ⟨put, less⟩ := resetLink_put (s := handed .sl0 (rstlinkFrame b) s) (by rw [port]; exact on)
        (by rw [port]; exact stays)
      rw [port] at put less
      rw [put] at handles
      obtain ⟨received, super⟩ := receiveFrame_portly ready short parsed handles (fun j => by
        by_cases e : j = k
        · subst e
          exact less
        · unfold queueOf
          rw [portOf_putPort_ne _ _ e]) (portOf_putPort_ne _ _ (Ne.symm operator))
      have others (j : Link) (other : j ≠ .sl0) : portOf j (replied .sl0 (rstlinkFrame b)
          ⟨.ok, [b, byteOf (linkStateCode (portOf k s).state)]⟩
          (putPort k (relinkedPort (portOf k s)) (handed .sl0 (rstlinkFrame b) s))) =
          if j = k then relinkedPort (portOf k s) else portOf j s := by
        refine (portOf_placeMessage ..).trans ?_
        rw [if_neg fun c => other c.1, List.append_nil]
        refine (portOf_putPort k j _ _).trans ?_
        rw [portOf_handed ready j, if_neg other]
      have placed : replied .sl0 (rstlinkFrame b) ⟨.ok, [b, byteOf (linkStateCode (portOf k s).state)]⟩
          (putPort k (relinkedPort (portOf k s)) (handed .sl0 (rstlinkFrame b) s)) = _ := placeMessage_frame ..
      rw [setPort_putPort] at placed
      unfold handed at placed
      rw [setPort_putPort] at placed
      change replied .sl0 (rstlinkFrame b) ⟨.ok, [b, byteOf (linkStateCode (portOf k s).state)]⟩
          (putPort k (relinkedPort (portOf k s)) (handed .sl0 (rstlinkFrame b) s)) = s.setPort
        (replied .sl0 (rstlinkFrame b) ⟨.ok, [b, byteOf (linkStateCode (portOf k s).state)]⟩
          (putPort k (relinkedPort (portOf k s)) (handed .sl0 (rstlinkFrame b) s))).port at placed
      unfold portEvent
      rw [received]
      generalize replied .sl0 (rstlinkFrame b) ⟨.ok, [b, byteOf (linkStateCode (portOf k s).state)]⟩
        (putPort k (relinkedPort (portOf k s)) (handed .sl0 (rstlinkFrame b) s)) = u at super others placed
      rw [conclude_of_unjudged (by rw [placed]; rfl) (by rw [placed]; rfl) (by rw [placed]; rfl)
        (by rw [placed]; rfl)]
      exact ⟨placed, fun j notK other => (others j other).trans (if_neg notK), super,
        (others k operator).trans (if_pos rfl)⟩
    · rw [resetLink_lost (by rw [port]; exact up) (by rw [port]; exact close) (by rw [port]; exact queue), port]
        at handles
      exact answered_lost ready short parsed operator handles
        (dropped_reportLoss (s := handed .sl0 (rstlinkFrame b) s) serving.2 (restingPort_down _ _) rfl)

end Sys2Proof.Machine.Steps
end

section
/-! The lamps: what the judgement of zone health and of the demands keeps of a channel (R134, R139), the lamp
test's end and LAMPRA (R140, R142), a short and the test's measurement (R137, R138). -/

namespace Sys2Proof.Machine.Steps

open Motion Holds

/-! ## Steps of separate places -/

section
variable {α : Type} {R : State → State → Prop} {f : α → State → State}

theorem forEach_left (refl : ∀ s, R s s) (trans : ∀ {s t u}, R s t → R t u → R s u) {l : List α}
    (hf : ∀ b ∈ l, ∀ s, R s (f b s)) (s : State) : R s (forEach f l s) := by
  unfold forEach
  induction l generalizing s with
  | nil => exact refl s
  | cons x xs ih =>
    exact trans (hf x List.mem_cons_self s) (ih (fun y hy => hf y (List.mem_cons_of_mem x hy)) _)

/-- Among steps of separate places, a place is as it was until its own step and as that left it after. -/
theorem forEach_own (refl : ∀ s, R s s) (trans : ∀ {s t u}, R s t → R t u → R s u) {l : List α}
    (distinct : l.Nodup) {a : α} (ha : a ∈ l) (hf : ∀ b, b ≠ a → ∀ s, R s (f b s)) (s : State) :
    ∃ u, R s u ∧ R (f a u) (forEach f l s) := by
  induction l generalizing s with
  | nil => cases ha
  | cons x xs ih =>
    obtain ⟨new, distinct⟩ := List.nodup_cons.mp distinct
    obtain rfl | ha := List.mem_cons.mp ha
    · exact ⟨s, refl s, forEach_left refl trans (fun y hy => hf y fun e => new (e ▸ hy)) _⟩
    · obtain ⟨u, before, after⟩ := ih distinct ha (f x s)
      exact ⟨u, trans (hf x (fun e => new (e ▸ ha)) s) before, after⟩

end

theorem mem_lampList (c : Lamp) : c ∈ Lamp.list := by cases c <;> decide

theorem mem_zoneList (z : Zone) : z ∈ Zone.list := by cases z <;> decide

theorem lampOf_putLamp_same (c : Lamp) (r : LampRecord) (s : State) : lampOf c (putLamp c r s) = r :=
  PerLamp.get_set_same ..

theorem lampOf_putLamp_ne {c x : Lamp} (n : x ≠ c) (r : LampRecord) (s : State) :
    lampOf x (putLamp c r s) = lampOf x s := PerLamp.get_set_ne _ _ n

theorem putLamp_self (c : Lamp) (s : State) : putLamp c (lampOf c s) s = s := by
  unfold putLamp lampOf
  rw [PerLamp.set_get]
  rfl

theorem zoneRecord_putZone (y z : Zone) (r : ZoneRecord) (s : State) :
    zoneRecord y (putZone z r s) = if y = z then r else zoneRecord y s := PerZone.get_set ..

theorem state_of_mem_okLamps {z : Zone} {c : Lamp} {s : State} (h : c ∈ okLamps z s) :
    (lampOf c s).state = .ok := of_decide_eq_true (List.mem_filter.mp h).2

/-! ## What a demand judged keeps of a channel (R134, R142) -/

/-- R134: the channels keep their states and counts, those that are dark and not OK their records, and the
zones their health. -/
structure Steady (s t : State) : Prop where
  config : t.config = s.config
  test : t.beacon.test = s.beacon.test
  state : ∀ c, (lampOf c t).state = (lampOf c s).state
  count : ∀ c, (lampOf c t).openCount = (lampOf c s).openCount
  dead : ∀ c, (lampOf c s).state ≠ .ok → (lampOf c s).position = none → (lampOf c s).driven = false →
    lampOf c t = lampOf c s
  health : ∀ z, (zoneRecord z t).health = (zoneRecord z s).health

theorem Steady.refl (s : State) : Steady s s :=
  ⟨rfl, rfl, fun _ => rfl, fun _ => rfl, fun _ _ _ _ => rfl, fun _ => rfl⟩

theorem Steady.trans {s t u : State} (h : Steady s t) (k : Steady t u) : Steady s u where
  config := k.config.trans h.config
  test := k.test.trans h.test
  state := fun c => (k.state c).trans (h.state c)
  count := fun c => (k.count c).trans (h.count c)
  dead := fun c bad free dark => by
    have first := h.dead c bad free dark
    rw [← first] at bad free dark ⊢
    exact k.dead c bad free dark
  health := fun z => (k.health z).trans (h.health z)

/-- R134, R136: a restart gives a slot to the OK channels alone. -/
theorem steady_restartZone (z : Zone) (p : Pattern) (s : State) : Steady s (restartZone z p s) := by
  have lamp (c : Lamp) : lampOf c (restartZone z p s) =
      if c ∈ lampsOf z s then restartedLamp z p s c (lampOf c s) else lampOf c s := by
    rw [restartZone_eq, lampOf_writeLamps]
    rfl
  have zone (y : Zone) : (zoneRecord y (restartZone z p s)).health = (zoneRecord y s).health := by
    rw [restartZone_eq, zoneRecord_writeLamps, zoneRecord_putZone]
    split
    · next own => rw [own]; rfl
    · rfl
  refine ⟨by rw [restartZone_eq]; rfl, by rw [restartZone_eq]; rfl, fun c => ?_, fun c => ?_,
    fun c bad free dark => ?_, zone⟩
  · rw [lamp]
    split <;> rfl
  · rw [lamp]
    split <;> rfl
  · have no : c ∉ okLamps z s := fun h => bad (state_of_mem_okLamps h)
    have first : (okLamps z s).head? ≠ some c := fun e => no (List.mem_of_head? e)
    rw [lamp]
    split
    · unfold restartedLamp
      rw [if_neg no, decide_eq_false fun h => first h.2, ← free, ← dark]
    · rfl

theorem steady_setDemand (z : Zone) (p : Pattern) (s : State) : Steady s (setDemand z p s) := by
  unfold setDemand
  split
  · exact .refl s
  split
  · refine ⟨rfl, rfl, fun _ => rfl, fun _ => rfl, fun _ _ _ _ => rfl, fun y => ?_⟩
    rw [zoneRecord_putZone]
    split
    · next own => rw [own]
    · rfl
  · exact steady_restartZone z p s

theorem steady_judgeDemands (b s : State) : Steady s (judgeDemands b s) := by
  unfold judgeDemands
  split
  · refine forEach_left .refl .trans (fun z _ t => ?_) s
    split
    · exact steady_setDemand _ _ t
    · exact .refl t
  · exact .refl s

/-! ## The health judged (R139) -/

/-- R139: what the judgement of the zone health changes: the health, the permit map, and what the grants
newly barred go through. -/
structure HealthJudged (s t : State) : Prop where
  beacon : t.beacon = { s.beacon with zone := judgedZones s }
  axis : t.axis = s.axis
  hold : t.hold = s.hold
  mode : t.mode = s.mode
  config : t.config = s.config
  deployMove : t.permit.deployMove = s.permit.deployMove
  notice : Gends s t
  grant : (∀ g ∈ s.grant.table, g.state = .easing) → t.grant = s.grant

/-- R20: a ramped ending leaves EASING grants as they are. -/
theorem easeGrants_of_easing {s : State} (easing : ∀ g ∈ s.grant.table, g.state = .easing) (r : Reason)
    (sel : Grant → Bool) : easeGrants r sel s = s := by
  have fixed (h : Nat) : onGrant h (windDown r) s = s := by
    unfold onGrant
    split
    · rfl
    · next g found =>
      unfold windDown
      rw [easing g (findGrant_some found).1]
  unfold easeGrants forGrants
  dsimp only
  rw [forEach_fixed fixed, forEach_fixed fixed]

theorem healthJudged (s : State) : HealthJudged s (judgeHealth s) := by
  have recomputes (v : State) (hv : v = s.setBeacon { s.beacon with zone := judgedZones s }) :
      HealthJudged s (recomputePermits v) := by
    have reacts := reacts_easeGrants .permit (barredBy v.permit.map (permitMap v)) (remapped v)
    have gends : Gends v (recomputePermits v) := gends_recomputePermits v
    rw [recomputePermits_eq] at gends ⊢
    refine ⟨reacts.beacon.trans (by rw [hv]; rfl), reacts.axis.trans (by rw [hv]; rfl),
      reacts.hold.trans (by rw [hv]; rfl), reacts.mode.trans (by rw [hv]; rfl),
      reacts.config.trans (by rw [hv]; rfl), ?_, (gends_of_notice (by rw [hv]; rfl)).trans gends,
      fun easing => ?_⟩
    · rw [reacts.permit, hv]
      rfl
    · have grant : (remapped v).grant = s.grant := by rw [hv]; rfl
      rw [easeGrants_of_easing (by rw [grant]; exact easing), grant]
  rcases judgeHealth_cases s with e | ⟨e, -⟩ <;> rw [e]
  · exact recomputes _ rfl
  · exact ⟨rfl, rfl, rfl, rfl, rfl, rfl, gends_of_notice rfl, fun _ => rfl⟩

theorem HealthJudged.lamp {s t : State} (h : HealthJudged s t) (c : Lamp) : lampOf c t = lampOf c s :=
  (congrArg (fun b : BeaconController => b.lamp.get c) h.beacon).trans rfl

theorem HealthJudged.zone {s t : State} (h : HealthJudged s t) (z : Zone) :
    zoneRecord z t = { zoneRecord z s with health := zoneHealth z s } := by
  have same : zoneRecord z t = (judgedZones s).get z :=
    congrArg (fun b : BeaconController => b.zone.get z) h.beacon
  rw [same, judgedZones, PerZone.get_mk']
  rfl

/-- R134, R139, R175: an event of the lamps ends no CLOSEDOWN, and closes with the demands judged. -/
theorem event_lit {f : State → State} {s u : State} (serving : Serving s) (effect : f s = judgeHealth u)
    (lit : Lit s u) : ∃ v, event f s = judgeDemands s v ∧ v = (judgeHealth u).setPort v.port := by
  have judged := healthJudged u
  generalize judgeHealth u = x at effect judged
  have frame := orderGends_frame s x
  refine ⟨orderGends s x, ?_, frame⟩
  have grant : u.grant = s.grant := by rw [lit]; rfl
  have axis : x.axis = s.axis := judged.axis.trans (by rw [lit]; rfl)
  have mode : x.mode = s.mode := judged.mode.trans (by rw [lit]; rfl)
  rw [event_eq, effect]
  generalize orderGends s x = v at frame ⊢
  have stays : closedownDone s v = false := by
    by_cases down : s.mode.mode = .closedown
    · have same : v.grant = s.grant := by
        rw [frame]
        refine (judged.grant fun g hg => ?_).trans grant
        rw [grant] at hg
        exact serving.2 down g hg
      exact closedownDone_of_still (by rw [same]; exact id) (by rw [frame]; exact congrArg _ axis)
    · exact closedownDone_of_mode (by rw [frame]; exact fun e => down (mode ▸ e))
  unfold conclude
  rw [stays]
  rfl

end Sys2Proof.Machine.Steps
end

section
/-! The lamp test's end and LAMPRA (R140, R142); a lamp short and the lamp test's measurement (R137, R138,
R142). -/

namespace Sys2Proof.Machine.Steps

open Motion Holds

/-! ## The end of the lamp test (R142) -/

theorem untouched_restartZone {o : Option Zone} {z : Zone} (other : o ≠ some z) (p : Pattern)
    (s : State) : Untouched o s (restartZone z p s) := by
  rw [restartZone_eq]
  refine ⟨rfl, rfl, rfl, fun y e => ?_, fun c e => ?_⟩
  · rw [zoneRecord_writeLamps, zoneRecord_putZone, if_neg fun h => other (by rw [e, h])]
  · rw [lampOf_writeLamps, if_neg fun h => other (e.symm.trans (mem_lampsOf.mp h))]
    rfl

theorem lampOf_dropLampTest (c : Lamp) (s : State) :
    lampOf c (dropLampTest s) = { lampOf c s with driven := false } := PerLamp.get_mk' ..

theorem okLamps_dropLampTest (z : Zone) (s : State) : okLamps z (dropLampTest s) = okLamps z s :=
  List.filter_congr fun c _ => by
    have record := lampOf_dropLampTest c s
    unfold lampOf at record
    rw [record]

/-- R134, R142: the test's end restarts every zone with its demand. -/
theorem restarted_restartAll (z : Zone) (s : State) :
    Restarted z (zoneDemand z s) s (restartAll (dropLampTest s)) := by
  obtain ⟨u, before, after⟩ := forEach_zone
    (f := fun z t => restartZone z (zoneDemand z (dropLampTest s)) t) (l := Zone.list) (by decide)
    (mem_zoneList z) (fun y n t => untouched_restartZone (fun e => n (Option.some.inj e).symm) _ t)
    (dropLampTest s)
  obtain ⟨zone, lamp⟩ := restarted_of_untouched before after
  rw [okLamps_dropLampTest] at zone
  refine ⟨zone, fun c hc => ?_⟩
  have own := lamp c hc
  rw [okLamps_dropLampTest] at own
  refine own.trans ?_
  have old := lampOf_dropLampTest c s
  unfold lampOf at old
  rw [old]
  rfl

theorem untouched_restartAll (s : State) : Untouched none s (restartAll s) :=
  untouched_forEach (fun _ _ t => untouched_restartZone (Option.some_ne_none _).symm _ t) s

theorem event_lampTestExpiry {s : State} {x : LampTest} (test : s.beacon.test = some x)
    (due : 200 ≤ x.elapsed) : event lampTestExpiry s = restartAll (dropLampTest s) := by
  have effect : lampTestExpiry s = restartAll (dropLampTest s) := by
    unfold lampTestExpiry lampTestEnd
    rw [test]
    exact (if_pos due).trans (if_pos rfl)
  have frame : restartAll (dropLampTest s) = s.setBeacon (restartAll (dropLampTest s)).beacon :=
    (shone_restartAll (dropLampTest s)).1
  generalize restartAll (dropLampTest s) = t at effect frame ⊢
  exact event_undemanding effect (by rw [frame]; rfl) (by rw [frame]; rfl) (by rw [frame]; rfl) fun z => by
    rw [frame]
    exact zoneDemand_congr rfl rfl rfl rfl z

/-! ## LAMPRA (R140) -/

/-- R140: what LAMPRA makes of a channel's record. -/
def rearmedLamp (set : PerLamp Bool) (c : Lamp) (r : LampRecord) : LampRecord :=
  if set.get c = true ∧ r.state ≠ .unassigned then { r with state := .ok, openCount := some 0 } else r

theorem rearmLamp_eq (c : Lamp) (s : State) :
    rearmLamp c s = putLamp c (rearmedLamp (.all true) c (lampOf c s)) s := by
  have all : (PerLamp.all true).get c = true := by cases c <;> rfl
  unfold rearmLamp rearmedLamp
  rw [all]
  dsimp only
  cases state : (lampOf c s).state with
  | unassigned => simp [putLamp_self]
  | ok =>
    dsimp only
    rw [if_pos ⟨rfl, by decide⟩, ← state]
  | failedOpen | short => simp

/-- R140: rearming writes the channels named, each from its own record. -/
theorem rearm_eq (set : PerLamp Bool) (s : State) :
    rearm set s = judgeHealth (writeLamps Lamp.list (rearmedLamp set) s) := by
  unfold rearm
  refine congrArg judgeHealth (forEach_putLamp (fun c t _ => ?_) (by decide))
  by_cases named : set.get c = true
  · rw [if_pos named, rearmLamp_eq]
    have all : (PerLamp.all true).get c = true := by cases c <;> rfl
    simp only [rearmedLamp, named, all]
  · rw [if_neg named, rearmedLamp, if_neg fun h => named h.1, putLamp_self]

theorem dark_iff {z : Zone} {s : State} : zoneHealth z s = .dark ↔ okLamps z s = [] := by
  unfold zoneHealth
  split_ifs with none all <;> simp [none]

/-- R139: channels that stay OK where they were keep a zone that has one from turning DARK. -/
theorem dark_of_dark {z : Zone} {s u : State} (config : u.config = s.config)
    (keeps : ∀ c, (lampOf c s).state = .ok → (lampOf c u).state = .ok) (dark : zoneHealth z u = .dark) :
    zoneHealth z s = .dark := by
  rw [dark_iff] at dark ⊢
  have empty : ∀ c ∈ lampsOf z u, (lampOf c u).state ≠ .ok := fun c hc e =>
    List.filter_eq_nil_iff.mp dark c hc (decide_eq_true e)
  refine List.filter_eq_nil_iff.mpr fun c hc ok => empty c ?_ (keeps c (of_decide_eq_true ok))
  unfold lampsOf at hc ⊢
  rw [config]
  exact hc

theorem permitMap_get (g : Grant) (s : State) :
    ((permitMap s).get g.axis).get g.sense = absentCauses g.axis g.sense s := by
  unfold permitMap
  rw [PerAxis.get_mk']
  cases g.sense <;> rfl

/-- R72, R74: between states that differ in the beacons alone, a cause is newly absent only where a zone has
turned DARK. -/
theorem barredBy_of_zones {s v : State} (map : s.permit.map = permitMap s)
    (axis : v.axis = s.axis) (permit : v.permit = s.permit) (config : v.config = s.config)
    (zone : ∀ a, zoneAbsent a v = true → zoneAbsent a s = true) (g : Grant) :
    barredBy v.permit.map (permitMap v) g = false := by
  unfold barredBy
  rw [permit, map, permitMap_get, permitMap_get]
  have chassis (a : Axis) (n : Sense) : chassisAbsent a n v = chassisAbsent a n s := by
    unfold chassisAbsent stationary
    rw [permit, config]
  have interlock (a : Axis) (n : Sense) : interlockAbsent a n v = interlockAbsent a n s := by
    unfold interlockAbsent endFlag tiltAllowed bandInForce
    rw [axis, permit, config]
  have load (a : Axis) (n : Sense) : loadAbsent a n v = loadAbsent a n s := by
    unfold loadAbsent
    rw [permit]
  unfold absentCauses newlyAbsent
  dsimp only
  rw [chassis, interlock, load]
  cases dark : zoneAbsent g.axis v with
  | false => simp
  | true => simp [zone _ dark]

/-- R74, R139: where the health of no zone falls to DARK, the health judged bars no grant. -/
theorem judgeHealth_undimmed {s u : State} (judged : JudgedOk s) (lit : Lit s u)
    (keeps : ∀ c, (lampOf c s).state = .ok → (lampOf c u).state = .ok) :
    (judgeHealth u).grant = s.grant ∧ (judgeHealth u).port = s.port := by
  have config : u.config = s.config := by rw [lit]; rfl
  have health (z : Zone) : (zoneRecord z (u.setBeacon { u.beacon with zone := judgedZones u })).health =
      zoneHealth z u := zoneRecord_judgedZones z u
  generalize hv : u.setBeacon { u.beacon with zone := judgedZones u } = v at health
  have frame : v.grant = s.grant ∧ v.port = s.port ∧ v.axis = s.axis ∧ v.permit = s.permit ∧
      v.config = s.config := by
    rw [← hv, lit]
    exact ⟨rfl, rfl, rfl, rfl, rfl⟩
  obtain ⟨grant, port, axis, permit, same⟩ := frame
  rcases judgeHealth_cases u with e | ⟨e, -⟩ <;> rw [e, hv]
  · have zone (a : Axis) (h : zoneAbsent a v = true) : zoneAbsent a s = true := by
      unfold zoneAbsent at h ⊢
      rw [Bool.and_eq_true, decide_eq_true_eq, decide_eq_true_eq] at h ⊢
      obtain ⟨strict, dark⟩ := h
      refine ⟨same ▸ strict, (judged.health _).trans (dark_of_dark config keeps ?_)⟩
      exact (health _).symm.trans dark
    rw [recomputePermits_eq, easeGrants_none (barredBy_of_zones judged.map axis permit same zone)]
    exact ⟨grant, port⟩
  · exact ⟨grant, port⟩

/-- R160: a message whose handler moves no demand, no grant and no axis flag. -/
theorem answered_undemanding {l : Link} {bytes : List Byte} {m : Msg} {s v : State} {r : Reply}
    (h : Ready l s) (short : bytes.length ≤ frameBytes) (parsed : parseFrame l ⟨bytes, false⟩ = .msg m)
    (handles : handleMsg l m (handed l bytes s) = (v, some r)) (port : v.port = (handed l bytes s).port)
    (grant : v.grant = s.grant) (axis : v.axis = s.axis) (same : ∀ z, zoneDemand z v = zoneDemand z s) :
    portEvent (receiveFrame l bytes) s = v.setPort (portEvent (receiveFrame l bytes) s).port ∧
      Handled (bytes.length + 1) l [] (.rply (bytes.headD 0#8) r.status r.fields) s
        (portEvent (receiveFrame l bytes) s) := by
  have received := receiveFrame_replied h short (handleFrame_eq parsed handles) port
  have left := replied_frame (r := r) h port
  have handled := handled_replied (r := r) h port
  unfold portEvent
  rw [received]
  generalize replied l bytes r v = u at left handled ⊢
  have closes : conclude s u = u := by
    rw [conclude_of_kept (by rw [left]; exact grant) (by rw [left]; exact axis)]
    exact judgeDemands_of_same fun z =>
      (zoneDemand_congr (by rw [left]; rfl) (by rw [left]; rfl) (by rw [left]; rfl) (by rw [left]; rfl)
        z).trans (same z)
  rw [closes]
  exact ⟨left, handled⟩

/-- R132, R133: of the permits the demands rest on the deployed-while-moving condition alone. -/
theorem zoneDemand_of_deployMove {s t : State} (grant : t.grant = s.grant) (hold : t.hold = s.hold)
    (axis : t.axis = s.axis) (moved : t.permit.deployMove = s.permit.deployMove) (z : Zone) :
    zoneDemand z t = zoneDemand z s := by
  have alert : alertAxis t = alertAxis s := by
    funext a
    unfold alertAxis faulted
    rw [hold, axis, moved]
  have zone (z : Zone) : axisZoneDemand z t = axisZoneDemand z s := by
    unfold axisZoneDemand grantOn
    rw [alert, grant, axis]
  unfold zoneDemand
  cases z <;> simp only [zone]

/-- R139, R140: rearming leaves the grants and the ports alone. -/
theorem rearm_frame {s : State} (judged : JudgedOk s) (set : PerLamp Bool) :
    (rearm set s).grant = s.grant ∧ (rearm set s).port = s.port ∧
      HealthJudged (writeLamps Lamp.list (rearmedLamp set) s) (rearm set s) := by
  have keeps (c : Lamp) (ok : (lampOf c s).state = .ok) :
      (lampOf c (writeLamps Lamp.list (rearmedLamp set) s)).state = .ok := by
    rw [lampOf_writeLamps, if_pos (mem_lampList c), rearmedLamp]
    split
    · rfl
    · exact ok
  obtain ⟨grant, port⟩ := judgeHealth_undimmed judged
    (u := writeLamps Lamp.list (rearmedLamp set) s) rfl keeps
  rw [rearm_eq]
  exact ⟨grant, port, healthJudged _⟩

theorem parseFrame_lampra (w : Word16) : parseFrame .sl0 ⟨lampraFrame w, false⟩ =
    coded (lampSetField w.toNat) .lampra := by
  have read : parseFrame .sl0 ⟨lampraFrame w, false⟩ =
      coded (lampSetField (word16 (w.extractLsb' 8 8) (w.extractLsb' 0 8)).toNat) .lampra := rfl
  rw [read, word16_bytes]

theorem handed_frame (l : Link) (bytes : List Byte) (s : State) :
    handed l bytes s = s.setPort (handed l bytes s).port := rfl

/-- R140: LAMPRA from link 0. -/
theorem answered_lampra {s : State} {w : Word16} (ready : Ready .sl0 s) (small : w.toNat < 4096)
    (judged : JudgedOk s) {v : State} (hv : v = rearm (lampSetOf w.toNat) (handed .sl0 (lampraFrame w) s)) :
    portEvent (receiveFrame .sl0 (lampraFrame w)) s =
        v.setPort (portEvent (receiveFrame .sl0 (lampraFrame w)) s).port ∧
      Handled 4 .sl0 [] (.rply 41#8 .ok (lampStates v)) s
        (portEvent (receiveFrame .sl0 (lampraFrame w)) s) := by
  have short : (lampraFrame w).length ≤ frameBytes := Nat.le_of_ble_eq_true rfl
  have parsed := parseFrame_lampra w
  have field : lampSetField w.toNat = some (lampSetOf w.toNat) := if_pos small
  rw [field] at parsed
  have handles : handleMsg .sl0 (.lampra (lampSetOf w.toNat)) (handed .sl0 (lampraFrame w) s) =
      (v, some ⟨.ok, lampStates v⟩) := by
    rw [hv]
    rfl
  have given : JudgedOk (handed .sl0 (lampraFrame w) s) := ⟨judged.map, judged.health⟩
  obtain ⟨grant, port, health⟩ := rearm_frame given (lampSetOf w.toNat)
  rw [← hv] at grant port health
  have frame := handed_frame .sl0 (lampraFrame w) s
  have left : v.grant = s.grant ∧ v.axis = s.axis ∧ v.hold = s.hold ∧
      v.permit.deployMove = s.permit.deployMove := by
    generalize handed .sl0 (lampraFrame w) s = u at frame grant health
    refine ⟨grant.trans ?_, health.axis.trans ?_, health.hold.trans ?_, health.deployMove.trans ?_⟩ <;>
      rw [frame] <;> rfl
  obtain ⟨grant, axis, hold, moved⟩ := left
  exact answered_undemanding ready short parsed handles port grant axis
    (zoneDemand_of_deployMove grant hold axis moved)

theorem lampra_effect {s : State} {w : Word16} (ready : Ready .sl0 s) (small : w.toNat < 4096)
    (judged : JudgedOk s) :
    let t := portEvent (receiveFrame .sl0 (lampraFrame w)) s
    (∀ k : Lamp, ((lampOf k t).state, (lampOf k t).openCount) =
        if (lampSetOf w.toNat).get k = true ∧ (lampOf k s).state ≠ .unassigned then (.ok, some 0)
        else ((lampOf k s).state, (lampOf k s).openCount)) ∧
      (∀ z, (zoneRecord z t).health = zoneHealth z t) ∧
      queueOf .sl0 t = queueOf .sl0 s ++ [.rply 41#8 .ok (lampStates t)] ∧
      t.config = s.config ∧ t.grant = s.grant := by
  obtain ⟨left, handled⟩ := answered_lampra ready small judged rfl
  have healthy : HealthOk (rearm (lampSetOf w.toNat) (handed .sl0 (lampraFrame w) s)) := by
    rw [rearm_eq]
    exact healthOk_judgeHealth _
  have frame := handed_frame .sl0 (lampraFrame w) s
  have given : JudgedOk (handed .sl0 (lampraFrame w) s) := ⟨judged.map, judged.health⟩
  dsimp only
  generalize portEvent (receiveFrame .sl0 (lampraFrame w)) s = t at *
  generalize handed .sl0 (lampraFrame w) s = u at *
  obtain ⟨grant, -, health⟩ := rearm_frame given (lampSetOf w.toNat)
  generalize rearm (lampSetOf w.toNat) u = v at *
  have lamp (c : Lamp) : lampOf c t = rearmedLamp (lampSetOf w.toNat) c (lampOf c s) := by
    have same : lampOf c t = lampOf c v := by rw [left]; rfl
    rw [same, health.lamp, lampOf_writeLamps, if_pos (mem_lampList c), frame]
    rfl
  refine ⟨fun k => ?_, ?_, ?_, ?_, ?_⟩
  · rw [lamp, rearmedLamp]
    split <;> rfl
  · exact (shines_of_beacon (by rw [left]; rfl) (by rw [left]; rfl) : Shines v t).healthOk healthy
  · have queue := handled.queue .sl0
    rw [gendsTo_nil, List.append_nil] at queue
    have states : lampStates v = lampStates t := by rw [left]; rfl
    rw [queue, states]
    rfl
  · have kept : t.config = v.config := by rw [left]; rfl
    exact (kept.trans health.config).trans (by rw [frame]; rfl)
  · have kept : t.grant = v.grant := by rw [left]; rfl
    exact (kept.trans grant).trans (by rw [frame]; rfl)

/-- Settles O48: the end of the lamp test, and LAMPRA by its checks in order. -/
theorem lampTestEndsAndLampraRearms : Obligations.LampTestEndsAndLampraRearms := by
  refine ⟨fun s idle => ?_, fun s x test due => ?_, fun l w s station ready => ?_,
    fun w s ready served judged => ?_⟩
  · refine congrArg _ (event_fixed ?_)
    unfold lampTestExpiry
    split
    · next x test =>
      refine if_neg fun due => ?_
      obtain none | early := idle
      · simp [none] at test
      · exact absurd due (Nat.not_le.mpr (early x test))
    · rfl
  · have untouched := untouched_restartAll (dropLampTest s)
    refine ⟨_, rfl, ?_⟩
    rw [event_lampTestExpiry test due]
    exact ⟨(shone_restartAll (dropLampTest s)).1, untouched.test, untouched.timebase,
      fun z => restarted_restartAll z s,
      fun c none => (untouched.lamp c none).trans (lampOf_dropLampTest c s)⟩
  · exact ⟨_, rfl, answeredOnly_notsuper (k := .lampra) ready station rfl rfl (Nat.le_of_ble_eq_true rfl)⟩
  · refine ⟨_, rfl, fun large => ?_, fun small => ?_⟩
    · have parsed := parseFrame_lampra w
      have field : lampSetField w.toNat = none := if_neg (Nat.not_lt.mpr large)
      rw [field] at parsed
      exact answeredOnly_badvalue ready (Nat.le_of_ble_eq_true rfl) parsed
    · exact lampra_effect ready small judged

/-! ## Steps of other channels (R137, R142) -/

/-- R137: a channel left as it is, with the zones and the LAMP notice that was set. -/
structure LampLeft (k : Lamp) (s t : State) : Prop where
  lamp : lampOf k t = lampOf k s
  zone : t.beacon.zone = s.beacon.zone
  test : t.beacon.test = s.beacon.test
  config : t.config = s.config
  told : s.notice.flags.lamp = true → t.notice.flags.lamp = true

theorem LampLeft.refl (k : Lamp) (s : State) : LampLeft k s s := ⟨rfl, rfl, rfl, rfl, id⟩

theorem LampLeft.trans {k : Lamp} {s t u : State} (h : LampLeft k s t) (j : LampLeft k t u) :
    LampLeft k s u :=
  ⟨j.lamp.trans h.lamp, j.zone.trans h.zone, j.test.trans h.test, j.config.trans h.config,
    j.told ∘ h.told⟩

theorem lampLeft_putLamp {k c : Lamp} (n : k ≠ c) (r : LampRecord) (s : State) :
    LampLeft k s (putLamp c r s) := ⟨lampOf_putLamp_ne n r s, rfl, rfl, rfl, id⟩

theorem lampLeft_failLamp {k c : Lamp} (n : k ≠ c) (st : LampState) (s : State) :
    LampLeft k s (failLamp st c s) := ⟨lampOf_putLamp_ne n _ s, rfl, rfl, rfl, fun _ => rfl⟩

theorem lampOf_failLamp (st : LampState) (c : Lamp) (s : State) :
    lampOf c (failLamp st c s) = ⟨st, none, none, false⟩ := lampOf_putLamp_same ..

/-! ## A lamp short (R138) -/

theorem judgedOk_of_exec {i : Instr} {s t : State} (runs : exec i s = .next t) (judged : JudgedOk s) :
    JudgedOk t := by
  obtain ⟨u, e, keeps⟩ := judged_exec s i
  rw [runs] at e
  cases e
  exact keeps judged

/-- R134, R139: what the close of an event of the lamps keeps of the channels as the event left them. -/
theorem event_lamps {f : State → State} {s u : State} (serving : Serving s)
    (effect : f s = judgeHealth u) (lit : Lit s u) :
    (∀ c, (lampOf c (event f s)).state = (lampOf c u).state) ∧
      (∀ c, (lampOf c u).state ≠ .ok → (lampOf c u).position = none → (lampOf c u).driven = false →
        lampOf c (event f s) = lampOf c u) ∧
      (u.notice.flags.lamp = true → (event f s).notice.flags.lamp = true) := by
  obtain ⟨v, closes, frame⟩ := event_lit serving effect lit
  have judged := healthJudged u
  have steady := steady_judgeDemands s v
  have shone : (judgeDemands s v).notice = v.notice := by rw [judgeDemands_frame]; rfl
  rw [closes]
  generalize judgeHealth u = x at judged frame
  have lamp (c : Lamp) : lampOf c v = lampOf c u := by
    rw [frame]
    exact judged.lamp c
  have notice : v.notice = x.notice := by rw [frame]; rfl
  refine ⟨fun c => by rw [steady.state, lamp], fun c => ?_, fun told => ?_⟩
  · have kept := steady.dead c
    rw [lamp] at kept
    exact kept
  · rw [shone, notice, judged.notice.flags]
    exact told

/-- R138: a short excludes a driven channel. -/
theorem event_lampShort {k : Lamp} {s : State} (serving : Serving s) (driven : (lampOf k s).driven = true) :
    let t := event (lampShort k) s
    lampOf k t = ⟨.short, none, none, false⟩ ∧
      (∀ x, x ≠ k → (lampOf x t).state = (lampOf x s).state) ∧ t.notice.flags.lamp = true := by
  have effect : lampShort k s = judgeHealth (failLamp .short k s) := if_pos driven
  obtain ⟨state, dead, told⟩ := event_lamps serving effect (lit_failLamp s .short k)
  have failed := lampOf_failLamp .short k s
  refine ⟨?_, fun x n => ?_, told rfl⟩
  · rw [dead k (by rw [failed]; decide) (by rw [failed]) (by rw [failed]), failed]
  · rw [state, (lampLeft_failLamp n .short s).lamp]

/-! ## The measurement of the lamp test (R142) -/

theorem lampLeft_testLamp {k c : Lamp} (n : k ≠ c) (m : PerLamp Nat) (s : State) :
    LampLeft k s (testLamp m c s) := by
  unfold testLamp
  dsimp only
  split
  · split
    · exact lampLeft_putLamp n _ s
    · exact lampLeft_failLamp n _ s
  · exact .refl k s

theorem testLamp_dark {c : Lamp} {s : State} (m : PerLamp Nat) (dark : (lampOf c s).driven = false) :
    testLamp m c s = s := if_neg (by simp [dark])

theorem testLamp_good {c : Lamp} {s : State} {m : PerLamp Nat} (driven : (lampOf c s).driven = true)
    (good : s.config.lamp.openThreshold ≤ m.get c) :
    testLamp m c s = putLamp c { lampOf c s with openCount := some 0 } s :=
  (if_pos driven).trans (if_pos good)

theorem testLamp_low {c : Lamp} {s : State} {m : PerLamp Nat} (driven : (lampOf c s).driven = true)
    (low : m.get c < s.config.lamp.openThreshold) : testLamp m c s = failLamp .failedOpen c s :=
  (if_pos driven).trans (if_neg (Nat.not_le.mpr low))

/-- R142: at the measurement each channel is measured once. -/
theorem tested_lamp (m : PerLamp Nat) (k : Lamp) (s : State) : ∃ u, LampLeft k s u ∧
    LampLeft k (testLamp m k u) (forEach (testLamp m) Lamp.list s) :=
  forEach_own (.refl k) .trans (by decide) (mem_lampList k)
    (fun _ n t => lampLeft_testLamp (Ne.symm n) m t) s

theorem lit_tested (m : PerLamp Nat) (x : LampTest) (s : State) :
    Lit s (forEach (testLamp m) Lamp.list (s.setBeacon { s.beacon with test := some x })) := by
  have start : Lit s (s.setBeacon { s.beacon with test := some x }) := rfl
  exact start.trans (lit_forEach (fun c t => lit_testLamp t m c) _ _)

theorem forEach_test (m : PerLamp Nat) (l : List Lamp) (s : State) :
    (forEach (testLamp m) l s).beacon.test = s.beacon.test := by
  refine forEach_left (R := fun s t => t.beacon.test = s.beacon.test) (fun _ => rfl)
    (fun h k => k.trans h) (fun c _ t => ?_) s
  unfold testLamp
  dsimp only
  split
  · split <;> rfl
  · rfl

/-- R142: the measurement of a test that has run its 50 ms. -/
theorem event_measure {m : PerLamp Nat} {s : State} {x : LampTest} (serving : Serving s)
    (test : s.beacon.test = some x) (fresh : x.measured = false) (due : 50 ≤ x.elapsed) :
    let t := event (lampTestMeasure m) s
    t.beacon.test = some ⟨x.elapsed, true⟩ ∧
      ∀ k, ∃ u, lampOf k u = lampOf k s ∧ u.config = s.config ∧
        lampOf k t = lampOf k (testLamp m k u) ∧
        ((testLamp m k u).notice.flags.lamp = true → t.notice.flags.lamp = true) := by
  have reached : measureDue x = true := by
    unfold measureDue
    rw [fresh, Bool.and_eq_true, decide_eq_true_eq]
    exact ⟨due, rfl⟩
  have effect : lampTestMeasure m s = judgeHealth (forEach (testLamp m) Lamp.list
      (s.setBeacon { s.beacon with test := some { x with measured := true } })) := by
    unfold lampTestMeasure
    rw [test]
    exact if_pos reached
  have lit := lit_tested m { x with measured := true } s
  have lamps (k : Lamp) := tested_lamp m k
    (s.setBeacon { s.beacon with test := some { x with measured := true } })
  have running : (forEach (testLamp m) Lamp.list
      (s.setBeacon { s.beacon with test := some { x with measured := true } })).beacon.test =
      some ⟨x.elapsed, true⟩ := forEach_test m _ _
  obtain ⟨-, -, told⟩ := event_lamps serving effect lit
  obtain ⟨v, closes, frame⟩ := event_lit serving effect lit
  generalize forEach (testLamp m) Lamp.list _ = w at *
  have judged := healthJudged w
  generalize judgeHealth w = y at *
  have same : v.beacon.lamp = w.beacon.lamp ∧ v.beacon.test = some ⟨x.elapsed, true⟩ := by
    have kept : y.beacon.test = w.beacon.test := by rw [judged.beacon]
    have lamp : y.beacon.lamp = w.beacon.lamp := by rw [judged.beacon]
    rw [frame]
    exact ⟨lamp, kept.trans running⟩
  obtain ⟨lamp, running⟩ := same
  obtain ⟨left, still⟩ := judgeDemands_of_test (b := s) (s := v) (by rw [running]; rfl)
  rw [← closes] at left still
  refine ⟨still.trans running, fun k => ?_⟩
  obtain ⟨u, before, after⟩ := lamps k
  have own : lampOf k (event (lampTestMeasure m) s) = lampOf k w := by
    unfold lampOf
    rw [left, lamp]
  exact ⟨u, before.lamp, before.config, own.trans after.lamp, told ∘ after.told⟩

theorem lampTestMeasure_fixed {m : PerLamp Nat} {s : State}
    (idle : s.beacon.test = none ∨ ∀ x, s.beacon.test = some x → x.measured = true ∨ x.elapsed < 50) :
    lampTestMeasure m s = s := by
  unfold lampTestMeasure
  split
  · rfl
  · next x test =>
    refine if_neg fun due => ?_
    unfold measureDue at due
    rw [Bool.and_eq_true, decide_eq_true_eq] at due
    obtain ⟨late, fresh⟩ := due
    obtain none | early := idle
    · simp [none] at test
    · obtain measured | early := early x test
      · simp [measured] at fresh
      · exact absurd late (Nat.not_le.mpr early)

/-- Settles O47: a lamp short and the lamp test's measurement. -/
theorem lampFailuresExcludeChannels : Obligations.LampFailuresExcludeChannels := by
  intro s serving _ _ judged
  refine ⟨fun k => ⟨_, rfl, fun dark => ?_, fun driven => ?_⟩, fun c idle => ?_,
    fun c x test fresh due => ⟨_, rfl, ?_⟩⟩
  · exact event_fixed (if_neg (by simp [dark]))
  · obtain ⟨short, others, told⟩ := event_lampShort serving driven
    have after := judgedOk_of_exec (i := .lampShort k) rfl judged
    exact ⟨short, others, told, after.health, after.map⟩
  · exact congrArg _ (event_fixed (lampTestMeasure_fixed idle))
  · obtain ⟨running, lamps⟩ := event_measure (m := c) serving test fresh due
    have after := judgedOk_of_exec (i := .lampTestMeasurement c) rfl judged
    refine ⟨running, fun k driven => ⟨fun low => ?_, fun good => ?_⟩, fun k dark => ?_, after.health⟩
    all_goals
      obtain ⟨u, lamp, config, own, told⟩ := lamps k
      rw [own]
    · rw [testLamp_low (by rw [lamp]; exact driven) (by rw [config]; exact low)] at told ⊢
      exact ⟨lampOf_failLamp .., told rfl⟩
    · rw [testLamp_good (by rw [lamp]; exact driven) (by rw [config]; exact good), lampOf_putLamp_same,
        lamp]
    · rw [testLamp_dark c (by rw [lamp]; exact dark), lamp]

end Sys2Proof.Machine.Steps
end

section
/-! The beacon tick: the patterns move on, the channels are driven by their positions, and a channel whose
on-phase reaches its sixth tick is measured (R131, R136, R137). -/

namespace Sys2Proof.Machine.Steps

open Motion Holds

/-! ## A zone's tick (R131, R136) -/

/-- R131, R136: the record of a channel of a zone after the zone's tick. -/
def tickedLamp (z : Zone) (s : State) (c : Lamp) : LampRecord :=
  { lampOf c s with
    position := tickedSlot z c s
    driven := (tickedSlot z c s).any (slotOn (tickedZone z s)) }

theorem writeLamps_congr {g h : Lamp → LampRecord → LampRecord} {s : State}
    (same : ∀ c, g c (lampOf c s) = h c (lampOf c s)) (l : List Lamp) :
    writeLamps l g s = writeLamps l h s := by
  unfold writeLamps
  simp only [same]

theorem zoneRecord_putZone_same (z : Zone) (r : ZoneRecord) (s : State) :
    zoneRecord z (putZone z r s) = r := PerZone.get_set_same ..

theorem putZone_writeLamps (z : Zone) (r q : ZoneRecord) (l : List Lamp)
    (g : Lamp → LampRecord → LampRecord) (s : State) :
    putZone z r (writeLamps l g (putZone z q s)) = writeLamps l g (putZone z r s) := by
  cases z <;> rfl

/-- R136: the record of a zone at its period start. -/
def startedZone (z : Zone) (s : State) : ZoneRecord :=
  { zoneRecord z s with
    counter := 0, workingSet := okLamps z s
    firstPeriod := decide (okLamps z s ≠ (zoneRecord z s).workingSet) }

/-- R136: a period start numbers the OK channels of its zone. -/
theorem periodStart_eq (z : Zone) (s : State) : periodStart z s =
    numberSlots z (okLamps z s) (putZone z (startedZone z s) s) := by
  have fixed : fixWorkingSet z s =
      numberSlots z (okLamps z s) (putZone z { zoneRecord z s with workingSet := okLamps z s } s) := rfl
  unfold periodStart
  dsimp only
  rw [fixed, numberSlots_eq, zoneRecord_writeLamps, zoneRecord_putZone_same, putZone_writeLamps,
    numberSlots_eq]
  rfl

/-- R131, R136: a tick writes its zone's record and those of the zone's channels. -/
theorem tickZone_eq {z : Zone} {s : State} (shown : (zoneRecord z s).demand ≠ .none) :
    tickZone z s = writeLamps (lampsOf z s) (fun c _ => tickedLamp z s c)
      (putZone z (tickedZone z s) s) := by
  unfold tickZone
  refine (if_neg shown).trans ?_
  by_cases last : (zoneRecord z s).counter + 1 ≥ patternPeriod (zoneRecord z s).demand
  · have step : tickedZone z s = startedZone z s := if_neg (Nat.not_lt.mpr last)
    have slot (c : Lamp) : tickedSlot z c s =
        if c ∈ okLamps z s then some ((okLamps z s).idxOf c) else none := if_neg (Nat.not_lt.mpr last)
    refine (if_pos last).trans ?_
    rw [periodStart_eq, numberSlots_eq, driveZone_eq, zoneRecord_writeLamps, zoneRecord_putZone_same,
      lampsOf_writeLamps, writeLamps_writeLamps, ← step]
    refine writeLamps_congr (fun c => ?_) _
    unfold tickedLamp
    rw [slot]
    rfl
  · have step : tickedZone z s = { zoneRecord z s with counter := (zoneRecord z s).counter + 1 } :=
      if_pos (Nat.not_le.mp last)
    have slot (c : Lamp) : tickedSlot z c s = (lampOf c s).position := if_pos (Nat.not_le.mp last)
    refine (if_neg last).trans ?_
    rw [driveZone_eq, zoneRecord_putZone_same, ← step]
    refine writeLamps_congr (fun c => ?_) _
    unfold tickedLamp
    rw [slot]
    rfl

theorem untouched_tickZone {z y : Zone} (other : y ≠ z) (s : State) :
    Untouched (some z) s (tickZone y s) := by
  by_cases shown : (zoneRecord y s).demand = .none
  · have still : tickZone y s = s := if_pos shown
    rw [still]
    exact .refl _ s
  rw [tickZone_eq shown]
  refine ⟨rfl, rfl, rfl, fun x e => ?_, fun c e => ?_⟩
  · rw [zoneRecord_writeLamps, zoneRecord_putZone, if_neg fun h => other (by rw [← h]; exact (Option.some.inj e).symm)]
  · rw [lampOf_writeLamps, if_neg fun h => other (Option.some.inj ((mem_lampsOf.mp h).symm.trans e))]
    rfl

/-- R131, R136: after the tick of every zone, a zone with a pattern and its channels. -/
theorem ticked_zone {z : Zone} {s : State} (shown : (zoneRecord z s).demand ≠ .none) :
    let t := forEach tickZone Zone.list s
    zoneRecord z t = tickedZone z s ∧ (∀ c ∈ lampsOf z s, lampOf c t = tickedLamp z s c) ∧
      t.config = s.config ∧ t.beacon.test = s.beacon.test := by
  obtain ⟨u, before, after⟩ := forEach_zone (by decide) (mem_zoneList z)
    (fun y n t => untouched_tickZone n t) s
  have zone := before.zone z rfl
  have oks := before.okLamps_eq
  rw [← zone] at shown
  rw [tickZone_eq shown] at after
  have ticked : tickedZone z u = tickedZone z s := by
    unfold tickedZone
    rw [zone, oks]
  refine ⟨?_, fun c hc => ?_, after.config.trans before.config, after.test.trans before.test⟩
  · rw [after.zone z rfl, zoneRecord_writeLamps, zoneRecord_putZone_same, ticked]
  · have own := mem_lampsOf.mp hc
    have lamp := before.lamp c own
    have slot : tickedSlot z c u = tickedSlot z c s := by
      unfold tickedSlot
      rw [zone, oks, lamp]
    have same : tickedLamp z u c = tickedLamp z s c := by
      unfold tickedLamp
      rw [slot, ticked, lamp]
    rw [after.lamp c (by rw [← own, ← before.config]; rfl), lampOf_writeLamps, before.lampsOf_eq, if_pos hc, same]

/-! ## The measurements of a tick (R137) -/

/-- R137: the measurement of one channel at a tick of its zone. -/
def measureChannel (m : PerLamp Nat) (z : Zone) (c : Lamp) (s : State) : State :=
  if measuredNow z c s then measureLamp c (m.get c) s else s

theorem lampLeft_measureChannel {k c : Lamp} (n : k ≠ c) (m : PerLamp Nat) (z : Zone) (s : State) :
    LampLeft k s (measureChannel m z c s) := by
  unfold measureChannel
  split
  · unfold measureLamp
    dsimp only
    split
    · exact lampLeft_putLamp n _ s
    · split
      · exact lampLeft_failLamp n _ s
      · exact lampLeft_putLamp n _ s
  · exact .refl k s

theorem measureZone_eq {z : Zone} {s : State} (m : PerLamp Nat) (shown : (zoneRecord z s).demand ≠ .none) :
    measureZone m z s = forEach (measureChannel m z) (lampsOf z s) s := if_neg shown

theorem lampLeft_measureZone {k : Lamp} {z : Zone} {s : State} (out : k ∉ lampsOf z s) (m : PerLamp Nat) :
    LampLeft k s (measureZone m z s) := by
  by_cases shown : (zoneRecord z s).demand = .none
  · have still : measureZone m z s = s := if_pos shown
    rw [still]
    exact .refl k s
  rw [measureZone_eq m shown]
  exact forEach_left (.refl k) .trans (fun c hc t => lampLeft_measureChannel (fun e => out (by rw [e]; exact hc)) m z t) s

/-- R137: a channel of a zone left as it is. -/
def LeftWithin (k : Lamp) (z : Zone) (s t : State) : Prop :=
  s.config.lamp.zone.get k = some z → LampLeft k s t

/-- R137: a tick measures a channel once, with its own zone. -/
theorem measured_lamp {k : Lamp} {z : Zone} {s : State} (own : k ∈ lampsOf z s)
    (shown : (zoneRecord z s).demand ≠ .none) (m : PerLamp Nat) : ∃ u, LampLeft k s u ∧
      LampLeft k (measureChannel m z k u) (forEach (measureZone m) Zone.list s) := by
  have refl (s : State) : LeftWithin k z s s := fun _ => .refl k s
  have trans {s t u : State} (h : LeftWithin k z s t) (j : LeftWithin k z t u) :
      LeftWithin k z s u := fun e =>
    (h e).trans (j (by rw [(h e).config]; exact e))
  obtain ⟨v, before, after⟩ := forEach_own (R := LeftWithin k z) refl trans (l := Zone.list) (by decide) (mem_zoneList z)
    (f := measureZone m) (fun y n t e => lampLeft_measureZone
      (fun h => n (Option.some.inj ((mem_lampsOf.mp h).symm.trans e))) m) s
  have assigned := mem_lampsOf.mp own
  have first := before assigned
  have zoned : v.config.lamp.zone.get k = some z := by rw [first.config]; exact assigned
  have zone : zoneRecord z v = zoneRecord z s := by unfold zoneRecord; rw [first.zone]
  rw [← zone] at shown
  obtain ⟨u, start, rest⟩ := forEach_own (R := LampLeft k) (.refl k) .trans (lampsOf_nodup z v)
    (mem_lampsOf.mpr zoned) (f := measureChannel m z)
    (fun c n t => lampLeft_measureChannel (Ne.symm n) m z t) v
  rw [← measureZone_eq m shown] at rest
  refine ⟨u, first.trans start, rest.trans (after ?_)⟩
  have kept : (measureZone m z v).config = v.config := (judges_measureZone m z v).config
  rw [kept]
  exact zoned

/-- R137: a ticked channel is measured where its on-phase reaches its sixth tick. -/
theorem measuredNow_ticked {z : Zone} {k : Lamp} {s u : State} (zone : zoneRecord z u = tickedZone z s)
    (lamp : lampOf k u = tickedLamp z s k) : measuredNow z k u = measuredAt z k s := by
  unfold measuredNow measuredAt
  dsimp only
  rw [zone, lamp]
  unfold tickedLamp
  dsimp only
  cases tickedSlot z k s <;> rfl

/-- R137: what the measurement of a channel makes of its record. -/
def measuredLamp (low : Bool) (r : LampRecord) : LampRecord :=
  if !low then { r with openCount := some 0 }
  else if r.openCount = some 2 then ⟨.failedOpen, none, none, false⟩
  else { r with openCount := some (r.openCount.getD 0 + 1) }

theorem measureLamp_effect (c : Lamp) (n : Nat) (s : State) :
    lampOf c (measureLamp c n s) =
        measuredLamp (decide (n < s.config.lamp.openThreshold)) (lampOf c s) ∧
      (n < s.config.lamp.openThreshold → (lampOf c s).openCount = some 2 →
        (measureLamp c n s).notice.flags.lamp = true) := by
  unfold measureLamp measuredLamp
  dsimp only
  by_cases good : s.config.lamp.openThreshold ≤ n
  · rw [if_pos good, decide_eq_false (Nat.not_lt.mpr good)]
    exact ⟨lampOf_putLamp_same .., fun low => absurd good (Nat.not_le.mpr low)⟩
  · rw [if_neg good, decide_eq_true (Nat.not_le.mp good)]
    by_cases third : (lampOf c s).openCount = some 2
    · rw [if_pos third]
      refine ⟨(lampOf_failLamp ..).trans ?_, fun _ _ => rfl⟩
      exact (if_pos third).symm
    · rw [if_neg third]
      refine ⟨(lampOf_putLamp_same ..).trans ?_, fun _ two => absurd two third⟩
      exact (if_neg third).symm

/-! ## A whole tick (R131, R137) -/

/-- R137: the channel after a tick, before the demands are judged. -/
def tickedChannel (m : PerLamp Nat) (z : Zone) (s : State) (k : Lamp) : LampRecord :=
  if measuredAt z k s then
    measuredLamp (decide (m.get k < s.config.lamp.openThreshold)) (tickedLamp z s k)
  else tickedLamp z s k

/-- R131, R137: a tick's patterns and measurements, for a channel of a zone with a pattern. -/
theorem tick_channel {m : PerLamp Nat} {z : Zone} {k : Lamp} {s : State} (own : k ∈ lampsOf z s)
    (shown : (zoneRecord z s).demand ≠ .none) :
    let t := forEach (measureZone m) Zone.list (forEach tickZone Zone.list s)
    lampOf k t = tickedChannel m z s k ∧
      (measuredAt z k s = true → m.get k < s.config.lamp.openThreshold → (lampOf k s).openCount = some 2 →
        t.notice.flags.lamp = true) := by
  obtain ⟨zone, lamps, config, -⟩ := ticked_zone shown
  have lamp := lamps k own
  generalize forEach tickZone Zone.list s = v at *
  have demand : (tickedZone z s).demand = (zoneRecord z s).demand := by
    unfold tickedZone
    dsimp only
    split <;> rfl
  obtain ⟨u, before, after⟩ := measured_lamp (m := m) (z := z) (k := k) (s := v)
    (mem_lampsOf.mpr (by rw [config]; exact mem_lampsOf.mp own)) (by rw [zone, demand]; exact shown)
  have now : measuredNow z k u = measuredAt z k s :=
    measuredNow_ticked ((congrArg (PerZone.get · z) before.zone).trans zone) (before.lamp.trans lamp)
  have threshold : u.config.lamp.openThreshold = s.config.lamp.openThreshold := by
    rw [before.config, config]
  dsimp only
  generalize forEach (measureZone m) Zone.list v = t at *
  unfold tickedChannel
  rw [after.lamp]
  have told := after.told
  unfold measureChannel at told ⊢
  rw [now] at told ⊢
  generalize measuredAt z k s = measured at told ⊢
  cases measured with
  | false => exact ⟨before.lamp.trans lamp, nofun⟩
  | true =>
    obtain ⟨effect, third⟩ := measureLamp_effect k (m.get k) u
    rw [threshold, before.lamp, lamp] at effect third
    exact ⟨effect, fun _ low two => told (third low two)⟩

/-- R137: a ticked channel that fails is dark, and otherwise driven by its slot. -/
theorem tickedChannel_cases (m : PerLamp Nat) (z : Zone) (s : State) (k : Lamp) :
    tickedChannel m z s k = ⟨.failedOpen, none, none, false⟩ ∨
      (tickedChannel m z s k).state = (lampOf k s).state ∧
        (tickedChannel m z s k).driven = (tickedChannel m z s k).position.any (slotOn (tickedZone z s)) := by
  unfold tickedChannel measuredLamp
  split
  · split
    · exact .inr ⟨rfl, rfl⟩
    · split
      · exact .inl rfl
      · exact .inr ⟨rfl, rfl⟩
  · exact .inr ⟨rfl, rfl⟩

/-- R137: the counts of a ticked channel. -/
theorem tickedChannel_counted (m : PerLamp Nat) (z : Zone) (s : State) (k : Lamp) {q : LampRecord}
    {told : Bool} (state : q.state = (tickedChannel m z s k).state)
    (count : q.openCount = (tickedChannel m z s k).openCount)
    (dead : tickedChannel m z s k = ⟨.failedOpen, none, none, false⟩ → q = ⟨.failedOpen, none, none, false⟩)
    (notice : measuredAt z k s = true → m.get k < s.config.lamp.openThreshold →
      (lampOf k s).openCount = some 2 → told = true) :
    OpenCounted (measuredAt z k s) (m.get k) s.config.lamp.openThreshold (lampOf k s) q told := by
  unfold tickedChannel at state count dead
  cases measured : measuredAt z k s with
  | false =>
    rw [measured] at state count
    exact ⟨fun _ => ⟨state, count⟩, nofun, nofun, nofun⟩
  | true =>
    rw [measured, if_pos rfl] at state count dead
    refine ⟨nofun, fun _ good => ?_, fun _ low n held few => ?_, fun _ low two => ?_⟩
    · rw [decide_eq_false (Nat.not_lt.mpr good)] at state count
      exact ⟨state, count⟩
    · have other : (tickedLamp z s k).openCount ≠ some 2 := fun e => by
        have same : (tickedLamp z s k).openCount = (lampOf k s).openCount := rfl
        rw [same, held] at e
        exact absurd (Option.some.inj e) (Nat.ne_of_lt few)
      have record : measuredLamp true (tickedLamp z s k) = { tickedLamp z s k with
          openCount := some ((tickedLamp z s k).openCount.getD 0 + 1) } := if_neg other
      have start : (tickedLamp z s k).openCount = some n := held
      rw [decide_eq_true low, record, start] at count
      rw [decide_eq_true low, record] at state
      exact ⟨state, count⟩
    · refine ⟨dead ?_, notice measured low two⟩
      rw [decide_eq_true low]
      exact if_pos two

/-- R132 to R134: the demands judged out of a lamp test leave a zone as it is, or restart it. -/
theorem judged_zone {b v : State} (test : v.beacon.test = none) (z : Zone) :
    Untouched (some z) v (judgeDemands b v) ∨
      zoneDemand z v ≠ zoneDemand z b ∧ Restarted z (zoneDemand z v) v (judgeDemands b v) := by
  by_cases judged : demandJudged v = true
  · rw [judgeDemands_eq judged]
    obtain ⟨u, before, after⟩ := forEach_zone (f := judgeZone b v) (by decide) (mem_zoneList z)
      (fun y n => untouched_judgeZone (fun e => n (Option.some.inj e).symm) b v) v
    by_cases changed : demandChanged b z v = true
    · by_cases shown : (zoneRecord z u).demand = zoneDemand z v
      · have still : judgeZone b v z u = u := (if_pos changed).trans (setDemand_of_shown shown)
        rw [still] at after
        exact .inl (before.trans after)
      · have restarts : judgeZone b v z u = restartZone z (zoneDemand z v) u :=
          (if_pos changed).trans (setDemand_of_no_test shown (before.test.trans test))
        rw [restarts] at after
        exact .inr ⟨Ne.symm (of_decide_eq_true changed), restarted_of_untouched before after⟩
    · have still : judgeZone b v z u = u := if_neg changed
      rw [still] at after
      exact .inl (before.trans after)
  · have still : judgeDemands b v = v := if_neg judged
    rw [still]
    exact .inl (.refl _ v)

theorem lit_ticked (m : PerLamp Nat) (s : State) :
    Lit s (forEach (measureZone m) Zone.list (forEach tickZone Zone.list s)) :=
  (lit_forEach (fun z t => lit_tickZone t z) _ _).trans (lit_forEach (fun z t => lit_measureZone t m z) _ _)

/-- R137: the zone records and the lamp test left as they are. -/
def ZonesKept (s t : State) : Prop := t.beacon.zone = s.beacon.zone ∧ t.beacon.test = s.beacon.test

theorem ZonesKept.refl (s : State) : ZonesKept s s := ⟨rfl, rfl⟩

theorem ZonesKept.trans {s t u : State} (h : ZonesKept s t) (k : ZonesKept t u) : ZonesKept s u :=
  ⟨k.1.trans h.1, k.2.trans h.2⟩

theorem zonesKept_measureChannel (m : PerLamp Nat) (z : Zone) (c : Lamp) (s : State) :
    ZonesKept s (measureChannel m z c s) := by
  unfold measureChannel
  split
  · unfold measureLamp
    dsimp only
    split
    · exact ⟨rfl, rfl⟩
    · split <;> exact ⟨rfl, rfl⟩
  · exact .refl s

theorem zonesKept_measureZone (m : PerLamp Nat) (z : Zone) (s : State) : ZonesKept s (measureZone m z s) := by
  unfold measureZone
  split
  · exact .refl s
  · exact forEach_left .refl .trans (fun c _ t => zonesKept_measureChannel m z c t) s

theorem measured_zones (m : PerLamp Nat) (s : State) :
    ZonesKept s (forEach (measureZone m) Zone.list s) :=
  forEach_left .refl .trans (fun z _ t => zonesKept_measureZone m z t) s

/-- R131, R136, R137: what a tick leaves of a zone with a pattern. -/
structure Ticked (m : PerLamp Nat) (z : Zone) (s v : State) : Prop where
  config : v.config = s.config
  test : v.beacon.test = none
  zone : zoneRecord z v = { tickedZone z s with health := (zoneRecord z v).health }
  lamp : ∀ k ∈ lampsOf z s, lampOf k v = tickedChannel m z s k
  told : ∀ k ∈ lampsOf z s, measuredAt z k s = true → m.get k < s.config.lamp.openThreshold →
    (lampOf k s).openCount = some 2 → v.notice.flags.lamp = true

theorem event_ticked {m : PerLamp Nat} {s : State} (serving : Serving s) (running : s.beacon.timebase = true)
    (test : s.beacon.test = none) : ∃ v, event (Machine.beaconTick m) s = judgeDemands s v ∧
      ∀ z, (zoneRecord z s).demand ≠ .none → Ticked m z s v := by
  have effect : Machine.beaconTick m s = judgeHealth (forEach (measureZone m) Zone.list
      (forEach tickZone Zone.list s)) := if_pos ⟨running, test⟩
  obtain ⟨v, closes, frame⟩ := event_lit serving effect (lit_ticked m s)
  refine ⟨v, closes, fun z shown => ?_⟩
  have channels (k : Lamp) (own : k ∈ lampsOf z s) := tick_channel (m := m) own shown
  obtain ⟨zone, -, config, still⟩ := ticked_zone shown
  obtain ⟨record, kept⟩ := measured_zones m (forEach tickZone Zone.list s)
  have same : (forEach (measureZone m) Zone.list (forEach tickZone Zone.list s)).config =
      (forEach tickZone Zone.list s).config := (judges_forEach (judges_measureZone m) _ _).config
  generalize forEach tickZone Zone.list s = t at *
  generalize forEach (measureZone m) Zone.list t = w at *
  have judged := healthJudged w
  generalize judgeHealth w = x at *
  have health := judged.zone z
  have beacon : v.beacon = x.beacon := by rw [frame]; rfl
  refine ⟨?_, ?_, ?_, fun k own => ?_, fun k own measured low two => ?_⟩
  · rw [frame]
    exact (judged.config.trans same).trans config
  · rw [beacon, judged.beacon]
    exact (kept.trans still).trans test
  · have here : zoneRecord z v = zoneRecord z x := by unfold zoneRecord; rw [beacon]
    have own : zoneRecord z w = zoneRecord z t := congrArg (PerZone.get · z) record
    rw [here, health, own, zone]
  · have here : lampOf k v = lampOf k x := by unfold lampOf; rw [beacon]
    rw [here, judged.lamp]
    exact (channels k own).1
  · have here : v.notice = x.notice := by rw [frame]; rfl
    rw [here, judged.notice.flags]
    exact (channels k own).2 measured low two

theorem tickedZone_demand (z : Zone) (s : State) :
    (tickedZone z s).demand = (zoneRecord z s).demand ∧ (tickedZone z s).counter =
      if (zoneRecord z s).counter + 1 < patternPeriod (zoneRecord z s).demand then
        (zoneRecord z s).counter + 1 else 0 := by
  unfold tickedZone
  dsimp only
  split <;> exact ⟨rfl, rfl⟩

/-- R131: a channel of a zone is driven by its slot, whether or not the zone has been restarted. -/
theorem driven_judged {m : PerLamp Nat} {z : Zone} {s v : State} (ticked : Ticked m z s v) {k : Lamp}
    (own : k ∈ lampsOf z s) : (lampOf k (judgeDemands s v)).driven =
      (lampOf k (judgeDemands s v)).position.any (slotOn (zoneRecord z (judgeDemands s v))) := by
  have assigned := mem_lampsOf.mp own
  rw [← ticked.config] at assigned
  rcases judged_zone (b := s) ticked.test z with left | ⟨-, restarted⟩
  · rw [left.lamp k assigned, left.zone z rfl, ticked.lamp k own, ticked.zone]
    rcases tickedChannel_cases m z s k with failed | ⟨-, driven⟩
    · rw [failed]
      rfl
    · exact driven
  · have zone : zoneRecord z (judgeDemands s v) = restartedZone z (zoneDemand z v) v := restarted.zone
    have lamp : lampOf k (judgeDemands s v) = restartedLamp z (zoneDemand z v) v k (lampOf k v) :=
      restarted.lamp k (mem_lampsOf.mpr assigned)
    rw [zone, lamp, slot_driven_restart]

/-- Settles O46: a beacon tick, zone by zone and channel by channel. -/
theorem beaconTickRunsPatterns : Obligations.BeaconTickRunsPatterns := by
  intro c s serving running test
  obtain ⟨v, closes, zones⟩ := event_ticked (m := c) serving running test
  refine ⟨_, rfl, fun z shown => ?_⟩
  have ticked := zones z shown
  have steady := steady_judgeDemands s v
  have frame := judgeDemands_frame s v
  obtain ⟨demand, counter⟩ := tickedZone_demand z s
  rw [closes]
  refine ⟨fun same => ?_, fun k own => ⟨fun _ => ?_, fun moved => ?_, ?_⟩⟩
  · have here : zoneDemand z (judgeDemands s v) = zoneDemand z v := by
      rw [frame]
      exact zoneDemand_congr rfl rfl rfl rfl z
    rcases judged_zone (b := s) ticked.test z with left | ⟨n, -⟩
    · rw [left.zone z rfl, ticked.zone]
      exact ⟨demand, counter⟩
    · exact absurd (here.symm.trans same) n
  · rw [driven_judged ticked own]
    cases (lampOf k (judgeDemands s v)).position <;> rfl
  · have lamp := ticked.lamp k own
    rcases tickedChannel_cases c z s k with failed | ⟨kept, -⟩
    · rw [failed] at lamp
      rw [steady.dead k (by rw [lamp]; decide) (by rw [lamp]) (by rw [lamp]), lamp]
    · exact absurd ((steady.state k).trans (by rw [lamp, kept])) moved
  · have lamp := ticked.lamp k own
    have notice : (judgeDemands s v).notice = v.notice := by rw [frame]; rfl
    rw [notice]
    refine tickedChannel_counted c z s k ((steady.state k).trans (by rw [lamp]))
      ((steady.count k).trans (by rw [lamp])) (fun failed => ?_) (ticked.told k own)
    rw [failed] at lamp
    rw [steady.dead k (by rw [lamp]; decide) (by rw [lamp]) (by rw [lamp]), lamp]

end Sys2Proof.Machine.Steps
end

section
/-! The panel sequences: the start of a sequence (R116, R122) and the changes of the panel switches (R115,
R117 to R119, R122, R123). -/

namespace Sys2Proof.Machine.Steps

open Motion Holds

/-! ## Panel and latch records -/

section
variable (m : Motor) (d : Door) (p : PanelRecord) (l : LatchRecord) (s : State)

@[simp] theorem panelOf_putPanel : panelOf m (putPanel m p s) = p := PerMotor.get_set_same ..
@[simp] theorem latchOf_putLatch : latchOf d (putLatch d l s) = l := PerDoor.get_set_same ..
@[simp] theorem panelOf_putLatch : panelOf m (putLatch d l s) = panelOf m s := rfl
@[simp] theorem latchOf_putPanel : latchOf d (putPanel m p s) = latchOf d s := rfl

end

/-! ## The start of a sequence (R116, R122) -/

/-- R116: the records of a door, its sequence started by a grant. -/
structure DoorStarted (d : Door) (g : Grant) (s t : State) : Prop where
  seq : (panelOf (motorOfDoor d) t).seq = some ⟨g.handle, g.station, g.sense, g.kind⟩
  travel : (panelOf (motorOfDoor d) t).travel = some 0
  obstruction : (panelOf (motorOfDoor d) t).obstruction = 0
  endReported : (panelOf (motorOfDoor d) t).endReported = false
  start : ((panelOf (motorOfDoor d) t).state, (panelOf (motorOfDoor d) t).gate) =
    doorStart g.sense (panelOf (motorOfDoor d) s).state (panelOf (motorOfDoor d) s).closedSwitch
      (latchOf d s).latched
  latched : (latchOf d t).latched = (latchOf d s).latched
  unlatching : (panelOf (motorOfDoor d) t).state = .unlatching →
    (latchOf d t).solenoid = true ∧ (latchOf d t).pulse = some 400
  latching : (panelOf (motorOfDoor d) t).state = .latching → (latchOf d t).engage = some 1000

theorem doorStarted_startUnlatching {d : Door} {g : Grant} {s : State}
    (start : doorStart g.sense (panelOf (motorOfDoor d) s).state (panelOf (motorOfDoor d) s).closedSwitch
      (latchOf d s).latched = (.unlatching, .held)) :
    DoorStarted d g s (startUnlatching d (withSequence g (panelOf (motorOfDoor d) s)) s) := by
  unfold startUnlatching
  constructor <;> simp [withSequence, start, latchPulseMs]

theorem doorStarted_startLatching {d : Door} {g : Grant} {s : State}
    (start : doorStart g.sense (panelOf (motorOfDoor d) s).state (panelOf (motorOfDoor d) s).closedSwitch
      (latchOf d s).latched = (.latching, .latch)) :
    DoorStarted d g s (startLatching d (withSequence g (panelOf (motorOfDoor d) s)) s) := by
  unfold startLatching
  constructor <;> simp [withSequence, start, engageMs]

theorem doorStarted_putPanel {d : Door} {g : Grant} {s : State} {st : PanelState} {gate : Gate}
    (start : doorStart g.sense (panelOf (motorOfDoor d) s).state (panelOf (motorOfDoor d) s).closedSwitch
      (latchOf d s).latched = (st, gate)) (moving : st ≠ .unlatching ∧ st ≠ .latching) :
    DoorStarted d g s (putPanel (motorOfDoor d)
      { withSequence g (panelOf (motorOfDoor d) s) with state := st, gate := gate } s) := by
  constructor <;> simp [withSequence, start, moving]

/-- R116: the start of a door, by the start table. -/
theorem startDoor_eq (d : Door) (g : Grant) (s : State) : startDoor d g s =
    let p := withSequence g (panelOf (motorOfDoor d) s)
    match g.sense, (panelOf (motorOfDoor d) s).state with
    | .sense0, .opened => putPanel (motorOfDoor d) { p with gate := .held } s
    | .sense0, .closed => startUnlatching d p s
    | .sense0, _ =>
      if (latchOf d s).latched then startUnlatching d p s
      else putPanel (motorOfDoor d) { p with state := .opening, gate := .pass } s
    | .sense1, .closed => putPanel (motorOfDoor d) { p with gate := .held } s
    | .sense1, .opened => putPanel (motorOfDoor d) { p with state := .closing, gate := .pass } s
    | .sense1, _ =>
      if !(panelOf (motorOfDoor d) s).closedSwitch then
        putPanel (motorOfDoor d) { p with state := .closing, gate := .pass } s
      else if (latchOf d s).latched then putPanel (motorOfDoor d) { p with state := .closed, gate := .held } s
      else startLatching d p s := rfl

/-- R116: a door's sequence starts by the start table. -/
theorem doorStarted_startDoor (d : Door) (g : Grant) (s : State) :
    DoorStarted d g s (startDoor d g s) := by
  have kept {st : PanelState} (e : (panelOf (motorOfDoor d) s).state = st) :
      { withSequence g (panelOf (motorOfDoor d) s) with gate := .held } =
        { withSequence g (panelOf (motorOfDoor d) s) with state := st, gate := Gate.held } := by
    rw [← e]
    rfl
  rw [startDoor_eq]
  dsimp only
  split
  · next sense state =>
    rw [kept state]
    exact doorStarted_putPanel (by rw [sense, state]; rfl) (by decide)
  · next sense state => exact doorStarted_startUnlatching (by rw [sense, state]; rfl)
  · next sense opened closed =>
    have start : doorStart g.sense (panelOf (motorOfDoor d) s).state
        (panelOf (motorOfDoor d) s).closedSwitch (latchOf d s).latched =
        if (latchOf d s).latched then (.unlatching, .held) else (.opening, .pass) := by
      rw [sense]
      unfold doorStart
      split <;> first | rfl | contradiction
    split
    · next latched => exact doorStarted_startUnlatching (by rw [start, if_pos latched])
    · next latched => exact doorStarted_putPanel (by rw [start, if_neg latched]) (by decide)
  · next sense state =>
    rw [kept state]
    exact doorStarted_putPanel (by rw [sense, state]; rfl) (by decide)
  · next sense state => exact doorStarted_putPanel (by rw [sense, state]; rfl) (by decide)
  · next sense closed opened =>
    have start : doorStart g.sense (panelOf (motorOfDoor d) s).state
        (panelOf (motorOfDoor d) s).closedSwitch (latchOf d s).latched =
        if !(panelOf (motorOfDoor d) s).closedSwitch then (.closing, .pass)
        else if (latchOf d s).latched then (.closed, .held) else (.latching, .latch) := by
      rw [sense]
      unfold doorStart
      split <;> first | rfl | contradiction
    split
    · next out => exact doorStarted_putPanel (by rw [start, if_pos out]) (by decide)
    · next out =>
      split
      · next latched => exact doorStarted_putPanel (by rw [start, if_neg out, if_pos latched]) (by decide)
      · next latched => exact doorStarted_startLatching (by rw [start, if_neg out, if_neg latched])

/-- R116, R122: the record of the shutter, its sequence started by a grant. -/
theorem shutterStarted (g : Grant) (s : State) :
    let q := panelOf .shut (startShutter g s)
    q.seq = some ⟨g.handle, g.station, g.sense, g.kind⟩ ∧ q.travel = some 0 ∧ q.obstruction = 0 ∧
      q.endReported = false ∧ (q.state, q.gate) = shutterStart g.sense (panelOf .shut s).state
        (decide (s.panel.condition = .standing)) s.panel.contact := by
  unfold startShutter
  simp only [panelOf_putPanel]
  by_cases standing : s.panel.condition = .standing
  · rw [if_pos standing, decide_eq_true standing]
    exact ⟨rfl, rfl, rfl, rfl, rfl⟩
  rw [if_neg standing, decide_eq_false standing]
  split
  · next sense opened =>
    have state : (panelOf .shut s).state = .opened := opened
    have start (c : Bool) : shutterStart g.sense (panelOf .shut s).state false c = (.opened, .held) := by
      rw [sense, state]
      rfl
    rw [start]
    exact ⟨rfl, rfl, rfl, rfl, congrArg (·, Gate.held) state⟩
  · next sense away =>
    have start (c : Bool) : shutterStart g.sense (panelOf .shut s).state false c = (.opening, .pass) := by
      unfold shutterStart
      rw [if_neg (by decide), sense]
      split <;> first | rfl | contradiction
    rw [start]
    exact ⟨rfl, rfl, rfl, rfl, rfl⟩
  · next sense closed =>
    have state : (panelOf .shut s).state = .closed := closed
    have start (c : Bool) : shutterStart g.sense (panelOf .shut s).state false c = (.closed, .held) := by
      rw [sense, state]
      rfl
    rw [start]
    exact ⟨rfl, rfl, rfl, rfl, congrArg (·, Gate.held) state⟩
  · next sense away =>
    have start (c : Bool) : shutterStart g.sense (panelOf .shut s).state false c =
        (.closing, if c then .held else .pass) := by
      unfold shutterStart
      rw [if_neg (by decide), sense]
      split <;> first | rfl | contradiction
    rw [start]
    exact ⟨rfl, rfl, rfl, rfl, rfl⟩

/-- R116, R122: the panel and latch records of a motor axis, its sequence started by a grant. -/
structure Started (m : Motor) (g : Grant) (s t : State) : Prop where
  seq : (panelOf m t).seq = some ⟨g.handle, g.station, g.sense, g.kind⟩
  travel : (panelOf m t).travel = some 0
  obstruction : (panelOf m t).obstruction = 0
  endReported : (panelOf m t).endReported = false
  shutter : m = .shut → ((panelOf m t).state, (panelOf m t).gate) =
    shutterStart g.sense (panelOf m s).state (decide (s.panel.condition = .standing)) s.panel.contact
  door : ∀ e, m = motorOfDoor e → DoorStarted e g s t

theorem started_panelStart {m : Motor} {g : Grant} (axis : g.axis = axisOfMotor m) (s : State) :
    Started m g s (panelStart g s) := by
  have doors (e : Door) (starts : panelStart g s = startDoor e g s) (own : m = motorOfDoor e)
      (other : m ≠ .shut) (only : ∀ d, m = motorOfDoor d → d = e) : Started m g s (panelStart g s) := by
    have door := doorStarted_startDoor e g s
    rw [starts]
    subst own
    exact ⟨door.seq, door.travel, door.obstruction, door.endReported, fun h => absurd h other,
      fun d h => by rw [only d h]; exact door⟩
  unfold panelStart at doors ⊢
  rw [axis] at doors ⊢
  cases m with
  | shut =>
    obtain ⟨seq, travel, obstruction, reported, start⟩ := shutterStarted g s
    exact ⟨seq, travel, obstruction, reported, fun _ => start, fun e h => by cases e <;> cases h⟩
  | ndor => exact doors .ndor rfl rfl (by decide) fun e h => by cases e <;> first | rfl | cases h
  | odor => exact doors .odor rfl rfl (by decide) fun e h => by cases e <;> first | rfl | cases h

/-- R116: what a start makes of the panels rests on the panels alone. -/
theorem Started.of_panel {m : Motor} {g : Grant} {s t u v : State} (h : Started m g s t)
    (before : s.panel = u.panel) (after : t.panel = v.panel) : Started m g u v := by
  have panels (x : Motor) : panelOf x s = panelOf x u ∧ panelOf x t = panelOf x v := by
    unfold panelOf
    rw [before, after]
    exact ⟨rfl, rfl⟩
  have latches (x : Door) : latchOf x s = latchOf x u ∧ latchOf x t = latchOf x v := by
    unfold latchOf
    rw [before, after]
    exact ⟨rfl, rfl⟩
  obtain ⟨seq, travel, obstruction, reported, shutter, door⟩ := h
  rw [(panels m).2] at seq travel obstruction reported shutter
  rw [(panels m).1, before] at shutter
  refine ⟨seq, travel, obstruction, reported, shutter, fun e own => ?_⟩
  obtain ⟨seq, travel, obstruction, reported, start, latched, unlatching, latching⟩ := door e own
  rw [(panels _).2] at seq travel obstruction reported start unlatching latching
  rw [(panels _).1, (latches e).1] at start
  rw [(latches e).1, (latches e).2] at latched
  rw [(latches e).2] at unlatching latching
  exact ⟨seq, travel, obstruction, reported, start, latched, unlatching, latching⟩

theorem started_holdSlot {m : Motor} {g : Grant} (axis : g.axis = axisOfMotor m) (s : State) :
    Started m g s (holdSlot g s) := by
  unfold holdSlot startGrant
  have started := started_panelStart axis
    (driveStart g (setSlot (resourceOf g.axis) ⟨some g.handle, none⟩ (addGrant g s)))
  rw [driveStart_frame] at started ⊢
  exact started.of_panel rfl rfl

/-- Settles O44: a request for a motor axis at rest starts its sequence by the start table. -/
theorem requestStartsPanelSequence : Obligations.RequestStartsPanelSequence := by
  unfold Obligations.RequestStartsPanelSequence
  intro l m n k d s h free _
  have sound := sound_of_accepted h
  have alone : waiterOn (resourceOf (axisOfMotor m)) s = none := 
    waiterOn_none sound fun g e => by rw [free] at e; cases e
  have decided := decideSlot_of_accepted h
  rw [alone, free] at decided
  have takes := takeRequest_of_free (n := n) (k := k) decided (requestFrame (axisOfMotor m) n k d) d
  have grant := holdSlot_grant (requested l (axisOfMotor m) n k d .driving s)
    (handed l (requestFrame (axisOfMotor m) n k d) s)
  have drives := drives_holdSlot (requested l (axisOfMotor m) n k d .driving s)
    (handed l (requestFrame (axisOfMotor m) n k d) s)
  obtain ⟨closed, -, -⟩ := answered_request h d takes
    (by rw [grant]; exact List.mem_append_right _ (List.mem_singleton_self _)) drives.ended (.inl rfl)
  have panel : (holdSlot (requested l (axisOfMotor m) n k d .driving s)
      (handed l (requestFrame (axisOfMotor m) n k d) s)).panel =
      (portEvent (receiveFrame l (requestFrame (axisOfMotor m) n k d)) s).panel := by
    generalize portEvent (receiveFrame l (requestFrame (axisOfMotor m) n k d)) s = t at closed
    rw [closed]
    rfl
  have started := (started_holdSlot (m := m) (g := requested l (axisOfMotor m) n k d .driving s) rfl
    (handed l (requestFrame (axisOfMotor m) n k d) s)).of_panel (u := s) rfl panel
  obtain ⟨seq, travel, obstruction, reported, shutter, door⟩ := started
  refine ⟨_, rfl, seq, travel, obstruction, reported, shutter, fun e own => ?_⟩
  obtain ⟨-, -, -, -, start, latched, unlatching, latching⟩ := door e own
  rw [← own] at start unlatching latching
  exact ⟨start, latched, unlatching, latching⟩

end Sys2Proof.Machine.Steps
end

section
/-! The switches of the doors (R115, R117 to R119), of the shutter (R122) and the safety edge (R123). -/

namespace Sys2Proof.Machine.Steps

open Motion Holds

/-! ## The records of a door (R115) -/

/-- The panel and latch records of a door set together. -/
def putDoor (d : Door) (r : PanelRecord × LatchRecord) (s : State) : State :=
  putLatch d r.2 (putPanel (motorOfDoor d) r.1 s)

theorem putDoor_panel (d : Door) (p : PanelRecord) (s : State) :
    putPanel (motorOfDoor d) p s = putDoor d (p, latchOf d s) s :=
  (putLatch_self d (putPanel (motorOfDoor d) p s)).symm

theorem putDoor_self (d : Door) (s : State) :
    s = putDoor d (panelOf (motorOfDoor d) s, latchOf d s) s := by
  unfold putDoor
  rw [putPanel_self, putLatch_self]

theorem putDoor_putDoor (d : Door) (r q : PanelRecord × LatchRecord) (s : State) :
    putDoor d r (putDoor d q s) = putDoor d r s := by
  cases d <;> rfl

theorem putDoor_latch (d : Door) (l : LatchRecord) (s : State) :
    putLatch d l s = putDoor d (panelOf (motorOfDoor d) s, l) s := by
  unfold putDoor
  rw [putPanel_self]

section
variable (d : Door) (r : PanelRecord × LatchRecord) (s : State)

@[simp] theorem panelOf_putDoor : panelOf (motorOfDoor d) (putDoor d r s) = r.1 :=
  panelOf_putPanel ..

@[simp] theorem latchOf_putDoor : latchOf d (putDoor d r s) = r.2 := latchOf_putLatch ..

end

/-- R115: the records of a door with a switch's new level. -/
def leveled (w : DoorSwitch) (b : Bool) (r : PanelRecord × LatchRecord) : PanelRecord × LatchRecord :=
  match w with
  | .opened => ({ r.1 with openSwitch := b }, r.2)
  | .closed => ({ r.1 with closedSwitch := b }, r.2)
  | .latched => (r.1, { r.2 with latched := b })

theorem setDoorSwitch_eq (d : Door) (w : DoorSwitch) (b : Bool) (s : State) : setDoorSwitch d w b s =
    putDoor d (leveled w b (panelOf (motorOfDoor d) s, latchOf d s)) s := by
  unfold setDoorSwitch leveled
  cases w with
  | opened => exact putDoor_panel ..
  | closed => exact putDoor_panel ..
  | latched => exact putDoor_latch ..

/-! ## What a sequence makes of a change (R117 to R119) -/

/-- R118: the OPEN switch of a door under a sequence. -/
def openStepped (b : Bool) (r : PanelRecord × LatchRecord) : PanelRecord × LatchRecord :=
  match r.1.state with
  | .opening => if b then (reachOpen r.1, r.2) else r
  | .opened => if !b ∧ seqSense r.1 = some .opening then (leaveEnd .opening r.1, r.2) else r
  | _ => r

/-- R119: a closing door meets its frame. -/
def frameMet (r : PanelRecord × LatchRecord) : PanelRecord × LatchRecord :=
  if r.2.latched then ({ r.1 with state := .closed, gate := .held }, r.2)
  else ({ r.1 with state := .latching, gate := .latch }, { r.2 with engage := some 1000 })

/-- R119: the CLOSED switch of a door under a sequence. -/
def closedStepped (driving b : Bool) (r : PanelRecord × LatchRecord) : PanelRecord × LatchRecord :=
  match r.1.state with
  | .closing =>
    if b then if driving then frameMet r else ({ r.1 with gate := .held }, r.2)
    else if r.1.gate = .held then ({ r.1 with gate := .pass }, r.2)
    else r
  | .latching =>
    if b then r else ({ r.1 with state := .closing, gate := .pass }, { r.2 with engage := none })
  | .closed => if !b ∧ seqSense r.1 = some .closing then (leaveEnd .closing r.1, r.2) else r
  | _ => r

/-- R117, R119: the LATCH switch of a door under a sequence. -/
def latchStepped (driving b : Bool) (r : PanelRecord × LatchRecord) : PanelRecord × LatchRecord :=
  match r.1.state with
  | .unlatching =>
    if !b ∧ driving then
      ({ r.1 with state := .opening, gate := .pass }, { r.2 with solenoid := false, pulse := none })
    else r
  | .latching =>
    if b then
      ({ r.1 with state := .closed, gate := .held, travel := some 0 }, { r.2 with engage := none })
    else r
  | .closed =>
    if !b ∧ r.1.closedSwitch ∧ seqSense r.1 = some .closing then
      if driving then
        ({ r.1 with endReported := false, state := .latching, gate := .latch },
          { r.2 with engage := some 1000 })
      else ({ r.1 with endReported := false, state := .closing, gate := .held }, r.2)
    else r
  | _ => r

theorem doorOpenSwitch_eq (d : Door) (b : Bool) (s : State) : doorOpenSwitch d b s =
    putDoor d (openStepped b (panelOf (motorOfDoor d) s, latchOf d s)) s := by
  unfold doorOpenSwitch openStepped
  dsimp only
  cases state : (panelOf (motorOfDoor d) s).state with
  | opening =>
    dsimp only
    split
    · exact putDoor_panel ..
    · exact putDoor_self d s
  | opened =>
    dsimp only
    split
    · exact putDoor_panel ..
    · exact putDoor_self d s
  | unlatching | closing | latching | closed | partway => exact putDoor_self d s

theorem meetFrame_eq (d : Door) (s : State) : meetFrame d (panelOf (motorOfDoor d) s) s =
    putDoor d (frameMet (panelOf (motorOfDoor d) s, latchOf d s)) s := by
  unfold meetFrame frameMet
  dsimp only
  split
  · exact putDoor_panel ..
  · rfl

theorem doorClosedSwitch_eq (d : Door) (b : Bool) (s : State) : doorClosedSwitch d b s =
    putDoor d (closedStepped (seqDriving (motorOfDoor d) s) b (panelOf (motorOfDoor d) s, latchOf d s)) s := by
  unfold doorClosedSwitch closedStepped
  dsimp only
  cases state : (panelOf (motorOfDoor d) s).state with
  | closing =>
    dsimp only
    split
    · split
      · exact meetFrame_eq d s
      · exact putDoor_panel ..
    · split
      · exact putDoor_panel ..
      · exact putDoor_self d s
  | latching =>
    dsimp only
    split
    · exact putDoor_self d s
    · rfl
  | closed =>
    dsimp only
    split
    · exact putDoor_panel ..
    · exact putDoor_self d s
  | unlatching | opening | opened | partway => exact putDoor_self d s

theorem doorLatchSwitch_eq (d : Door) (b : Bool) (s : State) : doorLatchSwitch d b s =
    putDoor d (latchStepped (seqDriving (motorOfDoor d) s) b (panelOf (motorOfDoor d) s, latchOf d s)) s := by
  unfold doorLatchSwitch latchStepped
  dsimp only
  cases state : (panelOf (motorOfDoor d) s).state with
  | unlatching =>
    dsimp only
    split
    · rfl
    · exact putDoor_self d s
  | latching =>
    dsimp only
    split
    · rfl
    · exact putDoor_self d s
  | closed =>
    dsimp only
    split
    · split
      · rfl
      · exact putDoor_panel ..
    · exact putDoor_self d s
  | opening | opened | closing | partway => exact putDoor_self d s

/-- R117 to R119: the records of a door under a sequence after a switch change. -/
def doorStepped (w : DoorSwitch) (b driving : Bool) (r : PanelRecord × LatchRecord) :
    PanelRecord × LatchRecord :=
  match w with
  | .opened => openStepped b (leveled .opened b r)
  | .closed => closedStepped driving b (leveled .closed b r)
  | .latched => latchStepped driving b (leveled .latched b r)

theorem seqDriving_putDoor {d : Door} {r : PanelRecord × LatchRecord} {s : State}
    (seq : r.1.seq = (panelOf (motorOfDoor d) s).seq) :
    seqDriving (motorOfDoor d) (putDoor d r s) = seqDriving (motorOfDoor d) s := by
  unfold seqDriving
  rw [panelOf_putDoor, seq]
  rfl

theorem leveled_seq (w : DoorSwitch) (b : Bool) (r : PanelRecord × LatchRecord) :
    (leveled w b r).1.seq = r.1.seq := by
  cases w <;> rfl

/-- R115: the records of a door at rest judged afresh. -/
def doorRested (r : PanelRecord × LatchRecord) : PanelRecord × LatchRecord :=
  ({ r.1 with state := doorAtRest r.1.openSwitch r.1.closedSwitch r.2.latched }, r.2)

/-- R115, R117 to R119: a switch that changes. -/
theorem doorSwitchChange_eq {d : Door} {w : DoorSwitch} {b : Bool} {s : State}
    (moves : doorSwitchLevel d w s ≠ b) : doorSwitchChange d w b s =
      putDoor d
        (if (panelOf (motorOfDoor d) s).seq.isNone then
          doorRested (leveled w b (panelOf (motorOfDoor d) s, latchOf d s))
        else doorStepped w b (seqDriving (motorOfDoor d) s) (panelOf (motorOfDoor d) s, latchOf d s)) s := by
  have seq := leveled_seq w b (panelOf (motorOfDoor d) s, latchOf d s)
  unfold doorSwitchChange
  refine (if_neg moves).trans ?_
  rw [setDoorSwitch_eq]
  dsimp only
  rw [panelOf_putDoor, seq]
  dsimp only
  split
  · unfold judgeDoor doorRested
    dsimp only
    rw [putDoor_panel, putDoor_putDoor, panelOf_putDoor, latchOf_putDoor]
  · unfold doorStepped
    cases w with
    | opened => 
      show doorOpenSwitch d b _ = _
      rw [doorOpenSwitch_eq, panelOf_putDoor, latchOf_putDoor, putDoor_putDoor]
    | closed =>
      show doorClosedSwitch d b _ = _
      rw [doorClosedSwitch_eq, seqDriving_putDoor seq, panelOf_putDoor, latchOf_putDoor, putDoor_putDoor]
    | latched =>
      show doorLatchSwitch d b _ = _
      rw [doorLatchSwitch_eq, seqDriving_putDoor seq, panelOf_putDoor, latchOf_putDoor, putDoor_putDoor]

/-! ## What each change leaves (R117 to R119) -/

section
variable {r : PanelRecord × LatchRecord} {x : SeqGrant} {w : DoorSwitch} {b driving : Bool}

/-- R115: the levels after a change, and what no change of a switch alters. -/
structure DoorKept (w : DoorSwitch) (b : Bool) (r q : PanelRecord × LatchRecord) : Prop where
  seq : q.1.seq = r.1.seq
  obstruction : q.1.obstruction = r.1.obstruction
  openSwitch : q.1.openSwitch = (leveled w b r).1.openSwitch
  closedSwitch : q.1.closedSwitch = (leveled w b r).1.closedSwitch
  latched : q.2.latched = (leveled w b r).2.latched

theorem doorKept_rested : DoorKept w b r (doorRested (leveled w b r)) := by
  cases w <;> exact ⟨rfl, rfl, rfl, rfl, rfl⟩

theorem reachOpen_seq (p : PanelRecord) : (reachOpen p).seq = p.seq ∧
    (reachOpen p).obstruction = p.obstruction ∧ (reachOpen p).openSwitch = p.openSwitch ∧
      (reachOpen p).closedSwitch = p.closedSwitch := by
  unfold reachOpen
  split <;> exact ⟨rfl, rfl, rfl, rfl⟩

theorem doorKept_stepped : DoorKept w b r (doorStepped w b driving r) := by
  cases w with
  | opened =>
    show DoorKept _ _ _ (openStepped b (leveled .opened b r))
    unfold openStepped
    split
    · split
      · obtain ⟨seq, obstruction, opened, closed⟩ := reachOpen_seq (leveled .opened b r).1
        exact ⟨seq, obstruction, opened, closed, rfl⟩
      · exact ⟨rfl, rfl, rfl, rfl, rfl⟩
    · split <;> exact ⟨rfl, rfl, rfl, rfl, rfl⟩
    · exact ⟨rfl, rfl, rfl, rfl, rfl⟩
  | closed =>
    show DoorKept _ _ _ (closedStepped driving b (leveled .closed b r))
    unfold closedStepped frameMet
    split
    · split_ifs <;> exact ⟨rfl, rfl, rfl, rfl, rfl⟩
    · split <;> exact ⟨rfl, rfl, rfl, rfl, rfl⟩
    · split <;> exact ⟨rfl, rfl, rfl, rfl, rfl⟩
    · exact ⟨rfl, rfl, rfl, rfl, rfl⟩
  | latched =>
    show DoorKept _ _ _ (latchStepped driving b (leveled .latched b r))
    unfold latchStepped
    split
    · split <;> exact ⟨rfl, rfl, rfl, rfl, rfl⟩
    · split <;> exact ⟨rfl, rfl, rfl, rfl, rfl⟩
    · split_ifs <;> exact ⟨rfl, rfl, rfl, rfl, rfl⟩
    · exact ⟨rfl, rfl, rfl, rfl, rfl⟩

variable (seq : r.1.seq = some x)
include seq

theorem seqSense_of_seq {y : Sense} : seqSense r.1 = some y ↔ x.sense = y := by
  unfold seqSense
  rw [seq]
  exact Option.some_inj

/-- R117 to R119: a change a sequence does not act on moves its level alone. -/
theorem doorStepped_still (still : doorActs x.sense driving r.1.closedSwitch r.1.state w b = false) :
    doorStepped w b driving r = leveled w b r := by
  have sense (y : Sense) := seqSense_of_seq (y := y) (r := leveled w b r)
    ((leveled_seq w b r).trans seq)
  unfold doorStepped
  cases w with
  | opened =>
    dsimp only
    unfold openStepped
    split
    · next h =>
      have state : r.1.state = .opening := h
      rw [state] at still
      cases b with
      | false => rfl
      | true => cases still
    · next h =>
      have state : r.1.state = .opened := h
      rw [state] at still
      refine if_neg fun ⟨out, own⟩ => ?_
      have away : b = false := by simpa using out
      rw [away] at still
      exact of_decide_eq_false still ((sense _).mp own)
    · rfl
  | closed =>
    dsimp only
    unfold closedStepped
    split
    · next h =>
      have state : r.1.state = .closing := h
      rw [state] at still
      cases still
    · next h =>
      have state : r.1.state = .latching := h
      rw [state] at still
      cases b with
      | false => cases still
      | true => rfl
    · next h =>
      have state : r.1.state = .closed := h
      rw [state] at still
      refine if_neg fun ⟨out, own⟩ => ?_
      have away : b = false := by simpa using out
      rw [away] at still
      exact of_decide_eq_false still ((sense _).mp own)
    · rfl
  | latched =>
    dsimp only
    unfold latchStepped
    split
    · next h =>
      have state : r.1.state = .unlatching := h
      rw [state] at still
      refine if_neg fun ⟨out, runs⟩ => ?_
      have away : b = false := by simpa using out
      rw [away] at still
      exact absurd (runs : driving = true) (by rw [show driving = false from still]; decide)
    · next h =>
      have state : r.1.state = .latching := h
      rw [state] at still
      cases b with
      | false => rfl
      | true => cases still
    · next h =>
      have state : r.1.state = .closed := h
      rw [state] at still
      refine if_neg fun ⟨out, met, own⟩ => ?_
      have away : b = false := by simpa using out
      have shut : r.1.closedSwitch = true := met
      rw [away, shut] at still
      exact of_decide_eq_false (still : (true && decide (x.sense = .closing)) = false) ((sense _).mp own)
    · rfl

end

/-! The single transitions. -/

section
variable {r : PanelRecord × LatchRecord} {driving : Bool}

/-- R117: the latch is released under a DRIVING grant. -/
theorem doorStepped_released (state : r.1.state = .unlatching) : doorStepped .latched false true r =
    ({ r.1 with state := .opening, gate := .pass },
      { r.2 with latched := false, solenoid := false, pulse := none }) := by
  simp [doorStepped, latchStepped, leveled, state]

/-- R118: the open end is reached. -/
theorem doorStepped_opened (state : r.1.state = .opening) : doorStepped .opened true driving r =
    (reachOpen { r.1 with openSwitch := true }, r.2) := by
  simp [doorStepped, openStepped, leveled, state]

/-- R118: the open end is left. -/
theorem doorStepped_leaves_open (state : r.1.state = .opened) (own : seqSense r.1 = some .opening) :
    doorStepped .opened false driving r = (leaveEnd .opening { r.1 with openSwitch := false }, r.2) := by
  unfold seqSense at own
  simp [doorStepped, openStepped, leveled, state, seqSense, own]

/-- R119: the frame is met. -/
theorem doorStepped_meets (state : r.1.state = .closing) : doorStepped .closed true driving r =
    if driving then frameMet ({ r.1 with closedSwitch := true }, r.2)
    else ({ r.1 with closedSwitch := true, gate := .held }, r.2) := by
  simp [doorStepped, closedStepped, leveled, state]

/-- R119: the frame is left while closing. -/
theorem doorStepped_leaves_frame (state : r.1.state = .closing) : doorStepped .closed false driving r =
    ({ r.1 with closedSwitch := false, gate := if r.1.gate = .held then .pass else r.1.gate }, r.2) := by
  by_cases held : r.1.gate = .held <;> simp [doorStepped, closedStepped, leveled, state, held]

/-- R119: the latch is driven home. -/
theorem doorStepped_engaged (state : r.1.state = .latching) : doorStepped .latched true driving r =
    ({ r.1 with state := .closed, gate := .held, travel := some 0 },
      { r.2 with latched := true, engage := none }) := by
  simp [doorStepped, latchStepped, leveled, state]

/-- R119: the frame is left while latching. -/
theorem doorStepped_springs (state : r.1.state = .latching) : doorStepped .closed false driving r =
    ({ r.1 with closedSwitch := false, state := .closing, gate := .pass }, { r.2 with engage := none }) := by
  simp [doorStepped, closedStepped, leveled, state]

/-- R119: the closed end is left. -/
theorem doorStepped_leaves_closed (state : r.1.state = .closed) (own : seqSense r.1 = some .closing) :
    doorStepped .closed false driving r = (leaveEnd .closing { r.1 with closedSwitch := false }, r.2) := by
  unfold seqSense at own
  simp [doorStepped, closedStepped, leveled, state, seqSense, own]

/-- R119: the latch springs at the closed end. -/
theorem doorStepped_unlatches (state : r.1.state = .closed) (own : seqSense r.1 = some .closing)
    (met : r.1.closedSwitch = true) : doorStepped .latched false driving r =
      if driving then
        ({ r.1 with endReported := false, state := .latching, gate := .latch },
          { r.2 with latched := false, engage := some 1000 })
      else ({ r.1 with endReported := false, state := .closing, gate := .held },
        { r.2 with latched := false }) := by
  simp [doorStepped, latchStepped, leveled, state, own, met]

end

/-! ## A door's switch (R115) -/

/-- R115: the inputs after a door switch change. -/
def doorInputs (d : Door) (w : DoorSwitch) (b : Bool) (i : Inputs) : Inputs :=
  { i with doors := i.doors.set d (
      match w with
      | .opened => { i.doors.get d with opened := b }
      | .closed => { i.doors.get d with closed := b }
      | .latched => { i.doors.get d with latched := b }) }

theorem event_door_idle {d : Door} {w : DoorSwitch} {b : Bool} {s : State}
    (idle : s.mode.mode = .off ∨ doorSwitchLevel d w s = b) :
    event (doorEvent d w b) s = s.setInputs (doorInputs d w b s.inputs) := by
  have effect : doorEvent d w b s = s.setInputs (doorInputs d w b s.inputs) := by
    by_cases off : s.mode.mode = .off
    · exact if_pos off
    · have same : doorSwitchLevel d w (s.setInputs (doorInputs d w b s.inputs)) = b := by
        rcases idle with e | e
        · exact absurd e off
        · exact e
      exact (if_neg off).trans (if_pos same)
  exact event_unjudged effect rfl rfl rfl rfl rfl

/-- R115, R117 to R119: the records of a door after a switch change. -/
def doorMoved (d : Door) (w : DoorSwitch) (b : Bool) (s : State) : PanelRecord × LatchRecord :=
  if (panelOf (motorOfDoor d) s).seq.isNone then
    doorRested (leveled w b (panelOf (motorOfDoor d) s, latchOf d s))
  else doorStepped w b (seqDriving (motorOfDoor d) s) (panelOf (motorOfDoor d) s, latchOf d s)

theorem doorKept_moved (d : Door) (w : DoorSwitch) (b : Bool) (s : State) :
    DoorKept w b (panelOf (motorOfDoor d) s, latchOf d s) (doorMoved d w b s) := by
  unfold doorMoved
  split
  · exact doorKept_rested
  · exact doorKept_stepped

theorem event_door {d : Door} {w : DoorSwitch} {b : Bool} {s : State} (on : s.mode.mode ≠ .off)
    (moves : doorSwitchLevel d w s ≠ b) : event (doorEvent d w b) s =
      putDoor d (doorMoved d w b s) (s.setInputs (doorInputs d w b s.inputs)) := by
  have effect : doorEvent d w b s =
      putDoor d (doorMoved d w b s) (s.setInputs (doorInputs d w b s.inputs)) := by
    refine (if_neg (c := s.mode.mode = .off) on).trans ?_
    exact doorSwitchChange_eq (s := s.setInputs (doorInputs d w b s.inputs)) moves
  exact event_unjudged effect rfl rfl rfl rfl rfl

theorem DoorKept.level {d : Door} {w : DoorSwitch} {b : Bool} {s u : State}
    {q : PanelRecord × LatchRecord}
    (h : DoorKept w b (panelOf (motorOfDoor d) s, latchOf d s) q) (v : DoorSwitch) :
    doorSwitchLevel d v (putDoor d q u) = if v = w then b else doorSwitchLevel d v s := by
  unfold doorSwitchLevel
  cases v with
  | opened =>
    dsimp only
    rw [panelOf_putDoor, h.openSwitch]
    cases w <;> rfl
  | closed =>
    dsimp only
    rw [panelOf_putDoor, h.closedSwitch]
    cases w <;> rfl
  | latched =>
    dsimp only
    rw [latchOf_putDoor, h.latched]
    cases w <;> rfl

/-- R115: a door at rest is judged from its switches. -/
theorem doorAtRest_eq (opened closed latched : Bool) : doorAtRest opened closed latched =
    if opened && !closed then .opened else if closed && !opened && latched then .closed else .partway := rfl

end Sys2Proof.Machine.Steps
end

section
/-! The shutter's switches (R122), the safety edge (R123), and the statement about the panel switches. -/

namespace Sys2Proof.Machine.Steps

open Motion Holds

/-! ## The shutter's records (R122) -/

/-- R122: the switches and the sequence of a panel record left as they are. -/
structure SwitchesKept (p q : PanelRecord) : Prop where
  seq : q.seq = p.seq
  openSwitch : q.openSwitch = p.openSwitch
  closedSwitch : q.closedSwitch = p.closedSwitch

theorem SwitchesKept.trans {p q r : PanelRecord} (h : SwitchesKept p q) (k : SwitchesKept q r) :
    SwitchesKept p r :=
  ⟨k.seq.trans h.seq, k.openSwitch.trans h.openSwitch, k.closedSwitch.trans h.closedSwitch⟩

theorem switchesKept_reachOpen (p : PanelRecord) : SwitchesKept p (reachOpen p) := by
  obtain ⟨seq, -, opened, closed⟩ := reachOpen_seq p
  exact ⟨seq, opened, closed⟩

theorem switchesKept_transition (w : ShutterSwitch) (b : Bool) (p : PanelRecord) :
    SwitchesKept p (shutterTransition w b p) := by
  unfold shutterTransition
  split
  · exact switchesKept_reachOpen p
  · split <;> exact ⟨rfl, rfl, rfl⟩
  · split <;> exact ⟨rfl, rfl, rfl⟩
  · split <;> exact ⟨rfl, rfl, rfl⟩
  · exact ⟨rfl, rfl, rfl⟩

/-- R122: the gate of the shutter as its switch condition goes. -/
def clearedGate (contact : Bool) (p : PanelRecord) : PanelRecord :=
  match p.state with
  | .opening => { p with gate := .pass }
  | .closing => { p with gate := if contact then .held else .pass }
  | _ => { p with gate := .held }

theorem shutterCleared_eq (contact : Bool) (p : PanelRecord) : shutterCleared contact p =
    shutterTransition .closed p.closedSwitch
      (shutterTransition .opened p.openSwitch (clearedGate contact p)) := by
  unfold shutterCleared clearedGate
  cases p.state <;> rfl

theorem switchesKept_cleared (contact : Bool) (p : PanelRecord) :
    SwitchesKept p (shutterCleared contact p) := by
  have gate : SwitchesKept p (clearedGate contact p) := by
    unfold clearedGate
    split <;> exact ⟨rfl, rfl, rfl⟩
  rw [shutterCleared_eq]
  exact (gate.trans (switchesKept_transition ..)).trans (switchesKept_transition ..)

/-- R122: the record of the shutter after a switch change. -/
def shutterMoved (w : ShutterSwitch) (b : Bool) (s : State) : PanelRecord :=
  let p := setShutterSwitch w b (panelOf .shut s)
  if p.seq.isNone then { p with state := shutterAtRest p.openSwitch p.closedSwitch p.state }
  else if p.openSwitch && p.closedSwitch then { p with gate := .held }
  else if s.panel.condition = .standing then shutterCleared s.panel.contact p
  else shutterTransition w b p

theorem switchesKept_moved (w : ShutterSwitch) (b : Bool) (s : State) :
    SwitchesKept (setShutterSwitch w b (panelOf .shut s)) (shutterMoved w b s) := by
  unfold shutterMoved
  dsimp only
  split
  · exact ⟨rfl, rfl, rfl⟩
  split
  · exact ⟨rfl, rfl, rfl⟩
  split
  · exact switchesKept_cleared ..
  · exact switchesKept_transition ..

theorem switchCondition_standing {opened closed : Bool} :
    switchCondition opened closed = .standing ↔ opened = true ∧ closed = true := by
  cases opened <;> cases closed <;> decide

/-- R122: the inputs after a shutter switch change. -/
def shutterInputs (w : ShutterSwitch) (b : Bool) (i : Inputs) : Inputs :=
  { i with shutter := (
      match w with
      | .opened => { i.shutter with opened := b }
      | .closed => { i.shutter with closed := b }) }

/-- R122: the panels after a shutter switch change. -/
def shutterPanels (w : ShutterSwitch) (b : Bool) (s : State) : PanelSequencer :=
  { s.panel with
    axis := s.panel.axis.set .shut (shutterMoved w b s)
    condition := switchCondition (shutterMoved w b s).openSwitch (shutterMoved w b s).closedSwitch }

theorem shutterSwitchChange_eq {w : ShutterSwitch} {b : Bool} {s : State}
    (moves : shutterSwitchLevel w s ≠ b) :
    shutterSwitchChange w b s = s.setPanel (shutterPanels w b s) := by
  obtain ⟨-, opened, closed⟩ := switchesKept_moved w b s
  have standing : (switchCondition (setShutterSwitch w b (panelOf .shut s)).openSwitch
      (setShutterSwitch w b (panelOf .shut s)).closedSwitch = .standing) ↔
      ((setShutterSwitch w b (panelOf .shut s)).openSwitch &&
        (setShutterSwitch w b (panelOf .shut s)).closedSwitch) = true := by
    rw [switchCondition_standing, Bool.and_eq_true]
  unfold shutterSwitchChange shutterPanels
  rw [opened, closed]
  refine (if_neg moves).trans ?_
  dsimp only
  unfold shutterMoved
  dsimp only
  simp only [standing]
  rfl

theorem event_shutter_idle {w : ShutterSwitch} {b : Bool} {s : State}
    (idle : s.mode.mode = .off ∨ shutterSwitchLevel w s = b) :
    event (shutterEvent w b) s = s.setInputs (shutterInputs w b s.inputs) := by
  have effect : shutterEvent w b s = s.setInputs (shutterInputs w b s.inputs) := by
    by_cases off : s.mode.mode = .off
    · exact if_pos off
    · have same : shutterSwitchLevel w (s.setInputs (shutterInputs w b s.inputs)) = b := by
        rcases idle with e | e
        · exact absurd e off
        · exact e
      exact (if_neg off).trans (if_pos same)
  exact event_unjudged effect rfl rfl rfl rfl rfl

theorem event_shutter {w : ShutterSwitch} {b : Bool} {s : State} (on : s.mode.mode ≠ .off)
    (moves : shutterSwitchLevel w s ≠ b) : event (shutterEvent w b) s =
      (s.setInputs (shutterInputs w b s.inputs)).setPanel (shutterPanels w b s) := by
  have effect : shutterEvent w b s =
      (s.setInputs (shutterInputs w b s.inputs)).setPanel (shutterPanels w b s) := by
    refine (if_neg (c := s.mode.mode = .off) on).trans ?_
    exact shutterSwitchChange_eq (s := s.setInputs (shutterInputs w b s.inputs)) moves
  exact event_unjudged effect rfl rfl rfl rfl rfl

/-- R123: the release of the safety edge changes its level alone. -/
theorem event_edge_release {s : State} (on : s.mode.mode ≠ .off) : event (edgeEvent false) s =
    (s.setInputs { s.inputs with shutter := { s.inputs.shutter with contact := false } }).setPanel
      { s.panel with contact := false } := by
  have effect : edgeEvent false s =
      (s.setInputs { s.inputs with shutter := { s.inputs.shutter with contact := false } }).setPanel
        { s.panel with contact := false } := by
    unfold edgeEvent
    by_cases free : s.panel.contact = false
    · refine (if_pos (.inr free)).trans ?_
      have kept : { s.panel with contact := false } = s.panel := by rw [← free]
      rw [kept]
      rfl
    · refine (if_neg ?_).trans (if_neg (by simp))
      rintro (off | e)
      · exact on off
      · exact free e
  exact event_unjudged effect rfl rfl rfl rfl rfl

/-! ## The shutter's cases (R122) -/

section
variable {w : ShutterSwitch} {b : Bool} {s : State}

/-- R122: the levels that a change leaves. -/
theorem shutter_condition : (shutterPanels w b s).condition = .standing ↔
    (shutterMoved w b s).openSwitch = true ∧ (shutterMoved w b s).closedSwitch = true :=
  switchCondition_standing

theorem shutterMoved_rest (rest : (panelOf .shut s).seq = none) : (shutterMoved w b s).state =
    if (shutterMoved w b s).openSwitch && (shutterMoved w b s).closedSwitch then (panelOf .shut s).state
    else if (shutterMoved w b s).openSwitch then .opened
    else if (shutterMoved w b s).closedSwitch then .closed else .partway := by
  have idle : (setShutterSwitch w b (panelOf .shut s)).seq.isNone = true := by cases w <;> simp [setShutterSwitch, rest]
  have state : (setShutterSwitch w b (panelOf .shut s)).state = (panelOf .shut s).state := by cases w <;> rfl
  unfold shutterMoved
  dsimp only
  rw [if_pos idle, state]
  rfl

theorem shutterMoved_stands (runs : (panelOf .shut s).seq.isSome = true)
    (stands : (shutterPanels w b s).condition = .standing) :
    (shutterMoved w b s).state = (panelOf .shut s).state ∧ (shutterMoved w b s).gate = .held := by
  obtain ⟨-, opened, closed⟩ := switchesKept_moved w b s
  rw [shutter_condition, opened, closed, ← Bool.and_eq_true] at stands
  have busy : ¬ (setShutterSwitch w b (panelOf .shut s)).seq.isNone = true := by
    cases w <;> simpa [setShutterSwitch, ← Option.isSome_iff_ne_none] using runs
  have state : (setShutterSwitch w b (panelOf .shut s)).state = (panelOf .shut s).state := by cases w <;> rfl
  unfold shutterMoved
  dsimp only
  rw [if_neg busy, if_pos stands]
  exact ⟨state, rfl⟩

theorem shutterMoved_runs {x : SeqGrant} (seq : (panelOf .shut s).seq = some x)
    (gone : (shutterPanels w b s).condition = .gone) : shutterMoved w b s =
      if s.panel.condition = .standing then
        shutterCleared s.panel.contact (setShutterSwitch w b (panelOf .shut s))
      else shutterTransition w b (setShutterSwitch w b (panelOf .shut s)) := by
  obtain ⟨-, opened, closed⟩ := switchesKept_moved w b s
  have apart : ¬ (shutterPanels w b s).condition = .standing := by rw [gone]; decide
  rw [shutter_condition, opened, closed, ← Bool.and_eq_true] at apart
  have busy : ¬ (setShutterSwitch w b (panelOf .shut s)).seq.isNone = true := by
    cases w <;> simp [setShutterSwitch, seq]
  exact (if_neg busy).trans (if_neg apart)

/-- R122: a change a sequence does not act on moves its level alone. -/
theorem transition_still {x : SeqGrant} {p : PanelRecord} (seq : p.seq = some x)
    (still : shutterActs x.sense p.state w b = false) : shutterTransition w b p = p := by
  have sense (y : Sense) : seqSense p = some y ↔ x.sense = y := by
    unfold seqSense
    rw [seq]
    exact Option.some_inj
  unfold shutterTransition
  split
  · next state => rw [state] at still; cases still
  · next state =>
    rw [state] at still
    exact if_neg fun own => of_decide_eq_false still ((sense _).mp own)
  · next state => rw [state] at still; cases still
  · next state =>
    rw [state] at still
    exact if_neg fun own => of_decide_eq_false still ((sense _).mp own)
  · rfl

end

/-- R118, R122: the open end reached, by the sense of the grant. -/
theorem reachOpen_end (p : PanelRecord) : (reachOpen p).state = .opened ∧
    (seqSense p = some .opening → (reachOpen p).gate = .held ∧ (reachOpen p).travel = some 0) ∧
    (seqSense p = some .closing → (reachOpen p).gate = p.gate ∧ (reachOpen p).travel = p.travel) := by
  unfold reachOpen
  split
  · next own => exact ⟨rfl, fun _ => ⟨rfl, rfl⟩, fun e => by rw [own] at e; cases e⟩
  · next own => exact ⟨rfl, fun e => absurd e own, fun _ => ⟨rfl, rfl⟩⟩

section
variable {p : PanelRecord}

theorem transition_opens (state : p.state = .opening) : shutterTransition .opened true p = reachOpen p := by
  simp only [shutterTransition, state]

theorem transition_leaves_open (state : p.state = .opened) (own : seqSense p = some .opening) :
    shutterTransition .opened false p = leaveEnd .opening p := by
  simp only [shutterTransition, state, own, if_true]

theorem transition_closes (state : p.state = .closing) : shutterTransition .closed true p =
    if seqSense p = some .closing then { p with state := .closed, gate := .held, travel := some 0 }
    else { p with state := .closed } := by
  simp only [shutterTransition, state]

theorem transition_leaves_closed (state : p.state = .closed) (own : seqSense p = some .closing) :
    shutterTransition .closed false p = leaveEnd .closing p := by
  simp only [shutterTransition, state, own, if_true]

theorem transition_opened_away (opening : p.state ≠ .opening) (opened : p.state ≠ .opened) (b : Bool) :
    shutterTransition .opened b p = p := by
  unfold shutterTransition
  split <;> first | contradiction | rfl

theorem transition_closed_away (closing : p.state ≠ .closing) (closed : p.state ≠ .closed) (b : Bool) :
    shutterTransition .closed b p = p := by
  unfold shutterTransition
  split <;> first | contradiction | rfl

theorem transition_opening (state : p.state = .opening) : shutterTransition .opened false p = p := by
  simp only [shutterTransition, state]

theorem transition_opened (state : p.state = .opened) : shutterTransition .opened true p = p := by
  simp only [shutterTransition, state]

theorem transition_closing (state : p.state = .closing) : shutterTransition .closed false p = p := by
  simp only [shutterTransition, state]

theorem transition_closed (state : p.state = .closed) : shutterTransition .closed true p = p := by
  simp only [shutterTransition, state]

/-! The shutter as its switch condition goes. -/

theorem clearedGate_kept (contact : Bool) (p : PanelRecord) :
    (clearedGate contact p).state = p.state ∧
      SwitchesKept p (clearedGate contact p) := by
  unfold clearedGate
  split <;> exact ⟨rfl, rfl, rfl, rfl⟩

variable (contact : Bool)

theorem cleared_opening (state : p.state = .opening) (away : p.openSwitch = false) :
    (shutterCleared contact p).state = .opening ∧ (shutterCleared contact p).gate = .pass := by
  have kept := (clearedGate_kept contact p).1.trans state
  have gate : (clearedGate contact p).gate = .pass := by simp only [clearedGate, state]
  rw [shutterCleared_eq, away, transition_opening kept,
    transition_closed_away (by rw [kept]; decide) (by rw [kept]; decide)]
  exact ⟨kept, gate⟩

theorem cleared_opened (state : p.state = .opening) (reached : p.openSwitch = true) :
    (shutterCleared contact p).state = .opened := by
  have kept := (clearedGate_kept contact p).1.trans state
  obtain ⟨opened, -, -⟩ := reachOpen_end (clearedGate contact p)
  rw [shutterCleared_eq, reached, transition_opens kept,
    transition_closed_away (by rw [opened]; decide) (by rw [opened]; decide), opened]

theorem cleared_closing (state : p.state = .closing) (away : p.closedSwitch = false) :
    (shutterCleared contact p).state = .closing ∧
      (shutterCleared contact p).gate = if contact then .held else .pass := by
  have kept := (clearedGate_kept contact p).1.trans state
  have gate : (clearedGate contact p).gate = if contact then .held else .pass := by
    simp only [clearedGate, state]
  rw [shutterCleared_eq, away, transition_opened_away (by rw [kept]; decide) (by rw [kept]; decide),
    transition_closing kept]
  exact ⟨kept, gate⟩

theorem cleared_closed (state : p.state = .closing) (reached : p.closedSwitch = true) :
    (shutterCleared contact p).state = .closed := by
  have kept := (clearedGate_kept contact p).1.trans state
  rw [shutterCleared_eq, reached, transition_opened_away (by rw [kept]; decide) (by rw [kept]; decide),
    transition_closes kept]
  split <;> rfl

theorem cleared_at_open (state : p.state = .opened) (reached : p.openSwitch = true) :
    (shutterCleared contact p).state = .opened ∧ (shutterCleared contact p).gate = .held := by
  have kept := (clearedGate_kept contact p).1.trans state
  have gate : (clearedGate contact p).gate = .held := by simp only [clearedGate, state]
  rw [shutterCleared_eq, reached, transition_opened kept,
    transition_closed_away (by rw [kept]; decide) (by rw [kept]; decide)]
  exact ⟨kept, gate⟩

theorem cleared_at_closed (state : p.state = .closed) (reached : p.closedSwitch = true) :
    (shutterCleared contact p).state = .closed ∧ (shutterCleared contact p).gate = .held := by
  have kept := (clearedGate_kept contact p).1.trans state
  have gate : (clearedGate contact p).gate = .held := by simp only [clearedGate, state]
  rw [shutterCleared_eq, reached, transition_opened_away (by rw [kept]; decide) (by rw [kept]; decide),
    transition_closed kept]
  exact ⟨kept, gate⟩

end

theorem seqSense_of {p : PanelRecord} {x : SeqGrant} (seq : p.seq = some x) {y : Sense} (e : x.sense = y) :
    seqSense p = some y := by
  unfold seqSense
  rw [seq]
  exact congrArg some e

/-- Settles O43: the panel switches, at rest and under a sequence. -/
theorem panelSwitchesMoveSequences : Obligations.PanelSwitchesMoveSequences := by
  refine ⟨fun s d w v b => ⟨fun idle => ⟨_, rfl, ?_⟩, fun idle => ⟨_, rfl, ?_⟩⟩, fun s on =>
    ⟨fun d w b moves => ⟨_, rfl, ?_⟩, fun w b moves => ⟨_, rfl, ?_⟩, ⟨_, rfl, ?_⟩⟩⟩
  · rw [event_door_idle idle]
    rfl
  · rw [event_shutter_idle idle]
    rfl
  · have kept := doorKept_moved d w b s
    rw [event_door on moves]
    refine ⟨rfl, ?_⟩
    dsimp only
    rw [panelOf_putDoor, latchOf_putDoor]
    refine ⟨rfl, kept.level, fun rest => ?_, fun x seq => ?_⟩
    · have moved : doorMoved d w b s = doorRested (leveled w b (panelOf (motorOfDoor d) s, latchOf d s)) :=
        if_pos (by rw [rest]; rfl)
      rw [moved]
      rfl
    · have moved : doorMoved d w b s = doorStepped w b (seqDriving (motorOfDoor d) s)
          (panelOf (motorOfDoor d) s, latchOf d s) := if_neg (by simp [seq])
      rw [moved] at kept ⊢
      clear moved moves
      generalize seqDriving (motorOfDoor d) s = driving at *
      generalize panelOf (motorOfDoor d) s = p at *
      generalize latchOf d s = l at *
      refine ⟨kept.seq, kept.obstruction, fun still => ?_, ?_, ?_, ?_, ?_, ?_, ?_, ?_, ?_, ?_⟩
      · rw [doorStepped_still (r := (p, l)) seq still]
        cases w <;> exact ⟨rfl, rfl⟩
      · rintro state rfl rfl rfl
        rw [doorStepped_released (r := (p, l)) state]
        exact ⟨rfl, rfl, rfl, rfl⟩
      · rintro state rfl rfl
        rw [doorStepped_opened (r := (p, l)) state]
        obtain ⟨reached, opening, closing⟩ := reachOpen_end { p with openSwitch := true }
        exact ⟨reached, fun own => opening (seqSense_of seq own), fun own => closing (seqSense_of seq own)⟩
      · rintro state rfl rfl own
        rw [doorStepped_leaves_open (r := (p, l)) state (seqSense_of seq own)]
        exact ⟨rfl, rfl, rfl⟩
      · rintro state rfl rfl
        have same : (doorStepped .closed true driving (p, l)).2.latched = l.latched := kept.latched
        rw [doorStepped_meets (r := (p, l)) state] at same ⊢
        refine ⟨fun runs free => ?_, fun runs latched => ?_, fun waits => ?_⟩
        · rw [same] at free
          have sprung : ¬ l.latched = true := by simp [free]
          rw [if_pos runs, frameMet, if_neg sprung]
          exact ⟨rfl, rfl, rfl⟩
        · rw [same] at latched
          rw [if_pos runs, frameMet, if_pos (c := l.latched = true) latched]
          exact ⟨rfl, rfl⟩
        · rw [if_neg (by simp [waits])]
          exact ⟨state, rfl, rfl⟩
      · rintro state rfl rfl
        rw [doorStepped_leaves_frame (r := (p, l)) state]
        exact ⟨state, rfl, rfl⟩
      · rintro state rfl rfl
        rw [doorStepped_engaged (r := (p, l)) state]
        exact ⟨rfl, rfl, rfl, rfl⟩
      · rintro state rfl rfl
        rw [doorStepped_springs (r := (p, l)) state]
        exact ⟨rfl, rfl, rfl⟩
      · rintro state rfl rfl own
        rw [doorStepped_leaves_closed (r := (p, l)) state (seqSense_of seq own)]
        exact ⟨rfl, rfl, rfl⟩
      · rintro state rfl rfl own met
        rw [doorStepped_unlatches (r := (p, l)) state (seqSense_of seq own) met]
        refine ⟨by split <;> rfl, fun runs => ?_, fun waits => ?_⟩
        · rw [if_pos runs]
          exact ⟨rfl, rfl, rfl⟩
        · rw [if_neg (by simp [waits])]
          exact ⟨rfl, rfl, rfl⟩
  · have kept := switchesKept_moved w b s
    have stands := shutterMoved_stands (w := w) (b := b) (s := s)
    have shown := shutter_condition (w := w) (b := b) (s := s)
    have runs {x : SeqGrant} := shutterMoved_runs (w := w) (b := b) (s := s) (x := x)
    have own : panelOf .shut ((s.setInputs (shutterInputs w b s.inputs)).setPanel (shutterPanels w b s)) =
        shutterMoved w b s := rfl
    rw [event_shutter on moves]
    refine ⟨rfl, ?_⟩
    dsimp only
    rw [own]
    refine ⟨rfl, fun v => ?_, shown, shutterMoved_rest, stands, fun x seq was now => ?_,
      fun x seq was now => ?_⟩
    · cases v with
      | opened => exact kept.openSwitch.trans (by cases w <;> rfl)
      | closed => exact kept.closedSwitch.trans (by cases w <;> rfl)
    · have moved := runs seq now
      rw [if_neg (by rw [was]; decide)] at moved
      rw [moved]
      clear moved runs own
      generalize panelOf .shut s = p at *
      have state : (setShutterSwitch w b p).state = p.state := by cases w <;> rfl
      have same : (setShutterSwitch w b p).seq = some x := by rw [← seq]; cases w <;> rfl
      refine ⟨fun still => ?_, ?_, ?_, ?_, ?_⟩
      · rw [transition_still same (by rw [state]; exact still)]
        cases w <;> rfl
      · rintro start rfl rfl
        rw [transition_opens (state.trans start)]
        obtain ⟨reached, opening, -⟩ := reachOpen_end (setShutterSwitch .opened true p)
        exact ⟨reached, fun own => opening (seqSense_of same own)⟩
      · rintro start rfl rfl own
        rw [transition_leaves_open (state.trans start) (seqSense_of same own)]
        exact ⟨rfl, rfl, rfl⟩
      · rintro start rfl rfl
        rw [transition_closes (state.trans start)]
        refine ⟨by split <;> rfl, fun own => ?_⟩
        rw [if_pos (seqSense_of same own)]
        exact ⟨rfl, rfl⟩
      · rintro start rfl rfl own
        rw [transition_leaves_closed (state.trans start) (seqSense_of same own)]
        exact ⟨rfl, rfl, rfl⟩
    · have moved := runs seq now
      rw [if_pos was] at moved
      have opened := kept.openSwitch
      have closed := kept.closedSwitch
      rw [moved] at opened closed ⊢
      rw [opened, closed]
      have state : (setShutterSwitch w b (panelOf .shut s)).state = (panelOf .shut s).state := by
        cases w <;> rfl
      rw [← state]
      generalize setShutterSwitch w b (panelOf .shut s) = p at *
      generalize s.panel.contact = contact at *
      exact ⟨cleared_opening contact, cleared_opened contact, cleared_closing contact,
        cleared_closed contact, cleared_at_open contact, cleared_at_closed contact⟩
  · rw [event_edge_release on]
    rfl

end Sys2Proof.Machine.Steps
end

section
/-! The readings of a sample (R52 to R60): what each axis becomes from what is held of it, and the faults a
standing condition sets. -/

namespace Sys2Proof.Machine.Steps

open Motion Holds

/-! ## Folds of separate places -/

section
variable {α σ : Type} {R : σ → σ → Prop} {f : α → σ → σ}

theorem foldl_left (refl : ∀ s, R s s) (trans : ∀ {s t u}, R s t → R t u → R s u) {l : List α}
    (hf : ∀ b ∈ l, ∀ s, R s (f b s)) (s : σ) : R s (l.foldl (fun s x => f x s) s) := by
  induction l generalizing s with
  | nil => exact refl s
  | cons x xs ih =>
    exact trans (hf x List.mem_cons_self s) (ih (fun y hy => hf y (List.mem_cons_of_mem x hy)) _)

/-- Among steps of separate places, a place is as it was until its own step and as that left it after. -/
theorem foldl_own (refl : ∀ s, R s s) (trans : ∀ {s t u}, R s t → R t u → R s u) {l : List α}
    (distinct : l.Nodup) {a : α} (ha : a ∈ l) (hf : ∀ b, b ≠ a → ∀ s, R s (f b s)) (s : σ) :
    ∃ u, R s u ∧ R (f a u) (l.foldl (fun s x => f x s) s) := by
  induction l generalizing s with
  | nil => cases ha
  | cons x xs ih =>
    obtain ⟨new, distinct⟩ := List.nodup_cons.mp distinct
    obtain rfl | ha := List.mem_cons.mp ha
    · exact ⟨s, refl s, foldl_left refl trans (fun y hy => hf y fun e => new (e ▸ hy)) _⟩
    · obtain ⟨u, before, after⟩ := ih distinct ha (f x s)
      exact ⟨u, trans (hf x (fun e => new (e ▸ ha)) s) before, after⟩

end

theorem mem_axisList (a : Axis) : a ∈ Axis.list := by cases a <;> decide

/-! ## One axis computed (R53 to R59) -/

/-- R52: of an axis status unit, the computed fields alone may have changed. -/
def Held (u v : AxisUnit) : Prop :=
  v = { u with
    position := v.position, angle := v.angle, ends := v.ends, level := v.level
    deployed := v.deployed, condition := v.condition, band := v.band }

theorem Held.refl (u : AxisUnit) : Held u u := rfl

theorem Held.trans {u v w : AxisUnit} (h : Held u v) (k : Held v w) : Held u w := by
  unfold Held at *
  rw [k, h]

/-- R52: of an axis status unit, what a computation leaves of one axis. -/
structure AxisLeft (a : Axis) (u v : AxisUnit) : Prop where
  held : Held u v
  condition : conditionOf v.condition a = conditionOf u.condition a
  ends : v.ends.get a = u.ends.get a
  deployed : v.deployed.get a = u.deployed.get a
  lift : a = .lift → v.position = u.position ∧ v.band = u.band
  tilt : a = .tilt → v.angle = u.angle ∧ v.level = u.level

theorem AxisLeft.refl (a : Axis) (u : AxisUnit) : AxisLeft a u u :=
  ⟨rfl, rfl, rfl, rfl, fun _ => ⟨rfl, rfl⟩, fun _ => ⟨rfl, rfl⟩⟩

theorem AxisLeft.trans {a : Axis} {u v w : AxisUnit} (h : AxisLeft a u v) (k : AxisLeft a v w) :
    AxisLeft a u w where
  held := h.held.trans k.held
  condition := k.condition.trans h.condition
  ends := k.ends.trans h.ends
  deployed := k.deployed.trans h.deployed
  lift := fun e => ⟨(k.lift e).1.trans (h.lift e).1, (k.lift e).2.trans (h.lift e).2⟩
  tilt := fun e => ⟨(k.tilt e).1.trans (h.tilt e).1, (k.tilt e).2.trans (h.tilt e).2⟩

/-- R52: one axis computed. -/
def axisComputed (c : WorkingConfig) (a : Axis) (u : AxisUnit) : AxisUnit :=
  match a with
  | .lift => computeLift c u
  | .tilt => computeTilt c u
  | .fold => computeFold u
  | .shut => computeShut u
  | .ndor => computeDoor .ndor u
  | .odor => computeDoor .odor u

/-- R52, R60: one axis computed where it is fitted. -/
def fittedComputed (c : WorkingConfig) (a : Axis) (u : AxisUnit) : AxisUnit :=
  if u.fitted.get a then axisComputed c a u else u

theorem computeAxes_eq (c : WorkingConfig) (u : AxisUnit) : computeAxes c u =
    Axis.list.foldl (fun u a => fittedComputed c a u) u := rfl

theorem axisLeft_computed (c : WorkingConfig) {a b : Axis} (n : b ≠ a) (u : AxisUnit) :
    AxisLeft a u (axisComputed c b u) := by
  cases b with
  | lift =>
    show AxisLeft a u (computeLift c u)
    unfold computeLift
    dsimp only
    cases a with
    | lift => exact absurd rfl n
    | tilt | fold | shut | ndor | odor => split <;> exact ⟨rfl, rfl, rfl, rfl, nofun, fun _ => ⟨rfl, rfl⟩⟩
  | tilt =>
    show AxisLeft a u (computeTilt c u)
    unfold computeTilt
    dsimp only
    cases a with
    | tilt => exact absurd rfl n
    | lift | fold | shut | ndor | odor => split <;> exact ⟨rfl, rfl, rfl, rfl, fun _ => ⟨rfl, rfl⟩, nofun⟩
  | fold =>
    show AxisLeft a u (computeFold u)
    cases a with
    | fold => exact absurd rfl n
    | lift | tilt | shut | ndor | odor => exact ⟨rfl, rfl, rfl, rfl, fun _ => ⟨rfl, rfl⟩, fun _ => ⟨rfl, rfl⟩⟩
  | shut =>
    show AxisLeft a u (computeShut u)
    cases a with
    | shut => exact absurd rfl n
    | lift | tilt | fold | ndor | odor => exact ⟨rfl, rfl, rfl, rfl, fun _ => ⟨rfl, rfl⟩, fun _ => ⟨rfl, rfl⟩⟩
  | ndor =>
    show AxisLeft a u (computeDoor .ndor u)
    cases a with
    | ndor => exact absurd rfl n
    | lift | tilt | fold | shut | odor => exact ⟨rfl, rfl, rfl, rfl, fun _ => ⟨rfl, rfl⟩, fun _ => ⟨rfl, rfl⟩⟩
  | odor =>
    show AxisLeft a u (computeDoor .odor u)
    cases a with
    | odor => exact absurd rfl n
    | lift | tilt | fold | shut | ndor => exact ⟨rfl, rfl, rfl, rfl, fun _ => ⟨rfl, rfl⟩, fun _ => ⟨rfl, rfl⟩⟩

theorem held_computed (c : WorkingConfig) (a : Axis) (u : AxisUnit) : Held u (fittedComputed c a u) := by
  unfold fittedComputed
  split
  · cases a with
    | lift =>
      show Held u (computeLift c u)
      unfold computeLift
      dsimp only
      split <;> rfl
    | tilt =>
      show Held u (computeTilt c u)
      unfold computeTilt
      dsimp only
      split <;> rfl
    | fold | shut | ndor | odor => rfl
  · rfl

theorem held_computeAxes (c : WorkingConfig) (u : AxisUnit) : Held u (computeAxes c u) := by
  rw [computeAxes_eq]
  exact foldl_left .refl .trans (fun a _ v => held_computed c a v) u

/-- R52: each axis is computed once, from what is held of it. -/
theorem computed_own (c : WorkingConfig) (a : Axis) (u : AxisUnit) :
    ∃ v, AxisLeft a u v ∧ AxisLeft a (fittedComputed c a v) (computeAxes c u) := by
  rw [computeAxes_eq]
  refine foldl_own (.refl a) .trans (by decide) (mem_axisList a) (fun b n v => ?_) u
  unfold fittedComputed
  split
  · exact axisLeft_computed c n v
  · exact .refl a v

/-! ## The faults of standing conditions (R52, R66) -/

/-- R66, R68: a fault set in the unit. -/
def faultedUnit (a : Axis) (code : FaultCode) (u : AxisUnit) : AxisUnit :=
  if u.fitted.get a = true ∧ u.fault.get a = none then
    { u with fault := u.fault.set a (some code), stall := if a = .lift then none else u.stall }
  else u

theorem enterFault_axis (r : FaultRecord) (s : State) : (enterFault r s).axis = s.axis := by
  unfold enterFault
  split <;> rfl

theorem setFault_axis (a : Axis) (code : FaultCode) (k : Option Coil) (s : State) :
    (setFault a code k s).axis = faultedUnit a code s.axis := by
  unfold setFault faultedUnit
  dsimp only
  split
  · have reacted := (reacts_reactFault a (s.setAxis { s.axis with
      fault := s.axis.fault.set a (some code), stall := if a = .lift then none else s.axis.stall })).axis
    rw [enterFault_axis]
    exact reacted
  · rfl

/-- R66: a standing condition sets its fault. -/
def conditionedUnit (a : Axis) (u : AxisUnit) : AxisUnit :=
  if conditionOf u.condition a = .standing then faultedUnit a (conditionFault a) u else u

theorem conditionFaultStep_axis (a : Axis) (s : State) :
    (conditionFaultStep a s).axis = conditionedUnit a s.axis := by
  unfold conditionFaultStep conditionedUnit
  split
  · exact setFault_axis ..
  · rfl

theorem conditionFaults_axis (l : List Axis) (s : State) :
    (forEach conditionFaultStep l s).axis = l.foldl (fun u a => conditionedUnit a u) s.axis := by
  unfold forEach
  induction l generalizing s with
  | nil => rfl
  | cons a as ih => rw [List.foldl_cons, List.foldl_cons, ih, conditionFaultStep_axis]

/-- R66: the fault of one axis is left, and of the rest only the stall window and faults may change. -/
structure FaultLeft (a : Axis) (u v : AxisUnit) : Prop where
  frame : v = { u with fault := v.fault, stall := v.stall }
  fault : v.fault.get a = u.fault.get a
  stall : a = .lift → v.stall = u.stall

theorem FaultLeft.refl (a : Axis) (u : AxisUnit) : FaultLeft a u u := ⟨rfl, rfl, fun _ => rfl⟩

theorem FaultLeft.trans {a : Axis} {u v w : AxisUnit} (h : FaultLeft a u v) (k : FaultLeft a v w) :
    FaultLeft a u w where
  frame := by rw [k.frame, h.frame]
  fault := k.fault.trans h.fault
  stall := fun e => (k.stall e).trans (h.stall e)

theorem faultLeft_faulted {a b : Axis} (n : b ≠ a) (code : FaultCode) (u : AxisUnit) :
    FaultLeft a u (faultedUnit b code u) := by
  unfold faultedUnit
  split
  · exact ⟨rfl, PerAxis.get_set_ne _ _ (Ne.symm n), fun e => if_neg fun h => n (h.trans e.symm)⟩
  · exact .refl a u

/-- R66: each axis whose condition stands takes its fault once. -/
theorem conditioned_own (a : Axis) (u : AxisUnit) : ∃ v, FaultLeft a u v ∧
    FaultLeft a (conditionedUnit a v) (Axis.list.foldl (fun u a => conditionedUnit a u) u) := by
  refine foldl_own (.refl a) .trans (by decide) (mem_axisList a) (fun b n v => ?_) u
  unfold conditionedUnit
  split
  · exact faultLeft_faulted n _ v
  · exact .refl a v

/-! ## A whole reading (R52) -/

/-- R52, R66: an axis whose condition stands and which can take its fault. -/
def takesFault (a : Axis) (u : AxisUnit) : Bool :=
  decide (conditionOf u.condition a = .standing) && u.fitted.get a && (u.fault.get a).isNone

theorem conditionedUnit_eq (a : Axis) (u : AxisUnit) : conditionedUnit a u =
    if takesFault a u then
      { u with fault := u.fault.set a (some (conditionFault a)), stall := if a = .lift then none else u.stall }
    else u := by
  unfold conditionedUnit faultedUnit takesFault
  by_cases stands : conditionOf u.condition a = .standing
  · simp only [stands, if_true, decide_true, Bool.true_and, Bool.and_eq_true, Option.isNone_iff_eq_none]
  · simp [stands]

/-- R52 steps 2 to 4: the unit computed, with the faults of its standing conditions. -/
def readUnit (c : WorkingConfig) (u : AxisUnit) : AxisUnit :=
  Axis.list.foldl (fun u a => conditionedUnit a u) (computeAxes c u)

theorem readUnit_frame (c : WorkingConfig) (u : AxisUnit) : readUnit c u =
    { computeAxes c u with fault := (readUnit c u).fault, stall := (readUnit c u).stall } := by
  obtain ⟨v, before, after⟩ := conditioned_own .lift (computeAxes c u)
  have own : conditionedUnit .lift v =
      { v with fault := (conditionedUnit .lift v).fault, stall := (conditionedUnit .lift v).stall } := by
    rw [conditionedUnit_eq]
    split <;> rfl
  have frame := after.frame
  rw [own, before.frame] at frame
  exact frame

theorem readUnit_computed (c : WorkingConfig) (u : AxisUnit) :
    (readUnit c u).position = (computeAxes c u).position ∧ (readUnit c u).angle = (computeAxes c u).angle ∧
    (readUnit c u).ends = (computeAxes c u).ends ∧ (readUnit c u).level = (computeAxes c u).level ∧
    (readUnit c u).deployed = (computeAxes c u).deployed ∧
    (readUnit c u).condition = (computeAxes c u).condition ∧ (readUnit c u).band = (computeAxes c u).band := by
  have frame := readUnit_frame c u
  generalize readUnit c u = w at frame ⊢
  rw [frame]
  exact ⟨rfl, rfl, rfl, rfl, rfl, rfl, rfl⟩

/-- R52: what a reading leaves of the unit besides its computed fields and the faults. -/
theorem readUnit_held (c : WorkingConfig) (u : AxisUnit) : readUnit c u =
    { u with
      position := (readUnit c u).position, angle := (readUnit c u).angle, ends := (readUnit c u).ends
      level := (readUnit c u).level, deployed := (readUnit c u).deployed
      condition := (readUnit c u).condition, band := (readUnit c u).band
      fault := (readUnit c u).fault, stall := (readUnit c u).stall } := by
  obtain ⟨position, angle, ends, level, deployed, condition, band⟩ := readUnit_computed c u
  have held := congrArg (fun x : AxisUnit =>
    { x with fault := (readUnit c u).fault, stall := (readUnit c u).stall }) (held_computeAxes c u)
  rw [position, angle, ends, level, deployed, condition, band]
  exact (readUnit_frame c u).trans held

/-- R52: the computed fields of one axis, as a reading leaves them. -/
theorem readUnit_own (c : WorkingConfig) (a : Axis) (u : AxisUnit) : ∃ v, AxisLeft a u v ∧
    conditionOf (readUnit c u).condition a = conditionOf (fittedComputed c a v).condition a ∧
    (readUnit c u).ends.get a = (fittedComputed c a v).ends.get a ∧
    (readUnit c u).deployed.get a = (fittedComputed c a v).deployed.get a ∧
    (a = .lift → (readUnit c u).position = (fittedComputed c a v).position ∧
      (readUnit c u).band = (fittedComputed c a v).band) ∧
    (a = .tilt → (readUnit c u).angle = (fittedComputed c a v).angle ∧
      (readUnit c u).level = (fittedComputed c a v).level) := by
  obtain ⟨v, before, after⟩ := computed_own c a u
  obtain ⟨position, angle, ends, level, deployed, condition, band⟩ := readUnit_computed c u
  rw [position, angle, ends, level, deployed, condition, band]
  exact ⟨v, before, after.condition, after.ends, after.deployed, after.lift, after.tilt⟩

theorem conditioned_fault {a : Axis} {v w : AxisUnit} (h : FaultLeft a (conditionedUnit a v) w) :
    w.fault.get a = (if takesFault a v then some (conditionFault a) else v.fault.get a) ∧
      (a = .lift → w.stall = if takesFault a v then none else v.stall) := by
  obtain ⟨-, fault, stall⟩ := h
  rw [conditionedUnit_eq] at fault stall
  split
  · next takes =>
    rw [if_pos takes] at fault stall
    exact ⟨fault.trans (PerAxis.get_set_same ..), fun e => (stall e).trans (if_pos e)⟩
  · next takes =>
    rw [if_neg takes] at fault stall
    exact ⟨fault, stall⟩

/-- R66: the faults a reading leaves, and the stall window. -/
theorem readUnit_fault (c : WorkingConfig) (a : Axis) (u : AxisUnit) :
    (readUnit c u).fault.get a =
        (if conditionOf (readUnit c u).condition a = .standing ∧ u.fitted.get a = true ∧
            u.fault.get a = none then some (conditionFault a) else u.fault.get a) ∧
      (a = .lift → (readUnit c u).stall =
        if conditionOf (readUnit c u).condition a = .standing ∧ u.fitted.get a = true ∧
          u.fault.get a = none then none else u.stall) := by
  obtain ⟨-, -, -, -, -, condition, -⟩ := readUnit_computed c u
  have held := held_computeAxes c u
  have kept : (computeAxes c u).fitted = u.fitted ∧ (computeAxes c u).fault = u.fault ∧
      (computeAxes c u).stall = u.stall := by
    unfold Held at held
    rw [held]
    exact ⟨rfl, rfl, rfl⟩
  obtain ⟨v, before, after⟩ := conditioned_own a (computeAxes c u)
  obtain ⟨fault, stall⟩ := conditioned_fault after
  have same : v.condition = (readUnit c u).condition :=
    (congrArg AxisUnit.condition before.frame).trans condition.symm
  have fitted : v.fitted = u.fitted :=
    (congrArg AxisUnit.fitted before.frame).trans kept.1
  have code : v.fault.get a = u.fault.get a :=
    before.fault.trans (congrArg (PerAxis.get · a) kept.2.1)
  have window (e : a = .lift) : v.stall = u.stall :=
    (before.stall e).trans kept.2.2
  have takes : takesFault a v = true ↔ conditionOf (readUnit c u).condition a = .standing ∧
      u.fitted.get a = true ∧ u.fault.get a = none := by
    unfold takesFault
    rw [same, fitted, code, Bool.and_eq_true, Bool.and_eq_true, decide_eq_true_eq,
      Option.isNone_iff_eq_none, and_assoc]
  rw [code] at fault
  simp only [takes] at fault stall
  refine ⟨fault, fun e => ?_⟩
  rw [← window e]
  exact stall e

end Sys2Proof.Machine.Steps
end

section
/-! A sample (R52): LIFT, TILT, FOLD and the panel axes as they are read, the stall watch (R65), and the statements
about a sample. -/

namespace Sys2Proof.Machine.Steps

open Motion Holds

/-! ## The band of a position (R62) -/

theorem pairwise_of_lowsRise {l : List Band} (h : lowsRise l = true) : l.Pairwise fun a b => a.low < b.low := by
  have chain : l.IsChain fun a b => a.low < b.low := by
    induction l with
    | nil => exact .nil
    | cons a rest ih =>
      cases rest with
      | nil => exact .singleton a
      | cons b rest =>
        have parts : decide (a.low < b.low) = true ∧ lowsRise (b :: rest) = true := by
          rw [← Bool.and_eq_true]
          exact h
        exact .cons_cons (of_decide_eq_true parts.1) (ih parts.2)
  exact List.isChain_iff_pairwise.mp chain

/-- R62: in a rising table the bands that start at or below a position are the first ones. -/
theorem low_le_iff {l : List Band} (rise : l.Pairwise fun a b => a.low < b.low) {k : Nat} {b : Band} {p : Nat}
    (at_ : l[k]? = some b) :
    b.low ≤ p ↔ k < (l.takeWhile fun b => decide (b.low ≤ p)).length := by
  induction l generalizing k with
  | nil => cases at_
  | cons a rest ih =>
    obtain ⟨first, rise⟩ := List.pairwise_cons.mp rise
    by_cases below : a.low ≤ p
    · rw [List.takeWhile_cons_of_pos (p := fun b : Band => decide (b.low ≤ p)) (decide_eq_true below), List.length_cons]
      cases k with
      | zero =>
        cases at_
        exact ⟨fun _ => Nat.succ_pos _, fun _ => below⟩
      | succ k => rw [ih rise at_, Nat.succ_lt_succ_iff]
    · rw [List.takeWhile_cons_of_neg (p := fun b : Band => decide (b.low ≤ p)) (by simpa using below)]
      refine ⟨fun le => absurd le ?_, nofun⟩
      cases k with
      | zero =>
        cases at_
        exact below
      | succ k =>
        have later := first b (List.mem_of_getElem? at_)
        omega

/-- R62: the band of a position in a valid table. -/
theorem bandAt_iff {h : Nat} {l : List Band} (valid : lowsValid h l = true) {k : Nat} {b : Band} {p : Nat}
    (at_ : l[k]? = some b) : b.low ≤ p ↔ k < bandAt l p := by
  unfold lowsValid at valid
  rw [Bool.and_eq_true, Bool.and_eq_true, decide_eq_true_eq] at valid
  obtain ⟨⟨zero, rise⟩, -⟩ := valid
  have rise := pairwise_of_lowsRise rise
  cases l with
  | nil => cases at_
  | cons a rest =>
    have start : a.low = 0 := Option.some.inj zero
    have first := (low_le_iff rise (k := 0) (b := a) (p := p) rfl).mp (by omega)
    rw [low_le_iff rise at_]
    unfold bandAt
    omega

/-! ## Each axis as it is read (R53 to R59) -/

section
variable {c : WorkingConfig} {u : AxisUnit}

/-- R53 to R55, R62: LIFT as it is read. -/
theorem lift_read (fitted : u.fitted.lift = true) :
    (liftCondition c.calibration u.liftReading = .standing →
      (readUnit c u).condition.lift = .standing ∧ (readUnit c u).position = u.position ∧
      (readUnit c u).band = u.band ∧ (readUnit c u).ends.lift = ⟨false, false⟩ ∧
      (readUnit c u).deployed.lift = true) ∧
    (liftCondition c.calibration u.liftReading = .gone →
      (readUnit c u).condition.lift = .gone ∧
      (readUnit c u).position = liftPosition c.calibration u.liftReading ∧
      (readUnit c u).band = bandAt c.bands (liftPosition c.calibration u.liftReading) ∧
      (readUnit c u).ends.lift =
        liftEnds c.calibration (liftPosition c.calibration u.liftReading) ∧
      (readUnit c u).deployed.lift =
        !(liftEnds c.calibration (liftPosition c.calibration u.liftReading)).sense0) := by
  obtain ⟨v, before, condition, ends, deployed, placed, -⟩ := readUnit_own c .lift u
  obtain ⟨position, band⟩ := placed rfl
  obtain ⟨held, -, -, -, same, -⟩ := before
  have reading : v.liftReading = u.liftReading ∧ v.fitted = u.fitted := by
    unfold Held at held
    rw [held]
    exact ⟨rfl, rfl⟩
  have step : fittedComputed c .lift v = computeLift c v := if_pos (by rw [reading.2]; exact fitted)
  rw [step] at condition ends deployed position band
  unfold computeLift at condition ends deployed position band
  rw [reading.1] at condition ends deployed position band
  obtain ⟨at_, in_⟩ := same rfl
  refine ⟨fun stands => ?_, fun gone => ?_⟩
  · rw [stands] at condition ends deployed position band
    exact ⟨condition, position.trans at_, band.trans in_, ends, deployed⟩
  · rw [gone] at condition ends deployed position band
    exact ⟨condition, position, band, ends, deployed⟩

/-- R56, R57: TILT as it is read. -/
theorem tilt_read (fitted : u.fitted.tilt = true) :
    (tiltCondition c.calibration u.tiltReading = .standing →
      (readUnit c u).condition.tilt = .standing ∧ (readUnit c u).angle = u.angle ∧
      (readUnit c u).level = false ∧ (readUnit c u).ends.tilt = ⟨false, false⟩ ∧
      (readUnit c u).deployed.tilt = true) ∧
    (tiltCondition c.calibration u.tiltReading = .gone →
      (readUnit c u).condition.tilt = .gone ∧
      (readUnit c u).angle = tiltAngle c.calibration u.tiltReading ∧
      (readUnit c u).level = tiltLevel c.calibration (tiltAngle c.calibration u.tiltReading) ∧
      (readUnit c u).ends.tilt =
        tiltEnds c.calibration (tiltAngle c.calibration u.tiltReading) ∧
      (readUnit c u).deployed.tilt =
        !tiltLevel c.calibration (tiltAngle c.calibration u.tiltReading)) := by
  obtain ⟨v, before, condition, ends, deployed, -, placed⟩ := readUnit_own c .tilt u
  obtain ⟨angle, level⟩ := placed rfl
  obtain ⟨held, -, -, -, -, same⟩ := before
  have reading : v.tiltReading = u.tiltReading ∧ v.fitted = u.fitted := by
    unfold Held at held
    rw [held]
    exact ⟨rfl, rfl⟩
  have step : fittedComputed c .tilt v = computeTilt c v := if_pos (by rw [reading.2]; exact fitted)
  rw [step] at condition ends deployed angle level
  unfold computeTilt at condition ends deployed angle level
  rw [reading.1] at condition ends deployed angle level
  obtain ⟨at_, -⟩ := same rfl
  refine ⟨fun stands => ?_, fun gone => ?_⟩
  · rw [stands] at condition ends deployed angle level
    exact ⟨condition, angle.trans at_, level, ends, deployed⟩
  · rw [gone] at condition ends deployed angle level
    exact ⟨condition, angle, level, ends, deployed⟩

/-- R58: FOLD as it is read. -/
theorem fold_read (fitted : u.fitted.fold = true) :
    (readUnit c u).condition.fold = foldCondition u.stowed u.unfolded ∧
    (readUnit c u).ends.fold = foldEnds u.stowed u.unfolded ∧
    (readUnit c u).deployed.fold = !(foldEnds u.stowed u.unfolded).sense0 := by
  obtain ⟨v, before, condition, ends, deployed, -, -⟩ := readUnit_own c .fold u
  have reading : v.stowed = u.stowed ∧ v.unfolded = u.unfolded ∧ v.fitted = u.fitted := by
    have held := before.held
    unfold Held at held
    rw [held]
    exact ⟨rfl, rfl, rfl⟩
  have step : fittedComputed c .fold v = computeFold v := if_pos (by rw [reading.2.2]; exact fitted)
  rw [step] at condition ends deployed
  unfold computeFold at condition ends deployed
  rw [reading.1, reading.2.1] at condition ends deployed
  exact ⟨condition, ends, deployed⟩

/-- R59: SHUT as it is mirrored. -/
theorem shut_read (fitted : u.fitted.shut = true) :
    (readUnit c u).condition.shut = u.shutSwitch ∧
    (readUnit c u).ends.shut =
      (if u.shutSwitch = .standing then ⟨false, false⟩ else panelEnds u.panelState.shut) ∧
    (readUnit c u).deployed.shut = decide (u.shutSwitch = .standing ∨ u.panelState.shut ≠ .closed) := by
  obtain ⟨v, before, condition, ends, deployed, -, -⟩ := readUnit_own c .shut u
  have reading : v.shutSwitch = u.shutSwitch ∧ v.panelState = u.panelState ∧ v.fitted = u.fitted := by
    have held := before.held
    unfold Held at held
    rw [held]
    exact ⟨rfl, rfl, rfl⟩
  have step : fittedComputed c .shut v = computeShut v := if_pos (by rw [reading.2.2]; exact fitted)
  rw [step] at condition ends deployed
  unfold computeShut at condition ends deployed
  rw [reading.1, reading.2.1] at condition ends deployed
  exact ⟨condition, ends, deployed⟩

/-- R59: a door as it is mirrored. -/
theorem door_read (d : Door) (fitted : u.fitted.get (axisOfMotor (motorOfDoor d)) = true) :
    (readUnit c u).ends.get (axisOfMotor (motorOfDoor d)) = panelEnds (u.panelState.get (motorOfDoor d)) ∧
    (readUnit c u).deployed.get (axisOfMotor (motorOfDoor d)) =
      decide (u.panelState.get (motorOfDoor d) ≠ .closed) := by
  obtain ⟨v, before, -, ends, deployed, -, -⟩ := readUnit_own c (axisOfMotor (motorOfDoor d)) u
  have reading : v.panelState = u.panelState ∧ v.fitted = u.fitted := by
    have held := before.held
    unfold Held at held
    rw [held]
    exact ⟨rfl, rfl⟩
  have step : fittedComputed c (axisOfMotor (motorOfDoor d)) v = computeDoor d v := by
    refine (if_pos (by rw [reading.2]; exact fitted)).trans ?_
    cases d <;> rfl
  rw [step] at ends deployed
  unfold computeDoor at ends deployed
  rw [reading.1] at ends deployed
  exact ⟨ends.trans (PerAxis.get_set_same ..), deployed.trans (PerAxis.get_set_same ..)⟩

/-- R60: an axis that is not fitted keeps what it reads as. -/
theorem unfitted_read {a : Axis} (out : u.fitted.get a = false) :
    conditionOf (readUnit c u).condition a = conditionOf u.condition a ∧
    (readUnit c u).ends.get a = u.ends.get a ∧ (readUnit c u).deployed.get a = u.deployed.get a ∧
      (readUnit c u).fault.get a = u.fault.get a := by
  obtain ⟨fault, -⟩ := readUnit_fault c a u
  obtain ⟨v, before, condition, ends, deployed, -, -⟩ := readUnit_own c a u
  have fitted : v.fitted = u.fitted := by
    have held := before.held
    unfold Held at held
    rw [held]
  have step : fittedComputed c a v = v := if_neg (by rw [fitted, out]; decide)
  rw [step] at condition ends deployed
  exact ⟨condition.trans before.condition, ends.trans before.ends, deployed.trans before.deployed,
    fault.trans (if_neg fun h => by rw [out] at h; exact Bool.false_ne_true h.2.1)⟩

end

end Sys2Proof.Machine.Steps
end

section
/-! A sample as an event (R52, R65, R175), and the statements about what it reads. -/

namespace Sys2Proof.Machine.Steps

open Motion Holds

/-! ## The stall watch (R65) -/

/-- R65: the stall watch runs in a unit. -/
def stallRunsIn (u : AxisUnit) : Bool :=
  u.fitted.lift && u.fault.lift.isNone && decide (u.condition.lift = .gone) && decide (200 ≤ u.liftOutput)

/-- R65: the unit after the stall watch of a sample. -/
def stalledUnit (u : AxisUnit) : AxisUnit :=
  if stallRunsIn u then
    match u.stall with
    | none => { u with stall := some ⟨u.position, 0⟩ }
    | some w =>
      if movedOff w.reference u.position then { u with stall := some ⟨u.position, 0⟩ }
      else if 2000 ≤ w.elapsed + 10 then faultedUnit .lift .stall u
      else { u with stall := some { w with elapsed := w.elapsed + 10 } }
  else { u with stall := none }

theorem stallStep_axis (s : State) : (stallStep s).axis = stalledUnit s.axis := by
  have runs : stallRuns s = stallRunsIn s.axis := by
    unfold stallRuns stallRunsIn faulted
    have absent : (!(s.axis.fault.get .lift).isSome) = s.axis.fault.lift.isNone := by
      rw [Option.not_isSome]
      rfl
    rw [absent]
    rfl
  unfold stallStep stalledUnit
  dsimp only
  rw [runs]
  cases stallRunsIn s.axis with
  | false => rfl
  | true =>
    cases s.axis.stall with
    | none => rfl
    | some w =>
      rw [if_neg (by decide), if_pos rfl]
      dsimp only
      by_cases moved : movedOff w.reference s.axis.position = true
      · rw [if_pos moved, if_pos moved]
        rfl
      · rw [if_neg moved, if_neg moved]
        by_cases full : 2000 ≤ w.elapsed + 10
        · rw [if_pos (c := w.elapsed + periodMs ≥ stallMs) full, if_pos full]
          exact setFault_axis ..
        · rw [if_neg (c := w.elapsed + periodMs ≥ stallMs) full, if_neg full]
          rfl

/-! ## A sample's axes (R52) -/

theorem permitEvent_axis (s : State) : (permitEvent s).axis = s.axis := by
  have moved := judgeDeployMove_frame s
  unfold permitEvent
  generalize judgeDeployMove s = u at moved ⊢
  exact (reacts_easeGrants _ _ _).axis.trans (by rw [moved]; rfl)

theorem reportFlags_axis (b s : State) : (reportFlags b s).axis = s.axis := by
  unfold reportFlags
  split
  · rfl
  · exact permitEvent_axis s

theorem evaluateSample_axis (sample : Bool) (s : State) : (evaluateSample sample s).axis =
    if sample then stalledUnit (readUnit s.config s.axis) else readUnit s.config s.axis := by
  have read : (forEach conditionFaultStep Axis.list (s.setAxis (computeAxes s.config s.axis))).axis =
      readUnit s.config s.axis := conditionFaults_axis ..
  unfold evaluateSample
  dsimp only
  generalize forEach conditionFaultStep Axis.list (s.setAxis (computeAxes s.config s.axis)) = u at read ⊢
  cases sample with
  | false => exact read
  | true => exact (stallStep_axis u).trans (congrArg stalledUnit read)

theorem takeSample_axis (s : State) : (takeSample s).axis =
    stalledUnit (readUnit s.config (takeReadings s).axis) := by
  unfold takeSample
  rw [reportFlags_axis, evaluateSample_axis, if_pos rfl]
  rfl

theorem sampleHeld_axis (s : State) : (sampleHeld s).axis = readUnit s.config s.axis := by
  unfold sampleHeld
  rw [reportFlags_axis, evaluateSample_axis, if_neg (by decide)]

/-- R66, R165: the axes, the configuration and the fault record left as they are. -/
structure Recorded (s t : State) : Prop where
  axis : t.axis = s.axis
  config : t.config = s.config
  faultLog : t.faultLog = s.faultLog

theorem Recorded.trans {s t u : State} (h : Recorded s t) (k : Recorded t u) : Recorded s u :=
  ⟨k.axis.trans h.axis, k.config.trans h.config, k.faultLog.trans h.faultLog⟩

theorem recorded_of_reacts {s t : State} (h : Reacts s t) : Recorded s t := ⟨h.axis, h.config, h.faultLog⟩

theorem recorded_recomputePermits (s : State) : Recorded s (recomputePermits s) := by
  have reacts := recorded_of_reacts (reacts_easeGrants .permit
    (barredBy s.permit.map (permitMap s)) (remapped s))
  rw [← recomputePermits_eq] at reacts
  exact ⟨reacts.axis, reacts.config, reacts.faultLog⟩

theorem recorded_changeMode (m : Mode) (t : Option Nat) (s : State) : Recorded s (changeMode m t s) := by
  have reacted := recorded_of_reacts (reacts_reactMode m (setModeTimer m t s))
  have start : Recorded s (reactMode m (setModeTimer m t s)) :=
    ⟨reacted.axis, reacted.config, reacted.faultLog⟩
  have forced (u : State) : Recorded u (forceFor m u) := by
    unfold forceFor
    split <;> exact ⟨rfl, rfl, rfl⟩
  have beacons (u : State) : Recorded u (beaconMode s.mode.mode m u) := by
    rw [(beaconMode_frame s.mode.mode m u).1]
    exact ⟨rfl, rfl, rfl⟩
  have ported (u : State) : Recorded u (modePorts m s u) := by
    have h := ported_modePorts u m s
    unfold Ported at h
    rw [h]
    exact ⟨rfl, rfl, rfl⟩
  have noticed (u : State) : Recorded u (noticeMode s.mode.mode m u) := by
    rw [(noticeMode_eq _ _ _).1]
    exact ⟨rfl, rfl, rfl⟩
  exact ((((start.trans (forced _)).trans (recorded_recomputePermits _)).trans (beacons _)).trans
    (ported _)).trans (noticed _)

/-- R71: entry into OFF makes the stall window absent, and changes nothing else of the axes. -/
theorem enterOff_recorded (s : State) : (enterOff s).axis = { s.axis with stall := none } ∧
    (enterOff s).config = s.config ∧ (enterOff s).faultLog = s.faultLog := by
  obtain ⟨axis, config, log⟩ := recorded_changeMode .off none s
  unfold enterOff offBlocks
  generalize changeMode .off none s = u at axis config log ⊢
  rw [← axis, ← config, ← log]
  exact ⟨rfl, rfl, rfl⟩

/-- R71, R175: the axes as the close of an event leaves them, but for a CLOSEDOWN that ends in OFF. -/
theorem conclude_recorded (s u : State) :
    (conclude s u).config = u.config ∧ (conclude s u).faultLog = u.faultLog ∧
    ((conclude s u).mode.mode = u.mode.mode ∧ (conclude s u).axis = u.axis ∨
      u.mode.mode = .closedown ∧ (conclude s u).mode.mode = .off ∧
        (conclude s u).axis = { u.axis with stall := none }) := by
  cases done : closedownDone s u with
  | false =>
    have closes := conclude_frame done
    generalize conclude s u = t at closes ⊢
    rw [closes]
    exact ⟨rfl, rfl, .inl ⟨rfl, rfl⟩⟩
  | true =>
    have down : u.mode.mode = .closedown := by
      unfold closedownDone at done
      simp only [Bool.and_eq_true, decide_eq_true_eq] at done
      exact done.1.1
    have closes : conclude s u = judgeDemands s (enterOff u) := by
      unfold conclude
      rw [done]
      rfl
    have shone := (shone_judgeDemands s (enterOff u)).1
    obtain ⟨axis, config, log⟩ := enterOff_recorded u
    have off := enterOff_mode u
    rw [closes]
    generalize judgeDemands s (enterOff u) = t at shone ⊢
    generalize enterOff u = v at *
    rw [shone]
    exact ⟨config, log, .inr ⟨down, off, axis⟩⟩

theorem event_recorded (f : State → State) (s : State) :
    (event f s).config = (f s).config ∧ (event f s).faultLog = (f s).faultLog ∧
    ((event f s).mode.mode = (f s).mode.mode ∧ (event f s).axis = (f s).axis ∨
      (f s).mode.mode = .closedown ∧ (event f s).mode.mode = .off ∧
        (event f s).axis = { (f s).axis with stall := none }) := by
  have frame := orderGends_frame s (f s)
  have closes := conclude_recorded s (orderGends s (f s))
  rw [event_eq]
  generalize orderGends s (f s) = u at frame closes ⊢
  rw [frame] at closes
  rw [frame]
  exact closes

/-! ## What the readings leave (R53 to R60) -/

/-- R52: the axes after a reading, whatever the stall watch and the mode have made of the stall window. -/
structure Sampled (c : WorkingConfig) (u w : AxisUnit) : Prop where
  frame : w = { readUnit c u with fault := w.fault, stall := w.stall }
  fault : ∀ a, a ≠ .lift → w.fault.get a = (readUnit c u).fault.get a
  lift : u.fitted.lift = false ∨ (readUnit c u).condition.lift = .standing →
    w.fault.lift = (readUnit c u).fault.lift

theorem sampled_readUnit (c : WorkingConfig) (u : AxisUnit) : Sampled c u (readUnit c u) := by
  constructor <;> generalize readUnit c u = z
  · rfl
  · exact fun _ _ => rfl
  · exact fun _ => rfl

theorem Sampled.unstalled {c : WorkingConfig} {u w : AxisUnit} (h : Sampled c u w) :
    Sampled c u { w with stall := none } := by
  obtain ⟨frame, fault, lift⟩ := h
  constructor <;> generalize readUnit c u = z at frame fault lift ⊢
  · exact congrArg (fun x : AxisUnit => { x with stall := none }) frame
  · exact fault
  · exact lift

/-- R65: the stall watch sets a fault on a LIFT that reads alone. -/
theorem stalledUnit_cases (u : AxisUnit) :
    (∃ w, stalledUnit u = { u with stall := w }) ∨
      stallRunsIn u = true ∧ stalledUnit u = { u with fault := u.fault.set .lift (some .stall), stall := none } := by
  unfold stalledUnit
  split
  · next runs =>
    split
    · exact .inl ⟨_, rfl⟩
    · split
      · exact .inl ⟨_, rfl⟩
      · split
        · unfold faultedUnit
          split
          · exact .inr ⟨runs, rfl⟩
          · exact .inl ⟨u.stall, rfl⟩
        · exact .inl ⟨_, rfl⟩
  · exact .inl ⟨none, rfl⟩

theorem sampled_stalled (c : WorkingConfig) (u : AxisUnit) : Sampled c u (stalledUnit (readUnit c u)) := by
  have fitted : (readUnit c u).fitted = u.fitted := by rw [readUnit_held]
  rcases stalledUnit_cases (readUnit c u) with ⟨w, e⟩ | ⟨runs, e⟩
  · rw [e]
    constructor <;> generalize readUnit c u = z
    · rfl
    · exact fun _ _ => rfl
    · exact fun _ => rfl
  · rw [e]
    unfold stallRunsIn at runs
    constructor <;> generalize readUnit c u = z at runs fitted ⊢
    · rfl
    · exact fun a n => PerAxis.get_set_ne _ _ n
    intro idle
    simp only [Bool.and_eq_true, decide_eq_true_eq] at runs
    obtain ⟨⟨⟨here, -⟩, gone⟩, -⟩ := runs
    rcases idle with out | stands
    · rw [fitted, out] at here
      cases here
    · rw [stands] at gone
      cases gone

/-- R52: the readings of a unit alone may have changed. -/
def Taken (u v : AxisUnit) : Prop :=
  v = { u with
    liftReading := v.liftReading, tiltReading := v.tiltReading, stowed := v.stowed
    unfolded := v.unfolded, panelState := v.panelState, shutSwitch := v.shutSwitch }

theorem Sampled.readings {c : WorkingConfig} {u w : AxisUnit} (h : Sampled c u w) :
    w.liftReading = u.liftReading ∧ w.tiltReading = u.tiltReading ∧ w.stowed = u.stowed ∧
      w.unfolded = u.unfolded ∧ w.panelState = u.panelState ∧ w.shutSwitch = u.shutSwitch ∧
      w.fitted = u.fitted ∧ w.liftOutput = u.liftOutput := by
  have held := readUnit_held c u
  have frame := h.frame
  generalize readUnit c u = z at held frame
  rw [frame, held]
  exact ⟨rfl, rfl, rfl, rfl, rfl, rfl, rfl, rfl⟩

theorem Sampled.computed {c : WorkingConfig} {u w : AxisUnit} (h : Sampled c u w) :
    w.position = (readUnit c u).position ∧ w.angle = (readUnit c u).angle ∧
      w.ends = (readUnit c u).ends ∧ w.level = (readUnit c u).level ∧
      w.deployed = (readUnit c u).deployed ∧ w.condition = (readUnit c u).condition ∧
      w.band = (readUnit c u).band := by
  have frame := h.frame
  generalize readUnit c u = z at frame ⊢
  rw [frame]
  exact ⟨rfl, rfl, rfl, rfl, rfl, rfl, rfl⟩

/-- R66: the fault of an axis other than LIFT after a reading. -/
theorem Sampled.code {c : WorkingConfig} {u w : AxisUnit} (h : Sampled c u w) {a : Axis} (n : a ≠ .lift)
    (fitted : u.fitted.get a = true) : w.fault.get a =
      if conditionOf w.condition a = .standing then some ((u.fault.get a).getD (conditionFault a))
      else u.fault.get a := by
  obtain ⟨-, -, -, -, -, condition, -⟩ := h.computed
  rw [h.fault a n, (readUnit_fault c a u).1, condition]
  by_cases stands : conditionOf (readUnit c u).condition a = .standing
  · rw [if_pos stands]
    cases code : u.fault.get a with
    | none => exact if_pos ⟨stands, fitted, rfl⟩
    | some x => exact if_neg fun k => by cases k.2.2
  · rw [if_neg stands, if_neg fun k => stands k.1]

/-- R53 to R55, R62: LIFT after a reading. -/
theorem liftFollows_of_sampled {s t : State} {u : AxisUnit} (h : Sampled t.config u t.axis)
    (taken : Taken s.axis u) (fitted : s.axis.fitted.lift = true)
    (valid : lowsValid t.config.calibration.bedHeight t.config.bands = true) : LiftFollows s t := by
  have before : u.fitted = s.axis.fitted ∧ u.position = s.axis.position ∧ u.band = s.axis.band ∧
      u.fault = s.axis.fault := by
    unfold Taken at taken
    rw [taken]
    exact ⟨rfl, rfl, rfl, rfl⟩
  obtain ⟨same, at_, in_, codes⟩ := before
  rw [← same] at fitted
  obtain ⟨position, -, ends, -, deployed, condition, band⟩ := h.computed
  have reading := h.readings.1
  obtain ⟨out, read⟩ := lift_read (c := t.config) fitted
  constructor
  · intro far
    rw [reading] at far
    have stands : liftCondition t.config.calibration u.liftReading = .standing := if_pos far
    obtain ⟨a, b, d, e, f⟩ := out stands
    have code := (readUnit_fault t.config .lift u).1
    have stays : t.axis.fault.lift = (readUnit t.config u).fault.lift := h.lift (.inr a)
    rw [condition, position, band, ends, deployed, a, b, d, e, f]
    refine ⟨rfl, at_, in_, rfl, rfl, ?_⟩
    rw [stays, ← codes]
    refine code.trans ?_
    show (if (readUnit t.config u).condition.lift = .standing ∧ u.fitted.lift = true ∧
      u.fault.lift = none then some FaultCode.sensor else u.fault.lift) = _
    cases e : u.fault.lift with
    | none => exact if_pos ⟨a, fitted, rfl⟩
    | some x => exact if_neg fun k => by cases k.2.2
  · intro near
    rw [reading] at near
    have gone : liftCondition t.config.calibration u.liftReading = .gone := if_neg near
    obtain ⟨a, b, d, e, f⟩ := read gone
    dsimp only
    rw [condition, position, band, ends, deployed, reading, a, b, d, e, f]
    refine ⟨rfl, ?_, decide_eq_true_iff, decide_eq_true_iff, rfl, fun k row has => ?_⟩
    · unfold liftPosition
      dsimp only
      omega
    · exact bandAt_iff valid has

theorem panelEnds_eq (p : PanelState) : panelEnds p = ⟨decide (p = .opened), decide (p = .closed)⟩ := rfl

theorem foldCondition_standing {stowed unfolded : Bool} :
    foldCondition stowed unfolded = .standing ↔ stowed = true ∧ unfolded = true := by
  cases stowed <;> cases unfolded <;> decide

/-- R56, R57: TILT after a reading. -/
theorem tilt_sampled {c : WorkingConfig} {u w : AxisUnit} (h : Sampled c u w) (fitted : u.fitted.tilt = true) :
    (tiltRaw c.calibration w.tiltReading < -200 ∨ 200 < tiltRaw c.calibration w.tiltReading →
      w.condition.tilt = .standing ∧ w.angle = u.angle ∧ w.level = false ∧
        w.ends.tilt = ⟨false, false⟩ ∧ w.deployed.tilt = true ∧
        w.fault.tilt = some ((u.fault.tilt).getD .sensor)) ∧
    (tiltRaw c.calibration w.tiltReading ≤ 200 → -200 ≤ tiltRaw c.calibration w.tiltReading →
      w.condition.tilt = .gone ∧ w.angle = max (-150) (min 150 (tiltRaw c.calibration w.tiltReading)) ∧
        (w.level = true ↔
          -(c.calibration.levelTolerance : Int) ≤ w.angle ∧ w.angle ≤ c.calibration.levelTolerance) ∧
        (w.ends.tilt.sense0 = true ↔ c.calibration.upLimit ≤ w.angle) ∧
        (w.ends.tilt.sense1 = true ↔ w.angle ≤ c.calibration.downLimit) ∧
        w.deployed.tilt = !w.level ∧ w.fault.tilt = u.fault.tilt) := by
  obtain ⟨-, angle, ends, level, deployed, condition, -⟩ := h.computed
  obtain ⟨-, reading, -⟩ := h.readings
  obtain ⟨out, read⟩ := tilt_read (c := c) fitted
  have code : w.fault.tilt = if w.condition.tilt = .standing then some ((u.fault.tilt).getD .sensor)
      else u.fault.tilt := h.code (a := .tilt) (by decide) fitted
  rw [reading]
  refine ⟨fun far => ?_, fun high low => ?_⟩
  · have stands : tiltCondition c.calibration u.tiltReading = .standing := if_pos far.symm
    obtain ⟨a, b, d, e, f⟩ := out stands
    rw [code, angle, level, ends, deployed, condition, a, b, d, e, f]
    exact ⟨rfl, rfl, rfl, rfl, rfl, if_pos rfl⟩
  · have gone : tiltCondition c.calibration u.tiltReading = .gone := by
      refine if_neg ?_
      rintro (k | k)
      · exact absurd high (Int.not_le.mpr k)
      · exact absurd low (Int.not_le.mpr k)
    obtain ⟨a, b, d, e, f⟩ := read gone
    rw [code, angle, level, ends, deployed, condition, a, b, d, e, f]
    exact ⟨rfl, rfl, decide_eq_true_iff, decide_eq_true_iff, decide_eq_true_iff, rfl, if_neg (by decide)⟩

/-- R56 to R60: the other axes after a reading. -/
theorem axesFollow_of_sampled {s t : State} {u : AxisUnit} (h : Sampled t.config u t.axis)
    (taken : Taken s.axis u) : AxesFollow s t := by
  have before : u.fitted = s.axis.fitted ∧ u.angle = s.axis.angle ∧ u.fault = s.axis.fault ∧
      u.ends = s.axis.ends ∧ u.deployed = s.axis.deployed := by
    unfold Taken at taken
    rw [taken]
    exact ⟨rfl, rfl, rfl, rfl, rfl⟩
  obtain ⟨same, angle, codes, flags, out⟩ := before
  obtain ⟨-, -, ends, -, deployed, condition, -⟩ := h.computed
  obtain ⟨-, -, stowed, unfolded, panel, switch, -, -⟩ := h.readings
  constructor
  · intro fitted c raw far
    rw [← same] at fitted
    have tilt := (tilt_sampled h fitted).1 far
    rw [angle, codes] at tilt
    exact tilt
  · intro fitted c raw high low
    rw [← same] at fitted
    have tilt := (tilt_sampled h fitted).2 high low
    rw [codes] at tilt
    exact tilt
  · intro fitted
    rw [← same] at fitted
    obtain ⟨a, b, d⟩ := fold_read (c := t.config) fitted
    have code : t.axis.fault.fold = if t.axis.condition.fold = .standing then
      some ((u.fault.fold).getD .switch) else u.fault.fold := h.code (a := .fold) (by decide) fitted
    have stands : (t.axis.condition.fold = .standing) ↔ (t.axis.stowed && t.axis.unfolded) = true := by
      rw [condition, a, stowed, unfolded, foldCondition_standing, Bool.and_eq_true]
    refine ⟨?_, ?_, stands.trans Bool.and_eq_true_iff, ?_⟩
    · rw [ends, b, stowed, unfolded]
      rfl
    · rw [deployed, d, stowed, unfolded]
      rfl
    · rw [code, codes]
      simp only [stands]
  · intro m fitted clear
    rw [← same] at fitted
    cases m with
    | shut =>
      obtain ⟨-, b, d⟩ := shut_read (c := t.config) fitted
      have gone : ¬ u.shutSwitch = .standing := fun e => clear ⟨rfl, switch.trans e⟩
      rw [if_neg gone] at b
      show t.axis.ends.shut = ⟨decide (t.axis.panelState.shut = .opened),
        decide (t.axis.panelState.shut = .closed)⟩ ∧ t.axis.deployed.shut = _
      rw [ends, deployed, panel]
      refine ⟨b, d.trans ?_⟩
      simp only [gone, false_or]
      rfl
    | ndor =>
      obtain ⟨b, d⟩ := door_read (c := t.config) .ndor fitted
      rw [ends, deployed, panel]
      exact ⟨b, d⟩
    | odor =>
      obtain ⟨b, d⟩ := door_read (c := t.config) .odor fitted
      rw [ends, deployed, panel]
      exact ⟨b, d⟩
  · intro fitted stands
    rw [← same] at fitted
    rw [switch] at stands
    obtain ⟨a, b, d⟩ := shut_read (c := t.config) fitted
    have code : t.axis.fault.shut = if t.axis.condition.shut = .standing then
      some ((u.fault.shut).getD .switch) else u.fault.shut := h.code (a := .shut) (by decide) fitted
    rw [if_pos stands] at b
    refine ⟨by rw [ends, b], ?_, ?_⟩
    · rw [deployed, d]
      exact decide_eq_true (.inl stands)
    · rw [code, condition, a, if_pos stands, codes]
  · intro a missing
    rw [← same] at missing
    obtain ⟨-, b, d, e⟩ := unfitted_read (c := t.config) missing
    have code : t.axis.fault.get a = (readUnit t.config u).fault.get a := by
      by_cases lift : a = .lift
      · subst lift
        exact h.lift (.inl missing)
      · exact h.fault a lift
    rw [ends, deployed, code, b, d, e, flags, out, codes]
    exact ⟨rfl, rfl, rfl⟩

/-! ## A sample (R52) -/

theorem taken_takeReadings (s : State) : Taken s.axis (takeReadings s).axis := rfl

/-- R52: the axes as a sample event leaves them. -/
theorem event_sample {i : AxisInputs} {s : State} (work : working s = true) :
    let u := (takeReadings (s.setInputs { s.inputs with axes := i })).axis
    (event (axisSampleEvent i) s).config = s.config ∧
      ((event (axisSampleEvent i) s).mode.mode = s.mode.mode ∧
        (event (axisSampleEvent i) s).axis = stalledUnit (readUnit s.config u) ∨
      s.mode.mode = .closedown ∧ (event (axisSampleEvent i) s).mode.mode = .off ∧
        (event (axisSampleEvent i) s).axis = { stalledUnit (readUnit s.config u) with stall := none }) := by
  have effect : axisSampleEvent i s = takeSample (s.setInputs { s.inputs with axes := i }) := if_pos work
  have wakes := wakes_takeSample (s.setInputs { s.inputs with axes := i })
  have axis := takeSample_axis (s.setInputs { s.inputs with axes := i })
  rw [← effect] at wakes axis
  have mode : (axisSampleEvent i s).mode.mode = s.mode.mode := congrArg ModeController.mode wakes.mode
  obtain ⟨config, -, closes⟩ := event_recorded (axisSampleEvent i) s
  rw [mode, axis] at closes
  exact ⟨config.trans wakes.config, closes⟩

theorem stalledUnit_idle {z : AxisUnit} (idle : stallRunsIn z = false) :
    (stalledUnit z).stall = none := by
  unfold stalledUnit
  rw [if_neg (by rw [idle]; decide)]

/-- R65: the stall watch where it runs. -/
theorem stalledUnit_runs {z : AxisUnit} (runs : stallRunsIn z = true) (clear : z.fault.lift = none) :
    (z.stall = none → (stalledUnit z).stall = some ⟨z.position, 0⟩ ∧ (stalledUnit z).fault.lift = none) ∧
    ∀ w, z.stall = some w →
      (w.reference + 5 ≤ z.position ∨ z.position + 5 ≤ w.reference →
        (stalledUnit z).stall = some ⟨z.position, 0⟩ ∧ (stalledUnit z).fault.lift = none) ∧
      (z.position < w.reference + 5 → w.reference < z.position + 5 →
        (w.elapsed + 10 < 2000 → (stalledUnit z).stall = some ⟨w.reference, w.elapsed + 10⟩ ∧
          (stalledUnit z).fault.lift = none) ∧
        (2000 ≤ w.elapsed + 10 → (stalledUnit z).stall = none ∧
          (stalledUnit z).fault.lift = some .stall)) := by
  have fitted : z.fitted.lift = true := by
    unfold stallRunsIn at runs
    simp only [Bool.and_eq_true] at runs
    exact runs.1.1.1
  unfold stalledUnit
  rw [if_pos runs]
  refine ⟨fun none => ?_, fun w has => ⟨fun off => ?_, fun low high => ⟨fun early => ?_, fun full => ?_⟩⟩⟩
  · rw [none]
    exact ⟨rfl, clear⟩
  · have moved : movedOff w.reference z.position = true := decide_eq_true off
    rw [has]
    dsimp only
    rw [if_pos moved]
    exact ⟨rfl, clear⟩
  · have stays : ¬ movedOff w.reference z.position = true := fun h => by
      have off := of_decide_eq_true h
      unfold stallMove at off
      omega
    rw [has]
    dsimp only
    rw [if_neg stays, if_neg (Nat.not_le.mpr early)]
    exact ⟨rfl, clear⟩
  · have stays : ¬ movedOff w.reference z.position = true := fun h => by
      have off := of_decide_eq_true h
      unfold stallMove at off
      omega
    rw [has]
    dsimp only
    rw [if_neg stays, if_pos full]
    unfold faultedUnit
    rw [if_pos ⟨fitted, clear⟩]
    exact ⟨rfl, rfl⟩

/-- R65: the stall watch of a sample, by what the sample has read. -/
theorem stallFollows_of_sampled {s t : State} {c : WorkingConfig} {u : AxisUnit} (taken : Taken s.axis u)
    (fitted : s.axis.fitted.lift = true) (axis : t.axis = stalledUnit (readUnit c u)) :
    StallFollows s t := by
  have before : u.fitted = s.axis.fitted ∧ u.fault = s.axis.fault ∧ u.stall = s.axis.stall ∧
      u.liftOutput = s.axis.liftOutput := by
    unfold Taken at taken
    rw [taken]
    exact ⟨rfl, rfl, rfl, rfl⟩
  obtain ⟨same, codes, window, output⟩ := before
  have sampled := sampled_stalled c u
  obtain ⟨position, -, -, -, -, condition, -⟩ := sampled.computed
  have read := readUnit_fault c .lift u
  have held := readUnit_held c u
  rw [← axis] at position condition
  generalize readUnit c u = z at *
  have kept : z.fitted = s.axis.fitted ∧ z.liftOutput = s.axis.liftOutput := by
    rw [held, ← same, ← output]
    exact ⟨rfl, rfl⟩
  have code : z.fault.lift = if z.condition.lift = .standing ∧ s.axis.fitted.lift = true ∧
      s.axis.fault.lift = none then some .sensor else s.axis.fault.lift := by
    rw [← same, ← codes]
    exact read.1
  have watch : z.stall = if z.condition.lift = .standing ∧ s.axis.fitted.lift = true ∧
      s.axis.fault.lift = none then none else s.axis.stall := by
    rw [← same, ← codes, ← window]
    exact read.2 rfl
  constructor
  · intro idle
    rw [axis]
    refine stalledUnit_idle ?_
    unfold stallRunsIn
    rw [kept.2]
    rcases idle with stands | low
    · rw [condition] at stands
      rw [stands]
      simp
    · rw [decide_eq_false (Nat.not_le.mpr low), Bool.and_false]
  · intro bad _
    have still : z.fault.lift = s.axis.fault.lift := code.trans (if_neg fun h => bad h.2.2)
    rw [axis]
    refine stalledUnit_idle ?_
    unfold stallRunsIn
    rw [still, Option.isNone_eq_false_iff.mpr (Option.isSome_iff_ne_none.mpr bad), Bool.and_false,
      Bool.false_and, Bool.false_and]
  · intro gone high clear
    rw [condition] at gone
    have apart : ¬ (z.condition.lift = .standing ∧ s.axis.fitted.lift = true ∧
      s.axis.fault.lift = none) := fun h => by rw [gone] at h; cases h.1
    rw [if_neg apart] at code watch
    rw [clear] at code
    have runs : stallRunsIn z = true := by
      unfold stallRunsIn
      rw [kept.1, kept.2, fitted, code, gone, decide_eq_true high]
      rfl
    have follows := stalledUnit_runs runs code
    rw [watch, ← axis, ← position] at follows
    exact follows

theorem sampled_event {i : AxisInputs} {s : State} (work : working s = true) :
    Sampled (event (axisSampleEvent i) s).config
      (takeReadings (s.setInputs { s.inputs with axes := i })).axis (event (axisSampleEvent i) s).axis := by
  obtain ⟨config, ⟨-, axis⟩ | ⟨-, -, axis⟩⟩ := event_sample (i := i) work
  · rw [config, axis]
    exact sampled_stalled _ _
  · rw [config, axis]
    exact (sampled_stalled _ _).unstalled

/-- Settles O33: LIFT after a sample. -/
theorem sampleFollowsLift : Obligations.SampleFollowsLift := by
  intro i s work fitted valid
  have sampled := sampled_event (i := i) work
  obtain ⟨config, closes⟩ := event_sample (i := i) work
  have taken : Taken s.axis (takeReadings (s.setInputs { s.inputs with axes := i })).axis := rfl
  refine ⟨_, rfl, sampled.readings.1, config,
    liftFollows_of_sampled sampled taken fitted (by rw [config]; exact valid), fun stays => ?_, fun moves => ?_⟩
  · rcases closes with ⟨-, axis⟩ | ⟨down, off, -⟩
    · exact stallFollows_of_sampled taken fitted axis
    · rw [down, off] at stays
      cases stays
  · rcases closes with ⟨same, -⟩ | ⟨-, -, axis⟩
    · exact absurd same moves
    · rw [axis]

/-- Settles O34: the other axes after a sample. -/
theorem sampleFollowsOtherAxes : Obligations.SampleFollowsOtherAxes := by
  intro i s work
  have sampled := sampled_event (i := i) work
  obtain ⟨config, -⟩ := event_sample (i := i) work
  obtain ⟨-, tilt, stowed, unfolded, panel, switch, -, -⟩ := sampled.readings
  refine ⟨_, rfl, tilt, stowed, unfolded, fun m => ?_, switch, config, axesFollow_of_sampled sampled rfl⟩
  rw [panel]
  cases m <;> rfl

end Sys2Proof.Machine.Steps
end

section
/-! A configuration write that ends CLOSEDOWN (R61, R175): a state the statement about CFGWR does not hold of. -/

namespace Sys2Proof.Machine.Steps

open Motion Holds

/-- R175: CLOSEDOWN with no grant live and LIFT, on its bed, still shown deployed; a slot names a grant that no
table holds. -/
def widening : State :=
  (((State.reset.setMode { State.reset.mode with mode := .closedown }).setAxis { State.reset.axis with
    fitted := ⟨true, false, false, false, false, false⟩
    deployed := ⟨true, false, false, false, false, false⟩
    liftReading := defaultCalibration.bed }).setGrant { State.reset.grant with
      slots := .all ⟨some 1, none⟩ }).setPort
    (State.reset.port.set .sl0 { State.reset.port.sl0 with state := .up, creditGiven := 32 })

theorem ready_widening : Ready .sl0 widening := ⟨rfl, rfl, rfl, rfl, rfl, by decide⟩

/-- R61, R175: the write of the end margin finds LIFT at its end and ends the mode, and leaves the slot as it
was. -/
theorem widening_written :
    (portEvent (receiveFrame .sl0 (cfgwrFrame 4#8 10#32)) widening).mode.mode = .off ∧
    (portEvent (receiveFrame .sl0 (cfgwrFrame 4#8 10#32)) widening).grant.slots.hyd.holder = some 1 := by
  decide

/-- Refutes O53: outside a sound state, the entry into OFF that a calibration write brings leaves a slot
HELD. -/
theorem not_cfgwrWritesItem : ¬ Obligations.CfgwrWritesItem := by
  unfold Obligations.CfgwrWritesItem
  rintro ⟨-, write⟩
  obtain ⟨off, held⟩ := widening_written
  obtain ⟨t, runs, -, -, writes⟩ := write 4#8 10#32 widening ready_widening
  cases runs
  obtain ⟨-, -, taken⟩ := writes rfl .endMargin rfl
  obtain ⟨-, -, sample, -⟩ := taken (by decide) (by decide)
  obtain ⟨-, -, -, -, -, -, -, -, -, -, -, closedown⟩ := sample rfl
  obtain ⟨-, -, stays⟩ | ⟨-, -, went⟩ := closedown rfl
  · have mode := congrArg (fun s : State => s.mode.mode) stays
    exact absurd (off.symm.trans mode) (by decide)
  · have free := congrArg (fun s : PerResource Slot => s.hyd.holder) went.cut.slots
    exact absurd (held.symm.trans free) (by decide)

end Sys2Proof.Machine.Steps
end

section
/-! The band table written (R62, R63). -/

namespace Sys2Proof.Machine.Steps

open Motion Holds

/-! ## An event in any state, as it closes -/

/-- R73: the map is judged again within a mode change. -/
theorem mapOk_changeMode (m : Mode) (t : Option Nat) (s : State) : MapOk (changeMode m t s) := by
  have judged (u : State) : MapOk (modePorts m s (beaconMode s.mode.mode m (recomputePermits u))) := by
    have alike := (alike_beaconMode (recomputePermits u) s.mode.mode m).trans (alike_modePorts _ m s)
    exact mapOk_of_inputs alike.permits alike.lamps.health (mapOk_recomputePermits u)
  unfold changeMode noticeMode
  dsimp only
  split
  · exact judged _
  · have raised := alike_raise (modePorts m s (beaconMode s.mode.mode m (recomputePermits
      (forceFor m (reactMode m (setModeTimer m t s)))))) .mode
    exact mapOk_of_inputs raised.permits raised.lamps.health (judged _)

theorem mapOk_enterOff (s : State) : MapOk (enterOff s) := by
  have alike := (alike_offBlocks (changeMode .off none s)).trans (alike_judgeAttention _)
  exact mapOk_of_inputs alike.permits alike.lamps.health (mapOk_changeMode .off none s)

theorem mapOk_conclude {u : State} (h : MapOk u) (b : State) : MapOk (conclude b u) := by
  have closes {v : State} (k : MapOk v) : MapOk (judgeDemands b v) :=
    mapOk_of_inputs (alike_judgeDemands v b).permits (alike_judgeDemands v b).lamps.health k
  unfold conclude
  split
  · exact closes (mapOk_enterOff u)
  · exact closes h

/-- R155: an UP port with messages queued stays UP, its queue kept, through an entry into OFF. -/
theorem offPort_queued {p : Port} (up : p.state = .up) (queue : p.queue ≠ []) :
    (offPort p).queue = p.queue ∧ (offPort p).state = .up := by
  cases close : p.close with
  | some c =>
    rw [offPort_pending up close]
    exact ⟨rfl, up⟩
  | none =>
    rw [offPort_open up close, if_neg queue]
    exact ⟨rfl, up⟩

/-- R155: the ports of an entry into OFF with no grant live. -/
theorem portOf_enterOff {u : State} (empty : u.grant.table = []) (l : Link) :
    portOf l (enterOff u) = offPort (portOf l u) := by
  have cut : cutForced .off none u = forceOutputs (setModeTimer .off none u) :=
    congrArg forceOutputs (cutGrants_of_empty (s := setModeTimer .off none u) empty .mode fun _ => true)
  have held : (cutMode .off none u).grant.table = [] ∧ (cutMode .off none u).port = u.port := by
    unfold cutMode
    rw [(beaconMode_frame u.mode.mode .off _).1, cut, recomputePermits_of_empty (by exact empty)]
    exact ⟨empty, rfl⟩
  obtain ⟨gone, port⟩ := held
  have closed := (shuts_closePorts gone).2 l
  have left := changeMode_of_cut (m := .off) rfl none u
  have noticed := (noticeMode_eq u.mode.mode .off (modePorts .off u (cutMode .off none u))).1
  rw [← left] at noticed
  have ported : portOf l (changeMode .off none u) = offPort (portOf l u) := by
    rw [noticed]
    refine closed.trans ?_
    unfold portOf
    rw [port]
  unfold enterOff offBlocks
  generalize changeMode .off none u = v at ported ⊢
  exact ported

/-- R155, R175: a message queued on an UP port is still queued as the event closes. -/
theorem queueOf_conclude {s u : State} {l : Link} (up : (portOf l u).state = .up) (queue : queueOf l u ≠ []) :
    queueOf l (conclude s u) = queueOf l u := by
  have judged (v : State) : portOf l (judgeDemands s v) = portOf l v := by
    rw [(shone_judgeDemands s v).1]
    rfl
  unfold conclude queueOf
  rw [judged]
  split
  next done =>
    have empty : u.grant.table = [] := by
      simp only [closedownDone, nothingOut, Bool.and_eq_true, List.isEmpty_iff] at done
      tauto
    rw [portOf_enterOff empty, (offPort_queued up queue).1]
  next => rfl

/-! ## A message whose handler keeps the ports but for their queues -/

section
variable {l : Link} {bytes : List Byte} {s v : State} {m : Msg} {r : Reply} (h : Ready l s)
  (short : bytes.length ≤ frameBytes) (parsed : parseFrame l ⟨bytes, false⟩ = .msg m)
  (handles : handleMsg l m (handed l bytes s) = (v, some r))
  (holds : PortKept (portOf l (handed l bytes s)) (portOf l v))
include h short parsed handles holds

/-- R153, R154: the reply follows what the handler has queued. -/
theorem receiveFrame_judged :
    receiveFrame l bytes s = replied l bytes r (orderGends (handed l bytes s) v) := by
  have delivered : deliver l ⟨bytes, false⟩ (handed l bytes s) =
      replied l bytes r (orderGends (handed l bytes s) v) := by
    unfold deliver
    rw [handleFrame_eq parsed handles]
    rfl
  rw [← delivered]
  refine receiveFrame_delivers h short ?_
  show (portOf l (deliver l ⟨bytes, false⟩ (handed l bytes s))).buffer = []
  have kept := holds.trans ((reacts_orderGends (handed l bytes s) v).port l)
  rw [delivered]
  unfold replied
  rw [portOf_placeMessage, kept.eq, portOf_handed h, if_pos rfl]
  exact h.buffer

/-- R154: the reply is the last message queued. -/
theorem receiveFrame_replies : (portOf l (receiveFrame l bytes s)).state = .up ∧
    (queueOf l (receiveFrame l bytes s)).getLast? = some (.rply (kindEcho ⟨bytes, false⟩) r.status r.fields) := by
  have kept := holds.trans ((reacts_orderGends (handed l bytes s) v).port l)
  have up : (portOf l (orderGends (handed l bytes s) v)).state = .up := by
    rw [kept.state, portOf_handed h, if_pos rfl]
    exact h.up
  rw [receiveFrame_judged h short parsed handles holds]
  unfold replied queueOf
  rw [portOf_placeMessage, if_pos ⟨rfl, up⟩]
  exact ⟨up, List.getLast?_concat⟩

/-- R153, R175: the message's event, as it closes. -/
theorem portEvent_judged :
    (portEvent (receiveFrame l bytes) s).config = v.config ∧
      (∃ w, (portEvent (receiveFrame l bytes) s).axis = { v.axis with stall := w }) ∧
      (MapOk v → MapOk (portEvent (receiveFrame l bytes) s)) ∧
      (queueOf l (portEvent (receiveFrame l bytes) s)).getLast? =
        some (.rply (kindEcho ⟨bytes, false⟩) r.status r.fields) := by
  obtain ⟨up, last⟩ := receiveFrame_replies h short parsed handles holds
  have queue : queueOf l (receiveFrame l bytes s) ≠ [] := by
    intro none
    rw [none] at last
    cases last
  have kept := queueOf_conclude (s := s) up queue
  have received := receiveFrame_judged h short parsed handles holds
  have alike := (alike_orderGends v (handed l bytes s)).trans (alike_placeMessage _ l
    (.rply (kindEcho ⟨bytes, false⟩) r.status r.fields))
  have placed := (reacts_orderGends (handed l bytes s) v).trans (reacts_placeMessage l
    (.rply (kindEcho ⟨bytes, false⟩) r.status r.fields) _)
  have recorded := conclude_recorded s (receiveFrame l bytes s)
  unfold portEvent
  rw [received] at recorded last kept ⊢
  unfold replied at recorded last kept ⊢
  generalize placeMessage l _ (orderGends (handed l bytes s) v) = u at *
  obtain ⟨config, -, axis⟩ := recorded
  refine ⟨config.trans placed.config, ?_, fun map => mapOk_conclude
    (mapOk_of_inputs alike.permits alike.lamps.health map) s, by rw [kept]; exact last⟩
  rcases axis with ⟨-, axis⟩ | ⟨-, -, axis⟩
  · exact ⟨v.axis.stall, by rw [axis, placed.axis]⟩
  · exact ⟨none, by rw [axis, placed.axis]⟩

end

/-! ## The checks of CFGBAND (R63) -/

theorem hydGrantLive_iff (s : State) :
    hydGrantLive s = true ↔ ∃ g ∈ s.grant.table, resourceOf g.axis = .hyd := by
  unfold hydGrantLive grantOn
  simp only [List.any_cons, List.any_nil, Bool.or_false, Bool.or_eq_true, List.any_eq_true, decide_eq_true_eq]
  constructor
  · rintro (⟨g, hg, e⟩ | ⟨g, hg, e⟩ | ⟨g, hg, e⟩) <;> exact ⟨g, hg, by rw [e]; rfl⟩
  · rintro ⟨g, hg, e⟩
    cases a : g.axis with
    | lift => exact .inl ⟨g, hg, a⟩
    | tilt => exact .inr (.inl ⟨g, hg, a⟩)
    | fold => exact .inr (.inr ⟨g, hg, a⟩)
    | shut | ndor | odor => rw [a] at e; cases e

/-- R63: a table that fails a check is not valid. -/
theorem bandsValid_of_fails {h : Nat} {l : List Band} (fails : l = [] ∨ 8 < l.length ∨
    (∀ b, l[0]? = some b → b.low ≠ 0) ∨
    (∃ (k : Nat) (b c : Band), l[k]? = some b ∧ l[k + 1]? = some c ∧ c.low ≤ b.low) ∨
    (∃ b ∈ l, h ≤ b.low) ∨ (∃ b ∈ l, 1000 < b.raiseLimit ∨ 1000 < b.lowerLimit)) :
    bandsValid h l = false := by
  rw [← Bool.not_eq_true]
  intro valid
  simp only [bandsValid, lowsValid, limitsValid, Bool.and_eq_true, decide_eq_true_eq, List.all_eq_true] at valid
  obtain ⟨⟨⟨some, few⟩, ⟨first, rise⟩, below⟩, limits⟩ := valid
  rcases fails with rfl | many | start | ⟨k, b, c, here, next, falls⟩ | ⟨b, hb, high⟩ | ⟨b, hb, high⟩
  · exact absurd some (by decide)
  · omega
  · cases l with
    | nil => cases first
    | cons b rest => exact start b rfl (Option.some.inj first)
  · have rises := pairwise_of_lowsRise rise
    obtain ⟨i, ei⟩ := List.getElem?_eq_some_iff.mp here
    obtain ⟨j, ej⟩ := List.getElem?_eq_some_iff.mp next
    have lt := List.pairwise_iff_getElem.mp rises k (k + 1) i j (Nat.lt_succ_self k)
    rw [ei, ej] at lt
    omega
  · exact absurd (below b hb) (by omega)
  · exact absurd (limits b hb) (by omega)

section
variable {words : List Word32} (few : words.length ≤ 9)
include few

theorem cfgbandFrame_length : (cfgbandFrame words).length = 2 + 4 * words.length ∧
    (cfgbandFrame words).length ≤ frameBytes := by
  have length : (cfgbandFrame words).length = 2 + 4 * words.length := by
    unfold cfgbandFrame
    rw [List.length_append, words_length]
    rfl
  refine ⟨length, ?_⟩
  rw [length]
  show _ ≤ 40
  omega

theorem parseFrame_cfgband :
    parseFrame .sl0 ⟨cfgbandFrame words, false⟩ = .msg (.cfgband (words.map bandOfWord)) := by
  have count : byteAt (cfgbandFrame words) 1 = words.length := toNat_byteOf (by omega)
  have length : (cfgbandFrame words).length = frameLength (cfgbandFrame words) .cfgband := by
    show _ = 2 + 4 * byteAt (cfgbandFrame words) 1
    rw [count, (cfgbandFrame_length few).1]
  refine (parseFrame_of_kind (k := .cfgband) rfl length).trans ((if_neg fun c => c.2 rfl).trans ?_)
  show Parsed.msg (.cfgband ((wordsOf (words.flatMap bytes32)).map bandOfWord)) = _
  rw [wordsOf_bytes]

end

/-- Settles O37: the checks are the handler's, and a table taken is read as a sample of the readings held. -/
theorem cfgbandReplacesBandTable : Obligations.CfgbandReplacesBandTable := by
  unfold Obligations.CfgbandReplacesBandTable
  refine ⟨fun l words s station ready few => ⟨_, rfl, ?_⟩, fun words s ready few => ?_⟩
  · obtain ⟨length, short⟩ := cfgbandFrame_length few
    have refused := answeredOnly_notsuper (k := .cfgband) ready station rfl rfl short
    rw [show 3 + 4 * words.length = (cfgbandFrame words).length + 1 by omega]
    exact refused
  · obtain ⟨length, short⟩ := cfgbandFrame_length few
    have parsed := parseFrame_cfgband few
    have same : (handed .sl0 (cfgbandFrame words) s).store = s.store ∧
        (handed .sl0 (cfgbandFrame words) s).grant = s.grant ∧
        (handed .sl0 (cfgbandFrame words) s).config = s.config ∧
        (handed .sl0 (cfgbandFrame words) s).axis = s.axis := ⟨rfl, rfl, rfl, rfl⟩
    have queried {r : Reply} := answeredOnly_of_query (r := r) ready short parsed
    have taken {v : State} {r : Reply} := portEvent_judged (v := v) (r := r) ready short parsed
    refine ⟨portEvent (receiveFrame .sl0 (cfgbandFrame words)) s, rfl, ?_⟩
    rw [show 3 + 4 * words.length = (cfgbandFrame words).length + 1 by omega]
    generalize portEvent (receiveFrame .sl0 (cfgbandFrame words)) s = t at queried taken ⊢
    generalize handed .sl0 (cfgbandFrame words) s = u at same queried taken
    obtain ⟨store, grant, config, axis⟩ := same
    have handles : handleMsg .sl0 (.cfgband (words.map bandOfWord)) u = handleCfgband (words.map bandOfWord) u :=
      rfl
    rw [handles] at queried taken
    generalize words.map bandOfWord = bands at queried taken ⊢
    refine ⟨fun busy => queried (r := ⟨.busy, []⟩) ?_, fun idle platforms => ⟨fun fails =>
      queried (r := ⟨.badvalue, []⟩) ?_, fun valid => ?_⟩⟩
    all_goals unfold handleCfgband at *
    · rcases busy with save | hyd
      · exact if_pos (by unfold saving; rw [store]; exact save)
      · rw [if_pos (c := hydGrantLive u = true) ((hydGrantLive_iff u).mpr (by rw [grant]; exact hyd)), ite_self]
        rfl
    all_goals
      have unsaved : ¬ saving u = true := by unfold saving; rw [store, idle]; nofun
      have clear : ¬ hydGrantLive u = true := by
        rw [hydGrantLive_iff, grant]
        rintro ⟨g, hg, e⟩
        exact platforms g hg e
    · rw [if_neg unsaved, if_neg clear]
      exact if_pos (by rw [config]; exact bandsValid_of_fails fails)
    · rw [if_neg unsaved, if_neg clear, if_neg (by rw [config, valid]; nofun)] at taken
      have judges : Judges (u.setConfig { u.config with bands := bands }) (takeBands bands u) :=
        (judges_sampleHeld _).trans (judges_recomputePermits _)
      obtain ⟨written, ⟨w, read⟩, judged, last⟩ := taken rfl (judges.port .sl0)
      have unit : (takeBands bands u).axis = readUnit { u.config with bands := bands } u.axis := by
        unfold takeBands
        rw [(recorded_recomputePermits _).axis, sampleHeld_axis]
        rfl
      have table : (takeBands bands u).config = { u.config with bands := bands } := judges.config
      have map : MapOk (takeBands bands u) := mapOk_recomputePermits _
      generalize takeBands bands u = v at *
      rw [table, config] at written
      refine ⟨written, judged map, ?_, fun fitted gone k b row => ?_⟩
      · rw [last, table, read]
        rfl
      · have rises : lowsValid s.config.calibration.bedHeight bands = true := by
          unfold bandsValid at valid
          simp only [Bool.and_eq_true] at valid
          exact valid.1.2
        obtain ⟨out, held⟩ := lift_read (c := { u.config with bands := bands }) (u := u.axis)
          (by rw [axis]; exact fitted)
        rw [read, unit] at gone ⊢
        generalize readUnit { u.config with bands := bands } u.axis = z at out held gone ⊢
        cases condition : liftCondition u.config.calibration u.axis.liftReading with
        | standing =>
          have stands := (out condition).1
          exact nomatch stands.symm.trans gone
        | gone =>
          obtain ⟨-, position, band, -⟩ := held condition
          show b.low ≤ z.position ↔ k < z.band
          rw [position, band]
          exact bandAt_iff rises row

end Sys2Proof.Machine.Steps
end

section
/-! A retirement that may promote the grant that waits (R22), and what it leaves of the other resources. -/

namespace Sys2Proof.Machine.Steps

open Motion Holds

/-! ## The axes a start leaves alone (R101, R116) -/

theorem apart_driveStart {g : Grant} {b : Axis} (other : resourceOf b ≠ resourceOf g.axis) (s : State) :
    Apart b s (driveStart g s) := by
  have apart : b ≠ g.axis := fun e => other (by rw [e])
  have drive := driveStart_drive g s
  have panel : (driveStart g s).panel = s.panel := rfl
  generalize driveStart g s = t at drive panel ⊢
  constructor
  case driving => rw [drive]; exact PerAxis.get_set_ne _ _ apart
  case delay =>
    rw [drive]
    dsimp only
    split
    · exact PerAxis.get_set_ne _ _ apart
    · rfl
  case duty =>
    rintro m rfl
    rw [drive]
    refine ⟨rfl, ?_⟩
    cases a : g.axis with
    | lift | tilt | fold => rfl
    | shut | ndor | odor => exact PerMotor.get_set_ne _ _ (by rintro rfl; exact apart a.symm)
  case pump =>
    intro hyd
    rw [drive]
    cases a : g.axis with
    | lift | tilt | fold => rw [a, hyd] at other; exact absurd rfl other
    | shut | ndor | odor => exact Bool.or_false _
  all_goals simp [drive, panel]

theorem apart_putPanel {m : Motor} {b : Axis} (other : b ≠ axisOfMotor m) (p : PanelRecord) (s : State) :
    Apart b s (putPanel m p s) :=
  { Apart.refl b s with
    panel := fun k e => PerMotor.get_set_ne _ _ (by rintro rfl; exact other e.symm) }

theorem apart_putLatch {d : Door} {b : Axis} (other : b ≠ axisOfMotor (motorOfDoor d)) (l : LatchRecord)
    (s : State) : Apart b s (putLatch d l s) :=
  { Apart.refl b s with
    latch := fun k e => PerDoor.get_set_ne _ _ (by rintro rfl; exact other e.symm) }

theorem apart_startDoor {d : Door} {b : Axis} (other : b ≠ axisOfMotor (motorOfDoor d)) (g : Grant)
    (s : State) : Apart b s (startDoor d g s) := by
  have put (p : PanelRecord) (u : State) : Apart b u (putPanel (motorOfDoor d) p u) := apart_putPanel other p u
  have latch (p : PanelRecord) (l : LatchRecord) : Apart b s (putLatch d l (putPanel (motorOfDoor d) p s)) :=
    (put p s).trans (apart_putLatch other l _)
  unfold startDoor
  dsimp only
  repeat' split
  all_goals first
    | exact put _ s
    | exact latch _ _

theorem apart_panelStart {g : Grant} {b : Axis} (other : b ≠ g.axis) (s : State) :
    Apart b s (panelStart g s) := by
  unfold panelStart
  cases a : g.axis with
  | lift | tilt | fold => exact .refl b s
  | shut => exact apart_putPanel (m := .shut) (by rw [a] at other; exact other) _ s
  | ndor => exact apart_startDoor (d := .ndor) (by rw [a] at other; exact other) g s
  | odor => exact apart_startDoor (d := .odor) (by rw [a] at other; exact other) g s

theorem apart_startGrant {g : Grant} {b : Axis} (other : resourceOf b ≠ resourceOf g.axis) (s : State) :
    Apart b s (startGrant g s) :=
  (apart_driveStart other s).trans (apart_panelStart (fun e => other (by rw [e])) _)

/-! ## A resource that a change leaves alone -/

/-- The axes, the records and the slot of a resource are as they were. -/
structure Spared (q : Resource) (s t : State) : Prop where
  apart : ∀ a, resourceOf a = q → Apart a s t
  travel : q = .hyd → t.drive.foldTravel = s.drive.foldTravel
  table : ∀ g, resourceOf g.axis = q → (g ∈ t.grant.table ↔ g ∈ s.grant.table)
  slot : slotOf q t = slotOf q s

theorem Spared.refl (q : Resource) (s : State) : Spared q s s :=
  ⟨fun a _ => .refl a s, fun _ => rfl, fun _ _ => .rfl, rfl⟩

theorem Spared.trans {q : Resource} {s t u : State} (h : Spared q s t) (k : Spared q t u) : Spared q s u :=
  ⟨fun a e => (h.apart a e).trans (k.apart a e), fun e => (k.travel e).trans (h.travel e),
    fun g e => (k.table g e).trans (h.table g e), k.slot.trans h.slot⟩

theorem spared_of_same {q : Resource} {s t : State} (grant : t.grant = s.grant) (drive : t.drive = s.drive)
    (panel : t.panel = s.panel) : Spared q s t :=
  ⟨fun a _ => apart_of_same drive panel a, fun _ => by rw [drive], fun _ _ => by rw [grant], by
    unfold slotOf; rw [grant]⟩

/-- R92: the driving grant of an axis rests on its slot and on the records of its resource. -/
theorem Spared.driving {s t : State} (h : Sound s) (k : Sound t) {a : Axis}
    (spared : Spared (resourceOf a) s t) : drivingGrant a t = drivingGrant a s := by
  unfold drivingGrant
  rw [spared.slot]
  cases e : (slotOf (resourceOf a) s).holder with
  | none => rfl
  | some x =>
    obtain ⟨g, hg, rfl, same, -⟩ := (h.slots.holder _ _).mp e
    have kept := (spared.table g same).mpr hg
    dsimp only
    rw [h.find hg, k.find kept]

/-! ## One retirement, whatever it promotes (R22) -/

/-- R22: the state as a retired holder's slot is about to pass to the grant that waits. -/
def succeeding (g w : Grant) (s : State) : State :=
  putGrant (promoted w) (setSlot (resourceOf g.axis) ⟨some w.handle, none⟩
    (panelStop g.axis (driveEnd g.axis (dropGrant g.handle s))))

theorem succeeding_grant (g w : Grant) (s : State) : (succeeding g w s).grant = { s.grant with
    table := (tableWithout g.handle s).map fun x => if x.handle = w.handle then promoted w else x
    slots := s.grant.slots.set (resourceOf g.axis) ⟨some w.handle, none⟩ } := by
  unfold succeeding putGrant setSlot
  rw [State.setGrant_grant, State.setGrant_grant, stopped_grant]
  show ({ table := (s.grant.table.filter fun y => y.handle != g.handle).map _, lastHandle := s.grant.lastHandle,
          slots := s.grant.slots.set _ _ } : GrantEngine) = _
  rw [filter_putEased]
  rfl

section
variable {s : State} (h : Sound s) {g : Grant} (hg : g ∈ s.grant.table) (r : Reason)
include h hg

/-- R22: a retired grant is gone, the grant that waited behind a holder is DRIVING, and every other record is
as it was. -/
theorem retire_table : (∀ k ∈ (retire g r s).grant.table, ∃ x ∈ s.grant.table, x ≠ g ∧
      (k = x ∨ k = promoted x ∧ x.state = .waiting ∧ g.state ≠ .waiting ∧
        resourceOf x.axis = resourceOf g.axis)) ∧
    (∀ x ∈ s.grant.table, x ≠ g → (g.state = .waiting ∨ x.state ≠ .waiting ∨ resourceOf x.axis ≠ resourceOf g.axis) →
      x ∈ (retire g r s).grant.table) ∧
    (retire g r s).grant.table.map (·.handle) = (tableWithout g.handle s).map (·.handle) ∧
    (retire g r s).grant.lastHandle = s.grant.lastHandle := by
  have without {t : State} (table : t.grant.table = tableWithout g.handle s)
      (handle : t.grant.lastHandle = s.grant.lastHandle) :
      (∀ k ∈ t.grant.table, ∃ x ∈ s.grant.table, x ≠ g ∧ (k = x ∨ k = promoted x ∧ x.state = .waiting ∧
        g.state ≠ .waiting ∧ resourceOf x.axis = resourceOf g.axis)) ∧
      (∀ x ∈ s.grant.table, x ≠ g → (g.state = .waiting ∨ x.state ≠ .waiting ∨ resourceOf x.axis ≠ resourceOf g.axis) →
      x ∈ t.grant.table) ∧
      t.grant.table.map (·.handle) = (tableWithout g.handle s).map (·.handle) ∧
      t.grant.lastHandle = s.grant.lastHandle := by
    refine ⟨fun k hk => ?_, fun x hx n _ => ?_, by rw [table], handle⟩
    · rw [table] at hk
      obtain ⟨hk, n⟩ := mem_tableWithout.mp hk
      exact ⟨k, hk, fun e => n (by rw [e]), .inl rfl⟩
    · rw [table]
      exact mem_tableWithout.mpr ⟨hx, fun e => n (h.eq_of_handle hx hg e)⟩
  by_cases waits : g.state = .waiting
  · obtain ⟨grant, -, -⟩ := retired_waiting h hg r waits
    exact without (by rw [grant]) (by rw [grant])
  cases alone : (slotOf (resourceOf g.axis) s).waiting with
  | none =>
    obtain ⟨grant, -⟩ := retired_holder h hg r waits alone
    exact without (by rw [grant]) (by rw [grant])
  | some y =>
    obtain ⟨w, hw, rfl, same, waiting⟩ := (h.slots.waiting _ _).mp alone
    have other : w ≠ g := by rintro rfl; exact waits waiting
    have grant : (retire g r s).grant = (succeeding g w s).grant := by
      rw [retire_of_promoting h hg r waits hw same waiting, gendDue_grant]
      exact grant_of_view (view_startGrant (promoted w) (succeeding g w s))
    rw [grant, succeeding_grant]
    dsimp only
    refine ⟨fun k hk => ?_, fun x hx n kept => ?_, ?_, rfl⟩
    · obtain ⟨x, hx, rfl⟩ := List.mem_map.mp hk
      split
      · exact ⟨w, hw, other, .inr ⟨rfl, waiting, waits, same⟩⟩
      · obtain ⟨hx, n⟩ := mem_tableWithout.mp hx
        exact ⟨x, hx, fun e => n (by rw [e]), .inl rfl⟩
    · refine List.mem_map.mpr ⟨x, mem_tableWithout.mpr ⟨hx, fun e => n (h.eq_of_handle hx hg e)⟩, if_neg fun e => ?_⟩
      rw [h.eq_of_handle hx hw e] at kept
      exact (kept.resolve_left waits).elim (fun c => c waiting) fun c => c same
    · rw [List.map_map]
      refine List.map_congr_left fun x _ => ?_
      show (if x.handle = w.handle then promoted w else x).handle = x.handle
      split
      · next e => exact e.symm
      · rfl

/-- R22: a retirement touches its own resource alone. -/
theorem spared_retire {q : Resource} (other : q ≠ resourceOf g.axis) : Spared q s (retire g r s) := by
  obtain ⟨origins, kept, -, -⟩ := retire_table h hg r
  have table (x : Grant) (e : resourceOf x.axis = q) :
      x ∈ (retire g r s).grant.table ↔ x ∈ s.grant.table := by
    constructor
    · intro hx
      obtain ⟨y, hy, -, rfl | ⟨rfl, -, -, same⟩⟩ := origins x hx
      · exact hy
      · exact absurd (e.symm.trans same) other
    · intro hx
      have n : x ≠ g := by rintro rfl; exact other e.symm
      exact kept x hx n (.inr (.inr (by rw [e]; exact other)))
  by_cases waits : g.state = .waiting
  · obtain ⟨grant, drive, panel⟩ := retired_waiting h hg r waits
    exact ⟨fun a _ => apart_of_same drive panel a, fun _ => by rw [drive], table, by
      unfold slotOf; rw [grant]; exact PerResource.get_set_ne _ _ other⟩
  have stopped (u : State) : u.drive.foldTravel = s.drive.foldTravel →
      q = .hyd → (panelStop g.axis (driveEnd g.axis u)).drive.foldTravel = s.drive.foldTravel := by
    intro same hyd
    rw [panelStop_frame]
    subst hyd
    rw [← same]
    cases a : g.axis with
    | lift | tilt | fold => rw [a] at other; exact absurd rfl other
    | shut | ndor | odor => rfl
  cases alone : (slotOf (resourceOf g.axis) s).waiting with
  | none =>
    obtain ⟨grant, -, others, -⟩ := retired_holder h hg r waits alone
    refine ⟨fun a e => others a (by rw [e]; exact other), fun hyd => ?_, table, by
      unfold slotOf; rw [grant]; exact PerResource.get_set_ne _ _ other⟩
    rw [retire_of_holder h hg r waits alone, gendDue_drive]
    exact stopped (dropGrant g.handle s) rfl hyd
  | some y =>
    obtain ⟨w, hw, rfl, same, waiting⟩ := (h.slots.waiting _ _).mp alone
    have eq : retire g r s = gendDue g r (startGrant (promoted w) (succeeding g w s)) :=
      retire_of_promoting h hg r waits hw same waiting
    have drive : (retire g r s).drive = (startGrant (promoted w) (succeeding g w s)).drive := by
      rw [eq, gendDue_drive]
    have panel : (retire g r s).panel = (startGrant (promoted w) (succeeding g w s)).panel := by
      rw [eq, gendDue_panel]
    have slots : (retire g r s).grant = (succeeding g w s).grant := by
      rw [eq, gendDue_grant]
      exact grant_of_view (view_startGrant _ _)
    refine ⟨fun a e => ?_, fun hyd => ?_, table, ?_⟩
    · have away : resourceOf a ≠ resourceOf g.axis := by rw [e]; exact other
      have dropped := apart_of_same (s := s) (t := dropGrant g.handle s) rfl rfl a
      have placed := apart_of_same (s := panelStop g.axis (driveEnd g.axis (dropGrant g.handle s)))
        (t := succeeding g w s) rfl rfl a
      have started := apart_startGrant (g := promoted w) (b := a)
        (by rw [show (promoted w).axis = w.axis from rfl, same]; exact away) (succeeding g w s)
      exact (((dropped.trans (apart_stopped away _)).trans placed).trans started).trans
        (apart_of_same drive panel a)
    · rw [drive, startGrant_drive, driveStart_drive]
      have n : w.axis ≠ .fold := by
        intro e
        rw [e] at same
        exact other (hyd.trans same)
      show (if w.axis = .fold then some 0 else _) = _
      rw [if_neg n]
      exact stopped (dropGrant g.handle s) rfl hyd
    · unfold slotOf
      rw [slots, succeeding_grant]
      exact PerResource.get_set_ne _ _ other

/-- R103: a holder's axis is at 0 once it is retired, whatever is promoted. -/
theorem retire_zero (holds : g.state ≠ .waiting) :
    (retire g r s).drive.output.get g.axis = 0 ∧
    (∀ c, axisOfCoil c = g.axis → (retire g r s).drive.coil.get c = 0) ∧
    ∀ m, axisOfMotor m = g.axis → (retire g r s).drive.duty.get m = 0 := by
  have stopped := axisStopped_stopped g.axis (dropGrant g.handle s)
  cases alone : (slotOf (resourceOf g.axis) s).waiting with
  | none =>
    obtain ⟨-, stopped, -⟩ := retired_holder h hg r holds alone
    exact ⟨stopped.output, stopped.coil, fun m e => (stopped.duty m e).1⟩
  | some y =>
    obtain ⟨w, hw, rfl, same, waiting⟩ := (h.slots.waiting _ _).mp alone
    have eq : retire g r s = gendDue g r (startGrant (promoted w) (succeeding g w s)) :=
      retire_of_promoting h hg r holds hw same waiting
    rw [eq, gendDue_drive, startGrant_drive, driveStart_drive]
    exact ⟨stopped.output, stopped.coil, fun m e => (stopped.duty m e).1⟩

end

end Sys2Proof.Machine.Steps
end

section
/-! The grants of one axis cut, and a fault set on it (R21, R27, R66). -/

namespace Sys2Proof.Machine.Steps

open Motion Holds

/-! ## What a change does to the drive shaper (R103) -/

/-- The drive of an axis is as it was. -/
structure Undisturbed (a : Axis) (s t : State) : Prop where
  output : t.drive.output.get a = s.drive.output.get a
  coil : ∀ c, axisOfCoil c = a → t.drive.coil.get c = s.drive.coil.get c
  duty : ∀ m, axisOfMotor m = a → t.drive.duty.get m = s.drive.duty.get m
  travel : a = .fold → t.drive.foldTravel = s.drive.foldTravel

/-- An axis is at 0. -/
structure AtZero (a : Axis) (t : State) : Prop where
  output : t.drive.output.get a = 0
  coil : ∀ c, axisOfCoil c = a → t.drive.coil.get c = 0
  duty : ∀ m, axisOfMotor m = a → t.drive.duty.get m = 0

/-- Each output, coil command and motor duty of an axis is as it was, or 0. -/
structure Falls (a : Axis) (s t : State) : Prop where
  output : t.drive.output.get a = s.drive.output.get a ∨ t.drive.output.get a = 0
  coil : ∀ c, axisOfCoil c = a → t.drive.coil.get c = s.drive.coil.get c ∨ t.drive.coil.get c = 0
  duty : ∀ m, axisOfMotor m = a → t.drive.duty.get m = s.drive.duty.get m ∨ t.drive.duty.get m = 0

section
variable {a : Axis} {s t u : State}

theorem undisturbed_of_drive (h : t.drive = s.drive) : Undisturbed a s t := by
  constructor <;> intros <;> rw [h]

theorem Undisturbed.refl (a : Axis) (s : State) : Undisturbed a s s := undisturbed_of_drive rfl

theorem Undisturbed.trans (h : Undisturbed a s t) (k : Undisturbed a t u) : Undisturbed a s u :=
  ⟨k.output.trans h.output, fun c e => (k.coil c e).trans (h.coil c e),
    fun m e => (k.duty m e).trans (h.duty m e), fun e => (k.travel e).trans (h.travel e)⟩

theorem falls_of_drive (h : t.drive = s.drive) : Falls a s t := by
  constructor <;> intros <;> exact .inl (by rw [h])

theorem Falls.refl (a : Axis) (s : State) : Falls a s s := falls_of_drive rfl

theorem Falls.trans (h : Falls a s t) (k : Falls a t u) : Falls a s u := by
  have both {x y z : Nat} (first : y = x ∨ y = 0) (second : z = y ∨ z = 0) : z = x ∨ z = 0 := by omega
  exact ⟨both h.output k.output, fun c e => both (h.coil c e) (k.coil c e),
    fun m e => both (h.duty m e) (k.duty m e)⟩

/-- An axis at 0 stays there. -/
theorem Falls.atZero (h : Falls a s t) (k : AtZero a s) : AtZero a t := by
  have zero {x y : Nat} (first : y = x ∨ y = 0) (before : x = 0) : y = 0 := by omega
  exact ⟨zero h.output k.output, fun c e => zero (h.coil c e) (k.coil c e),
    fun m e => zero (h.duty m e) (k.duty m e)⟩

theorem Undisturbed.falls (h : Undisturbed a s t) : Falls a s t :=
  ⟨.inl h.output, fun c e => .inl (h.coil c e), fun m e => .inl (h.duty m e)⟩

end

theorem falls_driveEnd (a b : Axis) (s : State) : Falls b s (driveEnd a s) := by
  constructor
  · cases a <;> cases b <;> first | exact .inl rfl | exact .inr rfl
  · intro c _
    cases a <;> cases c <;> first | exact .inl rfl | exact .inr rfl
  · intro m _
    cases a <;> cases m <;> first | exact .inl rfl | exact .inr rfl

/-- The drive shaper has changed in its axes alone: its pump watch, its dither and its coil watches are as they
were. -/
def Shaper (s t : State) : Prop := t.drive = { s.drive with
  output := t.drive.output, driving := t.drive.driving, startDelay := t.drive.startDelay, coil := t.drive.coil
  duty := t.drive.duty, direction := t.drive.direction, pumpClosed := t.drive.pumpClosed, d1 := t.drive.d1
  d2 := t.drive.d2, foldTravel := t.drive.foldTravel }

theorem Shaper.trans {s t u : State} (h : Shaper s t) (k : Shaper t u) : Shaper s u := by
  unfold Shaper at *
  rw [k, h]

theorem shaper_of_drive {s t : State} (h : t.drive = s.drive) : Shaper s t := by
  unfold Shaper
  rw [h]

theorem shaper_driveEnd (a : Axis) (s : State) : Shaper s (driveEnd a s) := by
  unfold Shaper
  cases a <;> rfl

theorem startGrant_shaper (g : Grant) (s : State) : Shaper s (startGrant g s) ∧ ∀ a, Falls a s (startGrant g s) := by
  have drive : (startGrant g s).drive = (driveStart g s).drive := startGrant_drive g s
  rw [driveStart_drive] at drive
  refine ⟨?_, fun a => ?_⟩
  · unfold Shaper
    rw [drive]
  · constructor <;> intros <;> exact .inl (by rw [drive])

/-- R22, R103: a retirement changes the drive shaper in its axes alone, and takes no output up. -/
theorem retire_shaper (g : Grant) (r : Reason) (s : State) :
    Shaper s (retire g r s) ∧ ∀ a, Falls a s (retire g r s) := by
  have same {t u : State} (h : u.drive = t.drive) : Shaper t u ∧ ∀ a, Falls a t u :=
    ⟨shaper_of_drive h, fun a => falls_of_drive h⟩
  have both {t u v : State} (h : Shaper t u ∧ ∀ a, Falls a t u) (k : Shaper u v ∧ ∀ a, Falls a u v) :
      Shaper t v ∧ ∀ a, Falls a t v := ⟨h.1.trans k.1, fun a => (h.2 a).trans (k.2 a)⟩
  have stopped (u : State) : Shaper u (panelStop g.axis (driveEnd g.axis u)) ∧
      ∀ a, Falls a u (panelStop g.axis (driveEnd g.axis u)) :=
    both ⟨shaper_driveEnd g.axis u, fun a => falls_driveEnd g.axis a u⟩ (same (by rw [panelStop_frame]; rfl))
  have passed (q : Resource) (u : State) : Shaper u (passSlot q u) ∧ ∀ a, Falls a u (passSlot q u) := by
    unfold passSlot
    split
    · exact same rfl
    · split
      · exact same rfl
      · exact both (same (t := u) (by rfl)) (startGrant_shaper _ _)
  have left (u : State) : Shaper u (leaveSlot g u) ∧ ∀ a, Falls a u (leaveSlot g u) := by
    unfold leaveSlot
    dsimp only
    split
    · exact both (stopped u) (passed _ _)
    · split <;> exact same rfl
  exact both (both (same (t := s) (u := dropGrant g.handle s) rfl) (left _)) (same (gendDue_drive g r _))

/-- R91, R103: what a change of the state does to the drive shaper; it may raise outputs on the axes `as` and
set the coil watches of `ks`. -/
structure Shaped (as : List Axis) (ks : List Coil) (s t : State) : Prop where
  shaper : Shaper { s with drive := { s.drive with coilWatch := t.drive.coilWatch } } t
  watch : ∀ k, k ∉ ks → t.drive.coilWatch.get k = s.drive.coilWatch.get k
  falls : ∀ a, a ∉ as → Falls a s t
  stays : ∀ g ∈ s.grant.table, g.state ≠ .waiting → livesOn g t = true →
    g ∈ t.grant.table ∧ (g.axis ∉ as → Undisturbed g.axis s t)
  ends : ∀ g ∈ s.grant.table, g.state ≠ .waiting → g.axis ∉ as → livesOn g t = false → AtZero g.axis t

theorem livesOn_iff {g : Grant} {t : State} : livesOn g t = true ↔ ∃ k ∈ t.grant.table, k.handle = g.handle := by
  unfold livesOn
  rw [List.any_eq_true]
  exact exists_congr fun k => and_congr_right fun _ => decide_eq_true_iff

/-- A grant not live stays so while no record joins the table. -/
theorem lives_back {g : Grant} {s t : State}
    (origin : ∀ k ∈ t.grant.table, ∃ x ∈ s.grant.table, x.handle = k.handle ∧ x.axis = k.axis)
    (h : livesOn g t = true) : livesOn g s = true := by
  obtain ⟨k, hk, e⟩ := livesOn_iff.mp h
  obtain ⟨x, hx, xh, -⟩ := origin k hk
  exact livesOn_iff.mpr ⟨x, hx, xh.trans e⟩

theorem Shaped.trans {as bs : List Axis} {ks js : List Coil} {s t u : State} (h : Shaped as ks s t)
    (k : Shaped bs js t u)
    (origin : ∀ k ∈ u.grant.table, ∃ x ∈ t.grant.table, x.handle = k.handle ∧ x.axis = k.axis) :
    Shaped (as ++ bs) (ks ++ js) s u where
  shaper := by
    have first := h.shaper
    have second := k.shaper
    unfold Shaper at *
    rw [second, first]
  watch := fun c n => (k.watch c fun m => n (List.mem_append_right _ m)).trans
    (h.watch c fun m => n (List.mem_append_left _ m))
  falls := fun a n => (h.falls a fun m => n (List.mem_append_left _ m)).trans
    (k.falls a fun m => n (List.mem_append_right _ m))
  stays := fun g hg holds lives => by
    obtain ⟨mem, first⟩ := h.stays g hg holds (lives_back origin lives)
    obtain ⟨stays, second⟩ := k.stays g mem holds lives
    exact ⟨stays, fun n => (first fun m => n (List.mem_append_left _ m)).trans
      (second fun m => n (List.mem_append_right _ m))⟩
  ends := fun g hg holds n gone => by
    have before : g.axis ∉ as := fun m => n (List.mem_append_left _ m)
    have after : g.axis ∉ bs := fun m => n (List.mem_append_right _ m)
    cases lives : livesOn g t with
    | true => exact k.ends g (h.stays g hg holds lives).1 holds after gone
    | false => exact (k.falls _ after).atZero (h.ends g hg holds before lives)

theorem livesOn_self {g : Grant} {s : State} (hg : g ∈ s.grant.table) : livesOn g s = true :=
  livesOn_iff.mpr ⟨g, hg, rfl⟩

/-- A change that touches neither the grants nor the drive shaper. -/
theorem shaped_of_same {s t : State} (grant : t.grant = s.grant) (drive : t.drive = s.drive) :
    Shaped [] [] s t where
  shaper := by
    unfold Shaper
    rw [drive]
  watch := fun k _ => by rw [drive]
  falls := fun a _ => falls_of_drive drive
  stays := fun g hg _ _ => ⟨by rw [grant]; exact hg, fun _ => undisturbed_of_drive drive⟩
  ends := fun g hg _ _ gone => by
    rw [show livesOn g t = livesOn g s by unfold livesOn; rw [grant], livesOn_self hg] at gone
    cases gone

/-! ## Grants retired one after another -/

/-- R22: grants have been retired, with a reason, one after another. -/
structure Retired (r : Reason) (gs : List Grant) (s t : State) : Prop where
  sound : Sound t
  handles : t.grant.table.map (·.handle) =
    (s.grant.table.map (·.handle)).filter fun x => decide (x ∉ gs.map (·.handle))
  handle : t.grant.lastHandle = s.grant.lastHandle
  ended : Ended (gs.map fun g => (g, r)) s t
  origin : ∀ k ∈ t.grant.table, ∃ x ∈ s.grant.table, x.handle = k.handle ∧ x.axis = k.axis
  spared : ∀ q, (∀ g ∈ gs, q ≠ resourceOf g.axis) → Spared q s t
  shaped : Shaped [] [] s t

theorem retired_nil {s : State} (h : Sound s) (r : Reason) : Retired r [] s s where
  sound := h
  handles := by simp
  handle := rfl
  ended := (Drives.refl s).ended
  origin := fun k hk => ⟨k, hk, rfl, rfl⟩
  spared := fun q _ => .refl q s
  shaped := shaped_of_same rfl rfl

theorem handles_tableWithout (x : Nat) (s : State) : (tableWithout x s).map (·.handle) =
    (s.grant.table.map (·.handle)).filter fun y => decide (y ≠ x) := by
  unfold tableWithout
  rw [List.filter_map]
  rfl

section
variable {r : Reason} {s t : State} {g : Grant} {gs : List Grant}

theorem shaped_retire (h : Sound s) (hg : g ∈ s.grant.table) (r : Reason) : Shaped [] [] s (retire g r s) := by
  obtain ⟨origins, kept, handles, -⟩ := retire_table h hg r
  obtain ⟨shaper, falls⟩ := retire_shaper g r s
  have gone : livesOn g (retire g r s) = false := by
    rw [← Bool.not_eq_true]
    intro lives
    obtain ⟨k, hk, e⟩ := livesOn_iff.mp lives
    have mem : k.handle ∈ (tableWithout g.handle s).map (·.handle) := handles ▸ List.mem_map_of_mem hk
    obtain ⟨x, hx, xh⟩ := List.mem_map.mp mem
    exact (mem_tableWithout.mp hx).2 (xh.trans e)
  have others {k : Grant} (hk : k ∈ s.grant.table) (n : k ≠ g) (holds : k.state ≠ .waiting) :
      k ∈ (retire g r s).grant.table := kept k hk n (.inr (.inl holds))
  constructor
  · unfold Shaper at shaper ⊢
    rw [shaper]
  · intro k _
    rw [shaper]
  · exact fun a _ => falls a
  · intro k hk holds lives
    have n : k ≠ g := by
      rintro rfl
      exact nomatch lives.symm.trans gone
    refine ⟨others hk n holds, fun _ => ?_⟩
    by_cases waits : g.state = .waiting
    · exact undisturbed_of_drive (retired_waiting h hg r waits).2.1
    · have apart : resourceOf k.axis ≠ resourceOf g.axis := fun e => n (h.holder_unique hk hg e holds waits)
      have spared := spared_retire h hg r apart
      have same := spared.apart _ rfl
      exact ⟨same.output, same.coil, fun m e => (same.duty m e).1, fun e => spared.travel (by rw [e]; rfl)⟩
  · intro k hk holds _ ended
    have own : k = g := by
      by_contra n
      rw [livesOn_self (others hk n holds)] at ended
      cases ended
    subst own
    obtain ⟨output, coil, duty⟩ := retire_zero h hg r holds
    exact ⟨output, coil, duty⟩

theorem retired_one (h : Sound s) (hg : g ∈ s.grant.table) : Retired r [g] s (retire g r s) := by
  obtain ⟨origins, -, handles, handle⟩ := retire_table h hg r
  refine ⟨sound_retire h hg r, ?_, handle, ended_retire g r s, fun k hk => ?_,
    fun q other => spared_retire h hg r (other g (List.mem_singleton_self g)), shaped_retire h hg r⟩
  · rw [handles, handles_tableWithout]
    exact List.filter_congr fun x _ => by simp
  · obtain ⟨x, hx, -, rfl | ⟨rfl, -⟩⟩ := origins k hk
    · exact ⟨k, hx, rfl, rfl⟩
    · exact ⟨x, hx, rfl, rfl⟩

theorem Retired.step (h : Retired r gs s t) {u : State} (k : Retired r [g] t u) :
    Retired r (gs ++ [g]) s u where
  sound := k.sound
  handles := by
    rw [k.handles, h.handles, List.filter_filter]
    refine List.filter_congr fun x _ => ?_
    simp only [List.map_append, List.mem_append, not_or, List.map_cons, List.map_nil, List.mem_singleton,
      ← Bool.decide_and]
    exact decide_eq_decide.mpr and_comm
  handle := k.handle.trans h.handle
  ended := by
    rw [List.map_append]
    exact h.ended.trans k.ended
  origin := fun x hx => by
    obtain ⟨y, hy, yh, ya⟩ := k.origin x hx
    obtain ⟨z, hz, zh, za⟩ := h.origin y hy
    exact ⟨z, hz, zh.trans yh, za.trans ya⟩
  spared := fun q other => (h.spared q fun x hx => other x (List.mem_append_left _ hx)).trans
    (k.spared q fun x hx => other x (List.mem_append_right _ hx))
  shaped := h.shaped.trans k.shaped k.origin

/-- R22: a grant retired is not live, and no other is gone. -/
theorem Retired.gone (h : Retired r gs s t) (hg : g ∈ gs) : livesOn g t = false := by
  have away : g.handle ∉ t.grant.table.map (·.handle) := by
    rw [h.handles]
    intro mem
    exact absurd (List.mem_map.mpr ⟨g, hg, rfl⟩) (of_decide_eq_true (List.mem_filter.mp mem).2)
  unfold livesOn
  rw [List.any_eq_false]
  exact fun k hk => by
    rw [decide_eq_true_eq]
    exact fun e => away (List.mem_map.mpr ⟨k, hk, e⟩)

end

/-! ## The grants of a selection cut (R21) -/

/-- R21, R32: the selected grants cut in their turn; a grant that is not selected may be promoted. -/
theorem retired_cut {s : State} (h : Sound s) (r : Reason) (sel : Grant → Bool) :
    Retired r (inTurn sel s) s (cutGrants r sel s) := by
  have rest (done todo : List Grant) (all : done ++ todo = inTurn sel s) (t : State)
      (retired : Retired r done s t) (live : ∀ k ∈ todo, k ∈ t.grant.table) :
      Retired r (inTurn sel s) s
        (forEach (fun x => onGrant x fun g => cut g r) (todo.map (·.handle)) t) := by
    induction todo generalizing done t with
    | nil =>
      rw [List.append_nil] at all
      exact all ▸ retired
    | cons g todo ih =>
      have hg := live g List.mem_cons_self
      have one : (done ++ g :: todo).Nodup := all ▸ (inTurn_perm sel s).nodup_iff.mpr
        ((h.grants.distinct.of_map _).filter _)
      have order := inTurn_order sel s
      rw [← all] at order
      have found : onGrant g.handle (fun g => cut g r) t = retire g r t := by
        unfold onGrant
        rw [retired.sound.find hg]
        rfl
      show Retired r _ s (forEach _ (todo.map _) (onGrant g.handle _ t))
      rw [found]
      refine ih (done ++ [g]) (by rw [List.append_assoc, List.singleton_append]; exact all) _
        (retired.step (retired_one retired.sound hg)) fun k hk => ?_
      have later := List.pairwise_cons.mp (List.pairwise_append.mp order).2.1
      have other : k ≠ g := by
        rintro rfl
        exact (List.nodup_cons.mp (List.nodup_append.mp one).2.1).1 hk
      refine (retire_table retired.sound hg r).2.1 k (live k (List.mem_cons_of_mem _ hk)) other ?_
      by_cases waits : g.state = .waiting
      · exact .inl waits
      · exact .inr (.inl (later.1 k hk waits))
  unfold cutGrants
  rw [forGrants_eq, reached_eq]
  refine rest [] _ rfl s (retired_nil h r) fun k hk => ?_
  exact (List.mem_filter.mp ((inTurn_perm sel s).mem_iff.mp hk)).1

theorem mem_inTurn {sel : Grant → Bool} {s : State} {g : Grant} :
    g ∈ inTurn sel s ↔ g ∈ s.grant.table ∧ sel g = true := by
  rw [(inTurn_perm sel s).mem_iff, List.mem_filter]

/-- R21: the handles left of a cut. -/
theorem Retired.handles_of_sel {r : Reason} {sel : Grant → Bool} {s t : State} (h : Sound s)
    (retired : Retired r (inTurn sel s) s t) :
    t.grant.table.map (·.handle) = (s.grant.table.filter fun g => !sel g).map (·.handle) := by
  rw [retired.handles, List.filter_map]
  refine congrArg _ (List.filter_congr fun g hg => ?_)
  rw [Function.comp_apply]
  by_cases chosen : sel g = true
  · rw [chosen]
    exact decide_eq_false fun n => n (List.mem_map.mpr ⟨g, mem_inTurn.mpr ⟨hg, chosen⟩, rfl⟩)
  · rw [Bool.not_eq_true] at chosen
    rw [chosen]
    refine decide_eq_true fun mem => ?_
    obtain ⟨k, hk, e⟩ := List.mem_map.mp mem
    obtain ⟨hk, picked⟩ := mem_inTurn.mp hk
    rw [h.eq_of_handle hk hg e, chosen] at picked
    cases picked

/-- R27: a cut of an axis leaves no grant on it. -/
theorem Retired.off_axis {r : Reason} {a : Axis} {s t : State}
    (retired : Retired r (inTurn (fun g => decide (g.axis = a)) s) s t) :
    ∀ k ∈ t.grant.table, k.axis ≠ a := by
  intro k hk e
  obtain ⟨x, hx, xh, xa⟩ := retired.origin k hk
  have gone := retired.gone (mem_inTurn.mpr ⟨hx, decide_eq_true (xa.trans e)⟩)
  unfold livesOn at gone
  exact absurd (decide_eq_true xh.symm) (by simpa using List.any_eq_false.mp gone k hk)

/-! ## A fault set (R66) -/

/-- R66: the axis status unit with a code recorded. -/
def codedUnit (a : Axis) (code : FaultCode) (s : State) : State :=
  s.setAxis { s.axis with
    fault := s.axis.fault.set a (some code)
    stall := if a = .lift then none else s.axis.stall }

/-- R177: the record of a fault. -/
def faultRecord (a : Axis) (code : FaultCode) (coil : Option Coil) (s : State) : FaultRecord :=
  { kind := .axisFault code, axis := some a, coil := coil
    position := if a = .lift then some s.axis.position else none, mode := s.mode.mode }

/-- R67, R68: a report on an axis that is not fitted or FAULTED is dropped. -/
theorem setFault_dropped {a : Axis} {s : State} (h : s.axis.fitted.get a = false ∨ s.axis.fault.get a ≠ none)
    (code : FaultCode) (coil : Option Coil) : setFault a code coil s = s := by
  refine if_neg fun k => ?_
  rcases h with out | faulted
  · rw [out] at k
    cases k.1
  · exact faulted k.2

/-- R27: the grants of a faulted axis cut. -/
def faultCut (a : Axis) (code : FaultCode) (s : State) : State :=
  cutGrants .fault (fun g => decide (g.axis = a)) (codedUnit a code s)

/-- R27: the grants on an axis, in the order a fault cuts them. -/
def faultedGrants (a : Axis) (s : State) : List Grant := inTurn (fun g => decide (g.axis = a)) s

theorem retired_faultCut {s : State} (h : Sound s) (a : Axis) (code : FaultCode) :
    Retired .fault (faultedGrants a s) (codedUnit a code s) (faultCut a code s) :=
  retired_cut (s := codedUnit a code s) (h.of_grant rfl) .fault fun g => decide (g.axis = a)

theorem setFault_taken {a : Axis} {s : State} (fitted : s.axis.fitted.get a = true)
    (sound : s.axis.fault.get a = none) (code : FaultCode) (coil : Option Coil) :
    setFault a code coil s = enterFault (faultRecord a code coil s) (raise .fault (faultCut a code s)) := by
  have reacts := reacts_cutGrants .fault (fun g => decide (g.axis = a)) (codedUnit a code s)
  have axis := reacts.axis
  have mode := reacts.mode
  have unfolded : setFault a code coil s = enterFault
      (faultRecord a code coil (faultCut a code s)) (raise .fault (faultCut a code s)) := by
    unfold setFault
    exact if_pos ⟨fitted, sound⟩
  have record : faultRecord a code coil (faultCut a code s) = faultRecord a code coil s := by
    unfold faultRecord faultCut
    rw [axis, mode]
    rfl
  rw [unfolded, record]

/-- R66: what a fault set leaves besides the cut. -/
structure Faulted (a : Axis) (code : FaultCode) (coil : Option Coil) (s t : State) : Prop where
  log : t.faultLog = loggedFault (faultRecord a code coil s) s.faultLog
  notice : Noticed { faultFlags s.faultLog s.notice.flags with
    gend := s.notice.flags.gend || !(faultedGrants a s).isEmpty } s.notice.mask t
  frame : t = ((faultCut a code s).setFaultLog t.faultLog).setNotice t.notice

theorem faulted_setFault {a : Axis} {s : State} (h : Sound s) (fitted : s.axis.fitted.get a = true)
    (sound : s.axis.fault.get a = none) (code : FaultCode) (coil : Option Coil) :
    Faulted a code coil s (setFault a code coil s) := by
  have ended := (retired_faultCut h a code).ended
  have told : ∀ e ∈ (faultedGrants a s).map fun g => (g, Reason.fault), e.2 ≠ .released := by
    intro e he
    obtain ⟨g, -, rfl⟩ := List.mem_map.mp he
    exact nofun
  obtain ⟨mask, flags⟩ := gendNoticed_flags ended.noticed told
  have log : (faultCut a code s).faultLog = s.faultLog := by rw [ended.frame]; rfl
  rw [setFault_taken fitted sound, List.isEmpty_map] at *
  generalize cuts : faultCut a code s = c at *
  obtain ⟨raised, kept, pending⟩ := noticed_raise .fault c
  obtain ⟨frame, flagged, masked⟩ := enterFault_frame (faultRecord a code coil s) (raise .fault c)
  have attention : (enterFault (faultRecord a code coil s) (raise .fault c)).notice.attention =
      (decide (c.mode.mode ≠ .off) &&
        noticePending (enterFault (faultRecord a code coil s) (raise .fault c)).notice) := by
    unfold enterFault
    split
    · exact (noticed_raise .fltrec _).2.2
    · exact pending
  generalize enterFault (faultRecord a code coil s) (raise .fault c) = t at *
  refine ⟨?_, ⟨?_, ?_, ?_⟩, ?_⟩
  · rw [frame, ← log]
    rfl
  · rw [flagged, raised, flags]
    show ({ addFlag .fault _ with fltrec := _ || c.faultLog.record.isNone } : NoticeSet) = _
    rw [log]
    rfl
  · rw [masked, kept, mask]
    rfl
  · rw [attention, frame]
    rfl
  · rw [cuts, frame]
    rfl

end Sys2Proof.Machine.Steps
end

section
/-! The events that report a fault (R66 to R68), and an obstruction (R28, R123, R124). -/

namespace Sys2Proof.Machine.Steps

open Motion Holds

theorem listed_of_sel (r : Reason) (sel : Grant → Bool) {s : State} (h : Sound s) :
    Listed s.grant.table ((s.grant.table.filter sel).map fun g => (g, r)) := by
  have listed := listed_endsOf cutOut r sel h
  rwa [endsOf_cutOut] at listed

/-- R27: a fault cuts a grant where one is on the axis. -/
theorem faultedGrants_some (a : Axis) (s : State) :
    (!(faultedGrants a s).isEmpty) = s.grant.table.any fun g => decide (g.axis = a) := by
  rw [Bool.eq_iff_iff, List.any_eq_true, Bool.not_eq_true', List.isEmpty_eq_false_iff_exists_mem]
  exact exists_congr fun g => mem_inTurn

/-- R66: a report that sets its fault, as its event closes. -/
theorem event_faults {f : State → State} {s u : State} {a : Axis} {code : FaultCode} (settled : Settled s)
    (h : Sound s) (fitted : s.axis.fitted.get a = true) (sound : s.axis.fault.get a = none)
    (held : u = { s with drive := u.drive, panel := u.panel }) (effect : f s = setFault a code none u) :
    FaultSet a code s (event f s) ∧ DemandsFollow s (event f s) := by
  have grant : u.grant = s.grant := by rw [held]
  have port : u.port = s.port := by rw [held]
  have notice : u.notice = s.notice := by rw [held]
  have log : u.faultLog = s.faultLog := by rw [held]
  have axis : u.axis = s.axis := by rw [held]
  have picked : faultedGrants a u = faultedGrants a s := by
    unfold faultedGrants inTurn
    rw [grant]
  have retired := retired_faultCut (h.of_grant grant) a code
  have faulted := faulted_setFault (h.of_grant grant) (by rw [axis]; exact fitted) (by rw [axis]; exact sound)
    code none
  have handles := retired.handles_of_sel (s := codedUnit a code u) (h.of_grant (by exact grant))
  rw [← effect] at faulted
  obtain ⟨logged, noticed, frame⟩ := faulted
  rw [picked] at retired noticed
  obtain ⟨told, -, cuts⟩ := retired.ended
  generalize faultCut a code u = c at *
  have told' : Told ((faultedGrants a s).map fun g => (g, .fault)) s (f s) :=
    told_of_port (told_rebase (s := s) told (by exact port)) (by rw [frame]; rfl)
  have mode : (f s).mode = s.mode := by
    rw [frame]
    show c.mode = s.mode
    rw [cuts]
    show u.mode = s.mode
    rw [held]
  have stays : closedownDone s (f s) = false := closedownDone_of_mode (by rw [mode]; exact settled.2)
  obtain ⟨closed, toldOf⟩ := event_ended rfl told' ((inTurn_perm _ s).map _)
    (listed_of_sel .fault _ h) stays
  have demands := demandsFollow_event (f := f) (s := s) rfl stays (by rw [mode]; exact settled.1)
    (by rw [frame]; show c.beacon = _; rw [cuts]; show u.beacon = _; rw [held])
    (by rw [frame]; show c.config = _; rw [cuts]; show u.config = _; rw [held])
  refine ⟨?_, demands⟩
  generalize event f s = t at closed toldOf ⊢
  generalize f s = v at frame closed logged noticed mode
  have record : faultRecord a code none u = faultRecord a code none s := by
    unfold faultRecord
    rw [held]
  have unit : c.axis = (codedUnit a code s).axis := by
    rw [cuts]
    unfold codedUnit
    rw [axis]
    rfl
  exact
    { recorded := by
        rw [closed, frame]
        show c.axis.fault = _
        rw [unit]
        rfl
      table := by
        rw [closed, frame]
        refine handles.trans ?_
        show (List.filter _ u.grant.table).map _ = _
        rw [grant]
        exact congrArg (List.map fun g : Grant => g.handle) (List.filter_congr fun g _ => decide_not.symm)
      log := by
        rw [closed]
        rw [record, log] at logged
        exact logged
      notice := by
        refine noticed_of_notice (u := v) ?_ (by rw [closed]; rfl) (by rw [closed]; rfl)
        rw [log, notice, faultedGrants_some] at noticed
        exact noticed
      told := toldOf
      frame := by
        rw [closed, frame, cuts, held]
        rfl }

/-- R65, R110, R117, R119, R125: what a report whose time has run makes absent before its fault is set. -/
theorem faultEvent_effect {c : Instr} {a : Axis} {code : FaultCode} (event' : (c, a, code) ∈ faultEvents)
    {s : State} (runs : limitRuns c s = true) :
    ∃ (f : State → State) (u : State), exec c s = .next (event f s) ∧ f s = setFault a code none u ∧
      u = { s with drive := u.drive, panel := u.panel } ∧ u.drive.output = s.drive.output := by
  have latch (d : Door) (l : LatchRecord) : putLatch d l s =
      { s with drive := (putLatch d l s).drive, panel := (putLatch d l s).panel } := rfl
  unfold faultEvents at event'
  simp only [List.mem_cons, Prod.mk.injEq, List.not_mem_nil, or_false] at event'
  rcases event' with ⟨rfl, rfl, rfl⟩ | ⟨rfl, rfl, rfl⟩ | ⟨rfl, rfl, rfl⟩ | ⟨rfl, rfl, rfl⟩ | ⟨rfl, rfl, rfl⟩ |
    ⟨rfl, rfl, rfl⟩ | ⟨rfl, rfl, rfl⟩ | ⟨rfl, rfl, rfl⟩ | ⟨rfl, rfl, rfl⟩
  · refine ⟨stallEvent, s, rfl, ?_, rfl, rfl⟩
    unfold stallEvent
    cases e : s.axis.stall with
    | none => exact absurd (e ▸ runs : (none : Option StallWindow).isSome = true) nofun
    | some w => rfl
  · exact ⟨foldTravelEvent, s.setDrive { s.drive with foldTravel := none }, rfl, if_pos runs, rfl, rfl⟩
  · exact ⟨latchPulseExpired .ndor, _, rfl, if_pos (of_decide_eq_true runs), latch .ndor _, rfl⟩
  · exact ⟨latchPulseExpired .odor, _, rfl, if_pos (of_decide_eq_true runs), latch .odor _, rfl⟩
  · exact ⟨engageExpired .ndor, _, rfl, if_pos (of_decide_eq_true runs), latch .ndor _, rfl⟩
  · exact ⟨engageExpired .odor, _, rfl, if_pos (of_decide_eq_true runs), latch .odor _, rfl⟩
  all_goals
    exact ⟨panelTravelEvent _, putPanel _ { panelOf _ s with travel := none } s, rfl, if_pos runs, rfl, rfl⟩

/-- R66 to R68: the reports of a fault that come by commands of their own. -/
theorem exec_faultEvent {c : Instr} {a : Axis} {code : FaultCode} (event' : (c, a, code) ∈ faultEvents)
    {s : State} (runs : limitRuns c s = true) :
    (Settled s → GrantsOk s → SlotsOk s → s.axis.fitted.get a = true → s.axis.fault.get a = none →
      ∃ t, exec c s = .next t ∧ FaultSet a code s t ∧ DemandsFollow s t) ∧
    (s.axis.fitted.get a = false ∨ s.axis.fault.get a ≠ none →
      ∃ t, exec c s = .next t ∧ t = { s with drive := t.drive, panel := t.panel } ∧
        t.drive.output = s.drive.output) := by
  obtain ⟨f, u, run, effect, held, output⟩ := faultEvent_effect event' runs
  refine ⟨fun settled ok slots fitted sound => ⟨_, run, event_faults settled ⟨ok, slots⟩ fitted sound held effect⟩,
    fun dropped => ⟨_, run, ?_⟩⟩
  have axis : u.axis = s.axis := by rw [held]
  have left : event f s = u := by
    refine event_undemanding ?_ (by rw [held]) (by rw [held]) axis fun z =>
      zoneDemand_congr (by rw [held]) (by rw [held]) axis (by rw [held]) z
    rw [effect]
    exact setFault_dropped (by rw [axis]; exact dropped) code none
  rw [left]
  exact ⟨held, output⟩

/-! ## An obstruction (R28, R123, R124) -/

/-- R123, R124: a cut for an obstruction, as the panel sequencer leaves its own records. -/
structure Obstructs (m : Motor) (s u : State) : Prop where
  held : u = { s with inputs := u.inputs, panel := u.panel }
  seq : (panelOf m u).seq = (panelOf m s).seq
  state : (panelOf m u).state = (panelOf m s).state

theorem obstructs_putPanel {m : Motor} {s : State} {p : PanelRecord} (seq : p.seq = (panelOf m s).seq)
    (state : p.state = (panelOf m s).state) : Obstructs m s (putPanel m p s) := by
  refine ⟨rfl, ?_, ?_⟩
  · rw [panelOf_putPanel]
    exact seq
  · rw [panelOf_putPanel]
    exact state

theorem Obstructs.trans {m : Motor} {s t u : State} (h : Obstructs m s t) (k : Obstructs m t u) :
    Obstructs m s u := by
  refine ⟨?_, k.seq.trans h.seq, k.state.trans h.state⟩
  rw [k.held, h.held]

/-- R28: the sequence grant of a motor axis, as its report names it. -/
theorem reportObstructed_cuts {m : Motor} {s : State} (h : Sound s) {g : Grant} (hg : g ∈ s.grant.table)
    (own : sequenceOf g m s = true) (axis : g.axis = axisOfMotor m) :
    reportObstructed m s = retire g .obstructed s := by
  have named := of_decide_eq_true own
  obtain ⟨q, seq, eq⟩ := Option.map_eq_some_iff.mp named
  simp only [Prod.mk.injEq] at eq
  obtain ⟨handle, station, sense⟩ := eq
  have found : reportedGrant (axisOfMotor m) q s = some g := by
    unfold reportedGrant
    rw [handle, h.find hg]
    exact if_pos ⟨station.symm, axis, sense.symm⟩
  unfold reportObstructed
  rw [seq]
  dsimp only
  rw [found]
  rfl

theorem reportObstructed_idle {m : Motor} {s : State} (idle : (panelOf m s).seq = none) :
    reportObstructed m s = s := by
  unfold reportObstructed
  rw [idle]

/-- R123, R124: the events that cut for an obstruction. -/
theorem obstruction_effect {c : Instr} {m : Motor} {s : State} (settled : Settled s)
    (meets : c = .obstructionOvertime m ∧ s.drive.duty.get m ≠ 0 ∨
      c = .safetyEdgeChange true ∧ m = .shut ∧ s.panel.contact = false ∧ (panelOf .shut s).state = .closing) :
    ∃ (f : State → State) (u : State), exec c s = .next (event f s) ∧ f s = reportObstructed m u ∧
      Obstructs m s u := by
  rcases meets with ⟨rfl, duty⟩ | ⟨rfl, rfl, off, closing⟩
  · exact ⟨obstructionEvent m, _, rfl, if_neg duty, obstructs_putPanel rfl rfl⟩
  · have serves : s.mode.mode ≠ .off := fun e => by
      have served := settled.1
      rw [e] at served
      cases served
    let v := (s.setInputs { s.inputs with shutter := { s.inputs.shutter with contact := true } }).setPanel
      { s.panel with contact := true }
    have touched : Obstructs .shut s v := ⟨rfl, rfl, rfl⟩
    have meets : edgeEvent true s = if shutterClosing v = true then edgeStop v else v := by
      have taken : ¬ (s.mode.mode = .off ∨ s.panel.contact = true) := by
        rintro (e | e)
        · exact serves e
        · exact nomatch off.symm.trans e
      unfold edgeEvent
      refine (if_neg taken).trans ?_
      by_cases runs : shutterClosing v = true
      · exact (if_pos ⟨rfl, runs⟩).trans (if_pos runs).symm
      · exact (if_neg fun k => runs k.2).trans (if_neg runs).symm
    by_cases runs : shutterClosing v = true
    · exact ⟨edgeEvent true, _, rfl, meets.trans (if_pos runs),
        touched.trans (obstructs_putPanel (m := .shut) rfl rfl)⟩
    · refine ⟨edgeEvent true, v, rfl, (meets.trans (if_neg runs)).trans ?_, touched⟩
      refine (reportObstructed_idle ?_).symm
      have closes : (panelOf .shut v).state = .closing := closing
      unfold shutterClosing at runs
      rw [decide_eq_true closes, Bool.true_and, Option.not_isSome_iff_eq_none] at runs
      exact runs

/-- R28, R134: an obstruction with no sequence grant changes no grant and stops no output. -/
theorem event_obstructs_idle {f : State → State} {m : Motor} {s u : State} (effect : f s = reportObstructed m u)
    (obstructs : Obstructs m s u) (idle : (panelOf m s).seq = none) : event f s = u := by
  have held := obstructs.held
  have axis : u.axis = s.axis := by rw [held]
  refine event_undemanding (effect.trans (reportObstructed_idle (obstructs.seq.trans idle))) (by rw [held])
    (by rw [held]) axis fun z => zoneDemand_congr (by rw [held]) (by rw [held]) axis (by rw [held]) z

theorem waiting_of_waiterOn {s : State} (h : Sound s) (r : Resource) :
    (slotOf r s).waiting = (waiterOn r s).map (·.handle) := by
  rw [slotOf_eq h]

/-- R28, R22: an obstruction cuts the sequence grant, and a grant that waits behind it starts. -/
theorem event_obstructs {f : State → State} {m : Motor} {s u : State} (settled : Settled s) (h : Sound s)
    (effect : f s = reportObstructed m u) (obstructs : Obstructs m s u) {g : Grant} (hg : g ∈ s.grant.table)
    (own : sequenceOf g m s = true) (axis : g.axis = axisOfMotor m) (holds : g.state ≠ .waiting) :
    let t := event f s
    t.axis = s.axis ∧ t.faultLog = s.faultLog ∧ t.drive.output.get g.axis = 0 ∧
      t.drive.duty.get m = 0 ∧ Told [(g, .obstructed)] s t ∧
      GendNoticed [(g, .obstructed)] s t ∧ DemandsFollow s t ∧
      (waiterOn (resourceOf g.axis) s = none →
        t.grant.table = tableWithout g.handle s ∧ AxisStopped g.axis s t) ∧
      (∀ w, waiterOn (resourceOf g.axis) s = some w →
        t.grant = { s.grant with
          table := (tableWithout g.handle s).map fun x =>
            if x.handle = w.handle then { w with state := .driving } else x
          slots := s.grant.slots.set (resourceOf g.axis) ⟨some w.handle, none⟩ } ∧
        t.drive.driving.get g.axis = some ⟨w.handle, w.station, w.sense⟩ ∧
        (panelOf m t).seq = some ⟨w.handle, w.station, w.sense, w.kind⟩) := by
  obtain ⟨held, seq, state⟩ := obstructs
  have grant : u.grant = s.grant := by rw [held]
  have port : u.port = s.port := by rw [held]
  have notice : u.notice = s.notice := by rw [held]
  have sound := h.of_grant grant
  have live : g ∈ u.grant.table := by rw [grant]; exact hg
  have cuts : f s = retire g .obstructed u := effect.trans (reportObstructed_cuts sound live
    (by unfold sequenceOf; rw [seq]; exact own) axis)
  have ended := ended_retire g .obstructed u
  have told := told_rebase ended.told port
  have noticed := gendNoticed_rebase ended.noticed notice
  have mode : (retire g .obstructed u).mode = s.mode := by rw [ended.frame, held]
  have stays : closedownDone s (retire g .obstructed u) = false :=
    closedownDone_of_mode (by rw [mode]; exact settled.2)
  obtain ⟨closed, toldOf⟩ := event_ended cuts told (.refl _) (listed_one h.grants.distinct hg _) stays
  have demands := demandsFollow_event cuts stays (by rw [mode]; exact settled.1)
    (by rw [ended.frame, held]) (by rw [ended.frame, held])
  obtain ⟨output, -, duty⟩ := retire_zero sound live .obstructed holds
  have slot := waiting_of_waiterOn sound (resourceOf g.axis)
  have waiter : waiterOn (resourceOf g.axis) u = waiterOn (resourceOf g.axis) s := by
    unfold waiterOn
    rw [grant]
  rw [waiter] at slot
  have without : tableWithout g.handle u = tableWithout g.handle s := by
    unfold tableWithout
    rw [grant]
  dsimp only
  generalize event f s = t at closed toldOf demands ⊢
  have grants : t.grant.table = (retire g .obstructed u).grant.table := by rw [closed]; rfl
  have drives : t.drive = (retire g .obstructed u).drive := by rw [closed]; rfl
  have panels : t.panel = (retire g .obstructed u).panel := by rw [closed]; rfl
  refine ⟨by rw [closed]; show (retire g .obstructed u).axis = _; rw [ended.frame, held],
    by rw [closed]; show (retire g .obstructed u).faultLog = _; rw [ended.frame, held],
    by rw [closed]; exact output, by rw [closed]; exact duty m axis.symm, toldOf,
    gendNoticed_of_notice noticed (by rw [closed]; rfl) (by rw [closed]; rfl), demands, fun alone => ?_,
    fun w waits => ?_⟩
  · rw [alone] at slot
    obtain ⟨left, stopped, -⟩ := retired_holder sound live .obstructed holds slot
    refine ⟨grants.trans ((congrArg GrantEngine.table left).trans without), axisStopped_of_apart_after
      (axisStopped_of_states stopped fun k e => ?_) (apart_of_same drives panels _)⟩
    have same : k = m := by
      rw [axis] at e
      cases k <;> cases m <;> first | rfl | cases e
    subst same
    exact state
  · obtain ⟨hw, same, waiting⟩ := waiterOn_mem (waiter.trans waits)
    have eq : retire g .obstructed u = gendDue g .obstructed (startGrant (promoted w) (succeeding g w u)) :=
      retire_of_promoting sound live .obstructed holds hw same waiting
    have own' : w.axis = g.axis := by
      rw [axis] at same ⊢
      cases m <;> cases a : w.axis <;> rw [a] at same <;> first | rfl | cases same
    have started := started_panelStart (m := m) (g := promoted w) (own'.trans axis)
      (driveStart (promoted w) (succeeding g w u))
    have panel : (retire g .obstructed u).panel = (startGrant (promoted w) (succeeding g w u)).panel := by
      rw [eq, gendDue_panel]
    have drive : (retire g .obstructed u).drive = (driveStart (promoted w) (succeeding g w u)).drive := by
      rw [eq, gendDue_drive, startGrant_drive]
    have left : (retire g .obstructed u).grant = (succeeding g w u).grant := by
      rw [eq, gendDue_grant]
      exact grant_of_view (view_startGrant _ _)
    rw [closed]
    refine ⟨?_, ?_, ?_⟩
    · refine left.trans ((succeeding_grant g w u).trans ?_)
      rw [without, grant]
      rfl
    · show (retire g .obstructed u).drive.driving.get g.axis = _
      rw [drive, driveStart_drive, ← own']
      exact PerAxis.get_set_same _ _ _
    · show ((retire g .obstructed u).panel.axis.get m).seq = _
      rw [panel]
      exact started.seq

end Sys2Proof.Machine.Steps
end

section
/-! The travel times of FOLD and of the motor axes (R110, R125), and what a fault set is to the axes beside it. -/

namespace Sys2Proof.Machine.Steps

open Motion Holds

/-! ## Travel times (R22, R101, R103, R110, R125) -/

/-- A travel time is as it was, absent, or started at 0. -/
def Restarted (old new : Option Nat) : Prop := new = old ∨ new = none ∨ new = some 0

theorem Restarted.trans {x y z : Option Nat} (h : Restarted x y) (k : Restarted y z) : Restarted x z := by
  rcases k with rfl | k
  · exact h
  · exact .inr k

/-- No travel time has counted up, and the safety edge is as it was. -/
structure Travels (s t : State) : Prop where
  contact : t.panel.contact = s.panel.contact
  fold : Restarted s.drive.foldTravel t.drive.foldTravel
  motor : ∀ m, Restarted (panelOf m s).travel (panelOf m t).travel

theorem Travels.trans {s t u : State} (h : Travels s t) (k : Travels t u) : Travels s u :=
  ⟨k.contact.trans h.contact, h.fold.trans k.fold, fun m => (h.motor m).trans (k.motor m)⟩

theorem travels_of_same {s t : State} (drive : t.drive = s.drive) (panel : t.panel = s.panel) : Travels s t := by
  exact ⟨by rw [panel], .inl (by rw [drive]), fun m => .inl (by unfold panelOf; rw [panel])⟩

theorem travels_driveEnd (a : Axis) (s : State) : Travels s (driveEnd a s) := by
  refine ⟨rfl, ?_, fun m => .inl rfl⟩
  cases a <;> first | exact .inl rfl | exact .inr (.inl rfl)

theorem travels_putPanel {m : Motor} {p : PanelRecord} {s : State} (h : Restarted (panelOf m s).travel p.travel) :
    Travels s (putPanel m p s) := by
  refine ⟨rfl, .inl rfl, fun k => ?_⟩
  by_cases e : k = m
  · subst e
    rw [panelOf_putPanel]
    exact h
  · exact .inl (congrArg PanelRecord.travel (PerMotor.get_set_ne _ _ e))

theorem travels_putLatch (d : Door) (l : LatchRecord) (s : State) : Travels s (putLatch d l s) :=
  ⟨rfl, .inl rfl, fun _ => .inl rfl⟩

theorem travels_panelStop (a : Axis) (s : State) : Travels s (panelStop a s) := by
  unfold panelStop
  split
  · exact travels_of_same rfl rfl
  · dsimp only
    split
    · exact travels_putPanel (.inr (.inl rfl))
    · exact (travels_putPanel (.inr (.inl rfl))).trans (travels_putLatch _ _ _)

theorem travels_driveStart (g : Grant) (s : State) : Travels s (driveStart g s) := by
  have drive := driveStart_drive g s
  refine ⟨rfl, ?_, fun m => .inl rfl⟩
  rw [drive]
  show Restarted _ (if g.axis = .fold then some 0 else s.drive.foldTravel)
  split
  · exact .inr (.inr rfl)
  · exact .inl rfl

theorem travels_startDoor (d : Door) (g : Grant) (s : State) : Travels s (startDoor d g s) := by
  have put (p : PanelRecord) (e : p.travel = some 0) : Travels s (putPanel (motorOfDoor d) p s) :=
    travels_putPanel (.inr (.inr e))
  have latch (p : PanelRecord) (e : p.travel = some 0) (l : LatchRecord) :
      Travels s (putLatch d l (putPanel (motorOfDoor d) p s)) := (put p e).trans (travels_putLatch d l _)
  unfold startDoor
  dsimp only
  repeat' split
  all_goals first
    | exact put _ rfl
    | exact latch _ rfl _

theorem travels_startShutter (g : Grant) (s : State) : Travels s (startShutter g s) := by
  unfold startShutter
  dsimp only
  repeat' split
  all_goals exact travels_putPanel (.inr (.inr rfl))

theorem travels_startGrant (g : Grant) (s : State) : Travels s (startGrant g s) := by
  refine (travels_driveStart g s).trans ?_
  show Travels _ (panelStart g _)
  unfold panelStart
  split
  · exact travels_startShutter g _
  · exact travels_startDoor _ g _
  · exact travels_startDoor _ g _
  all_goals exact travels_of_same rfl rfl

/-- R22: a retirement, with the promotion it brings, starts travel times and stops them. -/
theorem travels_retire (g : Grant) (r : Reason) (s : State) : Travels s (retire g r s) := by
  have passed (q : Resource) (u : State) : Travels u (passSlot q u) := by
    unfold passSlot
    split
    · exact travels_of_same rfl rfl
    · split
      · exact travels_of_same rfl rfl
      · next w _ =>
        exact (travels_of_same (s := u) (t := putGrant (promoted w) (setSlot q _ u)) rfl rfl).trans
          (travels_startGrant _ _)
  have left (u : State) : Travels u (leaveSlot g u) := by
    unfold leaveSlot
    dsimp only
    split
    · exact ((travels_driveEnd g.axis u).trans (travels_panelStop g.axis _)).trans (passed _ _)
    · split <;> exact travels_of_same rfl rfl
  exact ((travels_of_same (s := s) (t := dropGrant g.handle s) rfl rfl).trans (left _)).trans
    (travels_of_same (gendDue_drive g r _) (gendDue_panel g r _))

theorem travels_forEach {α : Type} {f : α → State → State} (hf : ∀ x s, Travels s (f x s)) (l : List α)
    (s : State) : Travels s (forEach f l s) :=
  forEach_left (fun _ => travels_of_same rfl rfl) Travels.trans (fun x _ s => hf x s) s

theorem travels_cutGrants (r : Reason) (sel : Grant → Bool) (s : State) : Travels s (cutGrants r sel s) := by
  have on (x : Nat) (s : State) : Travels s (onGrant x (fun g => cut g r) s) := by
    unfold onGrant
    split
    · exact travels_of_same rfl rfl
    · exact travels_retire _ r s
  exact (travels_forEach on _ s).trans (travels_forEach on _ _)

/-- R66: a fault set counts no travel time, and codes no axis but its own. -/
theorem setFault_travels (a : Axis) (code : FaultCode) (coil : Option Coil) (s : State) :
    Travels s (setFault a code coil s) ∧
      ∀ b, b ≠ a → (setFault a code coil s).axis.fault.get b = s.axis.fault.get b := by
  unfold setFault
  split
  · dsimp only
    have cuts := travels_cutGrants .fault (fun g => decide (g.axis = a)) (codedUnit a code s)
    have unit := (reacts_cutGrants .fault (fun g => decide (g.axis = a)) (codedUnit a code s)).axis
    have raised (r : FaultRecord) (u : State) : (enterFault r (raise .fault u)).drive = u.drive ∧
        (enterFault r (raise .fault u)).panel = u.panel ∧ (enterFault r (raise .fault u)).axis = u.axis := by
      obtain ⟨frame, -⟩ := enterFault_frame r (raise .fault u)
      rw [frame]
      exact ⟨rfl, rfl, rfl⟩
    have coded : Travels s (codedUnit a code s) := travels_of_same rfl rfl
    obtain ⟨drive, panel, axis⟩ := raised (faultRecord a code coil (faultCut a code s)) (faultCut a code s)
    refine ⟨(coded.trans cuts).trans (travels_of_same drive panel), fun b n => ?_⟩
    refine (congrArg (fun x : AxisUnit => x.fault.get b) (axis.trans unit)).trans ?_
    exact PerAxis.get_set_ne _ _ n
  · exact ⟨travels_of_same rfl rfl, fun _ _ => rfl⟩

end Sys2Proof.Machine.Steps
end

section
/-! The steps of a control period (R91, R108, R110, R114): what each may change, and how it composes. -/

namespace Sys2Proof.Machine.Steps

open Motion Holds

/-! ## What a step of a period leaves alone -/

/-- R23, R66, R68, R91: the steps of a control period end grants and set faults; no record joins the table, no
code recorded changes, and no message queued is lost. -/
structure Tended (s t : State) : Prop where
  sound : Sound t
  frame : t = { s with
    grant := t.grant, drive := t.drive, panel := t.panel, port := t.port, notice := t.notice
    faultLog := t.faultLog
    axis := { s.axis with
      fault := t.axis.fault, stall := t.axis.stall, liftOutput := t.axis.liftOutput } }
  handle : t.grant.lastHandle = s.grant.lastHandle
  origin : ∀ k ∈ t.grant.table, ∃ x ∈ s.grant.table, x.handle = k.handle ∧ x.axis = k.axis
  port : ∀ l, (portOf l t).state = (portOf l s).state ∧ ∀ m ∈ queueOf l s, m ∈ queueOf l t
  kept : ∀ a, s.axis.fault.get a ≠ none ∨ s.axis.fitted.get a = false →
    t.axis.fault.get a = s.axis.fault.get a
  gone : ∀ a, s.axis.fault.get a = none → t.axis.fault.get a ≠ none → ∀ k ∈ t.grant.table, k.axis ≠ a
  logged : t.axis.fault = s.axis.fault →
    t.faultLog = s.faultLog ∧ t.notice.flags.fault = s.notice.flags.fault

theorem Tended.fitted {s t : State} (h : Tended s t) : t.axis.fitted = s.axis.fitted := by rw [h.frame]

theorem Tended.config {s t : State} (h : Tended s t) : t.config = s.config := by rw [h.frame]

theorem Tended.trans {s t u : State} (h : Tended s t) (k : Tended t u) : Tended s u where
  sound := k.sound
  frame := by rw [k.frame, h.frame]
  handle := k.handle.trans h.handle
  origin := fun x hx => by
    obtain ⟨y, hy, yh, ya⟩ := k.origin x hx
    obtain ⟨z, hz, zh, za⟩ := h.origin y hy
    exact ⟨z, hz, zh.trans yh, za.trans ya⟩
  port := fun l => ⟨(k.port l).1.trans (h.port l).1, fun m hm => (k.port l).2 m ((h.port l).2 m hm)⟩
  kept := fun a e => by
    have first := h.kept a e
    rw [k.kept a (by rw [first, h.fitted]; exact e), first]
  gone := fun a sound coded x hx => by
    by_cases before : t.axis.fault.get a = none
    · exact k.gone a before coded x hx
    · obtain ⟨y, hy, -, ya⟩ := k.origin x hx
      rw [← ya]
      exact h.gone a sound before y hy
  logged := fun same => by
    have first : t.axis.fault = s.axis.fault := PerAxis.ext_get fun a => by
      by_contra changed
      have coded : t.axis.fault.get a ≠ none := fun none => by
        refine changed (h.kept a (.inl fun e => changed (none.trans e.symm)))
      have before := k.kept a (.inl coded)
      rw [same] at before
      exact changed before.symm
    obtain ⟨log, flag⟩ := k.logged (same.trans first.symm)
    exact ⟨log.trans (h.logged first).1, flag.trans (h.logged first).2⟩

theorem tended_of_blocks {s t : State} (h : Sound s) (held : t = { s with drive := t.drive, panel := t.panel }) :
    Tended s t where
  sound := h.of_grant (by rw [held])
  frame := held.trans (by rw [held])
  handle := by rw [held]
  origin := fun k hk => ⟨k, by rw [held] at hk; exact hk, rfl, rfl⟩
  port := fun l => by
    have same : portOf l t = portOf l s := by unfold portOf; rw [held]
    unfold queueOf
    rw [same]
    exact ⟨rfl, fun _ hm => hm⟩
  kept := fun a _ => by rw [held]
  gone := fun a none coded => by
    rw [held] at coded
    exact absurd none coded
  logged := fun _ => by rw [held]; exact ⟨rfl, rfl⟩

/-- R91: what a step of a period does: it touches the resources `rs`, may raise outputs on the axes `as`, and
sets the coil watches of `ks`. -/
structure Worked (rs : List Resource) (as : List Axis) (ks : List Coil) (s t : State) : Prop where
  tended : Tended s t
  shaped : Shaped as ks s t
  spared : ∀ q, q ∉ rs → Spared q s t
  codes : ∀ a, resourceOf a ∉ rs → t.axis.fault.get a = s.axis.fault.get a
  contact : t.panel.contact = s.panel.contact

section
variable {rs qs : List Resource} {as bs : List Axis} {ks js : List Coil} {s t u : State}

theorem Worked.trans (h : Worked rs as ks s t) (k : Worked qs bs js t u) :
    Worked (rs ++ qs) (as ++ bs) (ks ++ js) s u where
  tended := h.tended.trans k.tended
  shaped := h.shaped.trans k.shaped k.tended.origin
  spared := fun q n => (h.spared q fun m => n (List.mem_append_left _ m)).trans
    (k.spared q fun m => n (List.mem_append_right _ m))
  codes := fun a n => (k.codes a fun m => n (List.mem_append_right _ m)).trans
    (h.codes a fun m => n (List.mem_append_left _ m))
  contact := k.contact.trans h.contact

theorem Worked.widen (h : Worked rs as ks s t) (r : rs ⊆ qs) (a : as ⊆ bs) (c : ks ⊆ js) :
    Worked qs bs js s t where
  tended := h.tended
  shaped :=
    { shaper := h.shaped.shaper
      watch := fun k n => h.shaped.watch k fun m => n (c m)
      falls := fun b n => h.shaped.falls b fun m => n (a m)
      stays := fun g hg holds lives => by
        obtain ⟨mem, same⟩ := h.shaped.stays g hg holds lives
        exact ⟨mem, fun n => same fun m => n (a m)⟩
      ends := fun g hg holds n => h.shaped.ends g hg holds fun m => n (a m) }
  spared := fun q n => h.spared q fun m => n (r m)
  codes := fun a n => h.codes a fun m => n (r m)
  contact := h.contact

/-- One step after another of the same resources, axes and coils. -/
theorem Worked.after (h : Worked rs as ks s t) (k : Worked rs as ks t u) : Worked rs as ks s u :=
  (h.trans k).widen (List.append_subset.mpr ⟨fun _ m => m, fun _ m => m⟩)
    (List.append_subset.mpr ⟨fun _ m => m, fun _ m => m⟩) (List.append_subset.mpr ⟨fun _ m => m, fun _ m => m⟩)

/-- A step that changes the panel sequencer alone. -/
theorem worked_of_panel (h : Sound s) (held : t = s.setPanel t.panel)
    (contact : t.panel.contact = s.panel.contact)
    (spared : ∀ q, q ∉ rs → ∀ a, resourceOf a = q → Apart a s t) : Worked rs as ks s t := by
  have grant : t.grant = s.grant := by rw [held]; rfl
  have drive : t.drive = s.drive := by rw [held]; rfl
  have quiet : Worked rs [] [] s t := ⟨tended_of_blocks h (by rw [held]; rfl), shaped_of_same grant drive,
    fun q n => ⟨spared q n, fun _ => by rw [drive], fun _ _ => by rw [grant], by unfold slotOf; rw [grant]⟩,
    fun _ _ => by rw [held]; rfl, contact⟩
  exact quiet.widen (fun _ m => m) (List.nil_subset _) (List.nil_subset _)

theorem worked_refl (h : Sound s) : Worked rs as ks s s :=
  worked_of_panel h rfl rfl fun _ _ a _ => .refl a s

/-! ## A retirement and a fault -/

theorem worked_retire (h : Sound s) {g : Grant} (hg : g ∈ s.grant.table) (r : Reason) :
    Worked [resourceOf g.axis] [] [] s (retire g r s) := by
  have retired := retired_one (r := r) h hg
  have told := retired.ended.told
  have frame := retired.ended.frame
  have flags := (gends_retire s g r).flags
  refine ⟨⟨retired.sound, ?_, retired.handle, retired.origin, fun l => ⟨told_state told l, fun m hm => ?_⟩,
    fun a _ => by rw [frame], fun a none coded => ?_, fun _ => ⟨by rw [frame], by rw [flags]⟩⟩, retired.shaped,
    fun q n => spared_retire h hg r fun e => n (by rw [e]; exact List.mem_singleton_self _),
    fun a _ => by rw [frame], (travels_retire g r s).contact⟩
  · rw [frame]
  · rw [told_queue told]
    exact List.mem_append_left _ hm
  · rw [frame] at coded
    exact absurd none coded

/-- R66: a fault set within a period. -/
theorem worked_setFault (h : Sound s) (a : Axis) (code : FaultCode) (coil : Option Coil) :
    Worked [resourceOf a] [] [] s (setFault a code coil s) := by
  by_cases taken : s.axis.fitted.get a = true ∧ s.axis.fault.get a = none
  swap
  · rw [setFault_dropped (by cases e : s.axis.fitted.get a <;> simp_all)]
    exact worked_refl h
  obtain ⟨fitted, sound⟩ := taken
  have retired := retired_faultCut h a code
  obtain ⟨log, notice, frame⟩ := faulted_setFault h fitted sound code coil
  obtain ⟨travels, others⟩ := setFault_travels a code coil s
  have told := retired.ended.told
  have cuts := retired.ended.frame
  have off := Retired.off_axis (a := a) (s := codedUnit a code s) retired
  generalize faultCut a code s = c at *
  generalize setFault a code coil s = t at *
  have grant : t.grant = c.grant := by rw [frame]; rfl
  have drive : t.drive = c.drive := by rw [frame]; rfl
  have panel : t.panel = c.panel := by rw [frame]; rfl
  have port : t.port = c.port := by rw [frame]; rfl
  have axis : t.axis = (codedUnit a code s).axis := by
    rw [frame]
    show c.axis = _
    rw [cuts]
  have codes (b : Axis) : t.axis.fault.get b = if b = a then some code else s.axis.fault.get b := by
    rw [axis]
    exact PerAxis.get_set _ _ _ _
  have told' : Told ((faultedGrants a s).map fun g => (g, .fault)) s t :=
    told_of_port (told_rebase (s := s) told rfl) port
  refine ⟨⟨retired.sound.of_grant grant, ?_, by rw [grant]; exact retired.handle,
    by rw [grant]; exact retired.origin, fun l => ⟨told_state told' l, fun m hm => ?_⟩, fun b before => ?_,
    fun b before coded => ?_, fun same => ?_⟩, ?_, fun q n => ?_, fun b n => others b ?_, travels.contact⟩
  · rw [axis]
    rw [frame, cuts]
    rfl
  · rw [told_queue told']
    exact List.mem_append_left _ hm
  · rw [codes b, if_neg]
    rintro rfl
    rcases before with coded | out
    · exact coded sound
    · exact nomatch out.symm.trans fitted
  · have own : b = a := by
      by_contra n
      rw [codes b, if_neg n] at coded
      exact coded before
    rw [grant, own]
    exact off
  · have coded := codes a
    rw [if_pos rfl, same, sound] at coded
    cases coded
  · have coded : Shaped [] [] s (codedUnit a code s) := shaped_of_same rfl rfl
    refine (coded.trans retired.shaped retired.origin).trans (shaped_of_same grant drive) fun k hk => ?_
    exact ⟨k, by rw [← grant]; exact hk, rfl, rfl⟩
  · have coded : Spared q s (codedUnit a code s) := spared_of_same rfl rfl rfl
    refine (coded.trans (retired.spared q fun g hg e => n ?_)).trans (spared_of_same grant drive panel)
    rw [e, of_decide_eq_true (mem_inTurn.mp hg).2]
    exact List.mem_singleton_self _
  · rintro rfl
    exact n (List.mem_singleton_self _)

end

end Sys2Proof.Machine.Steps
end

section
/-! The panel sequencer, the coil watches and the axes within a control period (R91, R108, R114): what each step may
change. -/

namespace Sys2Proof.Machine.Steps

open Motion Holds

section
variable {s : State} (h : Sound s)
include h

/-! ## The panel sequencer (R114) -/

theorem worked_putPanel (m : Motor) (p : PanelRecord) :
    Worked [resourceOf (axisOfMotor m)] [] [] s (putPanel m p s) :=
  worked_of_panel h rfl rfl fun q n a e => apart_putPanel (by
    rintro rfl
    exact n (by rw [e]; exact List.mem_singleton_self _)) p s

omit h in
theorem reportedGrant_some {a : Axis} {q : SeqGrant} {g : Grant} (e : reportedGrant a q s = some g) :
    g ∈ s.grant.table ∧ g.axis = a := by
  unfold reportedGrant at e
  split at e
  · cases e
  · next k found =>
    split at e
    · next named =>
      cases e
      exact ⟨(findGrant_some found).1, named.2.1⟩
    · cases e

theorem worked_reportObstructed (m : Motor) :
    Worked [resourceOf (axisOfMotor m)] [] [] s (reportObstructed m s) := by
  unfold reportObstructed
  split
  · exact worked_refl h
  · split
    · exact worked_refl h
    · next g found =>
      obtain ⟨hg, axis⟩ := reportedGrant_some found
      rw [← axis]
      exact worked_retire h hg .obstructed

theorem worked_reportEnd (m : Motor) (q : SeqGrant) :
    Worked [resourceOf (axisOfMotor m)] [] [] s (reportEnd m q s) := by
  unfold reportEnd
  split
  · exact worked_refl h
  · next g found =>
    obtain ⟨hg, axis⟩ := reportedGrant_some found
    split
    · rw [← axis]
      exact worked_retire h hg .atEnd
    · exact worked_refl h

theorem worked_endCheck (m : Motor) : Worked [resourceOf (axisOfMotor m)] [] [] s (endCheck m s) := by
  unfold endCheck
  dsimp only
  split
  · exact worked_refl h
  · next q _ =>
    split
    · have put := worked_putPanel h m { panelOf m s with endReported := true }
      exact put.after (worked_reportEnd put.tended.sound m q)
    · exact worked_refl h

theorem worked_edgeCheck (m : Motor) : Worked [resourceOf (axisOfMotor m)] [] [] s (edgeCheck m s) := by
  unfold edgeCheck
  split
  · next meets =>
    rw [meets.1]
    have put := worked_putPanel h .shut { panelOf .shut s with gate := .held }
    exact put.after (worked_reportObstructed put.tended.sound .shut)
  · exact worked_refl h

theorem worked_obstructionStep (m : Motor) (n : Nat) :
    Worked [resourceOf (axisOfMotor m)] [] [] s (obstructionStep m n s) := by
  unfold obstructionStep
  dsimp only
  split
  · exact worked_putPanel h m _
  · split
    · have put := worked_putPanel h m { panelOf m s with obstruction := 0 }
      exact put.after (worked_reportObstructed put.tended.sound m)
    · exact worked_putPanel h m _

theorem worked_panelTravelFault (m : Motor) :
    Worked [resourceOf (axisOfMotor m)] [] [] s (panelTravelFault m s) := by
  have put := worked_putPanel h m { panelOf m s with travel := none }
  exact put.after (worked_setFault put.tended.sound _ _ _)

theorem worked_travelStep (m : Motor) : Worked [resourceOf (axisOfMotor m)] [] [] s (travelStep m s) := by
  unfold travelStep
  dsimp only
  split
  · next q t _ _ =>
    split
    · exact worked_putPanel h m _
    · split
      · exact worked_refl h
      · have put := worked_putPanel h m { panelOf m s with travel := some (t + periodMs) }
        split
        · exact put.after (worked_panelTravelFault put.tended.sound m)
        · exact put
  · exact worked_refl h

theorem worked_panelPeriod (m : Motor) (n : Nat) :
    Worked [resourceOf (axisOfMotor m)] [] [] s (panelPeriod m n s) := by
  have first := worked_endCheck h m
  have second := first.after (worked_edgeCheck first.tended.sound m)
  have third := second.after (worked_obstructionStep second.tended.sound m n)
  exact third.after (worked_travelStep third.tended.sound m)

/-! ## The coil watches and the LIFT output (R91, R108) -/

omit h in
theorem shaped_coilWatch (c : Coil) (w : Watch) :
    Shaped [] [c] s (s.setDrive { s.drive with coilWatch := s.drive.coilWatch.set c w }) where
  shaper := rfl
  watch := fun k n => PerCoil.get_set_ne _ _ ((fun e => n (List.mem_singleton.mpr e)))
  falls := fun a _ => ⟨.inl rfl, fun _ _ => .inl rfl, fun _ _ => .inl rfl⟩
  stays := fun g hg _ _ => ⟨hg, fun _ => ⟨rfl, fun _ _ => rfl, fun _ _ => rfl, fun _ => rfl⟩⟩
  ends := fun g hg _ _ gone => by
    have lives : livesOn g s = false := gone
    rw [livesOn_self hg] at lives
    cases lives

theorem worked_coilWatch (c : Coil) (w : Watch) : Worked [.hyd] [] [c] s
    (s.setDrive { s.drive with coilWatch := s.drive.coilWatch.set c w }) :=
  ⟨tended_of_blocks h rfl, shaped_coilWatch c w, fun _ _ =>
    ⟨fun _ _ => ⟨rfl, rfl, rfl, fun _ _ => rfl, fun _ _ => ⟨rfl, rfl⟩, fun _ _ => rfl, fun _ _ => rfl, fun _ => rfl⟩,
      fun _ => rfl, fun _ _ => .rfl, rfl⟩, fun _ _ => rfl, rfl⟩

omit h in
theorem resourceOf_coil (c : Coil) : resourceOf (axisOfCoil c) = .hyd := by cases c <;> rfl

theorem worked_coilWatchStep (c : Coil) (n : Nat) : Worked [.hyd] [] [c] s (coilWatchStep c n s) := by
  unfold coilWatchStep
  dsimp only
  split
  · split
    · have set := worked_coilWatch h c .disarmed
      have fault := worked_setFault set.tended.sound (axisOfCoil c) .coilshort (some c)
      rw [resourceOf_coil] at fault
      split
      · exact set.after (fault.widen (fun _ m => m) (fun _ m => m) (List.nil_subset _))
      · exact set
    · exact worked_coilWatch h c .armed
  · exact worked_refl h

/-- R91: the LIFT output reported. -/
theorem worked_reportLiftOutput : Worked [] [] [] s (reportLiftOutput s) := by
  refine ⟨⟨h.of_grant rfl, rfl, rfl, fun k hk => ⟨k, hk, rfl, rfl⟩, fun l => ⟨rfl, fun _ m => m⟩, fun _ _ => rfl,
    fun a none coded => absurd none coded, fun _ => ⟨rfl, rfl⟩⟩, shaped_of_same rfl rfl, fun q _ =>
    spared_of_same rfl rfl rfl, fun _ _ => rfl, rfl⟩

/-! ## The axes (R91) -/

omit h in
/-- A step that changes no grant, no coil watch and, of the drive shaper, one axis alone. -/
theorem shaped_of_axis {a : Axis} {t : State} (grant : t.grant = s.grant) (shaper : Shaper s t)
    (others : ∀ b, b ≠ a → Undisturbed b s t) : Shaped [a] [] s t where
  shaper := by
    unfold Shaper at shaper ⊢
    rw [shaper]
  watch := fun k _ => by rw [shaper]
  falls := fun b n => (others b ((fun e => n (List.mem_singleton.mpr e)))).falls
  stays := fun g hg _ _ => ⟨by rw [grant]; exact hg, fun n => others _ ((fun e => n (List.mem_singleton.mpr e)))⟩
  ends := fun g hg _ _ gone => by
    rw [show livesOn g t = livesOn g s by unfold livesOn; rw [grant], livesOn_self hg] at gone
    cases gone

theorem worked_of_axis {a : Axis} {t : State} (held : t = s.setDrive t.drive) (shaper : Shaper s t)
    (others : ∀ b, b ≠ a → Undisturbed b s t) (apart : ∀ b, resourceOf b ≠ resourceOf a → Apart b s t) :
    Worked [resourceOf a] [a] [] s t := by
  have grant : t.grant = s.grant := by rw [held]; rfl
  refine ⟨tended_of_blocks h (by rw [held]; rfl), shaped_of_axis grant shaper others, fun q n => ?_,
    fun _ _ => by rw [held]; rfl, by rw [held]; rfl⟩
  have other : q ≠ resourceOf a := fun e => n (List.mem_singleton.mpr e)
  refine ⟨fun b e => apart b (by rw [e]; exact other), fun hyd => ?_, fun _ _ => by rw [grant], by
    unfold slotOf; rw [grant]⟩
  refine (others .fold ?_).travel rfl
  rintro rfl
  exact other hyd

theorem worked_zeroAxis (a : Axis) : Worked [resourceOf a] [a] [] s (s.setDrive (zeroAxis a s.drive)) := by
  refine worked_of_axis h rfl ?_ (fun b n => ⟨?_, fun c e => ?_, fun m e => ?_, fun e => ?_⟩) fun b other =>
    ⟨?_, ?_, ?_, fun c e => ?_, fun m e => ?_, fun _ _ => rfl, fun _ _ => rfl, fun _ => ?_⟩
  · cases a <;> rfl
  · cases a <;> exact PerAxis.get_set_ne _ _ n
  · subst e
    cases a <;> cases c <;> first | rfl | exact absurd rfl n
  · subst e
    cases a <;> cases m <;> first | rfl | exact absurd rfl n
  · cases a <;> rfl
  · cases a <;> exact PerAxis.get_set_ne _ _ fun e => other (by rw [e])
  · cases a <;> rfl
  · cases a <;> rfl
  · subst e
    cases a <;> cases c <;> first | rfl | exact absurd rfl other
  · subst e
    cases a <;> cases m <;> first | exact ⟨rfl, rfl⟩ | exact absurd rfl other
  · cases a <;> rfl

/-- R91: the output and the start delay of an axis set. -/
theorem worked_setOutput (a : Axis) (o : Nat) (d : Option Nat) : Worked [resourceOf a] [a] [] s (s.setDrive
    { s.drive with output := s.drive.output.set a o, startDelay := s.drive.startDelay.set a d }) := by
  refine worked_of_axis h rfl rfl (fun b n => ⟨PerAxis.get_set_ne _ _ n, fun _ _ => rfl, fun _ _ => rfl, fun _ => rfl⟩)
    fun b other => ⟨?_, rfl, ?_, fun _ _ => rfl, fun _ _ => ⟨rfl, rfl⟩, fun _ _ => rfl, fun _ _ => rfl, fun _ => rfl⟩
  · exact PerAxis.get_set_ne _ _ fun e => other (by rw [e])
  · exact PerAxis.get_set_ne _ _ fun e => other (by rw [e])

theorem worked_driveAxis {g : Grant} (hg : g ∈ s.grant.table) :
    Worked [resourceOf g.axis] [g.axis] [] s (driveAxis g s) := by
  have set := worked_setOutput h g.axis (nextOutput g s) (nextDelay (s.drive.startDelay.get g.axis))
  unfold driveAxis
  dsimp only
  split
  · have live : g ∈ (s.setDrive { s.drive with
        output := s.drive.output.set g.axis (nextOutput g s)
        startDelay := s.drive.startDelay.set g.axis (nextDelay (s.drive.startDelay.get g.axis)) }).grant.table := hg
    exact set.after ((worked_retire set.tended.sound live _).widen (fun _ m => m) (List.nil_subset _)
      (fun _ m => m))
  · exact set

theorem worked_setCoil (c : Coil) : Worked [.hyd] [axisOfCoil c] [] s (setCoil c s) := by
  have set := worked_of_axis (a := axisOfCoil c) (t := setCoil c s) h rfl rfl
    (fun b n => ⟨rfl, fun k e => PerCoil.get_set_ne _ _ (by rintro rfl; exact n e.symm), fun _ _ => rfl, fun _ => rfl⟩)
    fun b other => ⟨rfl, rfl, rfl, fun k e => PerCoil.get_set_ne _ _ (by rintro rfl; exact other (by rw [e])),
      fun _ _ => ⟨rfl, rfl⟩, fun _ _ => rfl, fun _ _ => rfl, fun _ => rfl⟩
  rwa [resourceOf_coil] at set

theorem worked_setDuty (m : Motor) (n : Nat) : Worked [resourceOf (axisOfMotor m)] [axisOfMotor m] [] s
    (s.setDrive { s.drive with duty := s.drive.duty.set m n }) :=
  worked_of_axis h rfl rfl
    (fun b other => ⟨rfl, fun _ _ => rfl, fun k e => PerMotor.get_set_ne _ _ (by rintro rfl; exact other e.symm),
      fun _ => rfl⟩)
    fun b other => ⟨rfl, rfl, rfl, fun _ _ => rfl, fun k e =>
      ⟨PerMotor.get_set_ne _ _ (by rintro rfl; exact other (by rw [e])), rfl⟩,
      fun _ _ => rfl, fun _ _ => rfl, fun _ => rfl⟩

theorem worked_setActuator (a : Axis) : Worked [resourceOf a] [a] [] s (setActuator a s) := by
  cases a with
  | lift =>
    have first := worked_setCoil h .c1
    exact first.after (worked_setCoil first.tended.sound .c2)
  | tilt => exact worked_setCoil h .c3
  | fold => exact worked_setCoil h .c4
  | shut => exact worked_setDuty h .shut _
  | ndor => exact worked_setDuty h .ndor _
  | odor => exact worked_setDuty h .odor _

theorem worked_setTravel (n : Option Nat) :
    Worked [.hyd] [.fold] [] s (s.setDrive { s.drive with foldTravel := n }) :=
  worked_of_axis (a := .fold) (t := s.setDrive { s.drive with foldTravel := n }) h rfl rfl
    (fun _ other => ⟨rfl, fun _ _ => rfl, fun _ _ => rfl, fun e => absurd e other⟩)
    fun _ _ => ⟨rfl, rfl, rfl, fun _ _ => rfl, fun _ _ => ⟨rfl, rfl⟩, fun _ _ => rfl, fun _ _ => rfl, fun _ => rfl⟩

theorem worked_foldTravelFault : Worked [.hyd] [.fold] [] s (foldTravelFault s) := by
  have set := worked_setTravel h none
  exact set.after ((worked_setFault set.tended.sound .fold .travel none).widen (fun _ m => m) (List.nil_subset _)
    (fun _ m => m))

theorem worked_foldTravelStep : Worked [.hyd] [.fold] [] s (foldTravelStep s) := by
  unfold foldTravelStep
  dsimp only
  split
  · next t g _ _ =>
    split
    · exact worked_setTravel h _
    · split
      · exact worked_refl h
      · have set := worked_setTravel h (some (t + periodMs))
        split
        · exact set.after (worked_foldTravelFault set.tended.sound)
        · exact set
  · exact worked_refl h

theorem worked_axisPeriod (a : Axis) : Worked [resourceOf a] [a] [] s (axisPeriod a s) := by
  unfold axisPeriod
  split
  · exact worked_zeroAxis h a
  · next g driving =>
    obtain ⟨hg, rfl, -⟩ := drivingGrant_some s driving
    have driven := worked_driveAxis h hg
    have set := driven.after (worked_setActuator driven.tended.sound g.axis)
    dsimp only
    split
    · next fold =>
      have travels := worked_foldTravelStep set.tended.sound
      rw [fold] at set travels ⊢
      exact set.after travels
    · exact set

/-- R111: the outputs forced off. -/
theorem worked_forceOutputs : Worked [.hyd, .shut, .ndor, .odor] Axis.list [] s (forceOutputs s) := by
  refine ⟨tended_of_blocks h rfl, ⟨rfl, fun _ _ => rfl, fun a n => absurd ?_ n,
    fun g hg _ _ => ⟨hg, fun n => absurd ?_ n⟩,
    fun g _ _ n => absurd ?_ n⟩, fun q n => absurd ?_ n, fun _ _ => rfl, rfl⟩
  · exact mem_axisList a
  · exact mem_axisList _
  · exact mem_axisList _
  · cases q <;> decide

end

end Sys2Proof.Machine.Steps
end

section
/-! The axes of a control period (R91): what each axis' step makes of its output, its coils, its duty and the FOLD
travel time. -/

namespace Sys2Proof.Machine.Steps

open Motion Holds

/-! ## What the outputs rest on (R94 to R100, R106, R107) -/

theorem nextOutput_of_tended {s u : State} (tended : Tended s u) {g : Grant} (apart : Apart g.axis s u) :
    nextOutput g u = nextOutput g s := by
  have limit : effectiveLimit g.axis g.sense u = effectiveLimit g.axis g.sense s := by
    rw [tended.frame]
    rfl
  have gate : gateOf g.axis u = gateOf g.axis s := by
    unfold gateOf
    cases e : g.axis with
    | lift | tilt | fold => rfl
    | shut => exact congrArg PanelRecord.gate (apart.panel .shut e.symm)
    | ndor => exact congrArg PanelRecord.gate (apart.panel .ndor e.symm)
    | odor => exact congrArg PanelRecord.gate (apart.panel .odor e.symm)
  unfold nextOutput
  dsimp only
  rw [limit, gate, apart.output, apart.delay, tended.config]

/-- R91, R106, R107, R109: the drive of an axis after its period. -/
structure Driven (g : Grant) (s t : State) : Prop where
  output : t.drive.output.get g.axis = nextOutput g s
  coil : ∀ c, axisOfCoil c = g.axis → t.drive.coil.get c =
    if coilOf g.axis g.sense = some c then commandAt c (nextOutput g s) s else 0
  duty : ∀ m, axisOfMotor m = g.axis → t.drive.duty.get m = nextOutput g s

theorem Driven.after {g : Grant} {s t u : State} (h : Driven g s t) (k : Undisturbed g.axis t u) : Driven g s u :=
  ⟨k.output.trans h.output, fun c e => (k.coil c e).trans (h.coil c e),
    fun m e => (k.duty m e).trans (h.duty m e)⟩

/-- R106, R107: the command of a channel of an axis with a driving grant. -/
theorem coilCommand_driven {c : Coil} {g : Grant} {u : State} (driving : drivingGrant (axisOfCoil c) u = some g) :
    coilCommand c u =
      if coilOf g.axis g.sense = some c then commandAt c (u.drive.output.get g.axis) u else 0 := by
  unfold coilCommand channelBase
  rw [driving]
  dsimp only
  by_cases own : coilOf g.axis g.sense = some c
  · rw [if_pos own, if_pos own]
    unfold ditherCommand commandAt baseCurrent
    dsimp only
    cases u.drive.ditherPhase <;> rfl
  · rw [if_neg own, if_neg own]
    rfl

/-- R91 steps 2 to 6: an axis as its driving grant's period sets it. -/
def periodSet (g : Grant) (s : State) : State := s.setDrive { s.drive with
  output := s.drive.output.set g.axis (nextOutput g s)
  startDelay := s.drive.startDelay.set g.axis (nextDelay (s.drive.startDelay.get g.axis)) }

section
variable {s : State} {a : Axis} {g : Grant} (driving : drivingGrant a s = some g)
include driving

/-- R106, R107, R109: the coils and the duty set from the output. -/
theorem driven_setActuator : Driven g s (setActuator a (periodSet g s)) ∧
    (setActuator a (periodSet g s)).grant = s.grant ∧ (setActuator a (periodSet g s)).panel = s.panel ∧
    (setActuator a (periodSet g s)).axis = s.axis ∧
    (setActuator a (periodSet g s)).drive.foldTravel = s.drive.foldTravel := by
  obtain ⟨-, axis, -⟩ := drivingGrant_some s driving
  have output : (periodSet g s).drive.output.get g.axis = nextOutput g s := PerAxis.get_set_same _ _ _
  have command (c : Coil) (e : axisOfCoil c = a) (x : PerCoil Nat) :
      coilCommand c ((periodSet g s).setDrive { (periodSet g s).drive with coil := x }) =
        if coilOf g.axis g.sense = some c then commandAt c (nextOutput g s) s else 0 := by
    refine (coilCommand_driven (g := g) (by rw [e]; exact driving)).trans ?_
    show (if _ then commandAt c ((periodSet g s).drive.output.get g.axis) _ else 0) = _
    rw [output]
    rfl
  have first (c : Coil) (e : axisOfCoil c = a) : coilCommand c (periodSet g s) =
      if coilOf g.axis g.sense = some c then commandAt c (nextOutput g s) s else 0 :=
    command c e (periodSet g s).drive.coil
  cases a with
  | lift =>
    refine ⟨⟨output, fun c e => ?_, fun m e => ?_⟩, rfl, rfl, rfl, rfl⟩
    · rw [axis] at e
      cases c <;> cases e
      · exact first .c1 rfl
      · exact command .c2 rfl _
    · rw [axis] at e
      cases m <;> cases e
  | tilt =>
    refine ⟨⟨output, fun c e => ?_, fun m e => ?_⟩, rfl, rfl, rfl, rfl⟩
    · rw [axis] at e
      cases c <;> cases e
      exact first .c3 rfl
    · rw [axis] at e
      cases m <;> cases e
  | fold =>
    refine ⟨⟨output, fun c e => ?_, fun m e => ?_⟩, rfl, rfl, rfl, rfl⟩
    · rw [axis] at e
      cases c <;> cases e
      exact first .c4 rfl
    · rw [axis] at e
      cases m <;> cases e
  | shut | ndor | odor =>
    refine ⟨⟨output, fun c e => ?_, fun m e => ?_⟩, rfl, rfl, rfl, rfl⟩
    · rw [axis] at e
      cases c <;> cases e
    · rw [axis] at e
      rw [axis] at output
      cases m <;> cases e
      exact output

end

/-! ## Endings and faults within the period (R22, R66) -/

theorem endedFor_retire {s : State} (h : Sound s) {g : Grant} (hg : g ∈ s.grant.table) {r : Reason}
    (told : r ≠ .released) : EndedFor g r s (retire g r s) := by
  have retired := retired_one (r := r) h hg
  refine ⟨retired.gone (List.mem_singleton_self g), fun up => ?_⟩
  rw [told_queue retired.ended.told, gendsTo_eq, if_pos up]
  refine List.mem_append_right _ (List.mem_map.mpr ⟨(g, r), List.mem_filter.mpr ⟨List.mem_singleton_self _, ?_⟩, rfl⟩)
  exact decide_eq_true ⟨rfl, told⟩

theorem EndedFor.before {g : Grant} {r : Reason} {s t u : State} (tended : Tended s t) (h : EndedFor g r t u) :
    EndedFor g r s u :=
  ⟨h.1, fun up => h.2 ((tended.port _).1.trans up)⟩

theorem EndedFor.after {g : Grant} {r : Reason} {s t u : State} (h : EndedFor g r s t)
    (tended : Tended t u) : EndedFor g r s u := by
  refine ⟨?_, fun up => (tended.port _).2 _ (h.2 up)⟩
  rw [← Bool.not_eq_true]
  intro lives
  exact nomatch (lives_back tended.origin lives).symm.trans h.1

/-- R66: a fault set cuts the grants of its axis and records its code. -/
theorem setFault_ends {s : State} (h : Sound s) {g : Grant} (hg : g ∈ s.grant.table)
    (fitted : s.axis.fitted.get g.axis = true) (sound : s.axis.fault.get g.axis = none) (code : FaultCode)
    (coil : Option Coil) : EndedFor g .fault s (setFault g.axis code coil s) ∧
      (setFault g.axis code coil s).axis.fault.get g.axis = some code := by
  have retired := retired_faultCut h g.axis code
  obtain ⟨-, -, frame⟩ := faulted_setFault h fitted sound code coil
  have told := retired.ended.told
  have cuts := retired.ended.frame
  have own : g ∈ faultedGrants g.axis s := mem_inTurn.mpr ⟨hg, decide_eq_true rfl⟩
  have gone := retired.gone own
  generalize faultCut g.axis code s = c at *
  generalize setFault g.axis code coil s = t at *
  have told' : Told ((faultedGrants g.axis s).map fun g => (g, .fault)) s t :=
    told_of_port (told_rebase (s := s) told rfl) (by rw [frame]; rfl)
  refine ⟨⟨?_, fun up => ?_⟩, ?_⟩
  · unfold livesOn at gone ⊢
    rw [frame]
    exact gone
  · rw [told_queue told', gendsTo_eq, if_pos up]
    refine List.mem_append_right _ (List.mem_map.mpr ⟨(g, .fault), List.mem_filter.mpr
      ⟨List.mem_map.mpr ⟨g, own, rfl⟩, ?_⟩, rfl⟩)
    exact decide_eq_true ⟨rfl, nofun⟩
  · rw [frame]
    show c.axis.fault.get g.axis = _
    rw [cuts]
    exact PerAxis.get_set_same _ _ _

/-! ## The FOLD travel time (R110) -/

/-- R110: the FOLD travel time of a period that ends no grant. -/
def travelled (g : Grant) (n : Nat) (s : State) : Nat :=
  if endFlag .fold g.sense s then 0 else if s.drive.output.get .fold = 0 then n else n + 10

section
variable {s : State} {g : Grant} (driving : drivingGrant .fold s = some g)
include driving

theorem foldTravelStep_eq {n : Nat} (travel : s.drive.foldTravel = some n) : foldTravelStep s =
    if endFlag .fold g.sense s = false ∧ s.drive.output.get .fold ≠ 0 ∧ 10000 < n + 10 then
      foldTravelFault (s.setDrive { s.drive with foldTravel := some (n + 10) })
    else s.setDrive { s.drive with foldTravel := some (travelled g n s) } := by
  have step : foldTravelStep s =
      if endFlag .fold g.sense s = true then s.setDrive { s.drive with foldTravel := some 0 }
      else if s.drive.output.get .fold = 0 then s
      else if 10000 < n + 10 then foldTravelFault (s.setDrive { s.drive with foldTravel := some (n + 10) })
      else s.setDrive { s.drive with foldTravel := some (n + 10) } := by
    unfold foldTravelStep
    rw [travel, driving]
    rfl
  have same : s = s.setDrive { s.drive with foldTravel := some n } := by
    rw [← travel]
    rfl
  rw [step]
  by_cases atEnd : endFlag .fold g.sense s = true
  · have value : travelled g n s = 0 := if_pos atEnd
    rw [if_pos atEnd, if_neg (fun k => nomatch k.1.symm.trans atEnd), value]
  have away : endFlag .fold g.sense s = false := by rwa [Bool.not_eq_true] at atEnd
  have value : travelled g n s = if s.drive.output.get .fold = 0 then n else n + 10 := if_neg atEnd
  rw [if_neg atEnd, value]
  by_cases still : s.drive.output.get .fold = 0
  · rw [if_pos still, if_pos still, if_neg fun k => k.2.1 still]
    exact same
  rw [if_neg still, if_neg still]
  by_cases far : 10000 < n + 10
  · rw [if_pos far, if_pos ⟨away, still, far⟩]
  · rw [if_neg far, if_neg fun k => far k.2.2]

end

theorem foldTravelStep_none {s : State} (travel : s.drive.foldTravel = none) : foldTravelStep s = s := by
  unfold foldTravelStep
  rw [travel]

/-- R110: the travel time of an axis at rest faults nothing. -/
theorem foldTravelStep_rests {s : State} (rests : s.drive.output.get .fold = 0) :
    foldTravelStep s = s.setDrive { s.drive with foldTravel := (foldTravelStep s).drive.foldTravel } := by
  cases travel : s.drive.foldTravel with
  | none =>
    rw [foldTravelStep_none travel]
    rfl
  | some n =>
    cases driving : drivingGrant .fold s with
    | none =>
      have same : foldTravelStep s = s := by
        unfold foldTravelStep
        rw [travel, driving]
      rw [same]
      rfl
    | some g =>
      rw [foldTravelStep_eq driving travel, if_neg fun k => k.2.1 rests]
      rfl

/-- R110: what the travel step of a driving FOLD grant does. -/
theorem foldTravelStep_cases {s : State} {g : Grant} (h : Sound s) (driving : drivingGrant .fold s = some g) :
    (foldTravelStep s = s.setDrive { s.drive with foldTravel := (foldTravelStep s).drive.foldTravel } ∨
      livesOn g (foldTravelStep s) = false ∧ AtZero .fold (foldTravelStep s)) ∧
    ∀ n, s.drive.foldTravel = some n →
      ((endFlag .fold g.sense s = true ∨ n + 10 ≤ 10000) →
        foldTravelStep s = s.setDrive { s.drive with foldTravel := some (travelled g n s) }) ∧
      (endFlag .fold g.sense s = false → s.drive.output.get .fold ≠ 0 → 10000 < n + 10 →
        s.axis.fitted.fold = true → s.axis.fault.fold = none →
        EndedFor g .fault s (foldTravelStep s) ∧ (foldTravelStep s).axis.fault.fold = some .travel) := by
  obtain ⟨hg, axis, holds, -⟩ := drivingGrant_some s driving
  have fault (n : Nat) (fitted : s.axis.fitted.fold = true) (sound : s.axis.fault.fold = none) :
      EndedFor g .fault s (foldTravelFault (s.setDrive { s.drive with foldTravel := some n })) ∧
        (foldTravelFault (s.setDrive { s.drive with foldTravel := some n })).axis.fault.fold = some .travel ∧
        AtZero .fold (foldTravelFault (s.setDrive { s.drive with foldTravel := some n })) := by
    have sound' : Sound (s.setDrive { s.drive with foldTravel := none }) := h.of_grant rfl
    have sets := setFault_ends (g := g) sound' hg (by rw [axis]; exact fitted) (by rw [axis]; exact sound) .travel none
    have ends := (worked_setFault sound' .fold .travel none).shaped.ends g hg holds List.not_mem_nil
    rw [axis] at sets ends
    obtain ⟨ended, code⟩ := sets
    exact ⟨ended, code, ends ended.1⟩
  cases travel : s.drive.foldTravel with
  | none =>
    refine ⟨.inl ?_, nofun⟩
    rw [foldTravelStep_none travel]
    rfl
  | some n =>
    have eq := foldTravelStep_eq driving travel
    refine ⟨?_, fun k e => ?_⟩
    · by_cases far : endFlag .fold g.sense s = false ∧ s.drive.output.get .fold ≠ 0 ∧ 10000 < n + 10
      · rw [eq, if_pos far]
        by_cases taken : s.axis.fitted.fold = true ∧ s.axis.fault.fold = none
        · obtain ⟨ended, -, zero⟩ := fault (n + 10) taken.1 taken.2
          exact .inr ⟨ended.1, zero⟩
        · left
          unfold foldTravelFault
          rw [setFault_dropped (by
            cases e : s.axis.fitted.fold with
            | false => exact .inl e
            | true => exact .inr fun none => taken ⟨e, none⟩)]
          rfl
      · rw [eq, if_neg far]
        exact .inl rfl
    · cases e
      refine ⟨fun near => eq.trans (if_neg fun far => ?_), fun away moves far fitted sound => ?_⟩
      · rcases near with atEnd | short
        · exact nomatch far.1.symm.trans atEnd
        · omega
      · rw [eq, if_pos ⟨away, moves, far⟩]
        obtain ⟨ended, code, -⟩ := fault (n + 10) fitted sound
        exact ⟨ended, code⟩

/-! ## One axis' step (R91) -/

/-- R91: the axis with no driving grant rests. -/
theorem axisPeriod_idle {a : Axis} {s : State} (idle : drivingGrant a s = none) :
    axisPeriod a s = s.setDrive (zeroAxis a s.drive) := by
  unfold axisPeriod
  rw [idle]

theorem atZero_zeroAxis (a : Axis) (s : State) : AtZero a (s.setDrive (zeroAxis a s.drive)) := by
  constructor
  · cases a <;> rfl
  · intro c e
    cases a <;> cases c <;> first | rfl | cases e
  · intro m e
    cases a <;> cases m <;> first | rfl | cases e

/-- R91, R106: an axis whose output is 0 is set to 0. -/
theorem atZero_setActuator {a : Axis} {s : State} (h : AtZero a s) : AtZero a (setActuator a s) := by
  have rests (c : Coil) (e : axisOfCoil c = a) (x : PerCoil Nat) :
      coilCommand c (s.setDrive { s.drive with coil := x }) = 0 := by
    have base : channelBase c (s.setDrive { s.drive with coil := x }) = 0 := by
      unfold channelBase
      split
      · rfl
      · next g driving =>
        obtain ⟨-, axis, -⟩ := drivingGrant_some _ driving
        split
        · rw [axis, e]
          show baseCurrent _ _ (s.drive.output.get a) = 0
          rw [h.output]
          rfl
        · rfl
    unfold coilCommand
    rw [base]
    rfl
  have first (c : Coil) (e : axisOfCoil c = a) : coilCommand c s = 0 := rests c e s.drive.coil
  have output := h.output
  cases a with
  | lift =>
    refine ⟨output, fun c e => ?_, fun m e => by cases m <;> cases e⟩
    cases c <;> cases e
    · exact first .c1 rfl
    · exact rests .c2 rfl _
  | tilt =>
    refine ⟨output, fun c e => ?_, fun m e => by cases m <;> cases e⟩
    cases c <;> cases e
    exact first .c3 rfl
  | fold =>
    refine ⟨output, fun c e => ?_, fun m e => by cases m <;> cases e⟩
    cases c <;> cases e
    exact first .c4 rfl
  | shut | ndor | odor =>
    refine ⟨output, fun c e => (by cases c <;> cases e), fun m e => ?_⟩
    cases m <;> cases e
    exact output

theorem atZero_foldTravelStep {s : State} (h : AtZero .fold s) : AtZero .fold (foldTravelStep s) := by
  rw [foldTravelStep_rests h.output]
  exact ⟨h.output, h.coil, h.duty⟩

/-- R91 step 7: the FOLD travel time after the actuators. -/
def travelAfter (a : Axis) (s : State) : State := if a = .fold then foldTravelStep s else s

section
variable {s : State} {a : Axis} {g : Grant} (driving : drivingGrant a s = some g)
include driving

/-- R91 step 5: an EASING grant whose output comes to 0 is retired, before the actuators are set. -/
theorem axisPeriod_rundown (rundown : g.state = .easing ∧ nextOutput g s = 0) : axisPeriod a s =
    travelAfter a (setActuator a (retire g (g.reason.getD .released) (periodSet g s))) := by
  unfold axisPeriod
  rw [driving]
  unfold driveAxis
  dsimp only
  rw [if_pos rundown]
  rfl

theorem axisPeriod_runs (runs : ¬ (g.state = .easing ∧ nextOutput g s = 0)) :
    axisPeriod a s = travelAfter a (setActuator a (periodSet g s)) := by
  unfold axisPeriod
  rw [driving]
  unfold driveAxis
  dsimp only
  rw [if_neg runs]
  rfl

end

/-- R91: what the period of an axis makes of its driving grant. -/
structure AxisDriven (g : Grant) (s t : State) : Prop where
  live : livesOn g t = true → g ∈ t.grant.table ∧ Driven g s t ∧
    ∀ m, axisOfMotor m = g.axis → panelOf m t = panelOf m s
  ended : livesOn g t = false → AtZero g.axis t
  rundown : g.state = .easing → nextOutput g s = 0 → livesOn g t = false
  motor : ∀ m, axisOfMotor m = g.axis → ¬ (g.state = .easing ∧ nextOutput g s = 0) → livesOn g t = true

theorem axisDriven_axisPeriod {s : State} (h : Sound s) {a : Axis} {g : Grant} (driving : drivingGrant a s = some g) :
    AxisDriven g s (axisPeriod a s) := by
  obtain ⟨hg, axis, holds, -⟩ := drivingGrant_some s driving
  by_cases rundown : g.state = .easing ∧ nextOutput g s = 0
  · have eq := axisPeriod_rundown driving rundown
    have set := worked_setOutput h g.axis (nextOutput g s) (nextDelay (s.drive.startDelay.get g.axis))
    have live : g ∈ (periodSet g s).grant.table := hg
    have retired := retired_one (r := g.reason.getD .released) set.tended.sound live
    have gone := retired.gone (List.mem_singleton_self g)
    obtain ⟨output, coil, duty⟩ := retire_zero set.tended.sound live (g.reason.getD .released) holds
    have worked : Tended (retire g (g.reason.getD .released) (periodSet g s)) (axisPeriod a s) := by
      have actuated := worked_setActuator retired.sound a
      rw [eq]
      unfold travelAfter
      split
      · exact actuated.tended.trans (worked_foldTravelStep actuated.tended.sound).tended
      · exact actuated.tended
    have ended : livesOn g (axisPeriod a s) = false := by
      rw [← Bool.not_eq_true]
      intro lives
      exact nomatch (lives_back worked.origin lives).symm.trans gone
    refine ⟨fun lives => (nomatch lives.symm.trans ended), fun _ => ?_, fun _ _ => ended,
      fun _ _ runs => absurd rundown runs⟩
    have zero : AtZero a (setActuator a (retire g (g.reason.getD .released) (periodSet g s))) :=
      atZero_setActuator (by rw [← axis]; exact ⟨output, coil, duty⟩)
    rw [axis, eq]
    unfold travelAfter
    split
    · next fold =>
      subst fold
      exact atZero_foldTravelStep zero
    · exact zero
  · have eq := axisPeriod_runs driving rundown
    obtain ⟨driven, grant, panel, -⟩ := driven_setActuator driving
    have sound : Sound (setActuator a (periodSet g s)) := h.of_grant grant
    have stays : g ∈ (setActuator a (periodSet g s)).grant.table := by rw [grant]; exact hg
    by_cases fold : a = .fold
    · subst fold
      have driving' : drivingGrant .fold (setActuator .fold (periodSet g s)) = some g := driving
      have cases' := (foldTravelStep_cases sound driving').1
      have eq' : axisPeriod .fold s = foldTravelStep (setActuator .fold (periodSet g s)) := eq
      rw [eq']
      generalize setActuator .fold (periodSet g s) = u at *
      rcases cases' with same | ⟨gone, zero⟩
      · rw [same]
        refine ⟨fun _ => ⟨stays, ⟨driven.output, driven.coil, driven.duty⟩,
            fun m _ => congrArg (·.axis.get m) panel⟩, fun gone => ?_,
          fun easing zero => absurd ⟨easing, zero⟩ rundown, fun m e => by rw [axis] at e; cases m <;> cases e⟩
        exact nomatch (livesOn_self stays).symm.trans gone
      · exact ⟨fun lives => (nomatch lives.symm.trans gone), fun _ => by rw [axis]; exact zero,
          fun easing zero => absurd ⟨easing, zero⟩ rundown, fun m e => by rw [axis] at e; cases m <;> cases e⟩
    · rw [eq, show travelAfter a (setActuator a (periodSet g s)) = setActuator a (periodSet g s) from if_neg fold]
      exact ⟨fun _ => ⟨stays, driven, fun m _ => congrArg (·.axis.get m) panel⟩,
        fun gone => (nomatch (livesOn_self stays).symm.trans gone),
        fun easing zero => absurd ⟨easing, zero⟩ rundown, fun _ _ _ => livesOn_self stays⟩

end Sys2Proof.Machine.Steps
end

section
/-! The six axes of a control period, one after another (R91, log 48). -/

namespace Sys2Proof.Machine.Steps

open Motion Holds

/-! ## The axis' own step among the others -/

section
variable {g : Grant} {s u v t : State}

theorem AxisDriven.before {rs : List Resource} {as : List Axis} {ks : List Coil} (worked : Worked rs as ks s u)
    (apart : Apart g.axis s u) (h : AxisDriven g u v) : AxisDriven g s v := by
  have next := nextOutput_of_tended worked.tended apart
  have phase : u.drive.ditherPhase = s.drive.ditherPhase := by
    have shaper := worked.shaped.shaper
    unfold Shaper at shaper
    rw [shaper]
  have command (c : Coil) (o : Nat) : commandAt c o u = commandAt c o s := by
    unfold commandAt
    rw [phase, worked.tended.config]
  obtain ⟨live, ended, rundown, motor⟩ := h
  rw [next] at rundown motor
  refine ⟨fun lives => ?_, ended, rundown, motor⟩
  obtain ⟨mem, driven, panel⟩ := live lives
  refine ⟨mem, ⟨next ▸ driven.output, fun c e => ?_, fun m e => (driven.duty m e).trans next⟩,
    fun m e => (panel m e).trans (apart.panel m e)⟩
  rw [driven.coil c e, next, command]

theorem AxisDriven.after {rs : List Resource} {as : List Axis} {ks : List Coil} (h : AxisDriven g s v)
    (holds : g.state ≠ .waiting) (worked : Worked rs as ks v t) (other : g.axis ∉ as)
    (spared : ∀ m, axisOfMotor m = g.axis → resourceOf g.axis ∉ rs) : AxisDriven g s t := by
  have back {x : Bool} (lives : livesOn g t = x) (gone : livesOn g v = false) : x = false := by
    cases x with
    | false => rfl
    | true => exact (lives_back worked.tended.origin lives).symm.trans gone
  refine ⟨fun lives => ?_, fun gone => ?_, fun easing zero => back rfl (h.rundown easing zero), fun m e runs => ?_⟩
  · obtain ⟨mem, driven, panel⟩ := h.live (lives_back worked.tended.origin lives)
    obtain ⟨stays, same⟩ := worked.shaped.stays g mem holds lives
    exact ⟨stays, driven.after (same other), fun m e =>
      (((worked.spared _ (spared m e)).apart _ rfl).panel m e).trans (panel m e)⟩
  · cases before : livesOn g v with
    | false => exact (worked.shaped.falls _ other).atZero (h.ended before)
    | true => exact worked.shaped.ends g (h.live before).1 holds other gone
  · obtain ⟨mem, -⟩ := h.live (h.motor m e runs)
    exact livesOn_self (((worked.spared _ (spared m e)).table g rfl).mpr mem)

end

/-- R92: an axis whose resource is held for another has no driving grant. -/
theorem drivingGrant_other {s : State} {a b : Axis} {g : Grant} (driving : drivingGrant a s = some g) (n : b ≠ a)
    (h : Sound s) (same : resourceOf b = resourceOf a) : drivingGrant b s = none := by
  obtain ⟨hg, axis, -, holder⟩ := drivingGrant_some s driving
  unfold drivingGrant
  rw [same, holder]
  dsimp only
  rw [h.find hg]
  exact if_neg fun k => n (k.1.symm.trans axis)

theorem apart_zeroAxis {a b : Axis} (n : a ≠ b) (s : State) : Apart a s (s.setDrive (zeroAxis b s.drive)) := by
  refine ⟨?_, ?_, ?_, fun c e => ?_, fun m e => ?_, fun _ _ => rfl, fun _ _ => rfl, fun _ => ?_⟩
  · cases b <;> exact PerAxis.get_set_ne _ _ n
  · cases b <;> rfl
  · cases b <;> rfl
  · subst e
    cases b <;> cases c <;> first | rfl | exact absurd rfl n
  · subst e
    cases b <;> cases m <;> first | exact ⟨rfl, rfl⟩ | exact absurd rfl n
  · cases b <;> rfl

/-- R91: the driving grant of an axis is not touched by another axis' period. -/
theorem axisPeriod_reaches {s : State} (h : Sound s) {a b : Axis} {g : Grant} (driving : drivingGrant a s = some g)
    (n : a ≠ b) : drivingGrant a (axisPeriod b s) = some g ∧ Apart a s (axisPeriod b s) ∧
      (a = .fold → (axisPeriod b s).drive.foldTravel = s.drive.foldTravel) := by
  have worked := worked_axisPeriod h b
  by_cases same : resourceOf b = resourceOf a
  · have idle := axisPeriod_idle (drivingGrant_other driving (Ne.symm n) h same)
    rw [idle]
    refine ⟨driving, apart_zeroAxis n s, fun _ => ?_⟩
    cases b <;> rfl
  · have spared := worked.spared (resourceOf a) fun m => same (List.mem_singleton.mp m).symm
    refine ⟨?_, spared.apart a rfl, fun e => spared.travel (by rw [e]; rfl)⟩
    rw [spared.driving h worked.tended.sound, driving]

/-! ## One axis after another -/

theorem worked_forEach {α : Type} {f : α → State → State} {rs : α → List Resource} {as : α → List Axis}
    {ks : α → List Coil} (each : ∀ x s, Sound s → Worked (rs x) (as x) (ks x) s (f x s)) (l : List α) {s : State}
    (h : Sound s) : Worked (l.flatMap rs) (l.flatMap as) (l.flatMap ks) s (forEach f l s) := by
  induction l generalizing s with
  | nil => exact worked_refl h
  | cons x xs ih =>
    have first := each x s h
    exact first.trans (ih first.tended.sound)

theorem worked_axes (as : List Axis) {s : State} (h : Sound s) :
    Worked (as.map resourceOf) as [] s (forEach axisPeriod as s) := by
  have all := worked_forEach (ks := fun _ => []) (fun a s k => worked_axisPeriod (s := s) k a) as h
  refine all.widen (fun q m => ?_) (fun a m => ?_) fun k m => ?_
  · obtain ⟨a, ha, e⟩ := List.mem_flatMap.mp m
    exact List.mem_map.mpr ⟨a, ha, (List.mem_singleton.mp e).symm⟩
  · obtain ⟨b, hb, e⟩ := List.mem_flatMap.mp m
    rw [List.mem_singleton.mp e]
    exact hb
  · obtain ⟨_, _, e⟩ := List.mem_flatMap.mp m
    cases e

/-- The axes before an axis and those after it. -/
theorem axes_around (a : Axis) : ∃ pre post, Axis.list = pre ++ a :: post ∧
    (∀ b ∈ pre, a ≠ b ∧ a ≠ .lift ∧ (b = .fold → resourceOf a ≠ .hyd)) ∧ ∀ b ∈ post, a ≠ b := by
  cases a with
  | lift => exact ⟨[], [.tilt, .fold, .shut, .ndor, .odor], rfl, by decide, by decide⟩
  | tilt => exact ⟨[.lift], [.fold, .shut, .ndor, .odor], rfl, by decide, by decide⟩
  | fold => exact ⟨[.lift, .tilt], [.shut, .ndor, .odor], rfl, by decide, by decide⟩
  | shut => exact ⟨[.lift, .tilt, .fold], [.ndor, .odor], rfl, by decide, by decide⟩
  | ndor => exact ⟨[.lift, .tilt, .fold, .shut], [.odor], rfl, by decide, by decide⟩
  | odor => exact ⟨[.lift, .tilt, .fold, .shut, .ndor], [], rfl, by decide, by decide⟩

theorem resource_of_motor {m : Motor} {b : Axis} (e : resourceOf b = resourceOf (axisOfMotor m)) :
    b = axisOfMotor m := by
  cases m <;> cases b <;> first | rfl | cases e

theorem shared_resource {a b : Axis} (n : a ≠ b) (same : resourceOf b = resourceOf a) : resourceOf a = .hyd := by
  cases a <;> cases b <;> first | rfl | exact absurd rfl n | cases same

theorem axes_reach {pre : List Axis} {s : State} (h : Sound s) {a : Axis} {g : Grant}
    (driving : drivingGrant a s = some g) (others : ∀ b ∈ pre, a ≠ b) :
    drivingGrant a (forEach axisPeriod pre s) = some g ∧ Apart a s (forEach axisPeriod pre s) ∧
      (a = .fold → (forEach axisPeriod pre s).drive.foldTravel = s.drive.foldTravel) := by
  induction pre generalizing s with
  | nil => exact ⟨driving, .refl a s, fun _ => rfl⟩
  | cons b bs ih =>
    obtain ⟨first, apart, travel⟩ := axisPeriod_reaches h driving (others b List.mem_cons_self)
    obtain ⟨second, apart', travel'⟩ := ih (worked_axisPeriod h b).tended.sound first fun c hc =>
      others c (List.mem_cons_of_mem _ hc)
    exact ⟨second, apart.trans apart', fun e => (travel' e).trans (travel e)⟩

/-- R91: the states before and after an axis' own step. -/
structure AxisTurn (a : Axis) (s u t : State) : Prop where
  before : ∃ rs as, Worked rs as [] s u
  after : ∃ rs as, Worked rs as [] (axisPeriod a u) t ∧ a ∉ as ∧
    ∀ m, axisOfMotor m = a → resourceOf a ∉ rs
  reaches : ∀ g, drivingGrant a s = some g → drivingGrant a u = some g ∧ Apart a s u ∧
    (a = .fold → u.drive.foldTravel = s.drive.foldTravel)

theorem axis_turn (a : Axis) {s : State} (h : Sound s) :
    ∃ pre, (∀ b ∈ pre, a ≠ b ∧ a ≠ .lift ∧ (b = .fold → resourceOf a ≠ .hyd)) ∧
    AxisTurn a s (forEach axisPeriod pre s) (forEach axisPeriod Axis.list s) := by
  obtain ⟨pre, post, split, early, late⟩ := axes_around a
  refine ⟨pre, early, ⟨_, _, worked_axes pre h⟩, ⟨post.map resourceOf, post, ?_, fun m => late a m rfl,
    fun m e mem => ?_⟩, fun g driving => axes_reach h driving fun b hb => (early b hb).1⟩
  · rw [split]
    show Worked _ _ _ _ (List.foldl _ s (pre ++ a :: post))
    rw [List.foldl_append]
    exact worked_axes post (worked_axisPeriod (worked_axes pre h).tended.sound a).tended.sound
  · obtain ⟨b, hb, same⟩ := List.mem_map.mp mem
    rw [← e] at same
    exact late b hb (by rw [resource_of_motor same, e])

/-- R91: the driving grants after the six axes. -/
theorem axisDriven_axes {s : State} (h : Sound s) {a : Axis} {g : Grant} (driving : drivingGrant a s = some g) :
    AxisDriven g s (forEach axisPeriod Axis.list s) := by
  obtain ⟨pre, -, ⟨rs, as, before⟩, ⟨qs, bs, after, other, spared⟩, reaches⟩ := axis_turn a h
  obtain ⟨-, axis, holds, -⟩ := drivingGrant_some s driving
  obtain ⟨driving', apart, -⟩ := reaches g driving
  have own := axisDriven_axisPeriod before.tended.sound driving'
  rw [← axis] at apart other spared
  exact (own.before before apart).after holds after other spared

/-! ## An axis with no driving grant (R92, R101) -/

/-- R92, R101: nothing drives the axis, or a grant whose period leaves it at 0. -/
def Idle (a : Axis) (s : State) : Prop :=
  drivingGrant a s = none ∨ ∃ g, drivingGrant a s = some g ∧ nextOutput g s = 0

/-- R101: a start delay that runs keeps the output at 0. -/
theorem nextOutput_of_delay {g : Grant} {s : State} {n : Nat}
    (delay : s.drive.startDelay.get g.axis = some (n + 1)) : nextOutput g s = 0 := by
  unfold nextOutput
  dsimp only
  rw [delay]

theorem atZero_of_idle {a : Axis} {s : State} (h : Sound s) (idle : Idle a s) : AtZero a (axisPeriod a s) := by
  rcases idle with none | ⟨g, driving, zero⟩
  · rw [axisPeriod_idle none]
    exact atZero_zeroAxis a s
  · have own := axisDriven_axisPeriod h driving
    obtain ⟨-, axis, -⟩ := drivingGrant_some s driving
    rw [← axis] at own ⊢
    cases lives : livesOn g (axisPeriod g.axis s) with
    | false => exact own.ended lives
    | true =>
      obtain ⟨-, ⟨output, coil, duty⟩, -⟩ := own.live lives
      rw [zero] at output coil duty
      refine ⟨output, fun c e => ?_, duty⟩
      rw [coil c e]
      split
      · rfl
      · rfl

/-- R22, R101: a grant promoted on a platform axis other than LIFT starts with its delay. -/
theorem retire_delays {s : State} (h : Sound s) {g : Grant} (hg : g ∈ s.grant.table) (holds : g.state ≠ .waiting)
    (r : Reason) {a : Axis} (hyd : resourceOf a = .hyd) (same : resourceOf a = resourceOf g.axis) (n : a ≠ .lift)
    {w : Grant} (driving : drivingGrant a (retire g r s) = some w) :
    (retire g r s).drive.startDelay.get a = some startDelayMs := by
  obtain ⟨hw, axis, -, holder⟩ := drivingGrant_some _ driving
  have sound := sound_retire h hg r
  cases alone : (slotOf (resourceOf g.axis) s).waiting with
  | none =>
    obtain ⟨grant, -⟩ := retired_holder h hg r holds alone
    rw [same] at holder
    unfold slotOf at holder
    rw [grant] at holder
    rw [show (s.grant.slots.set (resourceOf g.axis) ⟨none, none⟩).get (resourceOf g.axis) = ⟨none, none⟩ from
      PerResource.get_set_same _ _ _] at holder
    cases holder
  | some y =>
    obtain ⟨x, hx, rfl, place, waiting⟩ := (h.slots.waiting _ _).mp alone
    have eq : retire g r s = gendDue g r (startGrant (promoted x) (succeeding g x s)) :=
      retire_of_promoting h hg r holds hx place waiting
    have grant : (retire g r s).grant = (succeeding g x s).grant := by
      rw [eq, gendDue_grant]
      exact grant_of_view (view_startGrant _ _)
    have own : x.handle = w.handle := by
      rw [same] at holder
      unfold slotOf at holder
      rw [grant, succeeding_grant] at holder
      rw [show (s.grant.slots.set (resourceOf g.axis) ⟨some x.handle, none⟩).get (resourceOf g.axis) =
        ⟨some x.handle, none⟩ from PerResource.get_set_same _ _ _] at holder
      exact Option.some.inj holder
    have axis' : x.axis = a := by
      obtain ⟨origins, -⟩ := retire_table h hg r
      obtain ⟨y, hy, -, rfl | ⟨rfl, -⟩⟩ := origins w hw
      · rw [h.eq_of_handle hx hy own, axis]
      · rw [h.eq_of_handle hx hy own]
        exact axis
    rw [eq, gendDue_drive, startGrant_drive, driveStart_drive]
    have pumps : pumpSense (promoted x).axis (promoted x).sense = true := by
      show pumpSense x.axis x.sense = true
      rw [axis']
      cases a <;> first | rfl | exact absurd rfl n | cases hyd
    dsimp only
    rw [if_pos pumps]
    show (PerAxis.set _ x.axis _).get a = _
    rw [axis']
    exact PerAxis.get_set_same _ _ _

theorem drivingGrant_congr {s t : State} (grant : t.grant = s.grant) (a : Axis) :
    drivingGrant a t = drivingGrant a s := by
  unfold drivingGrant slotOf findGrant
  rw [grant]

theorem setActuator_keeps (a : Axis) (s : State) : (setActuator a s).grant = s.grant ∧
    (setActuator a s).drive.startDelay = s.drive.startDelay ∧ (setActuator a s).axis = s.axis ∧
    (setActuator a s).drive.foldTravel = s.drive.foldTravel ∧ (setActuator a s).panel = s.panel ∧
    (setActuator a s).drive.pumpClosed = s.drive.pumpClosed := by
  cases a <;> exact ⟨rfl, rfl, rfl, rfl, rfl, rfl⟩

/-- R22, R91, log 48: another axis' period leaves an idle axis idle. -/
theorem idle_axisPeriod {s : State} (h : Sound s) {a b : Axis} (n : a ≠ b) (lift : a ≠ .lift)
    (fold : b = .fold → resourceOf a ≠ .hyd) (idle : Idle a s) : Idle a (axisPeriod b s) := by
  have worked := worked_axisPeriod h b
  rcases idle with none | ⟨g, driving, zero⟩
  swap
  · obtain ⟨driving', apart, -⟩ := axisPeriod_reaches h driving n
    obtain ⟨-, axis, -⟩ := drivingGrant_some s driving
    rw [← axis] at apart
    exact .inr ⟨g, driving', (nextOutput_of_tended worked.tended apart).trans zero⟩
  by_cases same : resourceOf b = resourceOf a
  swap
  · have spared := worked.spared (resourceOf a) fun m => same (List.mem_singleton.mp m).symm
    exact .inl ((spared.driving h worked.tended.sound).trans none)
  have hyd := shared_resource n same
  have early : b ≠ .fold := fun e => fold e hyd
  cases driving : drivingGrant b s with
  | none =>
    rw [axisPeriod_idle driving]
    exact .inl ((drivingGrant_congr (s := s) rfl a).trans none)
  | some g =>
    obtain ⟨hg, axis, holds, -⟩ := drivingGrant_some s driving
    by_cases rundown : g.state = .easing ∧ nextOutput g s = 0
    · rw [axisPeriod_rundown driving rundown, travelAfter, if_neg early]
      have set := worked_setOutput h g.axis (nextOutput g s) (nextDelay (s.drive.startDelay.get g.axis))
      have live : g ∈ (periodSet g s).grant.table := hg
      have delays := fun w => retire_delays set.tended.sound live holds (g.reason.getD .released) hyd
        (by rw [axis]; exact same.symm) lift (w := w)
      obtain ⟨grant, delay, -⟩ := setActuator_keeps b (retire g (g.reason.getD .released) (periodSet g s))
      cases promoted : drivingGrant a (retire g (g.reason.getD .released) (periodSet g s)) with
      | none => exact .inl ((drivingGrant_congr grant a).trans promoted)
      | some w =>
        obtain ⟨-, own, -⟩ := drivingGrant_some _ promoted
        refine .inr ⟨w, (drivingGrant_congr grant a).trans promoted, nextOutput_of_delay (n := 149) ?_⟩
        rw [own, delay]
        exact delays w promoted
    · rw [axisPeriod_runs driving rundown, travelAfter, if_neg early]
      have grant := (setActuator_keeps b (periodSet g s)).1
      exact .inl ((drivingGrant_congr grant a).trans none)

theorem idle_axes {pre : List Axis} {s : State} (h : Sound s) {a : Axis}
    (others : ∀ b ∈ pre, a ≠ b ∧ a ≠ .lift ∧ (b = .fold → resourceOf a ≠ .hyd)) (idle : Idle a s) :
    Idle a (forEach axisPeriod pre s) := by
  induction pre generalizing s with
  | nil => exact idle
  | cons b bs ih =>
    obtain ⟨n, lift, fold⟩ := others b List.mem_cons_self
    exact ih (worked_axisPeriod h b).tended.sound (fun c hc => others c (List.mem_cons_of_mem _ hc))
      (idle_axisPeriod h n lift fold idle)

/-- R92, log 48: an axis without a driving grant is at 0 after the six axes. -/
theorem atZero_axes {s : State} (h : Sound s) {a : Axis} (none : drivingGrant a s = none) :
    AtZero a (forEach axisPeriod Axis.list s) := by
  obtain ⟨pre, early, ⟨rs, as, before⟩, ⟨qs, bs, after, other, -⟩, -⟩ := axis_turn a h
  have zero := atZero_of_idle before.tended.sound (idle_axes h early (.inl none))
  exact (after.shaped.falls a other).atZero zero

end Sys2Proof.Machine.Steps
end

section
/-! The travel times (R110, R125) and the fault codes (R66) within a control period: what the axes leave of them. -/

namespace Sys2Proof.Machine.Steps

open Motion Holds

/-! ## The FOLD travel time within its limit (R110) -/

/-- R110: the FOLD travel time does not pass its limit in a period. -/
def FoldShort (s : State) : Prop := ∀ n, s.drive.foldTravel = some n → n + 10 ≤ 10000

theorem FoldShort.restarted {s t : State} (h : FoldShort s)
    (k : Restarted s.drive.foldTravel t.drive.foldTravel) : FoldShort t := by
  intro n e
  rcases k with same | none | zero
  · exact h n (same ▸ e)
  · cases none.symm.trans e
  · cases zero.symm.trans e
    decide

theorem axisPeriod_travels {s : State} {a : Axis} (n : a ≠ .fold) :
    Travels s (axisPeriod a s) ∧ (axisPeriod a s).axis = s.axis := by
  cases driving : drivingGrant a s with
  | none =>
    rw [axisPeriod_idle driving]
    refine ⟨⟨rfl, .inl ?_, fun _ => .inl rfl⟩, rfl⟩
    cases a <;> rfl
  | some g =>
    have set : Travels s (periodSet g s) := ⟨rfl, .inl rfl, fun _ => .inl rfl⟩
    have actuated (u : State) : Travels u (setActuator a u) ∧ (setActuator a u).axis = u.axis := by
      obtain ⟨-, -, axis, travel, panel, -⟩ := setActuator_keeps a u
      exact ⟨⟨by rw [panel], .inl travel, fun m =>
        .inl (congrArg (fun p : PanelSequencer => (p.axis.get m).travel) panel)⟩, axis⟩
    by_cases rundown : g.state = .easing ∧ nextOutput g s = 0
    · rw [axisPeriod_rundown driving rundown, travelAfter, if_neg n]
      obtain ⟨travels, axis⟩ := actuated (retire g (g.reason.getD .released) (periodSet g s))
      exact ⟨(set.trans (travels_retire _ _ _)).trans travels, axis.trans (reacts_retire _ _ _).axis⟩
    · rw [axisPeriod_runs driving rundown, travelAfter, if_neg n]
      obtain ⟨travels, axis⟩ := actuated (periodSet g s)
      exact ⟨set.trans travels, axis⟩

/-- R110: a travel time within its limit faults nothing. -/
theorem foldTravelStep_short {s : State} {g : Grant} (driving : drivingGrant .fold s = some g) (short : FoldShort s) :
    foldTravelStep s = s.setDrive { s.drive with foldTravel := (foldTravelStep s).drive.foldTravel } := by
  cases travel : s.drive.foldTravel with
  | none =>
    rw [foldTravelStep_none travel]
    rfl
  | some n =>
    rw [foldTravelStep_eq driving travel, if_neg fun k => absurd (short n travel) (by omega)]
    rfl

/-- R110: a FOLD period within the travel limit sets no fault. -/
theorem axisPeriod_fold {s : State} (h : Sound s) (short : FoldShort s) :
    (axisPeriod .fold s).axis = s.axis ∧
      ∀ m, Restarted (panelOf m s).travel (panelOf m (axisPeriod .fold s)).travel := by
  cases driving : drivingGrant .fold s with
  | none =>
    rw [axisPeriod_idle driving]
    exact ⟨rfl, fun _ => .inl rfl⟩
  | some g =>
    obtain ⟨hg, axis, holds, -⟩ := drivingGrant_some s driving
    by_cases rundown : g.state = .easing ∧ nextOutput g s = 0
    · have eq : axisPeriod .fold s = foldTravelStep
          (setActuator .fold (retire g (g.reason.getD .released) (periodSet g s))) :=
        axisPeriod_rundown driving rundown
      have set := worked_setOutput h g.axis (nextOutput g s) (nextDelay (s.drive.startDelay.get g.axis))
      have zero := retire_zero set.tended.sound (g := g) hg (g.reason.getD .released) holds
      have stopped : (retire g (g.reason.getD .released) (periodSet g s)).drive.output.get .fold = 0 := by
        rw [← axis]
        exact zero.1
      have rests : (setActuator .fold (retire g (g.reason.getD .released)
          (periodSet g s))).drive.output.get .fold = 0 := stopped
      rw [eq, foldTravelStep_rests rests]
      exact ⟨(reacts_retire _ _ _).axis, (travels_retire g _ (periodSet g s)).motor⟩
    · have eq : axisPeriod .fold s = foldTravelStep (setActuator .fold (periodSet g s)) :=
        axisPeriod_runs driving rundown
      have same := foldTravelStep_short (s := setActuator .fold (periodSet g s)) driving short
      rw [eq, same]
      exact ⟨rfl, fun _ => .inl rfl⟩

/-- R66, R110: no other axis' period counts the FOLD travel time or sets a fault. -/
theorem axes_travels {as : List Axis} (others : ∀ a ∈ as, a ≠ .fold) (s : State) :
    Travels s (forEach axisPeriod as s) ∧ (forEach axisPeriod as s).axis = s.axis := by
  induction as generalizing s with
  | nil => exact ⟨travels_of_same rfl rfl, rfl⟩
  | cons a as ih =>
    obtain ⟨travels, axis⟩ := axisPeriod_travels (s := s) (others a List.mem_cons_self)
    obtain ⟨travels', axis'⟩ := ih (fun b hb => others b (List.mem_cons_of_mem _ hb)) (axisPeriod a s)
    exact ⟨travels.trans travels', axis'.trans axis⟩

/-- R66, R110: with the FOLD travel time within its limit the six axes set no fault. -/
theorem axes_faultless {s : State} (h : Sound s) (short : FoldShort s) :
    (forEach axisPeriod Axis.list s).axis = s.axis ∧
      ∀ m, Restarted (panelOf m s).travel (panelOf m (forEach axisPeriod Axis.list s)).travel := by
  obtain ⟨before, first⟩ := axes_travels (as := [.lift, .tilt]) (by decide) s
  have sound := (worked_axes [.lift, .tilt] h).tended.sound
  obtain ⟨own, second⟩ := axisPeriod_fold sound (short.restarted before.fold)
  obtain ⟨after, third⟩ := axes_travels (as := [.shut, .ndor, .odor]) (by decide)
    (axisPeriod .fold (forEach axisPeriod [.lift, .tilt] s))
  exact ⟨third.trans (own.trans first), fun m => ((before.motor m).trans (second m)).trans (after.motor m)⟩

/-! ## The FOLD travel time counted (R110) -/

/-- R110: what a period makes of the travel time `n` of a driving FOLD grant. -/
structure FoldTravelled (g : Grant) (n : Nat) (s t : State) : Prop where
  atEnd : livesOn g t = true → endFlag .fold g.sense s = true → t.drive.foldTravel = some 0
  counted : livesOn g t = true → endFlag .fold g.sense s = false → n + 10 ≤ 10000 →
    t.drive.foldTravel = some (if nextOutput g s = 0 then n else n + 10)
  faulted : endFlag .fold g.sense s = false → nextOutput g s ≠ 0 → 10000 < n + 10 →
    s.axis.fitted.fold = true → s.axis.fault.fold = none →
    t.axis.fault.fold = some .travel ∧ EndedFor g .fault s t

theorem foldTravelled_axisPeriod {s : State} (h : Sound s) {g : Grant} (driving : drivingGrant .fold s = some g)
    {n : Nat} (travel : s.drive.foldTravel = some n) : FoldTravelled g n s (axisPeriod .fold s) := by
  by_cases rundown : g.state = .easing ∧ nextOutput g s = 0
  · have ended := (axisDriven_axisPeriod h driving).rundown rundown.1 rundown.2
    exact ⟨fun lives => (nomatch lives.symm.trans ended), fun lives => (nomatch lives.symm.trans ended),
      fun _ moves => absurd rundown.2 moves⟩
  · have eq : axisPeriod .fold s = foldTravelStep (setActuator .fold (periodSet g s)) :=
      axisPeriod_runs driving rundown
    obtain ⟨-, axis, -⟩ := drivingGrant_some s driving
    have output := (driven_setActuator driving).1.output
    rw [axis] at output
    obtain ⟨near, far⟩ := (foldTravelStep_cases (s := setActuator .fold (periodSet g s)) (g := g)
      (h.of_grant rfl) driving).2 n travel
    rw [eq]
    refine ⟨fun _ atEnd => ?_, fun _ away short => ?_, fun away moves long fitted sound => ?_⟩
    · rw [near (.inl atEnd)]
      exact congrArg some (if_pos atEnd)
    · rw [near (.inr short)]
      refine congrArg some ((if_neg ?_).trans ?_)
      · rw [Bool.not_eq_true]
        exact away
      · rw [output]
    · obtain ⟨ended, code⟩ := far away (by rw [output]; exact moves) long fitted sound
      exact ⟨code, ended⟩

theorem FoldTravelled.after {g : Grant} {n : Nat} {s v t : State} {rs : List Resource} {as : List Axis}
    {ks : List Coil} (h : FoldTravelled g n s v) (fold : g.axis = .fold)
    (live : livesOn g v = true → g ∈ v.grant.table) (holds : g.state ≠ .waiting)
    (worked : Worked rs as ks v t) (other : .fold ∉ as) : FoldTravelled g n s t := by
  have same (lives : livesOn g t = true) : livesOn g v = true ∧ t.drive.foldTravel = v.drive.foldTravel := by
    have before := lives_back worked.tended.origin lives
    obtain ⟨-, undisturbed⟩ := worked.shaped.stays g (live before) holds lives
    exact ⟨before, (undisturbed (by rw [fold]; exact other)).travel fold⟩
  refine ⟨fun lives atEnd => ?_, fun lives away short => ?_, fun away moves long fitted sound => ?_⟩
  · obtain ⟨before, travel⟩ := same lives
    exact travel.trans (h.atEnd before atEnd)
  · obtain ⟨before, travel⟩ := same lives
    exact travel.trans (h.counted before away short)
  · obtain ⟨code, ended⟩ := h.faulted away moves long fitted sound
    refine ⟨(worked.tended.kept .fold (.inl ?_)).trans code, EndedFor.after ended worked.tended⟩
    show v.axis.fault.fold ≠ none
    rw [code]
    exact nofun

/-- R110: the travel time of a driving FOLD grant after the six axes. -/
theorem foldTravelled_axes {s : State} (h : Sound s) {g : Grant} (driving : drivingGrant .fold s = some g)
    {n : Nat} (travel : s.drive.foldTravel = some n) :
    FoldTravelled g n s (forEach axisPeriod Axis.list s) := by
  obtain ⟨pre, early, ⟨rs, as, before⟩, ⟨qs, bs, after, other, -⟩, reaches⟩ := axis_turn .fold h
  obtain ⟨-, axis, holds, -⟩ := drivingGrant_some s driving
  obtain ⟨driving', apart, same⟩ := reaches g driving
  have unit := (axes_travels (as := pre) (fun a ha e => (early a ha).1 e.symm) s).2
  have own := foldTravelled_axisPeriod before.tended.sound driving' ((same rfl).trans travel)
  have live := (axisDriven_axisPeriod before.tended.sound driving').live
  have next := nextOutput_of_tended before.tended (by rw [axis]; exact apart)
  refine FoldTravelled.after ⟨fun lives atEnd => own.atEnd lives ?_, fun lives away short => ?_,
    fun away moves long fitted sound => ?_⟩ axis (fun lives => (live lives).1) holds after other
  · unfold endFlag at atEnd ⊢
    rw [unit]
    exact atEnd
  · have counted := own.counted lives (by unfold endFlag at away ⊢; rw [unit]; exact away) short
    rwa [next] at counted
  · obtain ⟨code, ended⟩ := own.faulted (by unfold endFlag at away ⊢; rw [unit]; exact away)
      (by rw [next]; exact moves) long (by rw [unit]; exact fitted) (by rw [unit]; exact sound)
    exact ⟨code, EndedFor.before before.tended ended⟩

end Sys2Proof.Machine.Steps
end

section
/-! The panel sequencer's hand-over for a live sequence grant (R114, R123 to R126). -/

namespace Sys2Proof.Machine.Steps

open Motion Holds

/-- R22: a live grant of a motor axis holds the sequence of its panel record `p`, with the duty `o`, a number
of steps after `s`. -/
structure Sequenced (g : Grant) (m : Motor) (o : Nat) (p : PanelRecord) (s u : State) : Prop where
  tended : Tended s u
  live : g ∈ u.grant.table
  panel : panelOf m u = p
  own : sequenceOf g m u = true
  duty : u.drive.duty.get m = o
  contact : u.panel.contact = s.panel.contact
  unit : u.axis = s.axis

section
variable {g : Grant} {m : Motor} {o : Nat} {p : PanelRecord} {s u : State}

theorem Sequenced.put (h : Sequenced g m o p s u) {q : PanelRecord} (seq : q.seq = p.seq) :
    Sequenced g m o q s (putPanel m q u) where
  tended := h.tended.trans (worked_putPanel h.tended.sound m q).tended
  live := h.live
  panel := panelOf_putPanel ..
  own := by
    have own := h.own
    unfold sequenceOf at own ⊢
    rw [panelOf_putPanel, seq, ← h.panel]
    exact own
  duty := h.duty
  contact := h.contact
  unit := h.unit

/-- R22: the sequence grant's record names it. -/
theorem Sequenced.names (h : Sequenced g m o p s u) : ∃ q, p.seq = some q ∧ q.handle = g.handle ∧
    q.station = g.station ∧ q.sense = g.sense := by
  have own := of_decide_eq_true h.own
  rw [h.panel] at own
  obtain ⟨q, seq, same⟩ := Option.map_eq_some_iff.mp own
  injection same with handle rest
  injection rest with station sense
  exact ⟨q, seq, handle, station, sense⟩

theorem Sequenced.reported (h : Sequenced g m o p s u) (axis : g.axis = axisOfMotor m) {q : SeqGrant}
    (seq : p.seq = some q) : reportedGrant (axisOfMotor m) q u = some g := by
  obtain ⟨r, named, handle, station, sense⟩ := h.names
  obtain rfl := Option.some.inj (seq.symm.trans named)
  unfold reportedGrant
  rw [handle, h.tended.sound.find h.live]
  exact if_pos ⟨station.symm, axis, sense.symm⟩

/-- R22, R23: the sequence grant retired. -/
theorem Sequenced.retires (h : Sequenced g m o p s u) {r : Reason} (told : r ≠ .released) :
    EndedFor g r s (retire g r u) :=
  EndedFor.before h.tended (endedFor_retire h.tended.sound h.live told)

/-- R28, R103: the sequence grant cut leaves no duty and sets no fault. -/
theorem Sequenced.obstructs (h : Sequenced g m o p s u) (axis : g.axis = axisOfMotor m)
    (holds : g.state ≠ .waiting) {v : State} (cuts : v = reportObstructed m u) :
    EndedFor g .obstructed s v ∧ v.drive.duty.get m = 0 ∧ v.axis = u.axis := by
  have eq : reportObstructed m u = retire g .obstructed u := reportObstructed_cuts h.tended.sound h.live h.own axis
  rw [cuts, eq]
  exact ⟨h.retires nofun, (retire_zero h.tended.sound h.live .obstructed holds).2.2 m axis.symm,
    (reacts_retire g .obstructed u).axis⟩

/-! ## The four steps (R114) -/

/-- R126: END is due. -/
def EndDue (g : Grant) (o : Nat) (p : PanelRecord) : Prop :=
  p.endReported = false ∧ p.state = endState g.sense ∧ o = 0

/-- R126: a grant that END retires. -/
def EndsLatched (g : Grant) : Prop := g.kind = .latch ∧ (g.state = .driving ∨ g.state = .paused)

/-- R123: the safety edge stops the shutter. -/
def EdgeMeets (m : Motor) (p : PanelRecord) (s : State) : Prop :=
  m = .shut ∧ s.panel.contact = true ∧ p.state = .closing

theorem endCheck_due (h : Sequenced g m o p s u) (axis : g.axis = axisOfMotor m) (due : EndDue g o p) :
    (EndsLatched g → EndedFor g .atEnd s (endCheck m u)) ∧
    (¬ EndsLatched g → Sequenced g m o { p with endReported := true } s (endCheck m u)) := by
  obtain ⟨q, seq, -, -, sense⟩ := h.names
  have put := h.put (q := { p with endReported := true }) rfl
  have eq : endCheck m u = reportEnd m q (putPanel m { p with endReported := true } u) := by
    unfold endCheck
    dsimp only
    rw [h.panel, seq, h.duty]
    exact if_pos ⟨due.1, by rw [sense]; exact due.2.1, due.2.2⟩
  have reports : reportEnd m q (putPanel m { p with endReported := true } u) =
      if g.kind = .latch ∧ (g.state = .driving ∨ g.state = .paused) then
        retire g .atEnd (putPanel m { p with endReported := true } u)
      else putPanel m { p with endReported := true } u := by
    unfold reportEnd
    rw [put.reported axis seq]
  rw [eq, reports]
  refine ⟨fun ends => ?_, fun stays => ?_⟩ <;> unfold EndsLatched at *
  · rw [if_pos ends]
    exact put.retires nofun
  · rw [if_neg stays]
    exact put

theorem endCheck_undue (h : Sequenced g m o p s u) (undue : ¬ EndDue g o p) : endCheck m u = u := by
  obtain ⟨q, seq, -, -, sense⟩ := h.names
  unfold endCheck
  dsimp only
  rw [h.panel, seq, h.duty]
  exact if_neg fun k => undue ⟨k.1, by rw [← sense]; exact k.2.1, k.2.2⟩

theorem edgeCheck_meets (h : Sequenced g m o p s u) (axis : g.axis = axisOfMotor m) (holds : g.state ≠ .waiting)
    (meets : EdgeMeets m p s) : EndedFor g .obstructed s (edgeCheck m u) ∧
      (edgeCheck m u).drive.duty.get m = 0 ∧ (edgeCheck m u).axis = u.axis := by
  obtain ⟨rfl, contact, closing⟩ := meets
  obtain ⟨q, seq, -⟩ := h.names
  have closes : shutterClosing u = true := by
    unfold shutterClosing
    rw [h.panel, seq, closing]
    rfl
  have eq : edgeCheck .shut u = reportObstructed .shut (putPanel .shut { p with gate := .held } u) := by
    unfold edgeCheck
    rw [if_pos ⟨rfl, h.contact.trans contact, closes⟩, ← h.panel]
    rfl
  exact (h.put (q := { p with gate := .held }) rfl).obstructs axis holds eq

theorem edgeCheck_misses (h : Sequenced g m o p s u) (misses : ¬ EdgeMeets m p s) : edgeCheck m u = u := by
  unfold edgeCheck
  refine if_neg fun k => misses ⟨k.1, h.contact.symm.trans k.2.1, ?_⟩
  have closing := k.2.2
  unfold shutterClosing at closing
  rw [Bool.and_eq_true, decide_eq_true_eq] at closing
  rw [← h.panel, k.1]
  exact closing.1

/-- R124: the obstruction time that a period leaves. -/
def obstructed (o x limit : Nat) (p : PanelRecord) : Nat := if o = 0 ∨ x ≤ limit then 0 else p.obstruction + 10

theorem obstructionStep_cuts (h : Sequenced g m o p s u) (axis : g.axis = axisOfMotor m)
    (holds : g.state ≠ .waiting) {x : Nat} (excess : ¬ (o = 0 ∨ x ≤ s.config.obstruction.get m))
    (long : 200 ≤ p.obstruction + 10) : EndedFor g .obstructed s (obstructionStep m x u) ∧
      (obstructionStep m x u).drive.duty.get m = 0 ∧ (obstructionStep m x u).axis = u.axis := by
  have eq : obstructionStep m x u = reportObstructed m (putPanel m { p with obstruction := 0 } u) := by
    unfold obstructionStep
    dsimp only
    rw [h.panel, h.duty, h.tended.config, if_neg excess]
    refine (if_pos long).trans ?_
    unfold obstructionReport
    rw [h.panel]
  exact (h.put (q := { p with obstruction := 0 }) rfl).obstructs axis holds eq

theorem obstructionStep_counts (h : Sequenced g m o p s u) {x : Nat}
    (short : o = 0 ∨ x ≤ s.config.obstruction.get m ∨ p.obstruction + 10 < 200) :
    Sequenced g m o { p with obstruction := obstructed o x (s.config.obstruction.get m) p } s
      (obstructionStep m x u) := by
  have eq : obstructionStep m x u =
      putPanel m { p with obstruction := obstructed o x (s.config.obstruction.get m) p } u := by
    unfold obstructionStep obstructed
    dsimp only
    rw [h.panel, h.duty, h.tended.config]
    by_cases quiet : o = 0 ∨ x ≤ s.config.obstruction.get m
    · rw [if_pos quiet, if_pos quiet]
    · rw [if_neg quiet, if_neg quiet]
      refine if_neg fun long => ?_
      have limit : p.obstruction + 10 < 200 := by tauto
      exact absurd long (Nat.not_le.mpr limit)
  rw [eq]
  exact h.put rfl

/-- R125: the travel time of the sequence that a period leaves. -/
def panelTravelled (g : Grant) (o : Nat) (p : PanelRecord) (n : Nat) : Nat :=
  if p.state = endState g.sense then 0 else if o = 0 then n else n + 10

section
variable (h : Sequenced g m o p s u)
include h

theorem travelStep_eq {n : Nat} (travel : p.travel = some n) : travelStep m u =
    if p.state ≠ endState g.sense ∧ o ≠ 0 ∧ travelLimitMs m < n + 10 then
      panelTravelFault m (putPanel m { p with travel := some (n + 10) } u)
    else if p.state ≠ endState g.sense ∧ o = 0 then u
    else putPanel m { p with travel := some (panelTravelled g o p n) } u := by
  obtain ⟨q, seq, -, -, sense⟩ := h.names
  have step : travelStep m u =
      if p.state = endState g.sense then putPanel m { p with travel := some 0 } u
      else if o = 0 then u
      else if travelLimitMs m < n + 10 then panelTravelFault m (putPanel m { p with travel := some (n + 10) } u)
      else putPanel m { p with travel := some (n + 10) } u := by
    unfold travelStep
    dsimp only
    rw [h.panel, seq, travel, h.duty, ← sense]
    rfl
  rw [step]
  unfold panelTravelled
  by_cases atEnd : p.state = endState g.sense
  · rw [if_pos atEnd, if_pos atEnd, if_neg fun k => k.1 atEnd, if_neg fun k => k.1 atEnd]
  rw [if_neg atEnd, if_neg atEnd]
  by_cases still : o = 0
  · rw [if_pos still, if_pos still, if_neg fun k => k.2.1 still, if_pos ⟨atEnd, still⟩]
  rw [if_neg still, if_neg still, if_neg (c := _ ∧ o = 0) fun k => still k.2]
  by_cases far : travelLimitMs m < n + 10
  · rw [if_pos far, if_pos ⟨atEnd, still, far⟩]
  · rw [if_neg far, if_neg fun k => far k.2.2]

/-- R125: the travel time counted. -/
theorem travelStep_counts {n : Nat} (travel : p.travel = some n)
    (short : p.state = endState g.sense ∨ o = 0 ∨ n + 10 ≤ travelLimitMs m) :
    Sequenced g m o { p with travel := some (panelTravelled g o p n) } s (travelStep m u) := by
  rw [travelStep_eq h travel, if_neg fun k => by
    rcases short with e | e | e
    · exact k.1 e
    · exact k.2.1 e
    · exact absurd k.2.2 (Nat.not_lt.mpr e)]
  split
  · next still =>
    have same : ({ p with travel := some (panelTravelled g o p n) } : PanelRecord) = p := by
      unfold panelTravelled
      rw [if_neg still.1, if_pos still.2, ← travel]
    rw [same]
    exact h
  · exact h.put rfl

/-- R125: TRAVEL on a motor axis. -/
theorem travelStep_faults (axis : g.axis = axisOfMotor m) {n : Nat} (travel : p.travel = some n)
    (away : p.state ≠ endState g.sense) (moves : o ≠ 0) (far : travelLimitMs m < n + 10)
    (fitted : u.axis.fitted.get (axisOfMotor m) = true) (sound : u.axis.fault.get (axisOfMotor m) = none) :
    EndedFor g .fault s (travelStep m u) ∧
      (travelStep m u).axis.fault.get (axisOfMotor m) = some .travel := by
  rw [travelStep_eq h travel, if_pos ⟨away, moves, far⟩]
  have put := (h.put (q := { p with travel := some (n + 10) }) rfl).put (q := { p with travel := none }) rfl
  have eq : panelTravelFault m (putPanel m { p with travel := some (n + 10) } u) =
      setFault (axisOfMotor m) .travel none
        (putPanel m { p with travel := none } (putPanel m { p with travel := some (n + 10) } u)) := by
    unfold panelTravelFault
    rw [panelOf_putPanel]
  rw [eq, ← axis]
  obtain ⟨ended, code⟩ := setFault_ends put.tended.sound put.live (by rw [axis]; exact fitted)
    (by rw [axis]; exact sound) .travel none
  exact ⟨EndedFor.before put.tended ended, code⟩

theorem travelStep_absent (travel : p.travel = none) : travelStep m u = u := by
  unfold travelStep
  dsimp only
  rw [h.panel, travel]
  split
  · next e => cases e
  · rfl

end

/-- R124, R125, log 55: with the duty 0 no obstruction is counted and no fault set. -/
theorem obstructionStep_rests (rests : u.drive.duty.get m = 0) (x : Nat) :
    (obstructionStep m x u).drive.duty.get m = 0 ∧ (obstructionStep m x u).axis = u.axis := by
  unfold obstructionStep
  dsimp only
  rw [if_pos (.inl rests)]
  exact ⟨rests, rfl⟩

theorem travelStep_rests (rests : u.drive.duty.get m = 0) : (travelStep m u).axis = u.axis := by
  unfold travelStep
  dsimp only
  split
  · split
    · rfl
    · rfl
  · rfl

/-! ## The hand-over of one motor axis (R114) -/

/-- R114, R123 to R126: what the hand-over makes of a sequence grant and of its panel record `p`, under the duty
`o` and the motor current `x`. -/
structure HandedOver (g : Grant) (m : Motor) (o : Nat) (p : PanelRecord) (x : Nat) (s t : State) : Prop where
  live : livesOn g t = true → (panelOf m t).seq = p.seq ∧ (panelOf m t).state = p.state ∧
    (panelOf m t).obstruction = obstructed o x (s.config.obstruction.get m) p ∧
    (p.obstruction + 10 < 200 ∨ obstructed o x (s.config.obstruction.get m) p = 0) ∧
    (∀ n, p.travel = some n → (p.state = endState g.sense ∨ o = 0 ∨ n + 10 ≤ travelLimitMs m) →
      (panelOf m t).travel = some (panelTravelled g o p n)) ∧
    (p.state = endState g.sense → o = 0 → (panelOf m t).endReported = true)
  obstructed : ¬ (o = 0 ∨ x ≤ s.config.obstruction.get m) → 200 ≤ p.obstruction + 10 →
    EndedFor g .obstructed s t ∧ t.axis.fault.get (axisOfMotor m) = s.axis.fault.get (axisOfMotor m)
  edge : EdgeMeets m p s → EndedFor g .obstructed s t
  travel : ∀ n, p.travel = some n → p.state ≠ endState g.sense → o ≠ 0 →
    x ≤ s.config.obstruction.get m → ¬ EdgeMeets m p s → travelLimitMs m < n + 10 →
    s.axis.fitted.get (axisOfMotor m) = true → s.axis.fault.get (axisOfMotor m) = none →
    t.axis.fault.get (axisOfMotor m) = some .travel ∧ EndedFor g .fault s t
  atEnd : EndDue g o p → EndsLatched g → EndedFor g .atEnd s t

theorem not_closing_of_endState {n : Sense} {x : PanelState} (e : x = endState n) : x ≠ .closing := by
  rintro rfl
  cases n <;> cases e

theorem ended_of {r : Reason} (h : EndedFor g r s u) {P : Prop} (lives : livesOn g u = true) : P :=
  nomatch lives.symm.trans h.1

/-- R125: the travel step, whether or not it sets its fault. -/
theorem travelStep_live (h : Sequenced g m o p s u) (axis : g.axis = axisOfMotor m)
    (lives : livesOn g (travelStep m u) = true) :
    ∃ time, Sequenced g m o { p with travel := time } s (travelStep m u) ∧
      ∀ n, p.travel = some n → (p.state = endState g.sense ∨ o = 0 ∨ n + 10 ≤ travelLimitMs m) →
        time = some (panelTravelled g o p n) := by
  cases travel : p.travel with
  | none =>
    rw [travelStep_absent h travel]
    exact ⟨none, travel ▸ h, nofun⟩
  | some n =>
    by_cases short : p.state = endState g.sense ∨ o = 0 ∨ n + 10 ≤ travelLimitMs m
    · exact ⟨_, travelStep_counts h travel short, fun k e _ => by cases e; rfl⟩
    · have far : p.state ≠ endState g.sense ∧ o ≠ 0 ∧ travelLimitMs m < n + 10 := by
        refine ⟨fun e => short (.inl e), fun e => short (.inr (.inl e)), ?_⟩
        by_contra near
        exact short (.inr (.inr (Nat.not_lt.mp near)))
      by_cases taken : u.axis.fitted.get (axisOfMotor m) = true ∧ u.axis.fault.get (axisOfMotor m) = none
      · exact ended_of (travelStep_faults h axis travel far.1 far.2.1 far.2.2 taken.1 taken.2).1 lives
      · have put := (h.put (q := { p with travel := some (n + 10) }) rfl).put (q := { p with travel := none }) rfl
        have eq : travelStep m u =
            putPanel m { p with travel := none } (putPanel m { p with travel := some (n + 10) } u) := by
          rw [travelStep_eq h travel, if_pos far]
          unfold panelTravelFault
          rw [panelOf_putPanel]
          refine setFault_dropped ?_ _ _
          show u.axis.fitted.get _ = false ∨ u.axis.fault.get _ ≠ none
          cases e : u.axis.fitted.get (axisOfMotor m) with
          | false => exact .inl rfl
          | true => exact .inr fun none => taken ⟨e, none⟩
        rw [eq]
        exact ⟨none, put, fun k e near => absurd (by cases e; exact near) short⟩

/-- R123 to R125: the three watches after the END check. -/
theorem handedOver_watches (h : Sequenced g m o p s u) (axis : g.axis = axisOfMotor m) (holds : g.state ≠ .waiting)
    (x : Nat) (reported : p.state = endState g.sense → o = 0 → p.endReported = true) :
    HandedOver g m o p x s (travelStep m (obstructionStep m x (edgeCheck m u))) := by
  by_cases meets : EdgeMeets m p s
  · have worked := worked_edgeCheck h.tended.sound m
    obtain ⟨ended, rests, same⟩ := edgeCheck_meets h axis holds meets
    obtain ⟨rests', same'⟩ := obstructionStep_rests rests x
    have third := worked_obstructionStep worked.tended.sound m x
    have last := worked_travelStep third.tended.sound m
    have ended' := EndedFor.after ended (third.tended.trans last.tended)
    have unit' := (travelStep_rests rests').trans (same'.trans (same.trans h.unit))
    exact ⟨fun lives => ended_of ended' lives, fun _ _ => ⟨ended', by rw [unit']⟩, fun _ => ended',
      fun _ _ _ _ _ misses => absurd meets misses,
      fun due => absurd meets.2.2 (not_closing_of_endState due.2.1)⟩
  rw [edgeCheck_misses h meets]
  by_cases cuts : ¬ (o = 0 ∨ x ≤ s.config.obstruction.get m) ∧ 200 ≤ p.obstruction + 10
  · obtain ⟨ended, rests, same⟩ := obstructionStep_cuts h axis holds cuts.1 cuts.2
    have last := worked_travelStep (worked_obstructionStep h.tended.sound m x).tended.sound m
    have ended' := EndedFor.after ended last.tended
    have unit' := (travelStep_rests rests).trans (same.trans h.unit)
    exact ⟨fun lives => ended_of ended' lives, fun _ _ => ⟨ended', by rw [unit']⟩, fun e => absurd e meets,
      fun _ _ _ _ low => absurd (.inr low) cuts.1, fun due => absurd (.inl due.2.2) cuts.1⟩
  have short : o = 0 ∨ x ≤ s.config.obstruction.get m ∨ p.obstruction + 10 < 200 := by
    by_contra n
    push Not at n
    exact cuts ⟨by omega, n.2.2⟩
  have counts := obstructionStep_counts h short
  have unit := counts.unit
  refine ⟨fun lives => ?_, fun excess long => absurd ⟨excess, long⟩ cuts, fun e => absurd e meets,
    fun n travel away moves _ _ far fitted sound => ?_, fun due => ?_⟩
  · obtain ⟨time, last, exact⟩ := travelStep_live counts axis lives
    rw [last.panel]
    exact ⟨rfl, rfl, rfl, by unfold Steps.obstructed; split <;> simp_all; omega, exact, reported⟩
  · exact (travelStep_faults counts axis travel away moves far (by rw [unit]; exact fitted)
      (by rw [unit]; exact sound)).symm
  · exact absurd (reported due.2.1 due.2.2) (by rw [due.1]; exact nofun)

/-- R114, R123 to R126: the hand-over of a motor axis with a live sequence grant. -/
theorem handedOver_panelPeriod (h : Sequenced g m o p s s) (axis : g.axis = axisOfMotor m)
    (holds : g.state ≠ .waiting) (x : Nat) : HandedOver g m o p x s (panelPeriod m x s) := by
  unfold panelPeriod
  by_cases due : EndDue g o p
  swap
  · rw [endCheck_undue h due]
    refine handedOver_watches h axis holds x fun atEnd still => ?_
    by_contra unreported
    exact due ⟨by rwa [Bool.not_eq_true] at unreported, atEnd, still⟩
  obtain ⟨ends, stays⟩ := endCheck_due h axis due
  by_cases latched : EndsLatched g
  · have first := worked_endCheck h.tended.sound m
    have second := first.after (worked_edgeCheck first.tended.sound m)
    have third := second.after (worked_obstructionStep second.tended.sound m x)
    have ended := EndedFor.after (ends latched) (((worked_edgeCheck first.tended.sound m).after
      (worked_obstructionStep second.tended.sound m x)).after (worked_travelStep third.tended.sound m)).tended
    exact ⟨fun lives => ended_of ended lives, fun excess => absurd (.inl due.2.2) excess,
      fun meets => absurd meets.2.2 (not_closing_of_endState due.2.1),
      fun _ _ away => absurd due.2.1 away, fun _ _ => ended⟩
  · obtain ⟨live, obstructs, edge, travel, -⟩ := handedOver_watches (stays latched) axis holds x fun _ _ => rfl
    exact ⟨live, obstructs, edge, travel, fun _ e => absurd e latched⟩

end

end Sys2Proof.Machine.Steps
end

section
/-! The three motor axes and the four coil watches, one after another (R91, R108, R114). -/

namespace Sys2Proof.Machine.Steps

open Motion Holds

/-! ## A sequence grant's hand-over among the others -/

section
variable {g : Grant} {m : Motor} {o x : Nat} {p : PanelRecord} {s u v t : State}

theorem HandedOver.before (tended : Tended s u) (contact : u.panel.contact = s.panel.contact)
    (code : u.axis.fault.get (axisOfMotor m) = s.axis.fault.get (axisOfMotor m))
    (h : HandedOver g m o p x u v) : HandedOver g m o p x s v := by
  obtain ⟨live, obstructs, edge, travel, atEnd⟩ := h
  have meets : EdgeMeets m p u ↔ EdgeMeets m p s := by
    unfold EdgeMeets
    rw [contact]
  rw [tended.config] at live obstructs travel
  rw [tended.fitted, code, meets] at travel
  rw [code] at obstructs
  refine ⟨live, fun excess long => ?_, fun e => EndedFor.before tended (edge (meets.mpr e)),
    fun n e away moves low misses far fitted sound => ?_, fun due ends => EndedFor.before tended (atEnd due ends)⟩
  · obtain ⟨ended, same⟩ := obstructs excess long
    exact ⟨EndedFor.before tended ended, same⟩
  · obtain ⟨coded, ended⟩ := travel n e away moves low misses far fitted sound
    exact ⟨coded, EndedFor.before tended ended⟩

theorem HandedOver.after {rs : List Resource} {as : List Axis} {ks : List Coil} (h : HandedOver g m o p x s v)
    (worked : Worked rs as ks v t) (other : resourceOf (axisOfMotor m) ∉ rs) : HandedOver g m o p x s t := by
  obtain ⟨live, obstructs, edge, travel, atEnd⟩ := h
  have code := worked.codes (axisOfMotor m) other
  have tended := worked.tended
  refine ⟨fun lives => ?_, fun excess long => ?_, fun e => EndedFor.after (edge e) tended,
    fun n e away moves low misses far fitted sound => ?_, fun due ends => EndedFor.after (atEnd due ends) tended⟩
  · have panel : panelOf m t = panelOf m v := ((worked.spared _ other).apart _ rfl).panel m rfl
    rw [panel]
    exact live (lives_back tended.origin lives)
  · obtain ⟨ended, same⟩ := obstructs excess long
    exact ⟨EndedFor.after ended tended, code.trans same⟩
  · obtain ⟨coded, ended⟩ := travel n e away moves low misses far fitted sound
    exact ⟨code.trans coded, EndedFor.after ended tended⟩

theorem Sequenced.among {rs : List Resource} {as : List Axis} {ks : List Coil} (h : Sequenced g m o p s s)
    (axis : g.axis = axisOfMotor m) (worked : Worked rs as ks s u) (other : resourceOf (axisOfMotor m) ∉ rs) :
    Sequenced g m o p u u := by
  have spared := worked.spared _ other
  have apart := spared.apart _ rfl
  have panel : panelOf m u = panelOf m s := apart.panel m rfl
  refine ⟨(worked_refl (rs := []) (as := []) (ks := []) worked.tended.sound).tended,
    (spared.table g (by rw [axis])).mpr h.live, panel.trans h.panel, ?_, (apart.duty m rfl).1.trans h.duty, rfl, rfl⟩
  have own := h.own
  unfold sequenceOf at own ⊢
  rw [panel]
  exact own

end

/-! ## The motor axes (R114) -/

/-- R114: the panel sequencer's hand-over. -/
def panelsPeriod (c : PeriodCurrents) (l : List Motor) (s : State) : State :=
  forEach (fun m => panelPeriod m (c.motor.get m)) l s

theorem worked_panels (c : PeriodCurrents) (l : List Motor) {s : State} (h : Sound s) :
    Worked (l.map fun m => resourceOf (axisOfMotor m)) [] [] s (panelsPeriod c l s) := by
  have all := worked_forEach (f := fun m => panelPeriod m (c.motor.get m)) (as := fun _ => []) (ks := fun _ => [])
    (fun m s k => worked_panelPeriod (s := s) k m (c.motor.get m)) l h
  refine all.widen (fun q n => ?_) (fun a n => ?_) fun k n => ?_
  · obtain ⟨b, hb, e⟩ := List.mem_flatMap.mp n
    exact List.mem_map.mpr ⟨b, hb, (List.mem_singleton.mp e).symm⟩
  · obtain ⟨_, _, e⟩ := List.mem_flatMap.mp n
    cases e
  · obtain ⟨_, _, e⟩ := List.mem_flatMap.mp n
    cases e

theorem motors_around (m : Motor) : ∃ pre post, Motor.list = pre ++ m :: post ∧
    (∀ k ∈ pre, k ≠ m) ∧ ∀ k ∈ post, k ≠ m := by
  cases m with
  | shut => exact ⟨[], [.ndor, .odor], rfl, by decide, by decide⟩
  | ndor => exact ⟨[.shut], [.odor], rfl, by decide, by decide⟩
  | odor => exact ⟨[.shut, .ndor], [], rfl, by decide, by decide⟩

theorem other_motors {m : Motor} {l : List Motor} (others : ∀ k ∈ l, k ≠ m) :
    resourceOf (axisOfMotor m) ∉ l.map fun k => resourceOf (axisOfMotor k) := by
  intro mem
  obtain ⟨k, hk, same⟩ := List.mem_map.mp mem
  refine others k hk ?_
  cases k <;> cases m <;> first | rfl | cases same

/-- R114: the hand-over of the motor axes for a live sequence grant. -/
theorem handedOver_panels (c : PeriodCurrents) {g : Grant} {m : Motor} {o : Nat} {p : PanelRecord} {s : State}
    (h : Sequenced g m o p s s) (axis : g.axis = axisOfMotor m) (holds : g.state ≠ .waiting) :
    HandedOver g m o p (c.motor.get m) s (panelsPeriod c Motor.list s) := by
  obtain ⟨pre, post, split, early, late⟩ := motors_around m
  have before := worked_panels c pre h.tended.sound
  have own := handedOver_panelPeriod (h.among axis before (other_motors early)) axis holds (c.motor.get m)
  have turn := worked_panelPeriod before.tended.sound m (c.motor.get m)
  have after := worked_panels c post turn.tended.sound
  have eq : panelsPeriod c Motor.list s =
      panelsPeriod c post (panelPeriod m (c.motor.get m) (panelsPeriod c pre s)) := by
    rw [split]
    exact List.foldl_append
  rw [eq]
  exact (own.before before.tended before.contact (before.codes _ (other_motors early))).after after (other_motors late)

/-- R66: a platform axis' period codes no motor axis. -/
theorem axes_codes {s : State} (h : Sound s) (m : Motor) :
    (forEach axisPeriod Axis.list s).axis.fault.get (axisOfMotor m) = s.axis.fault.get (axisOfMotor m) := by
  have first := (axes_travels (as := [.lift, .tilt]) (by decide) s).2
  have sound := (worked_axes [.lift, .tilt] h).tended.sound
  have own := (worked_axisPeriod sound .fold).codes (axisOfMotor m) (by cases m <;> decide)
  have last := (axes_travels (as := [.shut, .ndor, .odor]) (by decide)
    (axisPeriod .fold (forEach axisPeriod [.lift, .tilt] s))).2
  show (forEach axisPeriod [.shut, .ndor, .odor] (axisPeriod .fold
    (forEach axisPeriod [.lift, .tilt] s))).axis.fault.get (axisOfMotor m) = _
  rw [last, own, first]

/-- R91, R114: what the axes and the hand-over make of the driving sequence grant of a motor axis. -/
theorem handedOver_period (c : PeriodCurrents) {s : State} (h : Sound s) {m : Motor} {g : Grant}
    (driving : drivingGrant (axisOfMotor m) s = some g) (own : sequenceOf g m s = true)
    (runs : ¬ (g.state = .easing ∧ nextOutput g s = 0)) :
    HandedOver g m (nextOutput g s) (panelOf m s) (c.motor.get m) s
      (panelsPeriod c Motor.list (forEach axisPeriod Axis.list s)) := by
  obtain ⟨-, axis, holds, -⟩ := drivingGrant_some s driving
  have worked := worked_axes Axis.list h
  have driven := axisDriven_axes h driving
  obtain ⟨live, ⟨-, -, duty⟩, panel⟩ := driven.live (driven.motor m axis.symm runs)
  have sequenced : Sequenced g m (nextOutput g s) (panelOf m s) (forEach axisPeriod Axis.list s)
      (forEach axisPeriod Axis.list s) := by
    refine ⟨(worked_refl (rs := []) (as := []) (ks := []) worked.tended.sound).tended, live, panel m axis.symm, ?_,
      duty m axis.symm, rfl, rfl⟩
    unfold sequenceOf at own ⊢
    rw [panel m axis.symm]
    exact own
  exact (handedOver_panels c sequenced axis holds).before worked.tended worked.contact (axes_codes h m)

end Sys2Proof.Machine.Steps
end

section
/-! The coil watches (R108), and the state that the pump watch of a control period meets. -/

namespace Sys2Proof.Machine.Steps

open Motion Holds

/-! ## One coil watch (R108) -/

section
variable {s : State} (c : PeriodCurrents) (k : Coil)

theorem coilWatchStep_unfitted (out : s.axis.fitted.get (axisOfCoil k) = false) (x : Nat) :
    coilWatchStep k x s = s := by
  unfold coilWatchStep
  rw [out]
  rfl

theorem coilWatchStep_low (fitted : s.axis.fitted.get (axisOfCoil k) = true) (low : overCoil c k s = false) :
    coilWatchStep k (c.coil.get k) s =
      s.setDrive { s.drive with coilWatch := s.drive.coilWatch.set k .armed } := by
  unfold coilWatchStep
  rw [if_pos fitted]
  exact if_neg fun exceeds => absurd exceeds (of_decide_eq_false low)

theorem coilWatchStep_over (fitted : s.axis.fitted.get (axisOfCoil k) = true) (exceeds : overCoil c k s = true) :
    coilWatchStep k (c.coil.get k) s =
      if s.drive.coilWatch.get k = .armed then setFault (axisOfCoil k) .coilshort (some k)
        (s.setDrive { s.drive with coilWatch := s.drive.coilWatch.set k .disarmed })
      else s.setDrive { s.drive with coilWatch := s.drive.coilWatch.set k .disarmed } := by
  unfold coilWatchStep
  rw [if_pos fitted]
  exact if_pos (of_decide_eq_true exceeds)

/-- R108: the watch after its step. -/
theorem coilWatchStep_watch (h : Sound s) (fitted : s.axis.fitted.get (axisOfCoil k) = true) :
    (coilWatchStep k (c.coil.get k) s).drive.coilWatch.get k =
      if overCoil c k s then .disarmed else .armed := by
  cases exceeds : overCoil c k s with
  | false =>
    rw [coilWatchStep_low c k fitted exceeds]
    exact PerCoil.get_set_same _ _ _
  | true =>
    rw [coilWatchStep_over c k fitted exceeds]
    have set : (s.setDrive { s.drive with coilWatch := s.drive.coilWatch.set k .disarmed }).drive.coilWatch.get k =
        .disarmed := PerCoil.get_set_same _ _ _
    have sound := (worked_coilWatch h k .disarmed).tended.sound
    generalize s.setDrive { s.drive with coilWatch := s.drive.coilWatch.set k .disarmed } = u at *
    have kept := (worked_setFault sound (axisOfCoil k) .coilshort (some k)).shaped.watch k List.not_mem_nil
    split
    · exact kept.trans set
    · exact set

/-- R68, R108: a coil watch codes nothing but COILSHORT. -/
theorem coilWatchStep_code (x : Nat) (a : Axis) :
    (coilWatchStep k x s).axis.fault.get a = s.axis.fault.get a ∨
      (coilWatchStep k x s).axis.fault.get a = some .coilshort := by
  have code (coil : Option Coil) (u : State) : (setFault (axisOfCoil k) .coilshort coil u).axis.fault.get a =
      u.axis.fault.get a ∨ (setFault (axisOfCoil k) .coilshort coil u).axis.fault.get a = some .coilshort := by
    by_cases own : a = axisOfCoil k
    · subst own
      by_cases taken : u.axis.fitted.get (axisOfCoil k) = true ∧ u.axis.fault.get (axisOfCoil k) = none
      · right
        rw [setFault_taken taken.1 taken.2]
        obtain ⟨frame, -⟩ := enterFault_frame (faultRecord (axisOfCoil k) .coilshort coil u)
          (raise .fault (faultCut (axisOfCoil k) .coilshort u))
        have unit := (reacts_cutGrants .fault (fun g => decide (g.axis = axisOfCoil k))
          (codedUnit (axisOfCoil k) .coilshort u)).axis
        rw [frame]
        show (faultCut (axisOfCoil k) .coilshort u).axis.fault.get _ = _
        unfold faultCut
        rw [unit]
        exact PerAxis.get_set_same _ _ _
      · rw [setFault_dropped (by cases e : u.axis.fitted.get (axisOfCoil k) <;> simp_all)]
        exact .inl rfl
    · exact .inl ((setFault_travels _ _ _ _).2 a own)
  unfold coilWatchStep
  dsimp only
  split
  · split
    · split
      · exact code (some k) (s.setDrive _)
      · exact .inl rfl
    · exact .inl rfl
  · exact .inl rfl

/-- R66, R108: a coil current too high under an armed watch leaves its axis FAULTED. -/
theorem coilWatchStep_faults (h : Sound s) (fitted : s.axis.fitted.get (axisOfCoil k) = true)
    (exceeds : overCoil c k s = true) (armed : s.drive.coilWatch.get k = .armed) :
    (coilWatchStep k (c.coil.get k) s).axis.fault.get (axisOfCoil k) ≠ none ∧
    (s.axis.fault.get (axisOfCoil k) = none → (coilWatchStep k (c.coil.get k) s).faultLog =
      loggedFault (faultRecord (axisOfCoil k) .coilshort (some k) s) s.faultLog) := by
  rw [coilWatchStep_over c k fitted exceeds, if_pos armed]
  generalize watched : s.setDrive { s.drive with coilWatch := s.drive.coilWatch.set k .disarmed } = u
  have sound : Sound u := h.of_grant (by rw [← watched]; rfl)
  have unit : u.axis = s.axis := by rw [← watched]; rfl
  cases code : s.axis.fault.get (axisOfCoil k) with
  | some x =>
    refine ⟨?_, nofun⟩
    rw [(worked_setFault sound (axisOfCoil k) .coilshort (some k)).tended.kept (axisOfCoil k)
      (.inl (by rw [unit, code]; exact nofun)), unit, code]
    exact nofun
  | none =>
    have fitted' : u.axis.fitted.get (axisOfCoil k) = true := by rw [unit]; exact fitted
    have code' : u.axis.fault.get (axisOfCoil k) = none := by rw [unit]; exact code
    obtain ⟨log, -, frame⟩ := faulted_setFault sound fitted' code' .coilshort (some k)
    have unit' := (reacts_cutGrants .fault (fun g => decide (g.axis = axisOfCoil k))
      (codedUnit (axisOfCoil k) .coilshort u)).axis
    refine ⟨?_, fun _ => ?_⟩
    · rw [frame]
      show (faultCut (axisOfCoil k) .coilshort u).axis.fault.get _ ≠ _
      unfold faultCut
      rw [unit']
      show (PerAxis.set _ _ _).get _ ≠ _
      rw [PerAxis.get_set_same]
      exact nofun
    · rw [log, ← watched]
      rfl

end

/-! ## The four coils (R108, log 49) -/

/-- R108: the coil watches of a period. -/
def coilsPeriod (c : PeriodCurrents) (l : List Coil) (s : State) : State :=
  forEach (fun k => coilWatchStep k (c.coil.get k)) l s

theorem worked_coils (c : PeriodCurrents) (l : List Coil) {s : State} (h : Sound s) :
    Worked [.hyd] [] l s (coilsPeriod c l s) := by
  have all := worked_forEach (f := fun k => coilWatchStep k (c.coil.get k)) (as := fun _ => [])
    (fun k s h => worked_coilWatchStep (s := s) h k (c.coil.get k)) l h
  refine all.widen (fun q n => ?_) (fun a n => ?_) fun k n => ?_
  · obtain ⟨_, _, e⟩ := List.mem_flatMap.mp n
    exact e
  · obtain ⟨_, _, e⟩ := List.mem_flatMap.mp n
    cases e
  · obtain ⟨b, hb, e⟩ := List.mem_flatMap.mp n
    rw [List.mem_singleton.mp e]
    exact hb

theorem coils_around (k : Coil) : ∃ pre post, Coil.list = pre ++ k :: post ∧ k ∉ pre ∧ k ∉ post := by
  cases k with
  | c1 => exact ⟨[], [.c2, .c3, .c4], rfl, by decide, by decide⟩
  | c2 => exact ⟨[.c1], [.c3, .c4], rfl, by decide, by decide⟩
  | c3 => exact ⟨[.c1, .c2], [.c4], rfl, by decide, by decide⟩
  | c4 => exact ⟨[.c1, .c2, .c3], [], rfl, by decide, by decide⟩

/-- R108: the states before and after a channel's own step. -/
theorem coil_turn (c : PeriodCurrents) (k : Coil) {s : State} (h : Sound s) :
    ∃ pre post, k ∉ pre ∧ k ∉ post ∧
      coilsPeriod c Coil.list s =
        coilsPeriod c post (coilWatchStep k (c.coil.get k) (coilsPeriod c pre s)) ∧
      Worked [.hyd] [] pre s (coilsPeriod c pre s) ∧
      Worked [.hyd] [] post (coilWatchStep k (c.coil.get k) (coilsPeriod c pre s)) (coilsPeriod c Coil.list s) := by
  obtain ⟨pre, post, split, early, late⟩ := coils_around k
  have before := worked_coils c pre h
  have own := worked_coilWatchStep before.tended.sound k (c.coil.get k)
  have eq : coilsPeriod c Coil.list s =
      coilsPeriod c post (coilWatchStep k (c.coil.get k) (coilsPeriod c pre s)) := by
    rw [split]
    exact List.foldl_append
  refine ⟨pre, post, early, late, eq, before, ?_⟩
  rw [eq]
  exact worked_coils c post own.tended.sound

theorem coils_code (c : PeriodCurrents) (l : List Coil) (a : Axis) (s : State) :
    (coilsPeriod c l s).axis.fault.get a = s.axis.fault.get a ∨
      (coilsPeriod c l s).axis.fault.get a = some .coilshort := by
  induction l generalizing s with
  | nil => exact .inl rfl
  | cons k ks ih =>
    rcases ih (coilWatchStep k (c.coil.get k) s) with same | coded
    · rcases coilWatchStep_code (s := s) k (c.coil.get k) a with first | first
      · exact .inl (same.trans first)
      · exact .inr (same.trans first)
    · exact .inr coded

theorem overCoil_congr {c : PeriodCurrents} {k : Coil} {s t : State} (h : t.config = s.config) :
    overCoil c k t = overCoil c k s := by
  unfold overCoil
  rw [h]

/-- R108: channels within their currents set nothing but their watches. -/
theorem coils_low {c : PeriodCurrents} {l : List Coil} {s : State} (low : ∀ j ∈ l, overCoil c j s = false) :
    coilsPeriod c l s = s.setDrive { s.drive with coilWatch := (coilsPeriod c l s).drive.coilWatch } := by
  induction l generalizing s with
  | nil => rfl
  | cons k ks ih =>
    have own : coilWatchStep k (c.coil.get k) s =
        s.setDrive { s.drive with coilWatch := (coilWatchStep k (c.coil.get k) s).drive.coilWatch } := by
      cases fitted : s.axis.fitted.get (axisOfCoil k) with
      | false =>
        rw [coilWatchStep_unfitted k fitted]
        rfl
      | true =>
        rw [coilWatchStep_low c k fitted (low k List.mem_cons_self)]
        rfl
    have rest := ih (s := coilWatchStep k (c.coil.get k) s) fun j hj => by
      rw [overCoil_congr (by rw [own])]
      exact low j (List.mem_cons_of_mem _ hj)
    show coilsPeriod c ks (coilWatchStep k (c.coil.get k) s) = s.setDrive { s.drive with
      coilWatch := (coilsPeriod c ks (coilWatchStep k (c.coil.get k) s)).drive.coilWatch }
    rw [rest, own]
    rfl

/-- R108: the watches after the four coils. -/
theorem coils_watch (c : PeriodCurrents) (k : Coil) {s : State} (h : Sound s) :
    (s.axis.fitted.get (axisOfCoil k) = false →
      (coilsPeriod c Coil.list s).drive.coilWatch.get k = s.drive.coilWatch.get k) ∧
    (s.axis.fitted.get (axisOfCoil k) = true →
      (coilsPeriod c Coil.list s).drive.coilWatch.get k = if overCoil c k s then .disarmed else .armed) := by
  obtain ⟨pre, post, early, late, -, before, after⟩ := coil_turn c k h
  have watch := before.shaped.watch k early
  have watch' := after.shaped.watch k late
  have fits := before.tended.fitted
  refine ⟨fun out => ?_, fun fitted => ?_⟩
  · rw [watch', coilWatchStep_unfitted k (by rw [fits]; exact out), watch]
  · rw [watch', coilWatchStep_watch c k before.tended.sound (by rw [fits]; exact fitted),
      overCoil_congr before.tended.config]

/-- R66, R108: a coil short on an axis without a fault. -/
theorem coils_fault (c : PeriodCurrents) (k : Coil) {s : State} (h : Sound s)
    (fitted : s.axis.fitted.get (axisOfCoil k) = true) (exceeds : overCoil c k s = true)
    (armed : s.drive.coilWatch.get k = .armed) :
    (coilsPeriod c Coil.list s).axis.fault.get (axisOfCoil k) ≠ none ∧
    (s.axis.fault.get (axisOfCoil k) = none →
      (coilsPeriod c Coil.list s).axis.fault.get (axisOfCoil k) = some .coilshort ∧
      ((∀ j, j ≠ k → overCoil c j s = false) → (coilsPeriod c Coil.list s).faultLog =
        loggedFault (faultRecord (axisOfCoil k) .coilshort (some k) s) s.faultLog)) := by
  obtain ⟨pre, post, early, late, eq, before, after⟩ := coil_turn c k h
  have fits := before.tended.fitted
  have config := before.tended.config
  obtain ⟨coded, logged⟩ := coilWatchStep_faults c k before.tended.sound (by rw [fits]; exact fitted)
    (by rw [overCoil_congr config]; exact exceeds) ((before.shaped.watch k early).trans armed)
  have code : (coilsPeriod c Coil.list s).axis.fault.get (axisOfCoil k) ≠ none := by
    rw [after.tended.kept _ (.inl coded)]
    exact coded
  refine ⟨code, fun sound => ⟨?_, fun low => ?_⟩⟩
  · rcases coils_code c Coil.list (axisOfCoil k) s with same | short
    · exact absurd (same.trans sound) code
    · exact short
  · have quiet := coils_low (c := c) (l := pre) (s := s) fun j hj => low j (by rintro rfl; exact early hj)
    have own := worked_coilWatchStep before.tended.sound k (c.coil.get k)
    have quiet' := coils_low (c := c) (l := post) (s := coilWatchStep k (c.coil.get k) (coilsPeriod c pre s))
      fun j hj => by
        rw [overCoil_congr (own.tended.config.trans config)]
        exact low j (by rintro rfl; exact late hj)
    rw [eq, quiet']
    refine (logged (by rw [quiet]; exact sound)).trans ?_
    rw [quiet]
    rfl

end Sys2Proof.Machine.Steps
end

section
/-! The state that the pump watch of a control period meets (R91, R105): the axes, the panels and the coils done. -/

namespace Sys2Proof.Machine.Steps

open Motion Holds

/-! ## A hand-over that sets no fault (R125) -/

section
variable {s : State}

theorem reportObstructed_travels (m : Motor) (s : State) :
    Travels s (reportObstructed m s) ∧ (reportObstructed m s).axis = s.axis := by
  unfold reportObstructed
  split
  · exact ⟨travels_of_same rfl rfl, rfl⟩
  · split
    · exact ⟨travels_of_same rfl rfl, rfl⟩
    · exact ⟨travels_retire _ _ s, (reacts_retire _ _ s).axis⟩

theorem endCheck_travels (m : Motor) (s : State) : Travels s (endCheck m s) ∧ (endCheck m s).axis = s.axis := by
  unfold endCheck
  dsimp only
  split
  · exact ⟨travels_of_same rfl rfl, rfl⟩
  · split
    · have put : Travels s (putPanel m { panelOf m s with endReported := true } s) := travels_putPanel (.inl rfl)
      unfold reportEnd
      split
      · exact ⟨put, rfl⟩
      · split
        · exact ⟨put.trans (travels_retire _ _ _), (reacts_retire _ _ _).axis⟩
        · exact ⟨put, rfl⟩
    · exact ⟨travels_of_same rfl rfl, rfl⟩

theorem edgeCheck_travels (m : Motor) (s : State) : Travels s (edgeCheck m s) ∧ (edgeCheck m s).axis = s.axis := by
  unfold edgeCheck
  split
  · have put : Travels s (putPanel .shut { panelOf .shut s with gate := .held } s) := travels_putPanel (.inl rfl)
    obtain ⟨travels, axis⟩ := reportObstructed_travels .shut
      (putPanel .shut { panelOf .shut s with gate := .held } s)
    exact ⟨put.trans travels, axis⟩
  · exact ⟨travels_of_same rfl rfl, rfl⟩

theorem obstructionStep_travels (m : Motor) (x : Nat) (s : State) :
    Travels s (obstructionStep m x s) ∧ (obstructionStep m x s).axis = s.axis := by
  have put (n : Nat) : Travels s (putPanel m { panelOf m s with obstruction := n } s) := travels_putPanel (.inl rfl)
  unfold obstructionStep
  dsimp only
  split
  · exact ⟨put 0, rfl⟩
  · split
    · obtain ⟨travels, axis⟩ := reportObstructed_travels m (putPanel m { panelOf m s with obstruction := 0 } s)
      exact ⟨(put 0).trans travels, axis⟩
    · exact ⟨put _, rfl⟩

/-- R125: a sequence that has only just started is far from its travel limit. -/
theorem travelStep_starting {m : Motor} {s : State} (starts : Restarted none (panelOf m s).travel) :
    (travelStep m s).axis = s.axis := by
  unfold travelStep
  dsimp only
  split
  · next q n _ travel =>
    have zero : n = 0 := by
      rcases starts with e | e | e
      · cases e.symm.trans travel
      · cases e.symm.trans travel
      · exact Option.some.inj (travel.symm.trans e)
    subst zero
    split
    · rfl
    · split
      · rfl
      · have near : ¬ (0 + periodMs > travelLimitMs m) := by cases m <;> decide
        rw [if_neg near]
        rfl
  · rfl

theorem panelPeriod_faultless {m : Motor} {s : State} (starts : Restarted none (panelOf m s).travel) (x : Nat) :
    (panelPeriod m x s).axis = s.axis := by
  obtain ⟨first, unit⟩ := endCheck_travels m s
  obtain ⟨second, unit'⟩ := edgeCheck_travels m (endCheck m s)
  obtain ⟨third, unit''⟩ := obstructionStep_travels m x (edgeCheck m (endCheck m s))
  have travels := ((first.trans second).trans third).motor m
  exact (travelStep_starting (starts.trans travels)).trans (unit''.trans (unit'.trans unit))

/-- R125: with no travel time under way the hand-over sets no fault. -/
theorem panels_faultless (c : PeriodCurrents) {l : List Motor} (distinct : l.Nodup) {s : State} (h : Sound s)
    (starts : ∀ m ∈ l, Restarted none (panelOf m s).travel) : (panelsPeriod c l s).axis = s.axis := by
  induction l generalizing s with
  | nil => rfl
  | cons m ms ih =>
    obtain ⟨new, distinct⟩ := List.nodup_cons.mp distinct
    have own := panelPeriod_faultless (starts m List.mem_cons_self) (c.motor.get m)
    have worked := worked_panelPeriod h m (c.motor.get m)
    refine (ih distinct worked.tended.sound fun k hk => ?_).trans own
    have other : resourceOf (axisOfMotor k) ∉ [resourceOf (axisOfMotor m)] := by
      intro mem
      have same : k = m := by
        have e := List.mem_singleton.mp mem
        cases k <;> cases m <;> first | rfl | cases e
      exact new (same ▸ hk)
    have panel : panelOf k (panelPeriod m (c.motor.get m) s) = panelOf k s :=
      ((worked.spared _ other).apart _ rfl).panel k rfl
    rw [panel]
    exact starts k (List.mem_cons_of_mem m hk)

end

/-! ## The steps before the pump watch -/

/-- R91, R114: the axes and the panels done, and the LIFT output reported. -/
def panelsDone (c : PeriodCurrents) (s : State) : State :=
  reportLiftOutput (panelsPeriod c Motor.list (axesPeriod s))

/-- R91, R108: the state that the pump watch meets. -/
def watchedPeriod (c : PeriodCurrents) (s : State) : State := coilsPeriod c Coil.list (panelsDone c s)

theorem controlPeriod_eq {s : State} (works : working s = true) (c : PeriodCurrents) :
    controlPeriod c s = takeDriveItems (pumpWatch c.pump (watchedPeriod c s)) := if_pos works

theorem axesPeriod_shaped {s : State} (shaped : shapedMode s.mode.mode = true) :
    axesPeriod s = forEach axisPeriod Axis.list s := if_pos shaped

theorem axesPeriod_forced {s : State} (forced : shapedMode s.mode.mode = false) :
    axesPeriod s = forceOutputs s := if_neg (by rw [forced]; nofun)

theorem worked_handOver (c : PeriodCurrents) {u : State} (k : Sound u) : Worked [.shut, .ndor, .odor] [] [] u
    (reportLiftOutput (panelsPeriod c Motor.list u)) := by
  have panels := worked_panels c Motor.list k
  exact (panels.trans (worked_reportLiftOutput panels.tended.sound)).widen (by decide) (fun _ m => m)
    (fun _ m => m)

section
variable (c : PeriodCurrents) {s : State} (h : Sound s)
include h

theorem worked_axesPeriod : Worked [.hyd, .shut, .ndor, .odor] Axis.list [] s (axesPeriod s) := by
  cases shaped : shapedMode s.mode.mode with
  | true =>
    rw [axesPeriod_shaped shaped]
    refine (worked_axes Axis.list h).widen (fun q _ => ?_) (fun _ m => m) (fun _ m => m)
    cases q <;> decide
  | false =>
    rw [axesPeriod_forced shaped]
    exact worked_forceOutputs h

theorem worked_panelsDone : Worked [.hyd, .shut, .ndor, .odor] Axis.list [] s (panelsDone c s) := by
  have axes := worked_axesPeriod h
  exact axes.after ((worked_handOver c axes.tended.sound).widen (by decide) (List.nil_subset _)
    (fun _ m => m))

/-- R91: the panels, the LIFT report and the coils. -/
theorem worked_afterAxes : Worked [.shut, .ndor, .odor, .hyd] [] Coil.list (axesPeriod s) (watchedPeriod c s) := by
  have axes := worked_axesPeriod h
  have panels := worked_handOver c axes.tended.sound
  exact panels.trans (worked_coils c Coil.list panels.tended.sound)

theorem worked_watched : Worked [.hyd, .shut, .ndor, .odor] Axis.list Coil.list s (watchedPeriod c s) :=
  ((worked_axesPeriod h).trans (worked_afterAxes c h)).widen (by decide) (by decide) (fun _ m => m)

end

/-! ## What the axes have come to (R91 to R103) -/

/-- R91: an axis with a driving grant, at the end of the period. -/
structure AxisSet (g : Grant) (s t : State) : Prop where
  live : livesOn g t = true → Driven g s t
  ended : livesOn g t = false → AtZero g.axis t
  rundown : g.state = .easing → nextOutput g s = 0 → livesOn g t = false

section
variable (c : PeriodCurrents) {s : State} (h : Sound s) (shaped : shapedMode s.mode.mode = true)
include h shaped

theorem axisSet_watched {a : Axis} {g : Grant} (driving : drivingGrant a s = some g) :
    AxisSet g s (watchedPeriod c s) := by
  obtain ⟨hg, axis, holds, -⟩ := drivingGrant_some s driving
  have own := axisDriven_axes h driving
  rw [← axesPeriod_shaped shaped] at own
  have after := worked_afterAxes c h
  have back (lives : livesOn g (watchedPeriod c s) = true) := lives_back after.tended.origin lives
  refine ⟨fun lives => ?_, fun gone => ?_, fun easing zero => ?_⟩
  · obtain ⟨mem, driven, -⟩ := own.live (back lives)
    exact driven.after ((after.shaped.stays g mem holds lives).2 List.not_mem_nil)
  · cases before : livesOn g (axesPeriod s) with
    | false => exact (after.shaped.falls _ List.not_mem_nil).atZero (own.ended before)
    | true => exact after.shaped.ends g (own.live before).1 holds List.not_mem_nil gone
  · rw [← Bool.not_eq_true]
    intro lives
    exact nomatch (own.rundown easing zero).symm.trans (back lives)

theorem atZero_watched {a : Axis} (none : drivingGrant a s = none) : AtZero a (watchedPeriod c s) := by
  have zero := atZero_axes h none
  rw [← axesPeriod_shaped shaped] at zero
  exact ((worked_afterAxes c h).shaped.falls a List.not_mem_nil).atZero zero

theorem foldTravelled_watched {g : Grant} (driving : drivingGrant .fold s = some g) {n : Nat}
    (travel : s.drive.foldTravel = some n) : FoldTravelled g n s (watchedPeriod c s) := by
  obtain ⟨-, axis, holds, -⟩ := drivingGrant_some s driving
  have own := foldTravelled_axes h driving travel
  have live := (axisDriven_axes h driving).live
  rw [← axesPeriod_shaped shaped] at own live
  exact own.after axis (fun lives => (live lives).1) holds (worked_afterAxes c h) List.not_mem_nil

theorem handedOver_watched {m : Motor} {g : Grant} (driving : drivingGrant (axisOfMotor m) s = some g)
    (own : sequenceOf g m s = true) (runs : ¬ (g.state = .easing ∧ nextOutput g s = 0)) :
    HandedOver g m (nextOutput g s) (panelOf m s) (c.motor.get m) s (watchedPeriod c s) := by
  have handedOver := handedOver_period c h driving own runs
  rw [← axesPeriod_shaped shaped] at handedOver
  have axes := worked_axesPeriod h
  have panels := worked_panels c Motor.list axes.tended.sound
  have lift := worked_reportLiftOutput panels.tended.sound
  have last := lift.trans (worked_coils c Coil.list lift.tended.sound)
  exact handedOver.after last (by cases m <;> decide)

end

/-! ## What the coil watches have come to (R66 to R68, R108) -/

section
variable (c : PeriodCurrents) (k : Coil) {s : State} (h : Sound s)
include h

theorem watched_watch : (s.axis.fitted.get (axisOfCoil k) = false →
      (watchedPeriod c s).drive.coilWatch.get k = s.drive.coilWatch.get k) ∧
    (s.axis.fitted.get (axisOfCoil k) = true →
      (watchedPeriod c s).drive.coilWatch.get k = if overCoil c k s then .disarmed else .armed) := by
  have before := worked_panelsDone c h
  obtain ⟨out, fits⟩ := coils_watch c k before.tended.sound
  rw [before.tended.fitted] at out fits
  rw [overCoil_congr before.tended.config] at fits
  exact ⟨fun e => (out e).trans (before.shaped.watch k List.not_mem_nil), fits⟩

/-- R66, R110: with the FOLD travel time within its limit no platform axis is coded before its coils. -/
theorem panelsDone_code (short : FoldShort s) : (panelsDone c s).axis.fault.get (axisOfCoil k) =
    s.axis.fault.get (axisOfCoil k) := by
  have axes := worked_axesPeriod h
  have codes := (worked_handOver c axes.tended.sound).codes (axisOfCoil k)
    (by cases k <;> decide)
  refine codes.trans ?_
  cases shaped : shapedMode s.mode.mode with
  | true =>
    rw [axesPeriod_shaped shaped, (axes_faultless h short).1]
  | false =>
    rw [axesPeriod_forced shaped]
    rfl

/-- R66, R110, R125: with no travel time near its limit no axis is coded before the coils. -/
theorem panelsDone_faultless (short : FoldShort s) (still : ∀ m, (panelOf m s).travel = none) :
    (panelsDone c s).axis.fault = s.axis.fault := by
  have axes := worked_axesPeriod h
  have unit : (axesPeriod s).axis = s.axis ∧ ∀ m, Restarted none (panelOf m (axesPeriod s)).travel := by
    cases shaped : shapedMode s.mode.mode with
    | true =>
      obtain ⟨unit, travels⟩ := axes_faultless h short
      rw [axesPeriod_shaped shaped]
      exact ⟨unit, fun m => still m ▸ travels m⟩
    | false =>
      rw [axesPeriod_forced shaped]
      exact ⟨rfl, fun m => .inl (still m)⟩
  show (panelsPeriod c Motor.list (axesPeriod s)).axis.fault = _
  rw [panels_faultless c (by decide) axes.tended.sound (fun m _ => unit.2 m), unit.1]

/-- R66, R108: a coil short leaves no grant on its axis. -/
theorem watched_short (fitted : s.axis.fitted.get (axisOfCoil k) = true) (exceeds : overCoil c k s = true)
    (armed : s.drive.coilWatch.get k = .armed) (sound : s.axis.fault.get (axisOfCoil k) = none) :
    (∀ g ∈ (watchedPeriod c s).grant.table, g.axis ≠ axisOfCoil k) ∧
    (FoldShort s → (watchedPeriod c s).axis.fault.get (axisOfCoil k) = some .coilshort ∧
      ((∀ m, (panelOf m s).travel = none) → (∀ j, j ≠ k → overCoil c j s = false) →
        (watchedPeriod c s).faultLog = loggedFault
          { kind := .axisFault .coilshort, axis := some (axisOfCoil k), coil := some k
            position := if axisOfCoil k = .lift then some s.axis.position else none
            mode := s.mode.mode } s.faultLog)) := by
  have before := worked_panelsDone c h
  obtain ⟨code, set⟩ := coils_fault c k before.tended.sound (by rw [before.tended.fitted]; exact fitted)
    (by rw [overCoil_congr before.tended.config]; exact exceeds)
    ((before.shaped.watch k List.not_mem_nil).trans armed)
  refine ⟨(worked_watched c h).tended.gone _ sound code, fun short => ?_⟩
  obtain ⟨coded, logged⟩ := set ((panelsDone_code c k h short).trans sound)
  refine ⟨coded, fun still low => ?_⟩
  obtain ⟨log, -⟩ := before.tended.logged (panelsDone_faultless c h short still)
  refine (logged fun j n => by rw [overCoil_congr before.tended.config]; exact low j n).trans ?_
  rw [log]
  unfold faultRecord
  rw [before.tended.frame]

end

/-! ## What the pump watch meets (R104, R105) -/

theorem watched_pumpOver (c : PeriodCurrents) {s : State} (h : Sound s) :
    (watchedPeriod c s).drive.pumpOver = s.drive.pumpOver := by
  have shaper := (worked_watched c h).shaped.shaper
  unfold Shaper at shaper
  rw [shaper]

/-- R104: every platform grant drives. -/
def PlatformDrives (s : State) : Prop := ∀ g ∈ s.grant.table, resourceOf g.axis = .hyd → g.state = .driving

/-- R91, R104: platform grants that drive keep the contactor closed through a period of their axis. -/
theorem axisPeriod_pumps {s : State} (h : Sound s) (drives : PlatformDrives s) (a : Axis)
    (short : a = .fold → FoldShort s) : PlatformDrives (axisPeriod a s) ∧
      (axisPeriod a s).drive.pumpClosed = s.drive.pumpClosed := by
  have worked := worked_axisPeriod h a
  by_cases hyd : resourceOf a = .hyd
  swap
  · have spared := worked.spared .hyd fun m => hyd (List.mem_singleton.mp m).symm
    exact ⟨fun g hg e => drives g ((spared.table g e).mp hg) e, (spared.apart .lift rfl).pump rfl⟩
  cases driving : drivingGrant a s with
  | none =>
    rw [axisPeriod_idle driving]
    refine ⟨drives, ?_⟩
    cases a <;> rfl
  | some g =>
    obtain ⟨hg, axis, -⟩ := drivingGrant_some s driving
    have runs : ¬ (g.state = .easing ∧ nextOutput g s = 0) := fun k =>
      nomatch k.1.symm.trans (drives g hg (by rw [axis]; exact hyd))
    obtain ⟨grant, -, -, -, -, pump⟩ := setActuator_keeps a (periodSet g s)
    have drives' : PlatformDrives (setActuator a (periodSet g s)) := by
      unfold PlatformDrives
      rw [grant]
      exact drives
    rw [axisPeriod_runs driving runs]
    unfold travelAfter
    split
    · next fold =>
      subst fold
      have same : foldTravelStep (setActuator .fold (periodSet g s)) = (setActuator .fold (periodSet g s)).setDrive
          { (setActuator .fold (periodSet g s)).drive with
            foldTravel := (foldTravelStep (setActuator .fold (periodSet g s))).drive.foldTravel } :=
        foldTravelStep_short driving (short rfl)
      rw [same]
      exact ⟨drives', pump⟩
    · exact ⟨drives', pump⟩

/-- R104: the contactor is as it was where every platform grant drives and none is faulted. -/
theorem watched_pump (c : PeriodCurrents) {s : State} (h : Sound s) (shaped : shapedMode s.mode.mode = true)
    (drives : PlatformDrives s) (short : FoldShort s) (low : ∀ k, overCoil c k s = false) :
    (watchedPeriod c s).drive.pumpClosed = s.drive.pumpClosed := by
  have all (as : List Axis) (n : ∀ a ∈ as, a ≠ .fold) {s : State} (h : Sound s) (drives : PlatformDrives s) :
      PlatformDrives (forEach axisPeriod as s) ∧
        (forEach axisPeriod as s).drive.pumpClosed = s.drive.pumpClosed := by
    induction as generalizing s with
    | nil => exact ⟨drives, rfl⟩
    | cons a as ih =>
      obtain ⟨drives', pump⟩ := axisPeriod_pumps h drives a fun e => absurd e (n a List.mem_cons_self)
      obtain ⟨drives'', pump'⟩ := ih (fun b hb => n b (List.mem_cons_of_mem a hb))
        (worked_axisPeriod h a).tended.sound drives'
      exact ⟨drives'', pump'.trans pump⟩
  have sound := (worked_axes [.lift, .tilt] h).tended.sound
  obtain ⟨first, pump⟩ := all [.lift, .tilt] (by decide) h drives
  obtain ⟨second, pump'⟩ := axisPeriod_pumps sound first .fold fun _ =>
    short.restarted (axes_travels (as := [.lift, .tilt]) (by decide) s).1.fold
  obtain ⟨-, pump''⟩ := all [.shut, .ndor, .odor] (by decide) (worked_axisPeriod sound .fold).tended.sound second
  have axes : (axesPeriod s).drive.pumpClosed = s.drive.pumpClosed := by
    rw [axesPeriod_shaped shaped]
    exact pump''.trans (pump'.trans pump)
  have worked := worked_axesPeriod h
  have panels := worked_handOver c worked.tended.sound
  have done : (panelsDone c s).drive.pumpClosed = (axesPeriod s).drive.pumpClosed :=
    ((panels.spared .hyd (by decide)).apart .lift rfl).pump rfl
  have quiet := coils_low (c := c) (l := Coil.list) (s := panelsDone c s) fun j _ => by
    rw [overCoil_congr (worked_panelsDone c h).tended.config]
    exact low j
  unfold watchedPeriod
  rw [quiet]
  exact done.trans axes

end Sys2Proof.Machine.Steps
end

section
/-! The pump watch (R105, R174) and the close of a control period (R175): what they leave of the axes, the panels
and the messages queued. -/

namespace Sys2Proof.Machine.Steps

open Motion Holds

/-! ## What the end of a period leaves (R29, R175) -/

/-- Every message queued on an UP port stays queued. -/
def Queued (s t : State) : Prop := ∀ l, (portOf l s).state = .up → ∀ x ∈ queueOf l s,
  (portOf l t).state = .up ∧ x ∈ queueOf l t

theorem Queued.trans {s t u : State} (h : Queued s t) (k : Queued t u) : Queued s u := by
  intro l up x hx
  obtain ⟨up', hx'⟩ := h l up x hx
  exact k l up' x hx'

theorem queued_of_port {s t : State} (port : t.port = s.port) : Queued s t := by
  intro l up x hx
  unfold queueOf at *
  unfold portOf at *
  rw [port]
  exact ⟨up, hx⟩

theorem queued_of_told {ends : List (Grant × Reason)} {s t : State} (h : Told ends s t) : Queued s t := by
  intro l up x hx
  refine ⟨(told_state h l).trans up, ?_⟩
  rw [told_queue h]
  exact List.mem_append_left _ hx

/-- The grants, the panels and the outputs are as they were, or there is no grant and every output is off. -/
def Stands (s t : State) : Prop :=
  t.grant = s.grant ∧ t.panel = s.panel ∧ t.drive = { s.drive with
    pumpOver := t.drive.pumpOver, hysteresisInForce := t.drive.hysteresisInForce
    halfPeriodInForce := t.drive.halfPeriodInForce } ∨
  t.grant.table = [] ∧ OutputsOff t

theorem Stands.trans {s t u : State} (h : Stands s t) (k : Stands t u) : Stands s u := by
  rcases k with ⟨grant, panel, drive⟩ | off
  swap
  · exact .inr off
  rcases h with ⟨grant', panel', drive'⟩ | ⟨table, off⟩
  · exact .inl ⟨grant.trans grant', panel.trans panel', drive.trans (by rw [drive'])⟩
  · refine .inr ⟨by rw [grant]; exact table, ?_⟩
    exact ⟨by rw [drive]; exact off.output, by rw [drive]; exact off.coil, by rw [drive]; exact off.duty,
      by rw [drive]; exact off.pump, by rw [drive]; exact off.d1, by rw [drive]; exact off.d2,
      by rw [panel]; exact off.near, by rw [panel]; exact off.off⟩

theorem stands_of_same {s t : State} (grant : t.grant = s.grant) (panel : t.panel = s.panel)
    (drive : t.drive = s.drive) : Stands s t := .inl ⟨grant, panel, by rw [drive]⟩

/-- What the end of a period, a mode change with it, leaves. -/
structure Passed (s t : State) : Prop where
  fault : t.axis.fault = s.axis.fault
  watch : t.drive.coilWatch = s.drive.coilWatch
  queued : Queued s t
  stands : Stands s t

theorem Passed.trans {s t u : State} (h : Passed s t) (k : Passed t u) : Passed s u :=
  ⟨k.fault.trans h.fault, k.watch.trans h.watch, h.queued.trans k.queued, h.stands.trans k.stands⟩

theorem passed_of_same {s t : State} (grant : t.grant = s.grant) (panel : t.panel = s.panel)
    (drive : t.drive = s.drive) (axis : t.axis = s.axis) (port : t.port = s.port) : Passed s t :=
  ⟨by rw [axis], by rw [drive], queued_of_port port, stands_of_same grant panel drive⟩

/-- R105, R112: the over-time and the drive items set. -/
theorem passed_setDrive (s : State) (n h p : Nat) : Passed s (s.setDrive
    { s.drive with pumpOver := n, hysteresisInForce := h, halfPeriodInForce := p }) :=
  ⟨rfl, rfl, queued_of_port rfl, .inl ⟨rfl, rfl, rfl⟩⟩

/-- R23: ordering the GENDs loses no message. -/
theorem queued_orderGends (b s : State) : Queued s (orderGends b s) := by
  intro l up x hx
  unfold queueOf
  rw [portOf_orderGends]
  refine ⟨up, ?_⟩
  rw [← List.take_append_drop (queueOf l b).length (queueOf l s)] at hx
  refine List.mem_append.mpr ((List.mem_append.mp hx).imp_right fun late => ?_)
  exact (sortGends_spec b.grant.table _).1.mem_iff.mpr late

theorem passed_orderGends (b s : State) : Passed s (orderGends b s) := by
  have queued := queued_orderGends b s
  have frame := orderGends_frame b s
  generalize orderGends b s = t at *
  exact ⟨by rw [frame]; rfl, by rw [frame]; rfl, queued,
    stands_of_same (by rw [frame]; rfl) (by rw [frame]; rfl) (by rw [frame]; rfl)⟩

theorem passed_raise (f : NoticeFlag) (s : State) : Passed s (raise f s) := passed_of_same rfl rfl rfl rfl rfl

theorem passed_enterFault (r : FaultRecord) (s : State) : Passed s (enterFault r s) := by
  obtain ⟨frame, -⟩ := enterFault_frame r s
  generalize enterFault r s = t at *
  exact passed_of_same (by rw [frame]; rfl) (by rw [frame]; rfl) (by rw [frame]; rfl) (by rw [frame]; rfl)
    (by rw [frame]; rfl)

theorem passed_noticeMode (old new : Mode) (s : State) : Passed s (noticeMode old new s) := by
  unfold noticeMode
  split
  · exact passed_of_same rfl rfl rfl rfl rfl
  · exact passed_raise .mode s

/-! ## Mode changes (R29, R105, R111, R170) -/

/-- R111, R113: entry into OFF with no grant live. -/
theorem passed_enterOff {s : State} (empty : s.grant.table = []) (h : Sound s) : Passed s (enterOff s) := by
  obtain ⟨drive, -⟩ := enterOff_drive empty
  have ports := portOf_enterOff empty
  have off := offs_enterOff h
  generalize enterOff s = t at *
  refine ⟨by rw [off.axis], by rw [drive]; rfl, fun l up x hx => ?_, .inr ⟨off.cut.table, off.cut.outputs⟩⟩
  have some : (portOf l s).queue ≠ [] := List.ne_nil_of_mem hx
  obtain ⟨queue, state⟩ := offPort_queued up some
  unfold queueOf
  rw [ports l]
  refine ⟨state, ?_⟩
  rw [queue]
  exact hx

/-- R105: the drive shaper through a mode change that cuts. -/
theorem cutMode_drive {m : Mode} (t : Option Nat) {s : State} (h : Sound s) :
    (cutMode m t s).drive.coilWatch = s.drive.coilWatch ∧ (cutMode m t s).drive.pumpOver = s.drive.pumpOver := by
  have gone := allGone_cutGrants (s := setModeTimer m t s) (h.of_grant rfl) (r := .mode) nofun
  have shaper := (retired_cut (s := setModeTimer m t s) (h.of_grant rfl) .mode fun _ => true).shaped
  have watch (k : Coil) := shaper.watch k List.not_mem_nil
  have same : (cutMode m t s).drive = forceDrive (cutGrants .mode (fun _ => true) (setModeTimer m t s)).drive := by
    unfold cutMode
    rw [(beaconMode_frame s.mode.mode m _).1, recomputePermits_of_empty (by exact gone.table)]
    rfl
  have shaped := shaper.shaper
  unfold Shaper at shaped
  rw [same]
  refine ⟨PerCoil.ext_get watch, ?_⟩
  show (cutGrants .mode (fun _ => true) (setModeTimer m t s)).drive.pumpOver = _
  rw [shaped]
  rfl

/-- R29, R111, R169: a mode change that cuts, between modes that serve links. -/
theorem passed_cuts {m : Mode} (cuts : cutsAll m = true) (served : linkMode m = true) {s : State}
    (was : linkMode s.mode.mode = true) (h : Sound s) (t : Option Nat) :
    Passed s (changeMode m t s) ∧ (changeMode m t s).grant.table = [] ∧
      (changeMode m t s).drive.pumpOver = s.drive.pumpOver := by
  have cut := modeCut_cutMode cuts t h
  obtain ⟨watch, pump⟩ := cutMode_drive (m := m) t h
  rw [changeMode_served cuts served was h]
  have notice := passed_noticeMode s.mode.mode m (cutMode m t s)
  have noticed := (noticeMode_eq s.mode.mode m (cutMode m t s)).1
  obtain ⟨ends, told, -⟩ := cut.told
  have passed : Passed s (cutMode m t s) :=
    ⟨by rw [cut.frame], watch, queued_of_told told, .inr ⟨cut.cut.table, cut.cut.outputs⟩⟩
  refine ⟨passed.trans notice, ?_, ?_⟩
  · rw [noticed]
    exact cut.cut.table
  · rw [noticed]
    exact pump

/-- R169, R175: CLOSEDOWN entered with no grant live, between modes that serve links. -/
theorem passed_closedown {s : State} (empty : s.grant.table = []) (was : linkMode s.mode.mode = true)
    (t : Option Nat) : Passed s (changeMode .closedown t s) ∧ (changeMode .closedown t s).grant = s.grant ∧
      (changeMode .closedown t s).drive = s.drive := by
  have none : reactMode .closedown (setModeTimer .closedown t s) = setModeTimer .closedown t s := by
    unfold reactMode easeGrants forGrants
    simp only [show (setModeTimer .closedown t s).grant.table = [] from empty]
    rfl
  have lit := (beaconMode_frame s.mode.mode .closedown (remapped (setModeTimer .closedown t s))).1
  have eq : changeMode .closedown t s = noticeMode s.mode.mode .closedown (modePorts .closedown s
      (beaconMode s.mode.mode .closedown (remapped (setModeTimer .closedown t s)))) := by
    unfold changeMode
    dsimp only
    rw [none]
    have shaped : forceFor .closedown (setModeTimer .closedown t s) = setModeTimer .closedown t s := rfl
    rw [shaped, recomputePermits_of_empty (by exact empty)]
  generalize beaconMode s.mode.mode .closedown (remapped (setModeTimer .closedown t s)) = u at lit eq
  have ports : modePorts .closedown s u = u := judgePorts_of_same fun l => by
    refine portEnabled_of_same ?_ ?_ ?_ l
    · rw [was, lit]
      rfl
    · rw [lit]
      rfl
    · rw [lit]
      rfl
  rw [ports] at eq
  have noticed := (noticeMode_eq s.mode.mode .closedown u).1
  have notice := passed_noticeMode s.mode.mode .closedown u
  have passed : Passed s u := passed_of_same (by rw [lit]; rfl) (by rw [lit]; rfl) (by rw [lit]; rfl)
    (by rw [lit]; rfl) (by rw [lit]; rfl)
  rw [eq]
  refine ⟨passed.trans notice, ?_, ?_⟩
  · rw [noticed, lit]
    rfl
  · rw [noticed, lit]
    rfl

/-- R175: CLOSEDOWN entered with no grant live, and perhaps ended at once. -/
theorem passed_enterClosedown {s : State} (empty : s.grant.table = []) (was : linkMode s.mode.mode = true)
    (h : Sound s) : Passed s (enterClosedown s) := by
  obtain ⟨passed, grant, -⟩ := passed_closedown empty was (some (closedownMs s))
  unfold enterClosedown
  dsimp only
  generalize changeMode .closedown (some (closedownMs s)) s = u at passed grant ⊢
  split
  · exact passed.trans (passed_enterOff (by rw [grant]; exact empty) (h.of_grant grant))
  · exact passed

end Sys2Proof.Machine.Steps
end

section
/-! A control period as an event (R91, R105, R175). -/

namespace Sys2Proof.Machine.Steps

open Motion Holds

/-! ## The pump overcurrent (R105, R174) -/

/-- R174: the report entered and the over-time cleared, in the mode in force. -/
def pumpReported (s : State) : State := enterPartFault .pumpoc (s.setDrive { s.drive with pumpOver := 0 })

theorem pumpReported_frame (s : State) : pumpReported s = ((s.setDrive { s.drive with pumpOver := 0 }).setFaultLog
      (loggedFault { kind := .pumpoc, axis := none, coil := none, position := none, mode := s.mode.mode }
        s.faultLog)).setNotice (pumpReported s).notice ∧
    (pumpReported s).notice.flags = { s.notice.flags with
      fltrec := s.notice.flags.fltrec || s.faultLog.record.isNone } ∧
    (pumpReported s).notice.mask = s.notice.mask :=
  enterFault_frame _ (s.setDrive { s.drive with pumpOver := 0 })

/-- R174: the report entered, its time added to the history. -/
def pumpRetried (s : State) : State := (pumpReported s).setMode { s.mode with history := s.mode.history ++ [0] }

theorem pumpOvercurrent_eq {s : State} (closed : s.drive.pumpClosed = true) (shaped : shapedMode s.mode.mode = true) :
    pumpOvercurrent s = if s.mode.history.length < 2 then changeMode .retry (some 2000) (pumpRetried s)
      else enterBarred (pumpReported s) := by
  have frame := (pumpReported_frame s).1
  have mode : (pumpReported s).mode = s.mode := by rw [frame]; rfl
  unfold pumpOvercurrent
  rw [if_pos ⟨closed, shaped⟩]
  unfold reportOvercurrent enterRetry pumpRetried
  dsimp only
  show (if (pumpReported s).mode.history.length < 2 then _ else enterBarred (pumpReported s)) = _
  rw [mode]
  show (if _ then changeMode .retry _ ((pumpReported s).setMode
    { (pumpReported s).mode with history := (pumpReported s).mode.history ++ [0] }) else _) = _
  rw [mode]
  rfl

theorem linkMode_of_shaped {m : Mode} (h : shapedMode m = true) : linkMode m = true := by
  cases m <;> first | rfl | cases h

theorem passed_pumpReported (s : State) : Passed s (pumpReported s) :=
  (passed_setDrive s 0 s.drive.hysteresisInForce s.drive.halfPeriodInForce).trans
    (passed_enterFault _ (s.setDrive { s.drive with pumpOver := 0 }))

/-- R29, R174: a pump overcurrent passes the axes and the messages queued on. -/
theorem passed_pumpOvercurrent {s : State} (h : Sound s) : Passed s (pumpOvercurrent s) := by
  by_cases acts : s.drive.pumpClosed = true ∧ shapedMode s.mode.mode = true
  swap
  · have same : pumpOvercurrent s = s := if_neg acts
    rw [same]
    exact passed_of_same rfl rfl rfl rfl rfl
  have reported := passed_pumpReported s
  have frame := (pumpReported_frame s).1
  have grant : (pumpReported s).grant = s.grant := by rw [frame]; rfl
  have mode : (pumpReported s).mode = s.mode := by rw [frame]; rfl
  have serves := linkMode_of_shaped acts.2
  have sound := h.of_grant grant
  rw [pumpOvercurrent_eq acts.1 acts.2]
  split
  · have retried : Passed (pumpReported s) (pumpRetried s) := passed_of_same rfl rfl rfl rfl rfl
    have sound' : Sound (pumpRetried s) := sound.of_grant rfl
    have enters := (passed_cuts (m := .retry) rfl rfl (s := pumpRetried s) serves sound' (some 2000)).1
    generalize changeMode .retry (some 2000) (pumpRetried s) = u at *
    exact (reported.trans retried).trans enters
  · obtain ⟨passed, empty, -⟩ := passed_cuts (m := .barred) rfl rfl (s := pumpReported s)
      (by rw [mode]; exact serves) sound none
    have barred := changeMode_mode .barred none (pumpReported s)
    have sound' := (does_changeMode (pumpReported s) .barred none nofun).sound sound
    unfold enterBarred
    dsimp only
    generalize changeMode .barred none (pumpReported s) = u at *
    split
    · exact reported.trans passed
    · exact (reported.trans passed).trans (passed_enterClosedown empty (by rw [barred]; rfl) sound')

/-! ## The pump watch (R105) -/

theorem pumpWatch_low {s : State} {n : Nat} (low : n ≤ s.config.drive.pumpLimit) :
    pumpWatch n s = s.setDrive { s.drive with pumpOver := 0 } := by
  unfold pumpWatch
  exact if_neg fun k => absurd k.2 (Nat.not_lt.mpr low)

theorem pumpWatch_counts {s : State} {n : Nat} (high : s.config.drive.pumpLimit < n) (short : s.drive.pumpOver < 290) :
    pumpWatch n s = s.setDrive { s.drive with
      pumpOver := if s.drive.pumpClosed then s.drive.pumpOver + 10 else 0 } := by
  unfold pumpWatch
  dsimp only
  by_cases closed : s.drive.pumpClosed = true
  · rw [if_pos ⟨closed, high⟩, if_pos closed]
    exact if_neg fun k : 300 ≤ s.drive.pumpOver + 10 => by omega
  · rw [if_neg fun k => closed k.1, if_neg closed]

theorem pumpWatch_reports {s : State} {n : Nat} (high : s.config.drive.pumpLimit < n) (long : 290 ≤ s.drive.pumpOver)
    (closed : s.drive.pumpClosed = true) : pumpWatch n s = pumpOvercurrent s := by
  unfold pumpWatch
  dsimp only
  rw [if_pos ⟨closed, high⟩]
  exact if_pos (show 300 ≤ s.drive.pumpOver + 10 by omega)

theorem passed_pumpWatch {s : State} (h : Sound s) (n : Nat) : Passed s (pumpWatch n s) := by
  have set (x : Nat) : Passed s (s.setDrive { s.drive with pumpOver := x }) :=
    passed_setDrive s x s.drive.hysteresisInForce s.drive.halfPeriodInForce
  unfold pumpWatch
  dsimp only
  split
  · split
    · exact passed_pumpOvercurrent h
    · exact set _
  · exact set 0

/-! ## The close of the period (R134, R175) -/

/-- R175: the close of an event from a sound state. -/
theorem conclude_closes {u : State} (h : Sound u) (s : State) : Passed u (conclude s u) ∧
    ((conclude s u).drive = u.drive ∨
      (conclude s u).drive = { forceDrive u.drive with ditherTimer := none, pumpOver := 0 }) ∧
    (conclude s u).faultLog = u.faultLog ∧ (conclude s u).notice.flags.fault = u.notice.flags.fault := by
  cases done : closedownDone s u with
  | true =>
    have empty : u.grant.table = [] := by
      simp only [closedownDone, nothingOut, Bool.and_eq_true, List.isEmpty_iff] at done
      tauto
    rw [conclude_off done h]
    have off := (offs_enterOff h).flags
    exact ⟨passed_enterOff empty h, .inr (enterOff_drive empty).1, (enterOff_recorded u).2.2, by rw [off]⟩
  | false =>
    have frame := conclude_frame (s := s) (u := u) done
    generalize conclude s u = t at *
    exact ⟨passed_of_same (by rw [frame]; rfl) (by rw [frame]; rfl) (by rw [frame]; rfl) (by rw [frame]; rfl)
      (by rw [frame]; rfl), .inl (by rw [frame]; rfl), by rw [frame]; rfl, by rw [frame]; rfl⟩

/-- R91, R105, R112: a control period as it closes, from the state that the pump watch meets. -/
structure PeriodClosed (c : PeriodCurrents) (s v t : State) : Prop where
  passed : Passed v t
  hysteresis : t.drive.hysteresisInForce = s.config.drive.hysteresis
  halfPeriod : t.drive.halfPeriodInForce = s.config.drive.ditherHalfPeriod
  low : c.pump ≤ s.config.drive.pumpLimit → t.drive.pumpOver = 0 ∧ t.faultLog = v.faultLog ∧
    t.notice.flags.fault = v.notice.flags.fault
  counts : s.config.drive.pumpLimit < c.pump → s.drive.pumpOver < 290 →
    t.drive.pumpOver = if t.drive.pumpClosed then s.drive.pumpOver + 10 else 0

theorem takeDriveItems_config {v w : State} (config : w.config = v.config) :
    (takeDriveItems w).drive.hysteresisInForce = v.config.drive.hysteresis ∧
      (takeDriveItems w).drive.halfPeriodInForce = v.config.drive.ditherHalfPeriod := by
  unfold takeDriveItems
  rw [config]
  exact ⟨rfl, rfl⟩

theorem exec_controlPeriod (c : PeriodCurrents) (s : State) :
    exec (.controlPeriod c) s = .next (event (controlPeriod c) s) := rfl

theorem periodClosed {s : State} (h : Sound s) (works : working s = true) (c : PeriodCurrents) :
    PeriodClosed c s (watchedPeriod c s) (event (controlPeriod c) s) := by
  have worked := (worked_watched c h).tended
  have over' := watched_pumpOver c h
  have config := worked.config
  rw [event_eq, controlPeriod_eq works]
  generalize watchedPeriod c s = v at *
  have pump := passed_pumpWatch worked.sound c.pump
  have moves := (moves_pumpWatch c.pump v).config
  have sound := (does_pumpWatch v c.pump).sound worked.sound
  have low : c.pump ≤ s.config.drive.pumpLimit → pumpWatch c.pump v = v.setDrive { v.drive with pumpOver := 0 } :=
    fun e => pumpWatch_low (by rw [config]; exact e)
  have counts : s.config.drive.pumpLimit < c.pump → s.drive.pumpOver < 290 →
      pumpWatch c.pump v = v.setDrive { v.drive with
        pumpOver := if v.drive.pumpClosed then s.drive.pumpOver + 10 else 0 } :=
    fun high short => (pumpWatch_counts (by rw [config]; exact high) (by rw [over']; exact short)).trans
      (by rw [over'])
  generalize pumpWatch c.pump v = w at *
  obtain ⟨hysteresis, half⟩ := takeDriveItems_config moves
  have items : Passed w (takeDriveItems w) :=
    passed_setDrive w w.drive.pumpOver w.config.drive.hysteresis w.config.drive.ditherHalfPeriod
  have ordered := passed_orderGends s (takeDriveItems w)
  have frame := orderGends_frame s (takeDriveItems w)
  have sound' : Sound (orderGends s (takeDriveItems w)) := sound.of_grant (by rw [frame]; rfl)
  obtain ⟨closes, drive, log, flag⟩ := conclude_closes sound' s
  have drive' : (orderGends s (takeDriveItems w)).drive = (takeDriveItems w).drive := by rw [frame]; rfl
  have log' : (orderGends s (takeDriveItems w)).faultLog = w.faultLog := by rw [frame]; rfl
  have flag' : (orderGends s (takeDriveItems w)).notice.flags.fault = w.notice.flags.fault := by rw [frame]; rfl
  have all := ((pump.trans items).trans ordered).trans closes
  generalize orderGends s (takeDriveItems w) = y at *
  generalize conclude s y = t at *
  rw [drive'] at drive
  rw [config] at hysteresis half
  refine ⟨all, ?_, ?_, fun e => ⟨?_, ?_, ?_⟩, fun high short => ?_⟩
  · rcases drive with e | e <;> rw [e] <;> exact hysteresis
  · rcases drive with e | e <;> rw [e] <;> exact half
  · rcases drive with k | k
    · rw [k, low e]
      rfl
    · rw [k]
  · rw [log, log', low e]
    rfl
  · rw [flag, flag', low e]
    rfl
  · rcases drive with k | k
    · rw [k, counts high short]
      rfl
    · rw [k]
      rfl

end Sys2Proof.Machine.Steps
end

section
/-! The statements about a control period: faults (R66 to R68, R108, R110), axes (R91 to R103), sequences
(R123 to R126). -/

namespace Sys2Proof.Machine.Steps

open Motion Holds

/-! ## From the pump watch to the close -/

section
variable {g : Grant} {s v t : State}

theorem Passed.of_live (h : Passed v t) (lives : livesOn g t = true) : livesOn g v = true ∧ t.panel = v.panel ∧
    t.drive = { v.drive with
      pumpOver := t.drive.pumpOver, hysteresisInForce := t.drive.hysteresisInForce
      halfPeriodInForce := t.drive.halfPeriodInForce } := by
  rcases h.stands with ⟨grant, panel, drive⟩ | ⟨empty, -⟩
  · exact ⟨by rw [← lives]; unfold livesOn; rw [grant], panel, drive⟩
  · unfold livesOn at lives
    rw [empty] at lives
    cases lives

theorem Passed.atZero (h : Passed v t) {a : Axis} (zero : AtZero a v) : AtZero a t := by
  rcases h.stands with ⟨-, -, drive⟩ | ⟨-, off⟩
  · exact ⟨by rw [drive]; exact zero.output, fun c e => by rw [drive]; exact zero.coil c e,
      fun m e => by rw [drive]; exact zero.duty m e⟩
  · exact ⟨by rw [off.output]; exact PerAxis.get_all .., fun c _ => by rw [off.coil]; exact PerCoil.get_all ..,
      fun m _ => by rw [off.duty]; exact PerMotor.get_all ..⟩

theorem EndedFor.passed {r : Reason} (h : EndedFor g r s v) (tended : Tended s v) (passed : Passed v t) :
    EndedFor g r s t := by
  refine ⟨?_, fun up => (passed.queued _ ((tended.port _).1.trans up) _ (h.2 up)).2⟩
  rw [← Bool.not_eq_true]
  intro lives
  exact nomatch (passed.of_live lives).1.symm.trans h.1

theorem Passed.gone (h : Passed v t) {a : Axis} (gone : ∀ k ∈ v.grant.table, k.axis ≠ a) :
    ∀ k ∈ t.grant.table, k.axis ≠ a := by
  rcases h.stands with ⟨grant, -, -⟩ | ⟨empty, -⟩
  · rw [grant]
    exact gone
  · rw [empty]
    exact fun _ hk => absurd hk List.not_mem_nil

/-- R91: an axis' driving grant at the close. -/
theorem AxisSet.passed (h : AxisSet g s v) (passed : Passed v t) : AxisSet g s t := by
  obtain ⟨live, ended, rundown⟩ := h
  refine ⟨fun lives => ?_, fun gone => ?_, fun easing zero => ?_⟩
  · obtain ⟨before, -, drive⟩ := passed.of_live lives
    obtain ⟨output, coil, duty⟩ := live before
    exact ⟨by rw [drive]; exact output, by rw [drive]; exact coil, by rw [drive]; exact duty⟩
  · rcases passed.stands with ⟨grant, -, -⟩ | ⟨-, off⟩
    · refine passed.atZero (ended ?_)
      unfold livesOn at gone ⊢
      rwa [grant] at gone
    · exact ⟨by rw [off.output]; exact PerAxis.get_all .., fun c _ => by rw [off.coil]; exact PerCoil.get_all ..,
        fun m _ => by rw [off.duty]; exact PerMotor.get_all ..⟩
  · rw [← Bool.not_eq_true]
    intro lives
    exact nomatch (passed.of_live lives).1.symm.trans (rundown easing zero)

/-- R110: the FOLD travel time at the close. -/
theorem FoldTravelled.passed {n : Nat} (h : FoldTravelled g n s v) (tended : Tended s v) (passed : Passed v t) :
    FoldTravelled g n s t := by
  obtain ⟨atEnd, counted, faulted⟩ := h
  refine ⟨fun lives e => ?_, fun lives away short => ?_, fun away moves long fitted sound => ?_⟩
  · obtain ⟨before, -, drive⟩ := passed.of_live lives
    rw [drive]
    exact atEnd before e
  · obtain ⟨before, -, drive⟩ := passed.of_live lives
    rw [drive]
    exact counted before away short
  · obtain ⟨code, ended⟩ := faulted away moves long fitted sound
    exact ⟨by rw [passed.fault]; exact code, EndedFor.passed ended tended passed⟩

/-- R114: a sequence grant's hand-over at the close. -/
theorem HandedOver.passed {m : Motor} {o x : Nat} {p : PanelRecord} (h : HandedOver g m o p x s v)
    (tended : Tended s v) (passed : Passed v t) : HandedOver g m o p x s t := by
  obtain ⟨live, obstructs, edge, travel, atEnd⟩ := h
  refine ⟨fun lives => ?_, fun excess long => ?_, fun meets => EndedFor.passed (edge meets) tended passed,
    fun n e away moves low misses far fitted sound => ?_,
    fun due ends => EndedFor.passed (atEnd due ends) tended passed⟩
  · obtain ⟨before, panel, -⟩ := passed.of_live lives
    have same : panelOf m t = panelOf m v := by unfold panelOf; rw [panel]
    rw [same]
    exact live before
  · obtain ⟨ended, same⟩ := obstructs excess long
    exact ⟨EndedFor.passed ended tended passed, by rw [passed.fault]; exact same⟩
  · obtain ⟨code, ended⟩ := travel n e away moves low misses far fitted sound
    exact ⟨by rw [passed.fault]; exact code, EndedFor.passed ended tended passed⟩

end

end Sys2Proof.Machine.Steps
end

section
/-! Faults, axes and sequences of a control period: the statements settled (R66 to R68, R91 to R110, R123 to R126). -/

namespace Sys2Proof.Machine.Steps

open Motion Holds

/-! ## Faults (R66 to R68, R108, R110) -/

/-- Settles O35: the reports set their faults by `exec_faultEvent`; in a period the watches of the coils are set
one after another, and what the axes and the panels do before them codes no platform axis but FOLD. -/
theorem faultReportsSetFirstCode : Obligations.FaultReportsSetFirstCode := by
  unfold Obligations.FaultReportsSetFirstCode
  refine ⟨fun c a code s event' runs => exec_faultEvent event' runs, fun c s works grants slots => ?_⟩
  have h : Sound s := ⟨grants, slots⟩
  refine ⟨_, exec_controlPeriod c s, ?_⟩
  have worked := worked_watched c h
  have tended := worked.tended
  obtain ⟨passed, -, -, low, -⟩ := periodClosed h works c
  have fold (shaped : shapedMode s.mode.mode = true) (g : Grant) (driving : drivingGrant .fold s = some g) (n : Nat)
      (travel : s.drive.foldTravel = some n) :=
    (foldTravelled_watched c h shaped driving travel).passed tended passed
  have watch (k : Coil) := watched_watch c k h
  have short (k : Coil) := watched_short c k h
  generalize event (controlPeriod c) s = t at *
  generalize watchedPeriod c s = v at *
  refine ⟨fun a coded => ?_, fun limit same => ?_, fun k => ⟨fun out => ?_, fun fitted => ?_,
    fun fitted exceeds armed sound => ?_⟩, fun shaped g driving n travel => ?_⟩
  · rw [passed.fault]
    exact tended.kept a coded
  · obtain ⟨-, log, flag⟩ := low limit
    obtain ⟨log', flag'⟩ := tended.logged (passed.fault.symm.trans same)
    exact ⟨log.trans log', flag.trans flag'⟩
  · rw [passed.watch]
    exact (watch k).1 out
  · rw [passed.watch]
    exact (watch k).2 fitted
  · obtain ⟨gone, coded⟩ := short k fitted exceeds armed sound
    refine ⟨passed.gone gone, fun far => ?_⟩
    obtain ⟨code, logged⟩ := coded far
    refine ⟨by rw [passed.fault]; exact code, fun still others limit => ?_⟩
    rw [(low limit).2.1]
    exact logged still others
  · obtain ⟨atEnd, counted, faulted⟩ := fold shaped g driving n travel
    exact ⟨atEnd, counted, faulted⟩

/-! ## Axes (R91 to R103, R111) -/

theorem pumpWatch_quiet {s : State} (forced : shapedMode s.mode.mode = false) (n : Nat) :
    (pumpWatch n s).mode = s.mode := by
  have same : pumpOvercurrent s = s := if_neg fun k => Bool.false_ne_true (forced.symm.trans k.2)
  unfold pumpWatch
  dsimp only
  rw [same]
  split
  · split <;> rfl
  · rfl

/-- R111: outside RUN and CLOSEDOWN a period leaves every output off. -/
theorem period_off {s : State} (works : working s = true) (h : Sound s) (quiet : Quiet s)
    (forced : shapedMode s.mode.mode = false) (c : PeriodCurrents) : OutputsOff (event (controlPeriod c) s) := by
  have kept := (does_event s (does_controlPeriod s c)).quiet quiet
  have mode : (controlPeriod c s).mode = s.mode := by
    have frame := (worked_watched c h).tended.frame
    have watched : (watchedPeriod c s).mode = s.mode := by rw [frame]
    rw [controlPeriod_eq works]
    show (pumpWatch c.pump (watchedPeriod c s)).mode = _
    rw [pumpWatch_quiet (by rw [watched]; exact forced), watched]
  refine (kept ?_).2
  rcases event_mode (controlPeriod c) s with e | e
  · rw [e, mode]
    exact forced
  · rw [e]
    rfl

/-- R106, R107: no output, no command. -/
theorem commandAt_zero (k : Coil) (s : State) : commandAt k 0 s = 0 := rfl

/-- Settles O40: each axis is set by its own step alone, and from there on its output stands while its grant is
live and is 0 from when it ends. -/
theorem controlPeriodDrivesAxes : Obligations.ControlPeriodDrivesAxes := by
  unfold Obligations.ControlPeriodDrivesAxes
  intro c s works grants slots quiet
  have h : Sound s := ⟨grants, slots⟩
  refine ⟨_, exec_controlPeriod c s, ?_⟩
  obtain ⟨passed, hysteresis, half, -, -⟩ := periodClosed h works c
  have off := period_off works h quiet (c := c)
  have idle (shaped : shapedMode s.mode.mode = true) {a : Axis} (none : drivingGrant a s = none) :=
    passed.atZero (atZero_watched c h shaped none)
  have set (shaped : shapedMode s.mode.mode = true) {a : Axis} {g : Grant} (driving : drivingGrant a s = some g) :=
    (axisSet_watched c h shaped driving).passed passed
  generalize event (controlPeriod c) s = t at *
  refine ⟨hysteresis, half, off, fun shaped a => ⟨fun none => (idle shaped none).output, fun g driving => ?_⟩,
    fun shaped => ⟨fun m => ?_, fun k => ⟨fun rests => ?_, fun g driving lives => ?_⟩⟩⟩
  · obtain ⟨-, axis, -⟩ := drivingGrant_some s driving
    obtain ⟨live, ended, rundown⟩ := set shaped driving
    rw [axis] at ended
    have dead : (∀ k ∈ t.grant.table, k.handle ≠ g.handle) ↔ livesOn g t = false := by
      rw [← Bool.not_eq_true, livesOn_iff]
      push Not
      rfl
    refine ⟨fun lives => ?_, fun gone => (ended (dead.mp gone)).output, fun easing zero =>
      dead.mpr (rundown easing zero)⟩
    have output := (live (livesOn_iff.mpr lives)).output
    rwa [axis] at output
  · cases driving : drivingGrant (axisOfMotor m) s with
    | none => exact ((idle shaped driving).duty m rfl).trans (idle shaped driving).output.symm
    | some g =>
      obtain ⟨-, axis, -⟩ := drivingGrant_some s driving
      obtain ⟨live, ended, -⟩ := set shaped driving
      rw [← axis]
      cases lives : livesOn g t with
      | true => exact ((live lives).duty m axis.symm).trans (live lives).output.symm
      | false => exact ((ended lives).duty m axis.symm).trans (ended lives).output.symm
  · cases driving : drivingGrant (axisOfCoil k) s with
    | none => exact (idle shaped driving).coil k rfl
    | some g =>
      obtain ⟨-, axis, -⟩ := drivingGrant_some s driving
      obtain ⟨live, ended, -⟩ := set shaped driving
      cases lives : livesOn g t with
      | true =>
        obtain ⟨output, coil, -⟩ := live lives
        rw [← axis, output] at rests
        rw [coil k axis.symm, rests, commandAt_zero, ite_self]
      | false => exact (ended lives).coil k axis.symm
  · obtain ⟨-, axis, -⟩ := drivingGrant_some s driving
    exact ((set shaped driving).live lives).coil k axis.symm

/-! ## Sequences (R123 to R126) -/

theorem endState_eq (n : Sense) : endState n = if n = .opening then PanelState.opened else .closed := by
  cases n <;> rfl

theorem travelLimitMs_eq (m : Motor) : travelLimitMs m = if m = .shut then 15000 else 8000 := by
  cases m <;> rfl

/-- R124: the obstruction time of a period that does not cut. -/
theorem obstructed_eq {o x limit : Nat} {p : PanelRecord}
    (short : p.obstruction + 10 < 200 ∨ obstructed o x limit p = 0) : obstructed o x limit p =
      if o ≠ 0 ∧ limit < x ∧ p.obstruction + 10 < 200 then p.obstruction + 10 else 0 := by
  unfold obstructed at *
  by_cases quiet : o = 0 ∨ x ≤ limit
  · rw [if_pos quiet, if_neg fun k => quiet.elim k.1 (Nat.not_le.mpr k.2.1)]
  · rw [if_neg quiet] at short ⊢
    rw [if_pos ⟨fun e => quiet (.inl e), Nat.not_le.mp fun e => quiet (.inr e), by omega⟩]

/-- Settles O45: the commands cut by `event_obstructs`; in a period a driving sequence grant is handed over once,
with the output of its axis, after the axes and beside the other motor axes. -/
theorem obstructionCutsSequenceGrant : Obligations.ObstructionCutsSequenceGrant := by
  unfold Obligations.ObstructionCutsSequenceGrant
  refine ⟨fun s c m settled grants slots meets => ?_, fun c s works grants slots shaped => ?_⟩
  · have h : Sound s := ⟨grants, slots⟩
    obtain ⟨f, u, run, effect, obstructs⟩ := obstruction_effect settled meets
    refine ⟨fun g hg own axis holds => ⟨_, run, event_obstructs settled h effect obstructs hg own axis holds⟩,
      fun idle => ⟨_, run, ?_⟩⟩
    have held := obstructs.held
    rw [event_obstructs_idle effect obstructs idle, held]
    exact ⟨rfl, rfl, rfl, rfl⟩
  · have h : Sound s := ⟨grants, slots⟩
    refine ⟨_, exec_controlPeriod c s, fun m g driving own => ?_⟩
    have tended := (worked_watched c h).tended
    obtain ⟨passed, -⟩ := periodClosed h works c
    obtain ⟨-, axis, holds, -⟩ := drivingGrant_some s driving
    have ended := (axisSet_watched c h shaped driving).passed passed
    have handed := fun runs => (handedOver_watched c h shaped driving own runs).passed tended passed
    generalize event (controlPeriod c) s = t at *
    dsimp only
    rw [← endState_eq, ← travelLimitMs_eq]
    simp only [decide_eq_true_eq, decide_eq_false_iff_not]
    by_cases runs : g.state = .easing ∧ nextOutput g s = 0
    · have gone := ended.rundown runs.1 runs.2
      refine ⟨fun lives => (nomatch lives.symm.trans gone), fun moves => absurd runs.2 moves, fun stays => ?_,
        fun _ _ _ moves => absurd runs.2 moves, fun _ _ _ _ awake => absurd runs.1 awake⟩
      exact absurd runs ((of_decide_eq_true stays).elim (fun e k => e k.1) fun e k => e k.2)
    · obtain ⟨live, obstructs, edge, travel, atEnd⟩ := handed runs
      refine ⟨fun lives => ?_, fun moves excess => obstructs fun k => ?_, fun _ => edge,
        fun n e away moves low misses => travel n e away moves (Nat.not_lt.mp low) misses,
        fun there still unreported latch awake => atEnd ⟨unreported, there, still⟩ ⟨latch, ?_⟩⟩
      · obtain ⟨seq, state, time, short, counted, reported⟩ := live lives
        refine ⟨seq, state, time.trans (obstructed_eq short), fun n e => ⟨fun there => ?_, fun away still => ?_,
          fun away moves near => ?_⟩, reported⟩
        · exact (counted n e (.inl there)).trans (congrArg some (if_pos there))
        · exact (counted n e (.inr (.inl still))).trans
            (congrArg some ((if_neg away).trans (if_pos still)))
        · exact (counted n e (.inr (.inr near))).trans (congrArg some ((if_neg away).trans (if_neg moves)))
      · exact k.elim moves (Nat.not_le.mpr excess)
      · cases e : g.state with
        | driving => exact .inl rfl
        | paused => exact .inr rfl
        | easing => exact absurd e awake
        | waiting => exact absurd e holds

end Sys2Proof.Machine.Steps
end

section
/-! The pump overcurrent: its command, and its report by a control period (R105, R174). -/

namespace Sys2Proof.Machine.Steps

open Motion Holds

/-! ## Every grant cut (R29) -/

/-- R29, R105: every grant cut, every output off and the over-time cleared. -/
def PumpCut (s t : State) : Prop := AllCut s t ∧ t.drive.pumpOver = 0

theorem PumpCut.of_handle {s u t : State} (h : PumpCut u t) (handle : u.grant.lastHandle = s.grant.lastHandle) :
    PumpCut s t := ⟨⟨h.1.table, h.1.handle.trans handle, h.1.slots, h.1.outputs⟩, h.2⟩

/-- The drive items taken, or nothing changed, where every grant is cut. -/
theorem PumpCut.of_blocks {s u t : State} (h : PumpCut s u) (grant : t.grant = u.grant) (panel : t.panel = u.panel)
    (drive : t.drive = { u.drive with
      hysteresisInForce := t.drive.hysteresisInForce, halfPeriodInForce := t.drive.halfPeriodInForce }) :
    PumpCut s t := by
  obtain ⟨⟨table, handle, slots, off⟩, pump⟩ := h
  refine ⟨⟨by rw [grant]; exact table, by rw [grant]; exact handle, by rw [grant]; exact slots, ?_⟩, by
    rw [drive]; exact pump⟩
  exact ⟨by rw [drive]; exact off.output, by rw [drive]; exact off.coil, by rw [drive]; exact off.duty,
    by rw [drive]; exact off.pump, by rw [drive]; exact off.d1, by rw [drive]; exact off.d2,
    by rw [panel]; exact off.near, by rw [panel]; exact off.off⟩

theorem pumpCut_enterOff {s u : State} (h : PumpCut s u) (sound : Sound u) : PumpCut s (enterOff u) :=
  PumpCut.of_handle ⟨(offs_enterOff sound).cut, by rw [(enterOff_drive h.1.table).1]⟩ h.1.handle

theorem pumpCut_cuts {m : Mode} (cuts : cutsAll m = true) (served : linkMode m = true) {s : State}
    (was : linkMode s.mode.mode = true) (h : Sound s) (time : Option Nat) (pump : s.drive.pumpOver = 0) :
    PumpCut s (changeMode m time s) := by
  have cut := (modeCut_cutMode cuts time h).cut
  have noticed := (noticeMode_eq s.mode.mode m (cutMode m time s)).1
  have kept := (passed_cuts cuts served was h time).2.2
  rw [← changeMode_served cuts served was h time] at noticed
  generalize changeMode m time s = t at *
  exact ⟨allCut_of_blocks cut rfl (by rw [noticed]; rfl) (by rw [noticed]; rfl) (by rw [noticed]; rfl),
    kept.trans pump⟩

theorem pumpCut_enterClosedown {s u : State} (h : PumpCut s u) (was : linkMode u.mode.mode = true) (sound : Sound u) :
    PumpCut s (enterClosedown u) := by
  obtain ⟨passed, grant, drive⟩ := passed_closedown h.1.table was (some (closedownMs u))
  unfold enterClosedown
  dsimp only
  generalize changeMode .closedown (some (closedownMs u)) u = v at *
  have cut : PumpCut s v := by
    obtain ⟨⟨table, handle, slots, off⟩, pump⟩ := h
    refine ⟨⟨by rw [grant]; exact table, by rw [grant]; exact handle, by rw [grant]; exact slots, ?_⟩, by
      rw [drive]; exact pump⟩
    rcases passed.stands with ⟨-, panel, -⟩ | ⟨-, off'⟩
    · exact outputsOff_of_blocks off drive panel
    · exact off'
  split
  · exact pumpCut_enterOff cut (sound.of_grant grant)
  · exact cut

/-- R29, R134, R175: the close of an event that has cut every grant. -/
theorem pumpCut_event {f : State → State} {s : State} (h : PumpCut s (f s)) (sound : Sound (f s)) :
    PumpCut s (event f s) := by
  rw [event_eq]
  have frame := orderGends_frame s (f s)
  generalize orderGends s (f s) = u at *
  have grant : u.grant = (f s).grant := by rw [frame]; rfl
  have cut : PumpCut s u := h.of_blocks grant (by rw [frame]; rfl) (by rw [frame]; rfl)
  cases done : closedownDone s u with
  | true =>
    rw [conclude_off done (sound.of_grant grant)]
    exact pumpCut_enterOff cut (sound.of_grant grant)
  | false =>
    have closes := conclude_frame (s := s) (u := u) done
    generalize conclude s u = t at *
    exact cut.of_blocks (by rw [closes]; rfl) (by rw [closes]; rfl) (by rw [closes]; rfl)

/-- R174: the mode, with its timer and its state, that a pump overcurrent enters. -/
theorem pumpOvercurrent_enters {s : State} (closed : s.drive.pumpClosed = true)
    (shaped : shapedMode s.mode.mode = true) (stays : s.mode.history.length < 2 ∨ s.mode.ign = true) :
    ∃ (m : Mode) (time : Option Nat) (u : State), pumpOvercurrent s = changeMode m time u ∧
      u = (pumpReported s).setMode u.mode ∧ u.mode.mode = s.mode.mode ∧ cutsAll m = true ∧ linkMode m = true ∧
      (s.mode.history.length < 2 → { u.mode with mode := m, timer := time } = { s.mode with
        mode := .retry, timer := some 2000, history := s.mode.history ++ [0] }) ∧
      (2 ≤ s.mode.history.length → { u.mode with mode := m, timer := time } = { s.mode with
        mode := .barred, timer := none }) := by
  have eq := pumpOvercurrent_eq closed shaped
  have frame := (pumpReported_frame s).1
  have mode : (pumpReported s).mode = s.mode := by rw [frame]; rfl
  by_cases few : s.mode.history.length < 2
  · rw [if_pos few] at eq
    exact ⟨.retry, some 2000, pumpRetried s, eq, rfl, rfl, rfl, rfl, fun _ => rfl,
      fun many => absurd few (Nat.not_lt.mpr many)⟩
  · have on := stays.resolve_left few
    have barred := changeMode_mode .barred none (pumpReported s)
    rw [if_neg few] at eq
    refine ⟨.barred, none, pumpReported s, eq.trans ?_, rfl, by rw [mode], rfl, rfl, fun k => absurd k few,
      fun _ => by rw [mode]⟩
    unfold enterBarred
    exact if_pos (by rw [barred, mode]; exact on)

/-- R29, R105, R174: a pump overcurrent cuts every grant, whatever follows BARRED. -/
theorem pumpCut_overcurrent {s : State} (h : Sound s) (closed : s.drive.pumpClosed = true)
    (shaped : shapedMode s.mode.mode = true) : PumpCut s (pumpOvercurrent s) := by
  have frame := (pumpReported_frame s).1
  have grant : (pumpReported s).grant = s.grant := by rw [frame]; rfl
  have mode : (pumpReported s).mode = s.mode := by rw [frame]; rfl
  have pump : (pumpReported s).drive.pumpOver = 0 := by rw [frame]; rfl
  have serves := linkMode_of_shaped shaped
  have sound := h.of_grant grant
  rw [pumpOvercurrent_eq closed shaped]
  split
  · have sound' : Sound (pumpRetried s) := sound.of_grant rfl
    have cut := pumpCut_cuts (m := .retry) (s := pumpRetried s) rfl rfl serves sound' (some 2000) pump
    have handle : (pumpRetried s).grant.lastHandle = s.grant.lastHandle := congrArg GrantEngine.lastHandle grant
    generalize changeMode .retry (some 2000) (pumpRetried s) = u at *
    exact cut.of_handle handle
  · have cut := PumpCut.of_handle (s := s) (pumpCut_cuts (m := .barred) rfl rfl (by rw [mode]; exact serves) sound
      none pump) (by rw [grant])
    have barred := changeMode_mode .barred none (pumpReported s)
    have sound' := (does_changeMode (pumpReported s) .barred none nofun).sound sound
    unfold enterBarred
    dsimp only
    generalize changeMode .barred none (pumpReported s) = u at *
    split
    · exact cut
    · exact pumpCut_enterClosedown cut (by rw [barred]; rfl) sound'

/-- R174: the mode after a pump overcurrent's event, the drive items taken perhaps within it. -/
theorem event_pumpMode {f : State → State} {s v : State} (closed : v.drive.pumpClosed = true)
    (shaped : shapedMode v.mode.mode = true) (stays : v.mode.history.length < 2 ∨ v.mode.ign = true)
    (effect : f s = takeDriveItems (pumpOvercurrent v)) :
    (v.mode.history.length < 2 → (event f s).mode = { v.mode with
      mode := .retry, timer := some 2000, history := v.mode.history ++ [0] }) ∧
    (2 ≤ v.mode.history.length → (event f s).mode = { v.mode with mode := .barred, timer := none }) := by
  obtain ⟨m, time, u, enters, -, -, cuts, -, few, many⟩ := pumpOvercurrent_enters closed shaped stays
  have mode : (f s).mode = { u.mode with mode := m, timer := time } := by
    rw [effect, enters]
    exact changeMode_mode m time u
  obtain ⟨b, closes, -⟩ := event_open (f := f) (s := s) rfl (by
    rw [mode]
    rintro rfl
    cases cuts)
  generalize (orderGends s (f s)).port = p at closes
  generalize event f s = t at *
  have same : t.mode = (f s).mode := by
    generalize f s = w at *
    rw [closes]
    rfl
  rw [same, mode]
  exact ⟨few, many⟩

/-- Settles O42: the watch counts in the state that the period's axes, panels and coils leave; a report cuts every
grant and enters RETRY or BARRED as `event_cuts` says. -/
theorem pumpOvercurrentRetriesOrBars : Obligations.PumpOvercurrentRetriesOrBars := by
  unfold Obligations.PumpOvercurrentRetriesOrBars
  refine ⟨fun c s works grants slots _ => ?_, fun s grants slots closed shaped entries serves => ?_⟩
  · have h : Sound s := ⟨grants, slots⟩
    obtain ⟨-, -, -, low, counts⟩ := periodClosed h works c
    refine ⟨_, exec_controlPeriod c s, fun limit => (low limit).1, counts,
      fun high long run closed drives small short => ?_⟩
    have shaped : shapedMode s.mode.mode = true := by rw [run]; rfl
    have tended := (worked_watched c h).tended
    have pump := (watched_pump c h shaped drives short small).trans closed
    have mode : (watchedPeriod c s).mode = s.mode := by rw [tended.frame]
    have reports := pumpWatch_reports (s := watchedPeriod c s) (n := c.pump) (by rw [tended.config]; exact high)
      (by rw [watched_pumpOver c h]; exact long) pump
    have effect := controlPeriod_eq works c
    rw [reports] at effect
    have cuts := pumpCut_overcurrent tended.sound pump (by rw [mode]; exact shaped)
    have sound := (does_controlPeriod s c).sound h
    have modes := event_pumpMode (f := controlPeriod c) (s := s) pump (by rw [mode]; exact shaped) (effect := effect)
    have cut : PumpCut s (controlPeriod c s) := by
      have cut := cuts.of_handle tended.handle
      rw [effect]
      generalize pumpOvercurrent (watchedPeriod c s) = w at *
      exact cut.of_blocks (t := takeDriveItems w) rfl rfl rfl
    rw [mode] at modes
    obtain ⟨all, over'⟩ := pumpCut_event cut sound
    exact ⟨all, over', fun few => (modes (.inl few)).1 few, fun many on => (modes (.inr on)).2 many⟩
  · have h : Sound s := ⟨grants, slots⟩
    have stays : s.mode.history.length < 2 ∨ s.mode.ign = true := by
      rcases serves with on | closedown
      · exact .inr on
      · exact .inl (entries.resolve_left fun run => nomatch run.symm.trans closedown)
    obtain ⟨m, time, u, enters, placed, was, cuts, served, few, many⟩ := pumpOvercurrent_enters closed shaped stays
    obtain ⟨frame, flags, mask⟩ := pumpReported_frame s
    have over' := (pumpCut_event (f := pumpOvercurrent) (pumpCut_overcurrent h closed shaped)
      ((does_pumpOvercurrent s).sound h)).2
    have cut := event_cuts (f := pumpOvercurrent) (u := u) h cuts served
      (by rw [was]; exact linkMode_of_shaped shaped) (by rw [placed, frame]; rfl) (by rw [placed, frame]; rfl) enters
    have change : u.mode.mode ≠ m := fun e => Bool.false_ne_true ((cutsAll_spec cuts).1.symm.trans (by
      rw [← e, was]
      exact shaped))
    have notice := cut.notice change
    refine ⟨event pumpOvercurrent s, rfl, cut.cut, over', ?_, fun e => cut.mode.trans (few e),
      fun e => cut.mode.trans (many e), ?_, cut.told⟩
    · rw [cut.frame, placed, frame]
      rfl
    · have own : u.notice = (pumpReported s).notice := by rw [placed]; rfl
      rw [own, flags, mask] at notice
      exact notice

end Sys2Proof.Machine.Steps
end
